-- ==== Sys2Proof/Word.lean ====
section
/-!
DEFINITION. The number types the block's commands and registers are written in: bytes, register
words (32 bits, R14), packet and descriptor words (64 bits, R31), and the index ranges of R11.
-/
namespace Sys2Proof

/-- A byte. -/
abbrev Byte := BitVec 8
/-- A register word (R26). -/
abbrev Word := BitVec 32
/-- A packet or descriptor word (R31). -/
abbrev Quad := BitVec 64

/-- Index ranges of R11; each range is complete. -/
abbrev SeatNo := Fin 16
abbrev LinkNo := Fin 512
abbrev TileNo := Fin 4096
abbrev PortNo := Fin 8
abbrev OctetNo := Fin 64
abbrev LaneNo := Fin 512
abbrev FlowNo := Fin 64
abbrev ViewNo := Fin 8
abbrev ChanNo := Fin 32
abbrev RingNo := Fin 16384
abbrev ZoneNo := Fin 256
abbrev PosNo := Fin 64

end Sys2Proof
end

