-- ==== Sys2Proof/Syntax.lean ====
section
/-!
DEFINITION. The commands of the block: one constructor for each row of the table of operations and
events, with what comes from outside as its operands (an address and a value for a register access,
a received packet by its fields, a reading of a sensor). The rule that governs each row stands in
the docstring of its meaning.
-/
namespace Sys2Proof

/-- A reference clock (R72). -/
inductive RefClk | core | ser (g : Fin 8) | mem | pcie
  deriving DecidableEq, Repr

/-- A feed of bring-up: one feed of a Wickline link, or an Ethernet port (R361, R371). -/
inductive FeedId | wl (link : LinkNo) (sec : Bool) | eth (port : PortNo)
  deriving DecidableEq, Repr

/-- One doubleword of a memory request: its byte enables and, for a write, its value. -/
structure DWord where
  be : BitVec 4
  value : Word
  deriving DecidableEq, Repr

/-- Message types of IEEE 1588 that R402 names. -/
inductive PtpKind | sync | followUp | delayReq | delayResp | announce | other
  deriving DecidableEq, Repr

/-- The transport of a PTP message (R403): UDP over IPv4, UDP over IPv6, Ethertype 0x88F7. -/
inductive PtpVia | udp4 | udp6 | ethernet
  deriving DecidableEq, Repr

/-- A PTP message by its fields. Times are in 2^-16 ns, `corr` is correctionField. -/
structure PtpMsg where
  via : PtpVia
  kind : PtpKind
  domain : BitVec 8
  srcId : BitVec 64
  srcPort : BitVec 16
  seq : BitVec 16
  corr : Int
  stamp : Int
  twoStep : Bool
  /-- Delay_Resp: its requestingPortIdentity is this engine's. -/
  forUs : Bool
  deriving DecidableEq, Repr

/-- An Announce message: the data set that selection compares, the master's unicast address (IP, or MAC over
Ethernet), and logMessageInterval (R403, R404). -/
structure Announce where
  via : PtpVia
  addr : BitVec 128
  logInterval : Int
  domain : BitVec 8
  srcId : BitVec 64
  srcPort : BitVec 16
  gmId : BitVec 64
  prio1 : BitVec 8
  clockClass : BitVec 8
  accuracy : BitVec 8
  variance : BitVec 16
  prio2 : BitVec 8
  steps : BitVec 16
  utcOfs : BitVec 16
  utcValid : Bool
  li61 : Bool
  li59 : Bool
  deriving DecidableEq, Repr

/-- The IP header of a received packet, as far as R142 judges it: IPv4 options, an IPv4 fragment, the IPv4 header
checksum right, an IPv6 extension header other than Hop-by-Hop. -/
structure IpRx where
  v6 : Bool
  src : BitVec 128
  dst : BitVec 128
  options : Bool
  fragment : Bool
  sumOk : Bool
  extension : Bool
  deriving DecidableEq, Repr

/-- A UDP checksum: zero, right or wrong (R142). -/
inductive UdpSum | zero | right | wrong
  deriving DecidableEq, Repr

/-- The UDP header of a received datagram. -/
structure UdpRx where
  srcPort : BitVec 16
  dstPort : BitVec 16
  sum : UdpSum
  deriving DecidableEq, Repr

/-- A PTP message as received. With it goes, for each port it could leave by, its residence in free-counter ticks;
none when it cannot leave within 10 us (R410). -/
structure PtpRx where
  msg : PtpMsg
  residence : List (Option Nat)
  deriving DecidableEq, Repr

/-- What an IP packet carries (the rows of R142); `maxRespMs` of a query is its maximum response time, `current`
says it is IGMPv3 or MLDv2. -/
inductive IpBody
  | neighbourSol (target : BitVec 128)
  | neighbourAdv (target : BitVec 128)
  | query (current : Bool) (group : BitVec 128) (maxRespMs : Nat)
  | ptp (h : UdpRx) (p : PtpRx)
  | udp (h : UdpRx) (payload : List Byte)
  | other
  deriving DecidableEq, Repr

/-- What an Ethernet frame carries: ARP, a PTP message by Ethertype 0x88F7, an IP packet, or something else. -/
inductive EthBody
  | arp (sha : BitVec 48) (spa tpa : BitVec 32) (request : Bool)
  | ptp (p : PtpRx)
  | ip (h : IpRx) (body : IpBody)
  | other
  deriving DecidableEq, Repr

/-- A received Ethernet frame. -/
structure EthFrame where
  dst : BitVec 48
  src : BitVec 48
  vlan : Option (BitVec 12)
  len : Nat
  fcsOk : Bool
  pause : Bool
  body : EthBody
  deriving DecidableEq, Repr

/-- A lane's trim record, the nine words LN_TXFFE to LN_META of R391. -/
structure LaneTrim where
  words : List Word
  deriving DecidableEq, Repr

/-- A channel's trim record, MC_TRIM_B0, MC_TRIM_B1 and MC_META (R460). -/
structure ChanTrim where
  b0 : Word
  b1 : Word
  tag : Word
  deriving DecidableEq, Repr

/-- A trim field of a lane (R358) with its target code. -/
structure TrimStep where
  word : Fin 7
  lo : Fin 32
  width : Fin 9
  code : Nat
  deriving DecidableEq, Repr

/-- A trim field of one byte lane of a channel (R460) with its target code. -/
structure MemStep where
  byteLane : Fin 2
  lo : Fin 32
  width : Fin 9
  code : Nat
  deriving DecidableEq, Repr

/-- An entry of a FAULT record (R479). -/
structure FaultEntry where
  kind : BitVec 3
  lamp : BitVec 2
  pixel : BitVec 16
  deriving DecidableEq, Repr

/-- An entry of a DIAG result record (R500). -/
structure DiagEntry where
  result : BitVec 2
  lamp : BitVec 2
  pixel : BitVec 16
  deriving DecidableEq, Repr

/-- The ALIGN blocks of one codeword count, by receive lane: lane index, W, and the arrival in ns (R301, R302). -/
structure AlignRx where
  index : Fin 4
  width : Nat
  at' : Nat
  deriving DecidableEq, Repr

/-- What arrives on a feed's receive lanes: a codeword of a lane as its 272 symbols (R299), or one block of 32 bytes
as it stands after decoding and descrambling, with its header bit (R302). -/
inductive LineIn
  | codeword (lane : Fin 4) (symbols : List (BitVec 10))
  | block (start : Bool) (bytes : List Byte)
  deriving DecidableEq, Repr

/-- What a drive returns on an NVMe completion: success, what Identify reported (R543), and the memory requests that it
made to its root port since the last one, as address and length (R544). -/
structure NvmeReply where
  ok : Bool
  blocks : Nat
  lbaBytes : Nat
  usable : Bool
  requests : List (Nat × Nat)
  deriving DecidableEq, Repr

/-- A cell of the boundary register (R62): what it belongs to, its ball's AC coupling, and the level it captures. An
output-enable cell stands directly before the data cell of its ball. -/
inductive CellKind | input | output | enable
  deriving DecidableEq, Repr

/-- A cell with its ball's level. -/
structure TestCell where
  kind : CellKind
  ac : Bool
  level : Bool
  deriving DecidableEq, Repr

/-- The commands, one constructor per row of the table, in the table's order. -/
inductive Instr
  | railValid (rail : Fin 9)
  | railFail (rail : Fin 8)
  | vddEmberFail
  | porNLow (ns : Nat)
  | powerUpStart
  | slotChoice (flashAnswers sfdpOk : Bool)
  | applyBootEntries
  | gddr6TrainingDone (us : Word) (fail : BitVec 32) (trims : List ChanTrim)
  | storeLoadDone (driveOk : Bool)
  | readyRise
  | restart (seat : SeatNo)
  | thermalResetRelease
  | refFaultEnter (r : RefClk)
  | refFaultLeave (r : RefClk)
  | xtalStop
  | lifeHourTick (mean : Int)
  | emberTick
  | registerWrite (seat : SeatNo) (addr : BitVec 24) (be : BitVec 4) (value : Word)
  | pairReadLo (seat : SeatNo) (addr : BitVec 24)
  | pairWriteHi (seat : SeatNo) (addr : BitVec 24) (value : Word)
  | timeNowRead (seat : SeatNo)
  | satCntRead (seat : SeatNo)
  | heldMaxRead (seat : SeatNo) (ch : ChanNo)
  | bar0Request (write : Bool) (addr : BitVec 24) (dws : List DWord)
  | bar2Access (write : Bool) (addr : BitVec 36) (bytes : List Byte) (len : Nat)
  | controlDatagram (port : PortNo) (v6 : Bool) (srcIp : BitVec 128) (srcUdp : BitVec 16)
      (srcMac : BitVec 48) (payload : List Byte)
  | ringAllocate (seat : SeatNo)
  | ringConfigure (seat : SeatNo) (ring : RingNo)
  | ringRelease (seat : SeatNo) (ring : RingNo)
  | ringResetIndices (seat : SeatNo) (ring : RingNo)
  | ringIndexWrite (seat : SeatNo) (ring : RingNo) (cons : Bool) (value : Word)
  | copy (ring : RingNo)
  | fill (ring : RingNo)
  | nop (ring : RingNo)
  | commandComplete (ring : RingNo) (transferOk : Bool)
  | tileMsgSend (tile : TileNo)
  | upstreamMsgRx (link : LinkNo) (sec : Bool) (crcOk : Bool) (tile : TileNo) (hdrLo : Word)
      (payload : List Quad)
  | ethFrameRx (port : PortNo) (frame : EthFrame)
  | frameComplete (flow : FlowNo)
  | pathLost (flow : FlowNo) (pathB : Bool)
  | currentStateReport (port : PortNo)
  | stateChangeRepeat (port : PortNo)
  | neighbourRetry (port : PortNo) (ip : BitVec 128)
  | neighbourFailure (port : PortNo) (ip : BitVec 128)
  | neighbourEntryExpire (port : PortNo) (ip : BitVec 128)
  | ethLinkUp (port : PortNo) (trims : List LaneTrim)
  | ethLinkDown (port : PortNo)
  | ethClear (seat : SeatNo) (port : PortNo)
  | flowClear (seat : SeatNo) (flow : FlowNo)
  | ingPush (seat : SeatNo) (flow : FlowNo)
  | pushComplete (flow : FlowNo)
  | commitGo (seat : SeatNo) (page : BitVec 12)
  | commitCancel (seat : SeatNo) (group : Byte)
  | commitWindow
  | cycleEdgeSchedule
  | composeStart
  | playoutCopyDone (track : Fin 8)
  | powerCapUpdate
  | writebackComplete (view : ViewNo)
  | previewPacket (view : ViewNo)
  | lyrAlertClear (seat : SeatNo) (m : Fin 8) (value : Word)
  | responseLoad (seat : SeatNo) (countM1 first : Byte)
  | responseLoadDone
  | mapProbe (seat : SeatNo) (x y : BitVec 16)
  | linkReportRx (link : LinkNo) (sec : Bool) (crcOk : Bool) (pos : PosNo) (notGood dark : Byte)
      (delayA delayB : Word)
  | capabilityReportRx (link : LinkNo) (sec : Bool) (crcOk : Bool) (pos : PosNo)
      (conflict last : Bool) (w1 w2 w3 w4 : Quad)
  | positionVanish (link : LinkNo) (pos : PosNo)
  | creditRx (link : LinkNo) (sec : Bool) (crcOk : Bool) (tile : TileNo) (pool : BitVec 2) (limit : BitVec 24)
  | pdreqRx (feed : FeedId) (seq : Byte) (turnaround : Word)
  | detectDone (feed : FeedId) (offsets : List Word)
  | trainingFrameRx (lane : LaneNo) (control status : Word) (inverted : Bool) (metric : Option Int)
  | trainDone (feed : FeedId) (trims : List LaneTrim) (eyes : List Word) (codewords : Bool)
  | lockDone (feed : FeedId) (aligns : List AlignRx)
  | capDone (feed : FeedId) (widths : Byte)
  | stageTimeout (feed : FeedId)
  | feedLoss (feed : FeedId) (signal : Bool)
  | backoffEnd (feed : FeedId)
  | faultRetry (feed : FeedId)
  | activityWindow (octet : OctetNo) (blocks nonFill : Nat)
  | trimTrack (lane : LaneNo) (steps : List TrimStep) (eye : Word) (corrSymbols corrWords : Nat)
  | trimStepApply (lane : LaneNo)
  | trimStepDrop (lane : LaneNo)
  | trimRevert (lane : LaneNo) (before after : Nat)
  | regatherStart (lane : LaneNo)
  | regatherGatherEnd (lane : LaneNo) (targets : List TrimStep)
  | regather (seat : SeatNo) (lane : LaneNo)
  | retrain (seat : SeatNo) (lane : LaneNo)
  | testEnable (seat : SeatNo) (lane : LaneNo) (value : Word)
  | syncRx (port : PortNo) (m : PtpMsg) (stamp : Int)
  | followUpRx (port : PortNo) (m : PtpMsg)
  | delayRespRx (port : PortNo) (m : PtpMsg)
  | announceRx (port : PortNo) (a : Announce)
  | delayReqSend (stamp : Int)
  | masterLost (heard : Bool)
  | ppsTimeout
  | stepAuthorise (seat : SeatNo)
  | stepApplyValue (seat : SeatNo)
  | stepWithdraw (seat : SeatNo)
  | stepTakeEffect
  | syncSrcChange (seat : SeatNo) (value : Word)
  | toutArm (seat : SeatNo) (k : Fin 16) (value : Word)
  | toutDisarm (seat : SeatNo) (k : Fin 16)
  | toutEdge (k : Fin 16)
  | toutPulseEnd (k : Fin 16)
  | tcapEdge (k : Fin 4) (rising : Bool)
  | tcapPop (seat : SeatNo) (k : Fin 4)
  | ppsPulse
  | ppsPulseEnd
  | servoSample (classA : Bool) (slot : Fin 64) (value : Int)
  | servoApply (seat : SeatNo) (classA : Bool) (slot : Fin 64)
  | servoReset (seat : SeatNo) (classA : Bool) (slot : Fin 64)
  | servoRelease (seat : SeatNo) (classA : Bool) (slot : Fin 64)
  | followingErrorLost (classA : Bool) (slot : Fin 64)
  | refreshDue (ch : ChanNo) (bank : Fin 16) (busy : Bool)
  | forcedRefresh (ch : ChanNo) (bank : Fin 16)
  | edcMismatch (ch : ChanNo) (write : Bool) (again : Fin 4)
  | memUnderrun (group : Fin 7) (flow : Option FlowNo)
  | memTrack (ch : ChanNo) (steps : List MemStep) (windows : List (Nat × Nat))
  | memIdleWindow (ch : ChanNo)
  | memTrimDrop (ch : ChanNo)
  | memTrimRevert (ch : ChanNo) (before after : Nat)
  | memRegatherStart (ch : ChanNo)
  | memRetrainTimer
  | memRetrain (seat : SeatNo)
  | memRetrainDone (fail : BitVec 32) (trims : List ChanTrim)
  | rateChangeBegin
  | rateChangeEnd (us : Word) (fail : BitVec 32) (trims : List ChanTrim)
  | glimRound (railMv : List (BitVec 16)) (railOut : BitVec 9)
  | stateRecordRx (link : LinkNo) (sec : Bool) (crcOk : Bool) (tile : TileNo) (pos : PosNo)
      (pseq : Byte) (temps : List (BitVec 16)) (power : BitVec 20) (faultPend : BitVec 16)
  | faultRecordRx (link : LinkNo) (sec : Bool) (crcOk : Bool) (tile : TileNo) (pos : PosNo) (fseq : Byte)
      (entries : List FaultEntry)
  | dieSensorConversion (k : Fin 24) (error : Bool) (reading : BitVec 16)
  | shutdownReset
  | throttleStep
  | diagResultRx (link : LinkNo) (sec : Bool) (crcOk : Bool) (tile : TileNo) (dseq : Byte) (entries : List DiagEntry)
  | diagResultTimeout (tile : TileNo) (dseq : Byte)
  | rescan (seat : SeatNo)
  | lhScanEnd
  | unblank (seat : SeatNo) (zone : ZoneNo)
  | lampStateRead (seat : SeatNo) (pixel : BitVec 16)
  | lampStateWrite (seat : SeatNo) (pixel : BitVec 16) (state : BitVec 2)
  | evtpEnter (seat : SeatNo) (level : Fin 16)
  | evtpExit (seat : SeatNo)
  | notifyResend (seat : SeatNo)
  | evtpAlive (seat : SeatNo) (value : Word)
  | seatLost (seat : SeatNo) (linkDown : Bool)
  | playoutLoadDone (driveOk : Bool)
  | playoutStop (seat : SeatNo)
  | standbyRequest (seat : SeatNo)
  | sleepRequest (seat : SeatNo) (wakeNLow : Bool)
  | activeRequest (seat : SeatNo)
  | standbyEnter
  | sleepEnter
  | wakeNEvent (ns : Nat)
  | alarmExpire
  | standbyReturnDone (us : Word) (memOk : Bool) (fail : BitVec 32) (trims : List ChanTrim)
  | sleepWakeReady (memOk imageOk : Bool) (us : Word)
  | stage (seat : SeatNo)
  | apply (seat : SeatNo)
  | full (seat : SeatNo) (slot : Fin 4)
  | confirm (seat : SeatNo)
  | reject (seat : SeatNo)
  | flashStepDone
  | flashStepTimeout
  | driveLinkUp (d : Fin 2) (speed : Fin 6) (width : Fin 5)
  | nvmeCompletion (d : Fin 2) (r : NvmeReply)
  | nvmeCmdTimeout (d : Fin 2)
  | nvmeResetTimeout (d : Fin 2)
  | read (seat : SeatNo) (extent : Byte) (useDest : Bool)
  | write (seat : SeatNo) (extent : Byte)
  | delete (seat : SeatNo) (extent : Byte)
  | format (seat : SeatNo)
  | resync (seat : SeatNo)
  | storeOpDone
  | tileJobGo (seat : SeatNo) (extent : Byte)
  | tileJobStop (seat : SeatNo)
  | tileJobLoadDone (driveOk : Bool)
  | tileImageRecordRx (link : LinkNo) (sec : Bool) (crcOk : Bool) (pos : PosNo) (job : Byte) (status : BitVec 4)
  | tileJobTimeout
  | crcDataWrite (seat : SeatNo) (unit : Fin 4) (be : BitVec 4) (value : Word)
  | configRequest (write : Bool) (reg : BitVec 10) (be : BitVec 4) (value : Word)
  | bar4Access (write : Bool) (addr : BitVec 16) (value : Word)
  | pcieEpLinkUp (speed : Fin 6) (width : Fin 9)
  | driveLinkDown (d : Fin 2)
  | uncorrectableCodeword (feed : FeedId) (what : LineIn)
  | downstreamPacketReturn (link : LinkNo) (sec : Bool)
  | bridgeCycle
  | memRegatherGatherEnd (ch : ChanNo) (targets : List MemStep) (windows : List (Nat × Nat))
  | holdEnd (zone : Option ZoneNo)
  | panicEntry (port : Fin 30) (level : Nat)
  | panicExit (port : Fin 30) (level : Nat)
  | pllLockLoss (octet : OctetNo) (pllB : Bool)
  | checkerSyncGain (lane : LaneNo) (symbols : List (Fin 4))
  | checkerSyncLoss (lane : LaneNo) (symbols : List (Fin 4))
  | xtalRunStart
  | testPortClock (trstN tms tdi : Bool) (cells : List TestCell)
  deriving DecidableEq, Repr

end Sys2Proof
end

