-- ==== Sys2Proof/Config.lean ====
section
/-!
DEFINITION. What the spec leaves open and the machine nevertheless produces: each constant has no
body, so nothing can be proved of its value. Log entry 11 lists them.
-/
namespace Sys2Proof

/-- The byte that GDDR6 address `a` holds in a region whose contents the spec leaves open; `k` tells
one occasion from another (the last 8 MiB after a training, R457; the save image's bytes, R526). -/
opaque Config.freeByte : Nat → Nat → BitVec 8

/-- A word of PCIe configuration space that nothing has written (R79 gives only the retry status). -/
opaque Config.configWord : Nat → BitVec 32

/-- A power of `num / den` watts in whole watts, where the quotient is not whole: the spec states the
unit of P_EST, P_FIX and MEAS_W and no rounding (R247, R491). -/
opaque Config.watts : Nat → Nat → Nat

/-- The number of frames a tracker skips when its period is 0 (R434 divides by it), by its error. -/
opaque Config.skipByZero : Int → Int

/-- The target of a cadence tracker whose frame interval does not fit the 40 bits of R434, by that interval. -/
opaque Config.longTarget : Nat → BitVec 40

/-- Where in the 64 KiB at NVME_QBASE a queue of the NVMe host lies, by its ring: R544 gives only sizes. -/
opaque Config.queueOffset : Nat → Nat

/-- Symbol n of QPRBS13 and of SSPRQ, which IEEE 802.3 defines (R362, R384); a level is its value modulo 4. -/
opaque Config.qprbs13 : Nat → Nat
opaque Config.ssprq : Nat → Nat

/-- Where a lane's scrambler and the generator of a test lane start (R300, R384 give no start). -/
opaque Config.scrambler : Nat → Nat
opaque Config.testSeed : Nat → Nat

end Sys2Proof
end

