-- ==== Sys2Proof/Machine/Fields.lean ====
section
/-!
DEFINITION. The register tables of the spec, one constant for each field (its byte offset in its
page or table entry, the distance between repetitions, its lowest bit and its width), and for each
block the list of its fields with the access type (R18) and the reset value (R30). Written out from
the register tables of the chapters; the rules are named above each block. Fields that the model
does not store but computes on a read carry reset 0 here.
-/
namespace Sys2Proof.Machine

/-- The access types of R18. -/
inductive Acc | rw | ro | w1c | w1s | wo | rwc | rwb
  deriving DecidableEq, Repr

/-- A field: offset of its register, stride between repetitions of that register, lowest bit, width. -/
structure Fld where
  off : Nat
  stride : Nat
  lo : Nat
  w : Nat
  deriving DecidableEq, Repr

/-- A row of a register table: the field, how often its register repeats, its access type (R18), its
value after power-up before the boot record (R30), and whether it is held in the Ember domain (`ret`). -/
structure Row where
  f : Fld
  cnt : Nat
  acc : Acc
  rst : Nat
  ret : Bool
  deriving DecidableEq, Repr

/-! ### sys: R97 -/

def F.SYS_CTL_RESTART : Fld := ⟨0x8, 0x0, 0, 1⟩
def F.SYS_CTL_KEY : Fld := ⟨0x8, 0x0, 16, 16⟩
def F.SYS_STAT_READY : Fld := ⟨0xc, 0x0, 0, 1⟩
def F.SYS_STAT_ALERT : Fld := ⟨0xc, 0x0, 1, 1⟩
def F.SYS_STAT_REF_FAULT : Fld := ⟨0xc, 0x0, 2, 1⟩
def F.SYS_STAT_XTAL_RUN : Fld := ⟨0xc, 0x0, 3, 1⟩
def F.SYS_STAT_UNCONFIGURED : Fld := ⟨0xc, 0x0, 4, 1⟩
def F.SYS_STAT_MEM_OFFLINE : Fld := ⟨0xc, 0x0, 5, 1⟩
def F.SYS_STAT_STORE_LOAD_BUSY : Fld := ⟨0xc, 0x0, 6, 1⟩
def F.SYS_STAT_INIT_COMMIT_PEND : Fld := ⟨0xc, 0x0, 7, 1⟩
def F.SYS_STAT_BOOT_PHASE : Fld := ⟨0xc, 0x0, 8, 4⟩
def F.SYS_BOOT_STAT_SLOT : Fld := ⟨0x100, 0x0, 16, 4⟩
def F.SYS_BOOT_STAT_BOOT_ERR : Fld := ⟨0x100, 0x0, 24, 8⟩
def F.SYS_BOOT_TIME_BOOT_US : Fld := ⟨0x104, 0x0, 0, 32⟩
def F.SYS_BOOT_ENTRIES_APPLIED_CNT : Fld := ⟨0x108, 0x0, 0, 32⟩
def F.SYS_RESET_CAUSE_CAUSE : Fld := ⟨0x10c, 0x0, 0, 4⟩
def F.SYS_RESET_CAUSE_FAIL_RAIL : Fld := ⟨0x10c, 0x0, 16, 9⟩
def F.SYS_REFCLK_STAT_SERREF_FAULT : Fld := ⟨0x110, 0x0, 0, 8⟩
def F.SYS_REFCLK_STAT_MEM_FAULT : Fld := ⟨0x110, 0x0, 8, 1⟩
def F.SYS_REFCLK_STAT_PCIE_FAULT : Fld := ⟨0x110, 0x0, 9, 1⟩
def F.SYS_REFCLK_STAT_XTAL_RUN : Fld := ⟨0x110, 0x0, 10, 1⟩
def F.SYS_LIFE_H_HOURS_CNT : Fld := ⟨0x120, 0x4, 0, 32⟩
def F.SYS_LIFE_WH_HALF_HOURS_CNT : Fld := ⟨0x134, 0x0, 0, 32⟩

/-- Rows 0 onward of block sys (R97). -/
def rows_sys_0 : List Row := [
  ⟨F.SYS_CTL_RESTART, 1, .wo, 0x0, false⟩,
  ⟨F.SYS_CTL_KEY, 1, .wo, 0x0, false⟩,
  ⟨F.SYS_STAT_READY, 1, .ro, 0x0, false⟩,
  ⟨F.SYS_STAT_ALERT, 1, .ro, 0x0, false⟩,
  ⟨F.SYS_STAT_REF_FAULT, 1, .ro, 0x0, false⟩,
  ⟨F.SYS_STAT_XTAL_RUN, 1, .ro, 0x0, false⟩,
  ⟨F.SYS_STAT_UNCONFIGURED, 1, .ro, 0x0, false⟩,
  ⟨F.SYS_STAT_MEM_OFFLINE, 1, .ro, 0x0, false⟩,
  ⟨F.SYS_STAT_STORE_LOAD_BUSY, 1, .ro, 0x0, false⟩,
  ⟨F.SYS_STAT_INIT_COMMIT_PEND, 1, .ro, 0x0, false⟩,
  ⟨F.SYS_STAT_BOOT_PHASE, 1, .ro, 0x1, false⟩,
  ⟨F.SYS_BOOT_STAT_SLOT, 1, .ro, 0x0, false⟩,
  ⟨F.SYS_BOOT_STAT_BOOT_ERR, 1, .ro, 0x0, false⟩,
  ⟨F.SYS_BOOT_TIME_BOOT_US, 1, .ro, 0x0, false⟩,
  ⟨F.SYS_BOOT_ENTRIES_APPLIED_CNT, 1, .ro, 0x0, false⟩,
  ⟨F.SYS_RESET_CAUSE_CAUSE, 1, .ro, 0x0, true⟩,
  ⟨F.SYS_RESET_CAUSE_FAIL_RAIL, 1, .ro, 0x0, true⟩,
  ⟨F.SYS_REFCLK_STAT_SERREF_FAULT, 1, .ro, 0x0, false⟩,
  ⟨F.SYS_REFCLK_STAT_MEM_FAULT, 1, .ro, 0x0, false⟩,
  ⟨F.SYS_REFCLK_STAT_PCIE_FAULT, 1, .ro, 0x0, false⟩,
  ⟨F.SYS_REFCLK_STAT_XTAL_RUN, 1, .ro, 0x0, false⟩,
  ⟨F.SYS_LIFE_H_HOURS_CNT, 5, .ro, 0x0, true⟩,
  ⟨F.SYS_LIFE_WH_HALF_HOURS_CNT, 1, .ro, 0x0, true⟩]

/-- The register table of block sys (R97). -/
def rows_sys : List Row := rows_sys_0

/-! ### hdr: R102 -/

def F.HDR_ID_VERSION : Fld := ⟨0x0, 0x0, 0, 4⟩
def F.HDR_ID_INSTANCE : Fld := ⟨0x0, 0x0, 4, 12⟩
def F.HDR_ID_BLOCK_TYPE : Fld := ⟨0x0, 0x0, 16, 16⟩
def F.HDR_PEND_COND : Fld := ⟨0x10, 0x0, 0, 32⟩
def F.HDR_EN_ENABLE : Fld := ⟨0x14, 0x0, 0, 32⟩
def F.HDR_LVL_LEVEL : Fld := ⟨0x18, 0x0, 0, 4⟩
def F.HDR_LVL_ELIG : Fld := ⟨0x18, 0x0, 16, 16⟩
def F.HDR_OWNER_SEATS : Fld := ⟨0x1c, 0x0, 0, 16⟩
def F.HDR_COMMIT_GROUP : Fld := ⟨0x20, 0x0, 8, 8⟩
def F.HDR_COMMIT_CMT_LATE : Fld := ⟨0x20, 0x0, 29, 1⟩
def F.HDR_COMMIT_PEND : Fld := ⟨0x20, 0x0, 30, 1⟩
def F.HDR_COMMIT_GO : Fld := ⟨0x20, 0x0, 31, 1⟩
def F.HDR_ADM_OBJECT : Fld := ⟨0x24, 0x0, 0, 14⟩
def F.HDR_ADM_ORIGIN : Fld := ⟨0x24, 0x0, 14, 2⟩
def F.HDR_ADM_DONE : Fld := ⟨0x24, 0x0, 16, 1⟩
def F.HDR_ADM_OBJ_KIND : Fld := ⟨0x24, 0x0, 17, 3⟩
def F.HDR_ADM_SEAT : Fld := ⟨0x24, 0x0, 20, 4⟩
def F.HDR_ADM_REASON : Fld := ⟨0x24, 0x0, 24, 8⟩
def F.HDR_FOREIGN_FOREIGN_CNT : Fld := ⟨0x28, 0x0, 0, 16⟩
def F.HDR_FOREIGN_LAST_OFFSET : Fld := ⟨0x28, 0x0, 16, 12⟩
def F.HDR_FOREIGN_LAST_SEAT : Fld := ⟨0x28, 0x0, 28, 4⟩

/-- Rows 0 onward of block hdr (R102). -/
def rows_hdr_0 : List Row := [
  ⟨F.HDR_ID_VERSION, 1, .ro, 0x1, false⟩,
  ⟨F.HDR_ID_INSTANCE, 1, .ro, 0x0, false⟩,
  ⟨F.HDR_ID_BLOCK_TYPE, 1, .ro, 0x0, false⟩,
  ⟨F.HDR_PEND_COND, 1, .w1c, 0x0, false⟩,
  ⟨F.HDR_EN_ENABLE, 1, .rw, 0x0, false⟩,
  ⟨F.HDR_LVL_LEVEL, 1, .rw, 0x0, false⟩,
  ⟨F.HDR_LVL_ELIG, 1, .rw, 0x1, false⟩,
  ⟨F.HDR_OWNER_SEATS, 1, .rwb, 0x1, false⟩,
  ⟨F.HDR_COMMIT_GROUP, 1, .rwb, 0x0, false⟩,
  ⟨F.HDR_COMMIT_CMT_LATE, 1, .ro, 0x0, false⟩,
  ⟨F.HDR_COMMIT_PEND, 1, .ro, 0x0, false⟩,
  ⟨F.HDR_COMMIT_GO, 1, .w1s, 0x0, false⟩,
  ⟨F.HDR_ADM_OBJECT, 1, .ro, 0x0, false⟩,
  ⟨F.HDR_ADM_ORIGIN, 1, .ro, 0x0, false⟩,
  ⟨F.HDR_ADM_DONE, 1, .ro, 0x0, false⟩,
  ⟨F.HDR_ADM_OBJ_KIND, 1, .ro, 0x0, false⟩,
  ⟨F.HDR_ADM_SEAT, 1, .ro, 0x0, false⟩,
  ⟨F.HDR_ADM_REASON, 1, .ro, 0x0, false⟩,
  ⟨F.HDR_FOREIGN_FOREIGN_CNT, 1, .ro, 0x0, false⟩,
  ⟨F.HDR_FOREIGN_LAST_OFFSET, 1, .ro, 0x0, false⟩,
  ⟨F.HDR_FOREIGN_LAST_SEAT, 1, .ro, 0x0, false⟩]

/-- The register table of block hdr (R102). -/
def rows_hdr : List Row := rows_hdr_0

/-! ### seat: R117 -/

def F.SEAT_CFG_HOST_UDP : Fld := ⟨0x100, 0x0, 0, 16⟩
def F.SEAT_CFG_ETH_PORT : Fld := ⟨0x100, 0x0, 24, 3⟩
def F.SEAT_CFG_IPV6 : Fld := ⟨0x100, 0x0, 30, 1⟩
def F.SEAT_CFG_ENABLE : Fld := ⟨0x100, 0x0, 31, 1⟩
def F.SEAT_HOST_ADDR_ADDR : Fld := ⟨0x104, 0x4, 0, 32⟩
def F.SEAT_MEM_BASE_LO_BASE : Fld := ⟨0x114, 0x0, 0, 32⟩
def F.SEAT_MEM_BASE_HI_BASE : Fld := ⟨0x118, 0x0, 0, 32⟩
def F.SEAT_MEM_LIMIT_LO_LIMIT : Fld := ⟨0x11c, 0x0, 0, 32⟩
def F.SEAT_MEM_LIMIT_HI_LIMIT : Fld := ⟨0x120, 0x0, 0, 32⟩
def F.SEAT_EVT_RING_RING : Fld := ⟨0x124, 0x0, 0, 14⟩
def F.SEAT_EVT_RING_VALID : Fld := ⟨0x124, 0x0, 31, 1⟩
def F.SEAT_SEQ_SEQ : Fld := ⟨0x128, 0x0, 0, 32⟩
def F.SEAT_DG_DROP_DROP_CNT : Fld := ⟨0x12c, 0x0, 0, 28⟩
def F.SEAT_DG_DROP_LAST_ERR : Fld := ⟨0x12c, 0x0, 28, 4⟩
def F.SEAT_FOREIGN_OUT_OUT_CNT : Fld := ⟨0x130, 0x0, 0, 32⟩
def F.SEAT_FOREIGN_IN_IN_CNT : Fld := ⟨0x134, 0x0, 0, 32⟩
def F.SEAT_FOREIGN_LAST_ADDR : Fld := ⟨0x138, 0x0, 0, 24⟩
def F.SEAT_FOREIGN_LAST_WRITER : Fld := ⟨0x138, 0x0, 28, 4⟩

/-- Rows 0 onward of block seat (R117). -/
def rows_seat_0 : List Row := [
  ⟨F.SEAT_CFG_HOST_UDP, 1, .rwb, 0x0, false⟩,
  ⟨F.SEAT_CFG_ETH_PORT, 1, .rwb, 0x0, false⟩,
  ⟨F.SEAT_CFG_IPV6, 1, .rwb, 0x0, false⟩,
  ⟨F.SEAT_CFG_ENABLE, 1, .rwb, 0x0, false⟩,
  ⟨F.SEAT_HOST_ADDR_ADDR, 4, .rwb, 0x0, false⟩,
  ⟨F.SEAT_MEM_BASE_LO_BASE, 1, .rwb, 0x0, false⟩,
  ⟨F.SEAT_MEM_BASE_HI_BASE, 1, .rwb, 0x0, false⟩,
  ⟨F.SEAT_MEM_LIMIT_LO_LIMIT, 1, .rwb, 0x0, false⟩,
  ⟨F.SEAT_MEM_LIMIT_HI_LIMIT, 1, .rwb, 0x0, false⟩,
  ⟨F.SEAT_EVT_RING_RING, 1, .rw, 0x0, false⟩,
  ⟨F.SEAT_EVT_RING_VALID, 1, .rw, 0x0, false⟩,
  ⟨F.SEAT_SEQ_SEQ, 1, .ro, 0x0, false⟩,
  ⟨F.SEAT_DG_DROP_DROP_CNT, 1, .ro, 0x0, false⟩,
  ⟨F.SEAT_DG_DROP_LAST_ERR, 1, .ro, 0x0, false⟩,
  ⟨F.SEAT_FOREIGN_OUT_OUT_CNT, 1, .ro, 0x0, false⟩,
  ⟨F.SEAT_FOREIGN_IN_IN_CNT, 1, .ro, 0x0, false⟩,
  ⟨F.SEAT_FOREIGN_LAST_ADDR, 1, .ro, 0x0, false⟩,
  ⟨F.SEAT_FOREIGN_LAST_WRITER, 1, .ro, 0x0, false⟩]

/-- The register table of block seat (R117). -/
def rows_seat : List Row := rows_seat_0

/-! ### ring: R131 -/

def F.RING_OP_RING : Fld := ⟨0x100, 0x0, 0, 14⟩
def F.RING_OP_OP : Fld := ⟨0x100, 0x0, 28, 4⟩
def F.RING_ARG_BASE_LO_BASE : Fld := ⟨0x104, 0x0, 12, 20⟩
def F.RING_ARG_BASE_HI_BASE : Fld := ⟨0x108, 0x0, 0, 32⟩
def F.RING_ARG_CFG_SIZE_LOG2 : Fld := ⟨0x10c, 0x0, 3, 5⟩
def F.RING_ARG_CFG_SPACE : Fld := ⟨0x10c, 0x0, 10, 2⟩
def F.RING_ARG_CFG_ROLE : Fld := ⟨0x10c, 0x0, 28, 4⟩
def F.RING_OP_STAT_RING : Fld := ⟨0x110, 0x0, 0, 14⟩
def F.RING_OP_STAT_REASON : Fld := ⟨0x110, 0x0, 16, 8⟩
def F.RING_OP_STAT_BUSY : Fld := ⟨0x110, 0x0, 31, 1⟩
def F.RING_POOL_FREE_FREE : Fld := ⟨0x114, 0x0, 0, 14⟩

/-- Rows 0 onward of block ring (R131). -/
def rows_ring_0 : List Row := [
  ⟨F.RING_OP_RING, 1, .wo, 0x0, false⟩,
  ⟨F.RING_OP_OP, 1, .wo, 0x0, false⟩,
  ⟨F.RING_ARG_BASE_LO_BASE, 1, .rw, 0x0, false⟩,
  ⟨F.RING_ARG_BASE_HI_BASE, 1, .rw, 0x0, false⟩,
  ⟨F.RING_ARG_CFG_SIZE_LOG2, 1, .rw, 0x0, false⟩,
  ⟨F.RING_ARG_CFG_SPACE, 1, .rw, 0x0, false⟩,
  ⟨F.RING_ARG_CFG_ROLE, 1, .rw, 0x0, false⟩,
  ⟨F.RING_OP_STAT_RING, 1, .ro, 0x0, false⟩,
  ⟨F.RING_OP_STAT_REASON, 1, .ro, 0x0, false⟩,
  ⟨F.RING_OP_STAT_BUSY, 1, .ro, 0x0, false⟩,
  ⟨F.RING_POOL_FREE_FREE, 1, .ro, 0x1ff8, false⟩]

/-- The register table of block ring (R131). -/
def rows_ring : List Row := rows_ring_0

/-! ### eth: R178 -/

def F.ETH_CAP_MAX_MODE : Fld := ⟨0x4, 0x0, 0, 3⟩
def F.ETH_STAT_LANE_LOCK : Fld := ⟨0xc, 0x0, 0, 8⟩
def F.ETH_STAT_ADDR_CONFLICT : Fld := ⟨0xc, 0x0, 30, 1⟩
def F.ETH_STAT_LINK_UP : Fld := ⟨0xc, 0x0, 31, 1⟩
def F.ETH_CFG_IP6_PREFIX : Fld := ⟨0x100, 0x0, 0, 8⟩
def F.ETH_CFG_IP4_PREFIX : Fld := ⟨0x100, 0x0, 8, 8⟩
def F.ETH_CFG_VLAN_ID : Fld := ⟨0x100, 0x0, 16, 12⟩
def F.ETH_CFG_VLAN_EN : Fld := ⟨0x100, 0x0, 28, 1⟩
def F.ETH_CFG_MODE : Fld := ⟨0x100, 0x0, 29, 3⟩
def F.ETH_MAC_LO_MAC : Fld := ⟨0x104, 0x0, 0, 32⟩
def F.ETH_MAC_HI_MAC : Fld := ⟨0x108, 0x0, 0, 16⟩
def F.ETH_IP4_ADDR : Fld := ⟨0x10c, 0x0, 0, 32⟩
def F.ETH_GW4_ADDR : Fld := ⟨0x110, 0x0, 0, 32⟩
def F.ETH_IP6G_ADDR : Fld := ⟨0x114, 0x4, 0, 32⟩
def F.ETH_IP6LL_ADDR : Fld := ⟨0x124, 0x4, 0, 32⟩
def F.ETH_GW6_ADDR : Fld := ⟨0x134, 0x4, 0, 32⟩
def F.ETH_RX_CNT_RX_CNT : Fld := ⟨0x144, 0x0, 0, 32⟩
def F.ETH_FCS_CNT_FCS_CNT : Fld := ⟨0x148, 0x0, 0, 32⟩
def F.ETH_FEC_CORR_CNT_CORR_CNT : Fld := ⟨0x14c, 0x0, 0, 32⟩
def F.ETH_FEC_UNCORR_CNT_UNCORR_CNT : Fld := ⟨0x150, 0x0, 0, 32⟩
def F.ETH_UNMATCHED_CNT_UNMATCHED_CNT : Fld := ⟨0x154, 0x0, 0, 32⟩
def F.ETH_TX_CNT_TX_CNT : Fld := ⟨0x158, 0x0, 0, 32⟩
def F.ETH_NBR_FAIL_CNT_NBR_FAIL_CNT : Fld := ⟨0x15c, 0x0, 0, 32⟩
def F.ETH_CLR_CLEAR : Fld := ⟨0x160, 0x0, 0, 1⟩

/-- Rows 0 onward of block eth (R178). -/
def rows_eth_0 : List Row := [
  ⟨F.ETH_CAP_MAX_MODE, 1, .ro, 0x4, false⟩,
  ⟨F.ETH_STAT_LANE_LOCK, 1, .ro, 0x0, false⟩,
  ⟨F.ETH_STAT_ADDR_CONFLICT, 1, .ro, 0x0, false⟩,
  ⟨F.ETH_STAT_LINK_UP, 1, .ro, 0x0, false⟩,
  ⟨F.ETH_CFG_IP6_PREFIX, 1, .rwc, 0x0, false⟩,
  ⟨F.ETH_CFG_IP4_PREFIX, 1, .rwc, 0x0, false⟩,
  ⟨F.ETH_CFG_VLAN_ID, 1, .rwc, 0x0, false⟩,
  ⟨F.ETH_CFG_VLAN_EN, 1, .rwc, 0x0, false⟩,
  ⟨F.ETH_CFG_MODE, 1, .rwc, 0x0, false⟩,
  ⟨F.ETH_MAC_LO_MAC, 1, .rwc, 0x0, false⟩,
  ⟨F.ETH_MAC_HI_MAC, 1, .rwc, 0x0, false⟩,
  ⟨F.ETH_IP4_ADDR, 1, .rwc, 0x0, false⟩,
  ⟨F.ETH_GW4_ADDR, 1, .rwc, 0x0, false⟩,
  ⟨F.ETH_IP6G_ADDR, 4, .rwc, 0x0, false⟩,
  ⟨F.ETH_IP6LL_ADDR, 4, .rwc, 0x0, false⟩,
  ⟨F.ETH_GW6_ADDR, 4, .rwc, 0x0, false⟩,
  ⟨F.ETH_RX_CNT_RX_CNT, 1, .ro, 0x0, false⟩,
  ⟨F.ETH_FCS_CNT_FCS_CNT, 1, .ro, 0x0, false⟩,
  ⟨F.ETH_FEC_CORR_CNT_CORR_CNT, 1, .ro, 0x0, false⟩,
  ⟨F.ETH_FEC_UNCORR_CNT_UNCORR_CNT, 1, .ro, 0x0, false⟩,
  ⟨F.ETH_UNMATCHED_CNT_UNMATCHED_CNT, 1, .ro, 0x0, false⟩,
  ⟨F.ETH_TX_CNT_TX_CNT, 1, .ro, 0x0, false⟩,
  ⟨F.ETH_NBR_FAIL_CNT_NBR_FAIL_CNT, 1, .ro, 0x0, false⟩,
  ⟨F.ETH_CLR_CLEAR, 1, .wo, 0x0, false⟩]

/-- The register table of block eth (R178). -/
def rows_eth : List Row := rows_eth_0

/-! ### ing: R180 -/

def F.ING_CAP_FLOWS : Fld := ⟨0x4, 0x0, 0, 7⟩
def F.ING_STAT_ACTIVE : Fld := ⟨0xc, 0x0, 0, 7⟩
def F.ING_PUSH_FLOW : Fld := ⟨0x100, 0x0, 0, 6⟩
def F.ING_PUSH_ERR_ERR_CNT : Fld := ⟨0x104, 0x0, 0, 28⟩
def F.ING_PUSH_ERR_LAST_ERR : Fld := ⟨0x104, 0x0, 28, 4⟩
def F.ING_ADM_FLOW_FLOW : Fld := ⟨0x108, 0x0, 0, 6⟩
def F.ING_ADM_FLOW_VALID : Fld := ⟨0x108, 0x0, 31, 1⟩
def F.ING_ALERT_LO_FLOW : Fld := ⟨0x10c, 0x0, 0, 32⟩
def F.ING_ALERT_HI_FLOW : Fld := ⟨0x110, 0x0, 0, 32⟩
def F.ING_RSV_LO_BPS : Fld := ⟨0x114, 0x0, 0, 32⟩
def F.ING_RSV_HI_BPS : Fld := ⟨0x118, 0x0, 0, 32⟩

/-- Rows 0 onward of block ing (R180). -/
def rows_ing_0 : List Row := [
  ⟨F.ING_CAP_FLOWS, 1, .ro, 0x40, false⟩,
  ⟨F.ING_STAT_ACTIVE, 1, .ro, 0x0, false⟩,
  ⟨F.ING_PUSH_FLOW, 1, .wo, 0x0, false⟩,
  ⟨F.ING_PUSH_ERR_ERR_CNT, 1, .ro, 0x0, false⟩,
  ⟨F.ING_PUSH_ERR_LAST_ERR, 1, .ro, 0x0, false⟩,
  ⟨F.ING_ADM_FLOW_FLOW, 1, .ro, 0x0, false⟩,
  ⟨F.ING_ADM_FLOW_VALID, 1, .ro, 0x0, false⟩,
  ⟨F.ING_ALERT_LO_FLOW, 1, .w1c, 0x0, false⟩,
  ⟨F.ING_ALERT_HI_FLOW, 1, .w1c, 0x0, false⟩,
  ⟨F.ING_RSV_LO_BPS, 1, .ro, 0x0, false⟩,
  ⟨F.ING_RSV_HI_BPS, 1, .ro, 0x0, false⟩]

/-- The register table of block ing (R180). -/
def rows_ing : List Row := rows_ing_0

/-! ### flow: R182 -/

def F.FLOW_CFG_PT : Fld := ⟨0x0, 0x0, 0, 7⟩
def F.FLOW_CFG_STALL_CYCLES : Fld := ⟨0x0, 0x0, 16, 8⟩
def F.FLOW_CFG_IPV6 : Fld := ⟨0x0, 0x0, 28, 1⟩
def F.FLOW_CFG_DUAL : Fld := ⟨0x0, 0x0, 29, 1⟩
def F.FLOW_CFG_SOURCE : Fld := ⟨0x0, 0x0, 30, 1⟩
def F.FLOW_CFG_ENABLE : Fld := ⟨0x0, 0x0, 31, 1⟩
def F.FLOW_FMT_PUSH_FMT : Fld := ⟨0x4, 0x0, 0, 4⟩
def F.FLOW_FMT_PM : Fld := ⟨0x4, 0x0, 19, 1⟩
def F.FLOW_FMT_TCS : Fld := ⟨0x4, 0x0, 20, 2⟩
def F.FLOW_FMT_COLORIMETRY : Fld := ⟨0x4, 0x0, 22, 2⟩
def F.FLOW_FMT_RANGE : Fld := ⟨0x4, 0x0, 24, 2⟩
def F.FLOW_FMT_DEPTH : Fld := ⟨0x4, 0x0, 26, 2⟩
def F.FLOW_FMT_SAMPLING : Fld := ⟨0x4, 0x0, 28, 4⟩
def F.FLOW_SIZE_WIDTH : Fld := ⟨0x8, 0x0, 0, 16⟩
def F.FLOW_SIZE_HEIGHT : Fld := ⟨0x8, 0x0, 16, 16⟩
def F.FLOW_RATE_DEN : Fld := ⟨0xc, 0x0, 0, 12⟩
def F.FLOW_RATE_NUM : Fld := ⟨0xc, 0x0, 12, 20⟩
def F.FLOW_STORE_LO_STORE : Fld := ⟨0x10, 0x0, 12, 20⟩
def F.FLOW_STORE_HI_STORE : Fld := ⟨0x14, 0x0, 0, 32⟩
def F.FLOW_PITCH_PITCH : Fld := ⟨0x18, 0x0, 0, 18⟩
def F.FLOW_SCALE_SCALE : Fld := ⟨0x1c, 0x0, 0, 16⟩
def F.FLOW_TIMEOUT_PATH_TIMEOUT : Fld := ⟨0x20, 0x0, 0, 16⟩
def F.FLOW_RING_RING : Fld := ⟨0x24, 0x0, 0, 14⟩
def F.FLOW_RING_VALID : Fld := ⟨0x24, 0x0, 31, 1⟩
def F.PATH_CFG_UDP_DST : Fld := ⟨0x40, 0x30, 0, 16⟩
def F.PATH_CFG_PORT : Fld := ⟨0x40, 0x30, 24, 3⟩
def F.PATH_CFG_ENABLE : Fld := ⟨0x40, 0x30, 31, 1⟩
def F.PATH_DST0_ADDR : Fld := ⟨0x44, 0x30, 0, 32⟩
def F.PATH_DST1_ADDR : Fld := ⟨0x48, 0x30, 0, 32⟩
def F.PATH_DST2_ADDR : Fld := ⟨0x4c, 0x30, 0, 32⟩
def F.PATH_DST3_ADDR : Fld := ⟨0x50, 0x30, 0, 32⟩
def F.PATH_SRC0_ADDR : Fld := ⟨0x54, 0x30, 0, 32⟩
def F.PATH_SRC1_ADDR : Fld := ⟨0x58, 0x30, 0, 32⟩
def F.PATH_SRC2_ADDR : Fld := ⟨0x5c, 0x30, 0, 32⟩
def F.PATH_SRC3_ADDR : Fld := ⟨0x60, 0x30, 0, 32⟩
def F.FLOW_STAT_MERGE_RISK : Fld := ⟨0x100, 0x0, 21, 1⟩
def F.FLOW_STAT_ACTIVE : Fld := ⟨0x100, 0x0, 22, 1⟩
def F.FLOW_STAT_PATH_B_UP : Fld := ⟨0x100, 0x0, 23, 1⟩
def F.FLOW_STAT_PATH_A_UP : Fld := ⟨0x100, 0x0, 24, 1⟩
def F.FLOW_STAT_HAS_FRAME : Fld := ⟨0x100, 0x0, 25, 1⟩
def F.FLOW_STAT_READ_BUF : Fld := ⟨0x100, 0x0, 26, 2⟩
def F.FLOW_STAT_NEWEST_BUF : Fld := ⟨0x100, 0x0, 28, 2⟩
def F.FLOW_STAT_WRITE_BUF : Fld := ⟨0x100, 0x0, 30, 2⟩
def F.FLOW_BUF_BYTES_BYTES : Fld := ⟨0x104, 0x0, 0, 32⟩
def F.FLOW_LEAD_LEAD : Fld := ⟨0x108, 0x0, 0, 32⟩
def F.FLOW_LEAD_MIN_LEAD_MIN : Fld := ⟨0x10c, 0x0, 0, 32⟩
def F.FLOW_LEAD_MAX_LEAD_MAX : Fld := ⟨0x110, 0x0, 0, 32⟩
def F.FLOW_SEL_RTP_TS_TS : Fld := ⟨0x114, 0x0, 0, 32⟩
def F.FLOW_FRAME_PERIOD_FRAME_PERIOD_NS : Fld := ⟨0x118, 0x0, 0, 32⟩
def F.FLOW_SKEW_SKEW_NS : Fld := ⟨0x11c, 0x0, 0, 32⟩
def F.FLOW_GAP_GAP_NS : Fld := ⟨0x120, 0x0, 0, 32⟩
def F.FLOW_COMPLETE_CNT_COMPLETE_CNT : Fld := ⟨0x124, 0x0, 0, 32⟩
def F.FLOW_DAMAGED_CNT_DAMAGED_CNT : Fld := ⟨0x128, 0x0, 0, 32⟩
def F.FLOW_SKIPPED_CNT_SKIPPED_CNT : Fld := ⟨0x12c, 0x0, 0, 32⟩
def F.FLOW_REPEAT_CNT_REPEAT_CNT : Fld := ⟨0x130, 0x0, 0, 32⟩
def F.FLOW_DUP_CNT_DUP_CNT : Fld := ⟨0x134, 0x0, 0, 32⟩
def F.FLOW_LATE_CNT_LATE_CNT : Fld := ⟨0x138, 0x0, 0, 32⟩
def F.FLOW_MALFORMED_CNT_MALFORMED_CNT : Fld := ⟨0x13c, 0x0, 0, 32⟩
def F.FLOW_PATH_A_CNT_PKT_CNT : Fld := ⟨0x140, 0x0, 0, 32⟩
def F.FLOW_PATH_B_CNT_PKT_CNT : Fld := ⟨0x144, 0x0, 0, 32⟩
def F.FLOW_CLR_CLEAR : Fld := ⟨0x3fc, 0x0, 0, 1⟩

/-- Rows 0 onward of block flow (R182). -/
def rows_flow_0 : List Row := [
  ⟨F.FLOW_CFG_PT, 1, .rwc, 0x0, false⟩,
  ⟨F.FLOW_CFG_STALL_CYCLES, 1, .rwc, 0x0, false⟩,
  ⟨F.FLOW_CFG_IPV6, 1, .rwc, 0x0, false⟩,
  ⟨F.FLOW_CFG_DUAL, 1, .rwc, 0x0, false⟩,
  ⟨F.FLOW_CFG_SOURCE, 1, .rwc, 0x0, false⟩,
  ⟨F.FLOW_CFG_ENABLE, 1, .rwc, 0x0, false⟩,
  ⟨F.FLOW_FMT_PUSH_FMT, 1, .rwc, 0x0, false⟩,
  ⟨F.FLOW_FMT_PM, 1, .rwc, 0x0, false⟩,
  ⟨F.FLOW_FMT_TCS, 1, .rwc, 0x0, false⟩,
  ⟨F.FLOW_FMT_COLORIMETRY, 1, .rwc, 0x0, false⟩,
  ⟨F.FLOW_FMT_RANGE, 1, .rwc, 0x0, false⟩,
  ⟨F.FLOW_FMT_DEPTH, 1, .rwc, 0x1, false⟩,
  ⟨F.FLOW_FMT_SAMPLING, 1, .rwc, 0x0, false⟩,
  ⟨F.FLOW_SIZE_WIDTH, 1, .rwc, 0x0, false⟩,
  ⟨F.FLOW_SIZE_HEIGHT, 1, .rwc, 0x0, false⟩,
  ⟨F.FLOW_RATE_DEN, 1, .rwc, 0x1, false⟩,
  ⟨F.FLOW_RATE_NUM, 1, .rwc, 0x0, false⟩,
  ⟨F.FLOW_STORE_LO_STORE, 1, .rwc, 0x0, false⟩,
  ⟨F.FLOW_STORE_HI_STORE, 1, .rwc, 0x0, false⟩,
  ⟨F.FLOW_PITCH_PITCH, 1, .rwc, 0x0, false⟩,
  ⟨F.FLOW_SCALE_SCALE, 1, .rwc, 0x1000, false⟩,
  ⟨F.FLOW_TIMEOUT_PATH_TIMEOUT, 1, .rwc, 0x3e8, false⟩,
  ⟨F.FLOW_RING_RING, 1, .rwc, 0x0, false⟩,
  ⟨F.FLOW_RING_VALID, 1, .rwc, 0x0, false⟩,
  ⟨F.PATH_CFG_UDP_DST, 2, .rwc, 0x0, false⟩,
  ⟨F.PATH_CFG_PORT, 2, .rwc, 0x0, false⟩,
  ⟨F.PATH_CFG_ENABLE, 2, .rwc, 0x0, false⟩,
  ⟨F.PATH_DST0_ADDR, 2, .rwc, 0x0, false⟩,
  ⟨F.PATH_DST1_ADDR, 2, .rwc, 0x0, false⟩,
  ⟨F.PATH_DST2_ADDR, 2, .rwc, 0x0, false⟩]

/-- Rows 30 onward of block flow (R182). -/
def rows_flow_1 : List Row := [
  ⟨F.PATH_DST3_ADDR, 2, .rwc, 0x0, false⟩,
  ⟨F.PATH_SRC0_ADDR, 2, .rwc, 0x0, false⟩,
  ⟨F.PATH_SRC1_ADDR, 2, .rwc, 0x0, false⟩,
  ⟨F.PATH_SRC2_ADDR, 2, .rwc, 0x0, false⟩,
  ⟨F.PATH_SRC3_ADDR, 2, .rwc, 0x0, false⟩,
  ⟨F.FLOW_STAT_MERGE_RISK, 1, .ro, 0x0, false⟩,
  ⟨F.FLOW_STAT_ACTIVE, 1, .ro, 0x0, false⟩,
  ⟨F.FLOW_STAT_PATH_B_UP, 1, .ro, 0x0, false⟩,
  ⟨F.FLOW_STAT_PATH_A_UP, 1, .ro, 0x0, false⟩,
  ⟨F.FLOW_STAT_HAS_FRAME, 1, .ro, 0x0, false⟩,
  ⟨F.FLOW_STAT_READ_BUF, 1, .ro, 0x0, false⟩,
  ⟨F.FLOW_STAT_NEWEST_BUF, 1, .ro, 0x0, false⟩,
  ⟨F.FLOW_STAT_WRITE_BUF, 1, .ro, 0x0, false⟩,
  ⟨F.FLOW_BUF_BYTES_BYTES, 1, .ro, 0x0, false⟩,
  ⟨F.FLOW_LEAD_LEAD, 1, .ro, 0x0, false⟩,
  ⟨F.FLOW_LEAD_MIN_LEAD_MIN, 1, .ro, 0x7fffffff, false⟩,
  ⟨F.FLOW_LEAD_MAX_LEAD_MAX, 1, .ro, 0x80000000, false⟩,
  ⟨F.FLOW_SEL_RTP_TS_TS, 1, .ro, 0x0, false⟩,
  ⟨F.FLOW_FRAME_PERIOD_FRAME_PERIOD_NS, 1, .ro, 0x0, false⟩,
  ⟨F.FLOW_SKEW_SKEW_NS, 1, .ro, 0x0, false⟩,
  ⟨F.FLOW_GAP_GAP_NS, 1, .ro, 0xffffffff, false⟩,
  ⟨F.FLOW_COMPLETE_CNT_COMPLETE_CNT, 1, .ro, 0x0, false⟩,
  ⟨F.FLOW_DAMAGED_CNT_DAMAGED_CNT, 1, .ro, 0x0, false⟩,
  ⟨F.FLOW_SKIPPED_CNT_SKIPPED_CNT, 1, .ro, 0x0, false⟩,
  ⟨F.FLOW_REPEAT_CNT_REPEAT_CNT, 1, .ro, 0x0, false⟩,
  ⟨F.FLOW_DUP_CNT_DUP_CNT, 1, .ro, 0x0, false⟩,
  ⟨F.FLOW_LATE_CNT_LATE_CNT, 1, .ro, 0x0, false⟩,
  ⟨F.FLOW_MALFORMED_CNT_MALFORMED_CNT, 1, .ro, 0x0, false⟩,
  ⟨F.FLOW_PATH_A_CNT_PKT_CNT, 1, .ro, 0x0, false⟩,
  ⟨F.FLOW_PATH_B_CNT_PKT_CNT, 1, .ro, 0x0, false⟩]

/-- Rows 60 onward of block flow (R182). -/
def rows_flow_2 : List Row := [
  ⟨F.FLOW_CLR_CLEAR, 1, .wo, 0x0, false⟩]

/-- The register table of block flow (R182). -/
def rows_flow : List Row := rows_flow_0 ++ rows_flow_1 ++ rows_flow_2

/-! ### cmp: R217, R294 -/

def F.CMP_CAP_BANKS : Fld := ⟨0x4, 0x0, 8, 8⟩
def F.CMP_CAP_LANES : Fld := ⟨0x4, 0x0, 16, 8⟩
def F.CMP_CAP_SCALERS : Fld := ⟨0x4, 0x0, 24, 8⟩
def F.CMP_STAT_LAYERS : Fld := ⟨0xc, 0x0, 0, 9⟩
def F.CMP_STAT_VIEWS : Fld := ⟨0xc, 0x0, 9, 4⟩
def F.CMP_CYCLE_LO_CYCLE : Fld := ⟨0x100, 0x0, 0, 32⟩
def F.CMP_CYCLE_HI_CYCLE : Fld := ⟨0x104, 0x0, 0, 32⟩
def F.CMP_COEF_SEL_PHASE : Fld := ⟨0x108, 0x0, 0, 6⟩
def F.CMP_COEF_SEL_AXIS : Fld := ⟨0x108, 0x0, 6, 1⟩
def F.CMP_COEF_SEL_BANK : Fld := ⟨0x108, 0x0, 8, 3⟩
def F.CMP_COEF_DATA_C_EVEN : Fld := ⟨0x10c, 0x4, 0, 12⟩
def F.CMP_COEF_DATA_C_ODD : Fld := ⟨0x10c, 0x4, 16, 12⟩
def F.CMP_USE_BLU_BLU : Fld := ⟨0x11c, 0x0, 0, 32⟩
def F.CMP_USE_LBUF_BITS : Fld := ⟨0x120, 0x0, 0, 32⟩
def F.CMP_USE_SCALERS_ENGINES : Fld := ⟨0x124, 0x0, 0, 6⟩
def F.CMP_USE_FETCH_LO_BPS : Fld := ⟨0x128, 0x0, 0, 32⟩
def F.CMP_USE_FETCH_HI_BPS : Fld := ⟨0x12c, 0x0, 0, 32⟩
def F.CMP_USE_WB_LO_BPS : Fld := ⟨0x130, 0x0, 0, 32⟩
def F.CMP_USE_WB_HI_BPS : Fld := ⟨0x134, 0x0, 0, 32⟩
def F.CMP_LYR_ALERT_LAYER : Fld := ⟨0x140, 0x4, 0, 32⟩
def F.CMP_SLOT_START_START : Fld := ⟨0x400, 0x8, 0, 26⟩
def F.CMP_SLOT_CFG_DUR : Fld := ⟨0x404, 0x8, 0, 26⟩
def F.CMP_SLOT_CFG_VIEW : Fld := ⟨0x404, 0x8, 27, 3⟩
def F.CMP_SLOT_CFG_ROLE : Fld := ⟨0x404, 0x8, 30, 2⟩
def F.CMP_CYC_RATE_DEN : Fld := ⟨0x500, 0x0, 0, 12⟩
def F.CMP_CYC_RATE_NUM : Fld := ⟨0x500, 0x0, 12, 20⟩
def F.CMP_CYC_PHASE_PHASE : Fld := ⟨0x504, 0x0, 0, 32⟩
def F.CMP_REPEAT_REPEAT_MAX : Fld := ⟨0x508, 0x0, 0, 16⟩
def F.CMP_CMT_CTL_NAMED : Fld := ⟨0x510, 0x0, 31, 1⟩
def F.CMP_CMT_TARGET_CYCLE : Fld := ⟨0x514, 0x0, 0, 32⟩
def F.CMP_CMT_CANCEL_GROUP : Fld := ⟨0x518, 0x0, 0, 8⟩
def F.CMP_CMT_CANCEL_GO : Fld := ⟨0x518, 0x0, 31, 1⟩
def F.CMP_CMT_STAT_GROUP : Fld := ⟨0x51c, 0x0, 8, 8⟩
def F.CMP_CMT_STAT_REASON : Fld := ⟨0x51c, 0x0, 16, 8⟩
def F.CMP_CMT_STAT_LATE : Fld := ⟨0x51c, 0x0, 30, 1⟩
def F.CMP_CMT_STAT_PENDING : Fld := ⟨0x51c, 0x0, 31, 1⟩
def F.CMP_CMT_APPLIED_CYCLE : Fld := ⟨0x520, 0x0, 0, 32⟩
def F.CMP_GUARD_G_US : Fld := ⟨0x530, 0x0, 0, 16⟩
def F.CMP_D_FORCE_D_NS : Fld := ⟨0x534, 0x0, 0, 32⟩
def F.CMP_D_MEAS_D_NS : Fld := ⟨0x538, 0x0, 0, 32⟩
def F.CMP_LAUNCH_LO_T : Fld := ⟨0x540, 0x0, 0, 32⟩
def F.CMP_LAUNCH_HI_T : Fld := ⟨0x544, 0x0, 0, 32⟩
def F.CMP_NEXT_S_LO_S : Fld := ⟨0x548, 0x0, 0, 32⟩
def F.CMP_NEXT_S_HI_S : Fld := ⟨0x54c, 0x0, 0, 32⟩
def F.CMP_PERIOD_P_MAX : Fld := ⟨0x550, 0x0, 0, 26⟩
def F.CMP_PERIOD_MIN_P_MIN : Fld := ⟨0x554, 0x0, 0, 26⟩
def F.CMP_USE_CORR_LO_PVS : Fld := ⟨0x560, 0x0, 0, 32⟩
def F.CMP_USE_CORR_HI_PVS : Fld := ⟨0x564, 0x0, 0, 32⟩
def F.CMP_USE_MEM_LO_BPS : Fld := ⟨0x568, 0x0, 0, 32⟩
def F.CMP_USE_MEM_HI_BPS : Fld := ⟨0x56c, 0x0, 0, 32⟩
def F.CMP_MEM_LIMIT_LO_BPS : Fld := ⟨0x570, 0x0, 0, 32⟩
def F.CMP_MEM_LIMIT_HI_BPS : Fld := ⟨0x574, 0x0, 0, 32⟩
def F.CMP_LAST_ADM_ORIGIN : Fld := ⟨0x578, 0x0, 0, 2⟩
def F.CMP_LAST_ADM_GROUP : Fld := ⟨0x578, 0x0, 8, 8⟩
def F.CMP_LAST_ADM_SEAT : Fld := ⟨0x578, 0x0, 20, 4⟩
def F.CMP_LAST_ADM_REASON : Fld := ⟨0x578, 0x0, 24, 8⟩
def F.CMP_LAST_ADM_CYCLE_CYCLE : Fld := ⟨0x57c, 0x0, 0, 32⟩
def F.CMP_ADM_ACC_CNT_ACC_CNT : Fld := ⟨0x580, 0x0, 0, 32⟩
def F.CMP_ADM_REJ_CNT_REJ_CNT : Fld := ⟨0x584, 0x0, 0, 32⟩
def F.CMP_LATE_CNT_LATE_CNT : Fld := ⟨0x588, 0x0, 0, 32⟩
def F.CMP_BRIDGE_CNT_BRIDGE_CNT : Fld := ⟨0x58c, 0x0, 0, 32⟩

/-- Rows 0 onward of block cmp (R217, R294). -/
def rows_cmp_0 : List Row := [
  ⟨F.CMP_CAP_BANKS, 1, .ro, 0x8, false⟩,
  ⟨F.CMP_CAP_LANES, 1, .ro, 0x40, false⟩,
  ⟨F.CMP_CAP_SCALERS, 1, .ro, 0x20, false⟩,
  ⟨F.CMP_STAT_LAYERS, 1, .ro, 0x0, false⟩,
  ⟨F.CMP_STAT_VIEWS, 1, .ro, 0x0, false⟩,
  ⟨F.CMP_CYCLE_LO_CYCLE, 1, .ro, 0x0, false⟩,
  ⟨F.CMP_CYCLE_HI_CYCLE, 1, .ro, 0x0, false⟩,
  ⟨F.CMP_COEF_SEL_PHASE, 1, .rw, 0x0, false⟩,
  ⟨F.CMP_COEF_SEL_AXIS, 1, .rw, 0x0, false⟩,
  ⟨F.CMP_COEF_SEL_BANK, 1, .rw, 0x0, false⟩,
  ⟨F.CMP_COEF_DATA_C_EVEN, 4, .rwc, 0x0, false⟩,
  ⟨F.CMP_COEF_DATA_C_ODD, 4, .rwc, 0x0, false⟩,
  ⟨F.CMP_USE_BLU_BLU, 1, .ro, 0x0, false⟩,
  ⟨F.CMP_USE_LBUF_BITS, 1, .ro, 0x0, false⟩,
  ⟨F.CMP_USE_SCALERS_ENGINES, 1, .ro, 0x0, false⟩,
  ⟨F.CMP_USE_FETCH_LO_BPS, 1, .ro, 0x0, false⟩,
  ⟨F.CMP_USE_FETCH_HI_BPS, 1, .ro, 0x0, false⟩,
  ⟨F.CMP_USE_WB_LO_BPS, 1, .ro, 0x0, false⟩,
  ⟨F.CMP_USE_WB_HI_BPS, 1, .ro, 0x0, false⟩,
  ⟨F.CMP_LYR_ALERT_LAYER, 8, .w1c, 0x0, false⟩,
  ⟨F.CMP_SLOT_START_START, 32, .rwc, 0x0, false⟩,
  ⟨F.CMP_SLOT_CFG_DUR, 32, .rwc, 0x0, false⟩,
  ⟨F.CMP_SLOT_CFG_VIEW, 32, .rwc, 0x0, false⟩,
  ⟨F.CMP_SLOT_CFG_ROLE, 32, .rwc, 0x0, false⟩,
  ⟨F.CMP_CYC_RATE_DEN, 1, .rwc, 0x1, false⟩,
  ⟨F.CMP_CYC_RATE_NUM, 1, .rwc, 0x3c, false⟩,
  ⟨F.CMP_CYC_PHASE_PHASE, 1, .rwc, 0x0, false⟩,
  ⟨F.CMP_REPEAT_REPEAT_MAX, 1, .rwc, 0xf0, false⟩,
  ⟨F.CMP_CMT_CTL_NAMED, 1, .rw, 0x0, false⟩,
  ⟨F.CMP_CMT_TARGET_CYCLE, 1, .rw, 0x0, false⟩]

/-- Rows 30 onward of block cmp (R217, R294). -/
def rows_cmp_1 : List Row := [
  ⟨F.CMP_CMT_CANCEL_GROUP, 1, .wo, 0x0, false⟩,
  ⟨F.CMP_CMT_CANCEL_GO, 1, .wo, 0x0, false⟩,
  ⟨F.CMP_CMT_STAT_GROUP, 1, .ro, 0x0, false⟩,
  ⟨F.CMP_CMT_STAT_REASON, 1, .ro, 0x0, false⟩,
  ⟨F.CMP_CMT_STAT_LATE, 1, .ro, 0x0, false⟩,
  ⟨F.CMP_CMT_STAT_PENDING, 1, .ro, 0x0, false⟩,
  ⟨F.CMP_CMT_APPLIED_CYCLE, 1, .ro, 0x0, false⟩,
  ⟨F.CMP_GUARD_G_US, 1, .ro, 0x0, false⟩,
  ⟨F.CMP_D_FORCE_D_NS, 1, .ro, 0x0, false⟩,
  ⟨F.CMP_D_MEAS_D_NS, 1, .ro, 0x0, false⟩,
  ⟨F.CMP_LAUNCH_LO_T, 1, .ro, 0x0, false⟩,
  ⟨F.CMP_LAUNCH_HI_T, 1, .ro, 0x0, false⟩,
  ⟨F.CMP_NEXT_S_LO_S, 1, .ro, 0x0, false⟩,
  ⟨F.CMP_NEXT_S_HI_S, 1, .ro, 0x0, false⟩,
  ⟨F.CMP_PERIOD_P_MAX, 1, .ro, 0x0, false⟩,
  ⟨F.CMP_PERIOD_MIN_P_MIN, 1, .ro, 0x0, false⟩,
  ⟨F.CMP_USE_CORR_LO_PVS, 1, .ro, 0x0, false⟩,
  ⟨F.CMP_USE_CORR_HI_PVS, 1, .ro, 0x0, false⟩,
  ⟨F.CMP_USE_MEM_LO_BPS, 1, .ro, 0x0, false⟩,
  ⟨F.CMP_USE_MEM_HI_BPS, 1, .ro, 0x0, false⟩,
  ⟨F.CMP_MEM_LIMIT_LO_BPS, 1, .ro, 0x0, false⟩,
  ⟨F.CMP_MEM_LIMIT_HI_BPS, 1, .ro, 0x0, false⟩,
  ⟨F.CMP_LAST_ADM_ORIGIN, 1, .ro, 0x0, false⟩,
  ⟨F.CMP_LAST_ADM_GROUP, 1, .ro, 0x0, false⟩,
  ⟨F.CMP_LAST_ADM_SEAT, 1, .ro, 0x0, false⟩,
  ⟨F.CMP_LAST_ADM_REASON, 1, .ro, 0x0, false⟩,
  ⟨F.CMP_LAST_ADM_CYCLE_CYCLE, 1, .ro, 0x0, false⟩,
  ⟨F.CMP_ADM_ACC_CNT_ACC_CNT, 1, .ro, 0x0, false⟩,
  ⟨F.CMP_ADM_REJ_CNT_REJ_CNT, 1, .ro, 0x0, false⟩,
  ⟨F.CMP_LATE_CNT_LATE_CNT, 1, .ro, 0x0, false⟩]

/-- Rows 60 onward of block cmp (R217, R294). -/
def rows_cmp_2 : List Row := [
  ⟨F.CMP_BRIDGE_CNT_BRIDGE_CNT, 1, .ro, 0x0, false⟩]

/-- The register table of block cmp (R217, R294). -/
def rows_cmp : List Row := rows_cmp_0 ++ rows_cmp_1 ++ rows_cmp_2

/-! ### view: R219, R296 -/

def F.VIEW_CAP_GRAPHIC : Fld := ⟨0x4, 0x0, 0, 8⟩
def F.VIEW_CAP_VIDEO : Fld := ⟨0x4, 0x0, 8, 8⟩
def F.VIEW_STAT_GRAPHIC_N : Fld := ⟨0xc, 0x0, 0, 5⟩
def F.VIEW_STAT_VIDEO_N : Fld := ⟨0xc, 0x0, 5, 5⟩
def F.VIEW_STAT_UNCHANGED : Fld := ⟨0xc, 0x0, 16, 8⟩
def F.VIEW_STAT_HELD : Fld := ⟨0xc, 0x0, 30, 1⟩
def F.VIEW_STAT_ACTIVE : Fld := ⟨0xc, 0x0, 31, 1⟩
def F.VIEW_CFG_STATIC_DIV : Fld := ⟨0x100, 0x0, 8, 1⟩
def F.VIEW_CFG_STATIC_CYCLES : Fld := ⟨0x100, 0x0, 16, 8⟩
def F.VIEW_CFG_ENABLE : Fld := ⟨0x100, 0x0, 31, 1⟩
def F.VIEW_BG_LEVEL : Fld := ⟨0x104, 0x4, 0, 20⟩
def F.VIEW_WB_CFG_WB_GAIN : Fld := ⟨0x110, 0x0, 0, 16⟩
def F.VIEW_WB_CFG_ENC : Fld := ⟨0x110, 0x0, 24, 2⟩
def F.VIEW_WB_CFG_WB_DIV : Fld := ⟨0x110, 0x0, 26, 2⟩
def F.VIEW_WB_CFG_ENABLE : Fld := ⟨0x110, 0x0, 31, 1⟩
def F.VIEW_WB_POS_X : Fld := ⟨0x114, 0x0, 0, 16⟩
def F.VIEW_WB_POS_Y : Fld := ⟨0x114, 0x0, 16, 16⟩
def F.VIEW_WB_SIZE_WIDTH : Fld := ⟨0x118, 0x0, 0, 16⟩
def F.VIEW_WB_SIZE_HEIGHT : Fld := ⟨0x118, 0x0, 16, 16⟩
def F.VIEW_WB_BASE_LO_BASE : Fld := ⟨0x11c, 0x0, 12, 20⟩
def F.VIEW_WB_BASE_HI_BASE : Fld := ⟨0x120, 0x0, 0, 32⟩
def F.VIEW_WB_PITCH_PITCH : Fld := ⟨0x124, 0x0, 0, 18⟩
def F.VIEW_WB_RING_RING : Fld := ⟨0x128, 0x0, 0, 14⟩
def F.VIEW_WB_RING_VALID : Fld := ⟨0x128, 0x0, 31, 1⟩
def F.VIEW_PV_CFG_PT : Fld := ⟨0x12c, 0x0, 0, 7⟩
def F.VIEW_PV_CFG_DSCP : Fld := ⟨0x12c, 0x0, 8, 6⟩
def F.VIEW_PV_CFG_PORT : Fld := ⟨0x12c, 0x0, 24, 3⟩
def F.VIEW_PV_CFG_IPV6 : Fld := ⟨0x12c, 0x0, 30, 1⟩
def F.VIEW_PV_CFG_ENABLE : Fld := ⟨0x12c, 0x0, 31, 1⟩
def F.VIEW_PV_UDP_DST : Fld := ⟨0x130, 0x0, 0, 16⟩
def F.VIEW_PV_UDP_SRC : Fld := ⟨0x130, 0x0, 16, 16⟩
def F.VIEW_PV_DST_ADDR : Fld := ⟨0x134, 0x4, 0, 32⟩
def F.VIEW_PV_SSRC_SSRC : Fld := ⟨0x144, 0x0, 0, 32⟩
def F.VIEW_USE_BLU_BLU : Fld := ⟨0x148, 0x0, 0, 32⟩
def F.VIEW_WB_STAT_LAST_BUF : Fld := ⟨0x14c, 0x0, 0, 1⟩
def F.VIEW_WB_STAT_HAS_BUF : Fld := ⟨0x14c, 0x0, 1, 1⟩
def F.VIEW_HELD_CNT_HELD_CNT : Fld := ⟨0x150, 0x0, 0, 32⟩
def F.VIEW_WB_DONE_CNT_DONE_CNT : Fld := ⟨0x154, 0x0, 0, 32⟩
def F.VIEW_WB_SKIP_CNT_SKIP_CNT : Fld := ⟨0x158, 0x0, 0, 32⟩
def F.VIEW_PV_PKT_CNT_PKT_CNT : Fld := ⟨0x15c, 0x0, 0, 32⟩
def F.VIEW_PV_DROP_CNT_DROP_CNT : Fld := ⟨0x160, 0x0, 0, 32⟩
def F.VIEW_LAT_LAT_NS : Fld := ⟨0x300, 0x0, 0, 32⟩
def F.VIEW_FIRST_SV : Fld := ⟨0x304, 0x0, 0, 26⟩
def F.VIEW_SLOTS_MASK : Fld := ⟨0x308, 0x0, 0, 32⟩
def F.VIEW_DUTY_DUTY : Fld := ⟨0x30c, 0x0, 0, 16⟩
def F.VIEW_LAT_CYCLE_LO_CYCLE : Fld := ⟨0x310, 0x0, 0, 32⟩
def F.VIEW_LAT_CYCLE_HI_CYCLE : Fld := ⟨0x314, 0x0, 0, 32⟩

/-- Rows 0 onward of block view (R219, R296). -/
def rows_view_0 : List Row := [
  ⟨F.VIEW_CAP_GRAPHIC, 1, .ro, 0x10, false⟩,
  ⟨F.VIEW_CAP_VIDEO, 1, .ro, 0x10, false⟩,
  ⟨F.VIEW_STAT_GRAPHIC_N, 1, .ro, 0x0, false⟩,
  ⟨F.VIEW_STAT_VIDEO_N, 1, .ro, 0x0, false⟩,
  ⟨F.VIEW_STAT_UNCHANGED, 1, .ro, 0x0, false⟩,
  ⟨F.VIEW_STAT_HELD, 1, .ro, 0x0, false⟩,
  ⟨F.VIEW_STAT_ACTIVE, 1, .ro, 0x0, false⟩,
  ⟨F.VIEW_CFG_STATIC_DIV, 1, .rwc, 0x0, false⟩,
  ⟨F.VIEW_CFG_STATIC_CYCLES, 1, .rwc, 0x0, false⟩,
  ⟨F.VIEW_CFG_ENABLE, 1, .rwc, 0x0, false⟩,
  ⟨F.VIEW_BG_LEVEL, 3, .rwc, 0x0, false⟩,
  ⟨F.VIEW_WB_CFG_WB_GAIN, 1, .rwc, 0x1000, false⟩,
  ⟨F.VIEW_WB_CFG_ENC, 1, .rwc, 0x0, false⟩,
  ⟨F.VIEW_WB_CFG_WB_DIV, 1, .rwc, 0x0, false⟩,
  ⟨F.VIEW_WB_CFG_ENABLE, 1, .rwc, 0x0, false⟩,
  ⟨F.VIEW_WB_POS_X, 1, .rwc, 0x0, false⟩,
  ⟨F.VIEW_WB_POS_Y, 1, .rwc, 0x0, false⟩,
  ⟨F.VIEW_WB_SIZE_WIDTH, 1, .rwc, 0x0, false⟩,
  ⟨F.VIEW_WB_SIZE_HEIGHT, 1, .rwc, 0x0, false⟩,
  ⟨F.VIEW_WB_BASE_LO_BASE, 1, .rwc, 0x0, false⟩,
  ⟨F.VIEW_WB_BASE_HI_BASE, 1, .rwc, 0x0, false⟩,
  ⟨F.VIEW_WB_PITCH_PITCH, 1, .rwc, 0x0, false⟩,
  ⟨F.VIEW_WB_RING_RING, 1, .rwc, 0x0, false⟩,
  ⟨F.VIEW_WB_RING_VALID, 1, .rwc, 0x0, false⟩,
  ⟨F.VIEW_PV_CFG_PT, 1, .rwc, 0x0, false⟩,
  ⟨F.VIEW_PV_CFG_DSCP, 1, .rwc, 0x0, false⟩,
  ⟨F.VIEW_PV_CFG_PORT, 1, .rwc, 0x0, false⟩,
  ⟨F.VIEW_PV_CFG_IPV6, 1, .rwc, 0x0, false⟩,
  ⟨F.VIEW_PV_CFG_ENABLE, 1, .rwc, 0x0, false⟩,
  ⟨F.VIEW_PV_UDP_DST, 1, .rwc, 0x0, false⟩]

/-- Rows 30 onward of block view (R219, R296). -/
def rows_view_1 : List Row := [
  ⟨F.VIEW_PV_UDP_SRC, 1, .rwc, 0x0, false⟩,
  ⟨F.VIEW_PV_DST_ADDR, 4, .rwc, 0x0, false⟩,
  ⟨F.VIEW_PV_SSRC_SSRC, 1, .rwc, 0x0, false⟩,
  ⟨F.VIEW_USE_BLU_BLU, 1, .ro, 0x0, false⟩,
  ⟨F.VIEW_WB_STAT_LAST_BUF, 1, .ro, 0x0, false⟩,
  ⟨F.VIEW_WB_STAT_HAS_BUF, 1, .ro, 0x0, false⟩,
  ⟨F.VIEW_HELD_CNT_HELD_CNT, 1, .ro, 0x0, false⟩,
  ⟨F.VIEW_WB_DONE_CNT_DONE_CNT, 1, .ro, 0x0, false⟩,
  ⟨F.VIEW_WB_SKIP_CNT_SKIP_CNT, 1, .ro, 0x0, false⟩,
  ⟨F.VIEW_PV_PKT_CNT_PKT_CNT, 1, .ro, 0x0, false⟩,
  ⟨F.VIEW_PV_DROP_CNT_DROP_CNT, 1, .ro, 0x0, false⟩,
  ⟨F.VIEW_LAT_LAT_NS, 1, .ro, 0xffffffff, false⟩,
  ⟨F.VIEW_FIRST_SV, 1, .ro, 0x0, false⟩,
  ⟨F.VIEW_SLOTS_MASK, 1, .ro, 0x0, false⟩,
  ⟨F.VIEW_DUTY_DUTY, 1, .ro, 0x0, false⟩,
  ⟨F.VIEW_LAT_CYCLE_LO_CYCLE, 1, .ro, 0x0, false⟩,
  ⟨F.VIEW_LAT_CYCLE_HI_CYCLE, 1, .ro, 0x0, false⟩]

/-- The register table of block view (R219, R296). -/
def rows_view : List Row := rows_view_0 ++ rows_view_1

/-! ### lyr: R221 -/

def F.LYR_STAT_READ_BUF : Fld := ⟨0xc, 0x0, 0, 2⟩
def F.LYR_STAT_NOSHOW_CAUSE : Fld := ⟨0xc, 0x0, 28, 2⟩
def F.LYR_STAT_SHOWING : Fld := ⟨0xc, 0x0, 30, 1⟩
def F.LYR_STAT_ACTIVE : Fld := ⟨0xc, 0x0, 31, 1⟩
def F.LYR_CFG_FLOW : Fld := ⟨0x100, 0x0, 0, 6⟩
def F.LYR_CFG_COEF_BANK : Fld := ⟨0x100, 0x0, 12, 3⟩
def F.LYR_CFG_VTAPS : Fld := ⟨0x100, 0x0, 15, 2⟩
def F.LYR_CFG_PRIMARIES : Fld := ⟨0x100, 0x0, 17, 1⟩
def F.LYR_CFG_TRANSFER : Fld := ⟨0x100, 0x0, 18, 2⟩
def F.LYR_CFG_PREMULT : Fld := ⟨0x100, 0x0, 20, 1⟩
def F.LYR_CFG_OPAQUE : Fld := ⟨0x100, 0x0, 21, 1⟩
def F.LYR_CFG_DEPTH : Fld := ⟨0x100, 0x0, 22, 5⟩
def F.LYR_CFG_VIEW : Fld := ⟨0x100, 0x0, 27, 3⟩
def F.LYR_CFG_KIND : Fld := ⟨0x100, 0x0, 30, 1⟩
def F.LYR_CFG_ENABLE : Fld := ⟨0x100, 0x0, 31, 1⟩
def F.LYR_SRC_POS_SRC_X : Fld := ⟨0x104, 0x0, 0, 16⟩
def F.LYR_SRC_POS_SRC_Y : Fld := ⟨0x104, 0x0, 16, 16⟩
def F.LYR_SRC_SIZE_SRC_W : Fld := ⟨0x108, 0x0, 0, 16⟩
def F.LYR_SRC_SIZE_SRC_H : Fld := ⟨0x108, 0x0, 16, 16⟩
def F.LYR_DST_X_DST_X : Fld := ⟨0x10c, 0x0, 0, 18⟩
def F.LYR_DST_Y_DST_Y : Fld := ⟨0x110, 0x0, 0, 18⟩
def F.LYR_DST_W_DST_W : Fld := ⟨0x114, 0x0, 0, 17⟩
def F.LYR_DST_H_DST_H : Fld := ⟨0x118, 0x0, 0, 17⟩
def F.LYR_ALPHA_GALPHA : Fld := ⟨0x11c, 0x0, 0, 11⟩
def F.LYR_GAIN_GAIN : Fld := ⟨0x120, 0x0, 0, 16⟩
def F.LYR_STEP_X_STEP : Fld := ⟨0x124, 0x0, 0, 24⟩
def F.LYR_STEP_Y_STEP : Fld := ⟨0x128, 0x0, 0, 24⟩
def F.LYR_USE_BLOCKS_BLOCKS : Fld := ⟨0x12c, 0x0, 0, 27⟩
def F.LYR_USE_LBUF_BITS : Fld := ⟨0x130, 0x0, 0, 32⟩
def F.LYR_USE_SCALERS_ENGINES : Fld := ⟨0x134, 0x0, 0, 6⟩
def F.LYR_USE_FETCH_LO_BPS : Fld := ⟨0x138, 0x0, 0, 32⟩
def F.LYR_USE_FETCH_HI_BPS : Fld := ⟨0x13c, 0x0, 0, 32⟩

/-- Rows 0 onward of block lyr (R221). -/
def rows_lyr_0 : List Row := [
  ⟨F.LYR_STAT_READ_BUF, 1, .ro, 0x0, false⟩,
  ⟨F.LYR_STAT_NOSHOW_CAUSE, 1, .ro, 0x0, false⟩,
  ⟨F.LYR_STAT_SHOWING, 1, .ro, 0x0, false⟩,
  ⟨F.LYR_STAT_ACTIVE, 1, .ro, 0x0, false⟩,
  ⟨F.LYR_CFG_FLOW, 1, .rwc, 0x0, false⟩,
  ⟨F.LYR_CFG_COEF_BANK, 1, .rwc, 0x0, false⟩,
  ⟨F.LYR_CFG_VTAPS, 1, .rwc, 0x0, false⟩,
  ⟨F.LYR_CFG_PRIMARIES, 1, .rwc, 0x0, false⟩,
  ⟨F.LYR_CFG_TRANSFER, 1, .rwc, 0x1, false⟩,
  ⟨F.LYR_CFG_PREMULT, 1, .rwc, 0x0, false⟩,
  ⟨F.LYR_CFG_OPAQUE, 1, .rwc, 0x0, false⟩,
  ⟨F.LYR_CFG_DEPTH, 1, .rwc, 0x0, false⟩,
  ⟨F.LYR_CFG_VIEW, 1, .rwc, 0x0, false⟩,
  ⟨F.LYR_CFG_KIND, 1, .rwc, 0x0, false⟩,
  ⟨F.LYR_CFG_ENABLE, 1, .rwc, 0x0, false⟩,
  ⟨F.LYR_SRC_POS_SRC_X, 1, .rwc, 0x0, false⟩,
  ⟨F.LYR_SRC_POS_SRC_Y, 1, .rwc, 0x0, false⟩,
  ⟨F.LYR_SRC_SIZE_SRC_W, 1, .rwc, 0x0, false⟩,
  ⟨F.LYR_SRC_SIZE_SRC_H, 1, .rwc, 0x0, false⟩,
  ⟨F.LYR_DST_X_DST_X, 1, .rwc, 0x0, false⟩,
  ⟨F.LYR_DST_Y_DST_Y, 1, .rwc, 0x0, false⟩,
  ⟨F.LYR_DST_W_DST_W, 1, .rwc, 0x0, false⟩,
  ⟨F.LYR_DST_H_DST_H, 1, .rwc, 0x0, false⟩,
  ⟨F.LYR_ALPHA_GALPHA, 1, .rwc, 0x400, false⟩,
  ⟨F.LYR_GAIN_GAIN, 1, .rwc, 0x1000, false⟩,
  ⟨F.LYR_STEP_X_STEP, 1, .ro, 0x0, false⟩,
  ⟨F.LYR_STEP_Y_STEP, 1, .ro, 0x0, false⟩,
  ⟨F.LYR_USE_BLOCKS_BLOCKS, 1, .ro, 0x0, false⟩,
  ⟨F.LYR_USE_LBUF_BITS, 1, .ro, 0x0, false⟩,
  ⟨F.LYR_USE_SCALERS_ENGINES, 1, .ro, 0x0, false⟩]

/-- Rows 30 onward of block lyr (R221). -/
def rows_lyr_1 : List Row := [
  ⟨F.LYR_USE_FETCH_LO_BPS, 1, .ro, 0x0, false⟩,
  ⟨F.LYR_USE_FETCH_HI_BPS, 1, .ro, 0x0, false⟩]

/-- The register table of block lyr (R221). -/
def rows_lyr : List Row := rows_lyr_0 ++ rows_lyr_1

/-! ### map: R257 -/

def F.MAP_CAP_TILES : Fld := ⟨0x4, 0x0, 0, 13⟩
def F.MAP_STAT_ACTIVE : Fld := ⟨0xc, 0x0, 0, 13⟩
def F.MAP_CANVAS_WIDTH_M1 : Fld := ⟨0x100, 0x0, 0, 16⟩
def F.MAP_CANVAS_HEIGHT_M1 : Fld := ⟨0x100, 0x0, 16, 16⟩
def F.MAP_USE_PIXELS_N : Fld := ⟨0x104, 0x0, 0, 27⟩
def F.MAP_USE_BLOCKS_BLOCKS : Fld := ⟨0x108, 0x0, 0, 23⟩
def F.MAP_ADM_TILE_TILE : Fld := ⟨0x10c, 0x0, 0, 12⟩
def F.MAP_ADM_TILE_VALID : Fld := ⟨0x10c, 0x0, 31, 1⟩
def F.MAP_PROBE_X : Fld := ⟨0x110, 0x0, 0, 16⟩
def F.MAP_PROBE_Y : Fld := ⟨0x110, 0x0, 16, 16⟩
def F.MAP_PROBE_RES0_TILE : Fld := ⟨0x114, 0x0, 0, 12⟩
def F.MAP_PROBE_RES0_HIT : Fld := ⟨0x114, 0x0, 31, 1⟩
def F.MAP_PROBE_RES1_U : Fld := ⟨0x118, 0x0, 0, 10⟩
def F.MAP_PROBE_RES1_V : Fld := ⟨0x118, 0x0, 16, 10⟩

/-- Rows 0 onward of block map (R257). -/
def rows_map_0 : List Row := [
  ⟨F.MAP_CAP_TILES, 1, .ro, 0x1000, false⟩,
  ⟨F.MAP_STAT_ACTIVE, 1, .ro, 0x0, false⟩,
  ⟨F.MAP_CANVAS_WIDTH_M1, 1, .rwc, 0xffff, false⟩,
  ⟨F.MAP_CANVAS_HEIGHT_M1, 1, .rwc, 0xffff, false⟩,
  ⟨F.MAP_USE_PIXELS_N, 1, .ro, 0x0, false⟩,
  ⟨F.MAP_USE_BLOCKS_BLOCKS, 1, .ro, 0x0, false⟩,
  ⟨F.MAP_ADM_TILE_TILE, 1, .ro, 0x0, false⟩,
  ⟨F.MAP_ADM_TILE_VALID, 1, .ro, 0x0, false⟩,
  ⟨F.MAP_PROBE_X, 1, .rw, 0x0, false⟩,
  ⟨F.MAP_PROBE_Y, 1, .rw, 0x0, false⟩,
  ⟨F.MAP_PROBE_RES0_TILE, 1, .ro, 0x0, false⟩,
  ⟨F.MAP_PROBE_RES0_HIT, 1, .ro, 0x0, false⟩,
  ⟨F.MAP_PROBE_RES1_U, 1, .ro, 0x0, false⟩,
  ⟨F.MAP_PROBE_RES1_V, 1, .ro, 0x0, false⟩]

/-- The register table of block map (R257). -/
def rows_map : List Row := rows_map_0

/-! ### tile: R258 -/

def F.TL_CFG_ZONE : Fld := ⟨0x0, 0x0, 0, 8⟩
def F.TL_CFG_L4_SRC : Fld := ⟨0x0, 0x0, 23, 2⟩
def F.TL_CFG_LAMPS : Fld := ⟨0x0, 0x0, 25, 2⟩
def F.TL_CFG_SCAN : Fld := ⟨0x0, 0x0, 27, 1⟩
def F.TL_CFG_MIRROR : Fld := ⟨0x0, 0x0, 28, 1⟩
def F.TL_CFG_ROT : Fld := ⟨0x0, 0x0, 29, 2⟩
def F.TL_CFG_ENABLE : Fld := ⟨0x0, 0x0, 31, 1⟩
def F.TL_LINK_POS : Fld := ⟨0x4, 0x0, 0, 6⟩
def F.TL_LINK_RESP_SET : Fld := ⟨0x4, 0x0, 8, 8⟩
def F.TL_LINK_LINK : Fld := ⟨0x4, 0x0, 16, 9⟩
def F.TL_ORIGIN_X0 : Fld := ⟨0x8, 0x0, 0, 16⟩
def F.TL_ORIGIN_Y0 : Fld := ⟨0x8, 0x0, 16, 16⟩
def F.TL_SIZE_TW : Fld := ⟨0xc, 0x0, 0, 11⟩
def F.TL_SIZE_TH : Fld := ⟨0xc, 0x0, 16, 11⟩
def F.TL_REC_REC_IDX : Fld := ⟨0x10, 0x0, 0, 26⟩
def F.TL_TC01_TC0 : Fld := ⟨0x14, 0x0, 0, 16⟩
def F.TL_TC01_TC1 : Fld := ⟨0x14, 0x0, 16, 16⟩
def F.TL_TC23_TC2 : Fld := ⟨0x18, 0x0, 0, 16⟩
def F.TL_TC23_TC3 : Fld := ⟨0x18, 0x0, 16, 16⟩
def F.TL_TREF_TREF : Fld := ⟨0x1c, 0x0, 0, 16⟩
def F.TL_TREF_W_GAIN : Fld := ⟨0x1c, 0x0, 16, 16⟩
def F.TL_POWER_WPD : Fld := ⟨0x20, 0x0, 0, 20⟩
def F.TL_POWER_IDLE : Fld := ⟨0x20, 0x0, 20, 12⟩
def F.TL_DMAX_DMAX : Fld := ⟨0x24, 0x0, 0, 20⟩
def F.TL_BUF_ASSUMED_KIB : Fld := ⟨0x28, 0x0, 0, 24⟩
def F.TL_DECL_DECL_KIB : Fld := ⟨0x2c, 0x0, 0, 24⟩
def F.TL_TEMP_T : Fld := ⟨0x30, 0x0, 0, 16⟩
def F.TL_GAIN01_G0 : Fld := ⟨0x34, 0x0, 0, 16⟩
def F.TL_GAIN01_G1 : Fld := ⟨0x34, 0x0, 16, 16⟩
def F.TL_GAIN23_G2 : Fld := ⟨0x38, 0x0, 0, 16⟩
def F.TL_GAIN23_G3 : Fld := ⟨0x38, 0x0, 16, 16⟩
def F.TL_STAT_TEMP_VALID : Fld := ⟨0x3c, 0x0, 28, 1⟩
def F.TL_STAT_BUF_SHORT : Fld := ⟨0x3c, 0x0, 29, 1⟩
def F.TL_STAT_DECLARED : Fld := ⟨0x3c, 0x0, 30, 1⟩
def F.TL_STAT_ACTIVE : Fld := ⟨0x3c, 0x0, 31, 1⟩

/-- Rows 0 onward of block tile (R258). -/
def rows_tile_0 : List Row := [
  ⟨F.TL_CFG_ZONE, 1, .rwc, 0x0, false⟩,
  ⟨F.TL_CFG_L4_SRC, 1, .rwc, 0x0, false⟩,
  ⟨F.TL_CFG_LAMPS, 1, .rwc, 0x2, false⟩,
  ⟨F.TL_CFG_SCAN, 1, .rwc, 0x0, false⟩,
  ⟨F.TL_CFG_MIRROR, 1, .rwc, 0x0, false⟩,
  ⟨F.TL_CFG_ROT, 1, .rwc, 0x0, false⟩,
  ⟨F.TL_CFG_ENABLE, 1, .rwc, 0x0, false⟩,
  ⟨F.TL_LINK_POS, 1, .rwc, 0x0, false⟩,
  ⟨F.TL_LINK_RESP_SET, 1, .rwc, 0x0, false⟩,
  ⟨F.TL_LINK_LINK, 1, .rwc, 0x0, false⟩,
  ⟨F.TL_ORIGIN_X0, 1, .rwc, 0x0, false⟩,
  ⟨F.TL_ORIGIN_Y0, 1, .rwc, 0x0, false⟩,
  ⟨F.TL_SIZE_TW, 1, .rwc, 0x0, false⟩,
  ⟨F.TL_SIZE_TH, 1, .rwc, 0x0, false⟩,
  ⟨F.TL_REC_REC_IDX, 1, .rwc, 0x0, false⟩,
  ⟨F.TL_TC01_TC0, 1, .rwc, 0x0, false⟩,
  ⟨F.TL_TC01_TC1, 1, .rwc, 0x0, false⟩,
  ⟨F.TL_TC23_TC2, 1, .rwc, 0x0, false⟩,
  ⟨F.TL_TC23_TC3, 1, .rwc, 0x0, false⟩,
  ⟨F.TL_TREF_TREF, 1, .rwc, 0x190, false⟩,
  ⟨F.TL_TREF_W_GAIN, 1, .rwc, 0x1000, false⟩,
  ⟨F.TL_POWER_WPD, 1, .rwc, 0x0, false⟩,
  ⟨F.TL_POWER_IDLE, 1, .rwc, 0x0, false⟩,
  ⟨F.TL_DMAX_DMAX, 1, .rwc, 0xfffff, false⟩,
  ⟨F.TL_BUF_ASSUMED_KIB, 1, .rwc, 0x0, false⟩,
  ⟨F.TL_DECL_DECL_KIB, 1, .ro, 0x0, false⟩,
  ⟨F.TL_TEMP_T, 1, .ro, 0x0, false⟩,
  ⟨F.TL_GAIN01_G0, 1, .ro, 0x4000, false⟩,
  ⟨F.TL_GAIN01_G1, 1, .ro, 0x4000, false⟩,
  ⟨F.TL_GAIN23_G2, 1, .ro, 0x4000, false⟩]

/-- Rows 30 onward of block tile (R258). -/
def rows_tile_1 : List Row := [
  ⟨F.TL_GAIN23_G3, 1, .ro, 0x4000, false⟩,
  ⟨F.TL_STAT_TEMP_VALID, 1, .ro, 0x0, false⟩,
  ⟨F.TL_STAT_BUF_SHORT, 1, .ro, 0x0, false⟩,
  ⟨F.TL_STAT_DECLARED, 1, .ro, 0x0, false⟩,
  ⟨F.TL_STAT_ACTIVE, 1, .ro, 0x0, false⟩]

/-- The register table of block tile (R258). -/
def rows_tile : List Row := rows_tile_0 ++ rows_tile_1

/-! ### cor: R259 -/

def F.COR_CAP_SEAM_GROUPS : Fld := ⟨0x4, 0x0, 0, 8⟩
def F.COR_CAP_RESP_SETS : Fld := ⟨0x4, 0x0, 16, 9⟩
def F.COR_STAT_RESP_BANK : Fld := ⟨0xc, 0x0, 0, 1⟩
def F.COR_STAT_LOAD_BUSY : Fld := ⟨0xc, 0x0, 1, 1⟩
def F.COR_STAT_LOAD_ERR : Fld := ⟨0xc, 0x0, 2, 1⟩
def F.COR_REC_BASE_LO_BASE : Fld := ⟨0x100, 0x0, 12, 20⟩
def F.COR_REC_BASE_HI_BASE : Fld := ⟨0x104, 0x0, 0, 32⟩
def F.COR_REC_COUNT_COUNT : Fld := ⟨0x108, 0x0, 0, 27⟩
def F.COR_RESP_CFG_BANK : Fld := ⟨0x10c, 0x0, 0, 1⟩
def F.COR_RESP_SRC_LO_SRC : Fld := ⟨0x110, 0x0, 6, 26⟩
def F.COR_RESP_SRC_HI_SRC : Fld := ⟨0x114, 0x0, 0, 32⟩
def F.COR_RESP_LOAD_FIRST : Fld := ⟨0x118, 0x0, 0, 8⟩
def F.COR_RESP_LOAD_COUNT_M1 : Fld := ⟨0x118, 0x0, 8, 8⟩
def F.COR_RESP_LOAD_GO : Fld := ⟨0x118, 0x0, 31, 1⟩
def F.COR_PCAP_CAP_W : Fld := ⟨0x11c, 0x0, 0, 24⟩
def F.COR_PCAP_STAT_K : Fld := ⟨0x120, 0x0, 0, 16⟩
def F.COR_PCAP_STAT_LIMITING : Fld := ⟨0x120, 0x0, 31, 1⟩
def F.COR_PEST_P_EST : Fld := ⟨0x124, 0x0, 0, 24⟩
def F.COR_PFIX_P_FIX : Fld := ⟨0x128, 0x0, 0, 24⟩
def F.COR_SAT_CNT_SAT_CNT : Fld := ⟨0x12c, 0x0, 0, 32⟩
def F.COR_REC_CYCLE_LO_CYCLE : Fld := ⟨0x130, 0x0, 0, 32⟩
def F.COR_REC_CYCLE_HI_CYCLE : Fld := ⟨0x134, 0x0, 0, 32⟩
def F.COR_SEAM_01_S0 : Fld := ⟨0x200, 0x8, 0, 16⟩
def F.COR_SEAM_01_S1 : Fld := ⟨0x200, 0x8, 16, 16⟩
def F.COR_SEAM_23_S2 : Fld := ⟨0x204, 0x8, 0, 16⟩
def F.COR_SEAM_23_S3 : Fld := ⟨0x204, 0x8, 16, 16⟩

/-- Rows 0 onward of block cor (R259). -/
def rows_cor_0 : List Row := [
  ⟨F.COR_CAP_SEAM_GROUPS, 1, .ro, 0x80, false⟩,
  ⟨F.COR_CAP_RESP_SETS, 1, .ro, 0x100, false⟩,
  ⟨F.COR_STAT_RESP_BANK, 1, .ro, 0x0, false⟩,
  ⟨F.COR_STAT_LOAD_BUSY, 1, .ro, 0x0, false⟩,
  ⟨F.COR_STAT_LOAD_ERR, 1, .ro, 0x0, false⟩,
  ⟨F.COR_REC_BASE_LO_BASE, 1, .rwc, 0x0, false⟩,
  ⟨F.COR_REC_BASE_HI_BASE, 1, .rwc, 0x0, false⟩,
  ⟨F.COR_REC_COUNT_COUNT, 1, .rwc, 0x0, false⟩,
  ⟨F.COR_RESP_CFG_BANK, 1, .rwc, 0x0, false⟩,
  ⟨F.COR_RESP_SRC_LO_SRC, 1, .rw, 0x0, false⟩,
  ⟨F.COR_RESP_SRC_HI_SRC, 1, .rw, 0x0, false⟩,
  ⟨F.COR_RESP_LOAD_FIRST, 1, .wo, 0x0, false⟩,
  ⟨F.COR_RESP_LOAD_COUNT_M1, 1, .wo, 0x0, false⟩,
  ⟨F.COR_RESP_LOAD_GO, 1, .wo, 0x0, false⟩,
  ⟨F.COR_PCAP_CAP_W, 1, .rwc, 0x0, false⟩,
  ⟨F.COR_PCAP_STAT_K, 1, .ro, 0x8000, false⟩,
  ⟨F.COR_PCAP_STAT_LIMITING, 1, .ro, 0x0, false⟩,
  ⟨F.COR_PEST_P_EST, 1, .ro, 0x0, false⟩,
  ⟨F.COR_PFIX_P_FIX, 1, .ro, 0x0, false⟩,
  ⟨F.COR_SAT_CNT_SAT_CNT, 1, .ro, 0x0, false⟩,
  ⟨F.COR_REC_CYCLE_LO_CYCLE, 1, .ro, 0x0, false⟩,
  ⟨F.COR_REC_CYCLE_HI_CYCLE, 1, .ro, 0x0, false⟩,
  ⟨F.COR_SEAM_01_S0, 128, .rwc, 0x4000, false⟩,
  ⟨F.COR_SEAM_01_S1, 128, .rwc, 0x4000, false⟩,
  ⟨F.COR_SEAM_23_S2, 128, .rwc, 0x4000, false⟩,
  ⟨F.COR_SEAM_23_S3, 128, .rwc, 0x4000, false⟩]

/-- The register table of block cor (R259). -/
def rows_cor : List Row := rows_cor_0

/-! ### zone: R260 -/

def F.ZONE_CAP_ZONES : Fld := ⟨0x4, 0x0, 0, 9⟩
def F.ZONE_STAT_THROTTLED_N : Fld := ⟨0xc, 0x0, 0, 9⟩
def F.ZONE_STAT_BLANKED_N : Fld := ⟨0xc, 0x0, 16, 9⟩
def F.ZONE_THR_ZONE : Fld := ⟨0x100, 0x4, 0, 32⟩
def F.ZONE_BLANK_ZONE : Fld := ⟨0x120, 0x4, 0, 32⟩

/-- Rows 0 onward of block zone (R260). -/
def rows_zone_0 : List Row := [
  ⟨F.ZONE_CAP_ZONES, 1, .ro, 0x100, false⟩,
  ⟨F.ZONE_STAT_THROTTLED_N, 1, .ro, 0x0, false⟩,
  ⟨F.ZONE_STAT_BLANKED_N, 1, .ro, 0x0, false⟩,
  ⟨F.ZONE_THR_ZONE, 8, .ro, 0x0, false⟩,
  ⟨F.ZONE_BLANK_ZONE, 8, .ro, 0x0, false⟩]

/-- The register table of block zone (R260). -/
def rows_zone : List Row := rows_zone_0

/-! ### zn: R261 -/

def F.ZN_CFG_RISE : Fld := ⟨0x0, 0x0, 8, 8⟩
def F.ZN_CFG_SNUFFER : Fld := ⟨0x0, 0x0, 31, 1⟩
def F.ZN_CEIL_CEIL : Fld := ⟨0x4, 0x4, 0, 20⟩
def F.ZN_STAT_THROTTLE : Fld := ⟨0x14, 0x0, 0, 7⟩
def F.ZN_STAT_BLANKED : Fld := ⟨0x14, 0x0, 31, 1⟩
def F.ZN_EFF_EFF : Fld := ⟨0x18, 0x4, 0, 20⟩
def F.ZN_TILES_TILES : Fld := ⟨0x28, 0x0, 0, 13⟩

/-- Rows 0 onward of block zn (R261). -/
def rows_zn_0 : List Row := [
  ⟨F.ZN_CFG_RISE, 1, .rwc, 0x0, false⟩,
  ⟨F.ZN_CFG_SNUFFER, 1, .rwc, 0x0, false⟩,
  ⟨F.ZN_CEIL_CEIL, 4, .rwc, 0xfffff, false⟩,
  ⟨F.ZN_STAT_THROTTLE, 1, .ro, 0x40, false⟩,
  ⟨F.ZN_STAT_BLANKED, 1, .ro, 0x0, false⟩,
  ⟨F.ZN_EFF_EFF, 4, .ro, 0xfffff, false⟩,
  ⟨F.ZN_TILES_TILES, 1, .ro, 0x0, false⟩]

/-- The register table of block zn (R261). -/
def rows_zn : List Row := rows_zn_0

/-! ### wl: R347, R348 -/

def F.WL_CAP_MAX_POS : Fld := ⟨0x4, 0x0, 0, 7⟩
def F.WL_CTL_CLEAR : Fld := ⟨0x8, 0x0, 0, 1⟩
def F.WL_STAT_MISMATCH_N : Fld := ⟨0xc, 0x0, 9, 7⟩
def F.WL_STAT_ASSIGNED_N : Fld := ⟨0xc, 0x0, 16, 7⟩
def F.WL_STAT_PRESENT_N : Fld := ⟨0xc, 0x0, 23, 7⟩
def F.WL_STAT_SEC_ACTIVE : Fld := ⟨0xc, 0x0, 30, 1⟩
def F.WL_STAT_PRI_ACTIVE : Fld := ⟨0xc, 0x0, 31, 1⟩
def F.WL_CFG_SEC_LANE : Fld := ⟨0x100, 0x0, 9, 9⟩
def F.WL_CFG_PRI_LANE : Fld := ⟨0x100, 0x0, 18, 9⟩
def F.WL_CFG_WIDTH : Fld := ⟨0x100, 0x0, 28, 2⟩
def F.WL_CFG_RING : Fld := ⟨0x100, 0x0, 30, 1⟩
def F.WL_CFG_ENABLE : Fld := ⟨0x100, 0x0, 31, 1⟩
def F.WL_PRESENT_LO_POS : Fld := ⟨0x104, 0x0, 0, 32⟩
def F.WL_PRESENT_HI_POS : Fld := ⟨0x108, 0x0, 0, 32⟩
def F.WL_D_MEAS_D_NS : Fld := ⟨0x10c, 0x0, 0, 32⟩
def F.WL_USE_BYTES_BYTES : Fld := ⟨0x110, 0x0, 0, 32⟩
def F.WL_LIMIT_BYTES_BYTES : Fld := ⟨0x114, 0x0, 0, 32⟩
def F.WL_TX_PKT_CNT_TX_CNT : Fld := ⟨0x118, 0x0, 0, 32⟩
def F.WL_RX_PKT_CNT_RX_CNT : Fld := ⟨0x11c, 0x0, 0, 32⟩
def F.WL_CRC_ERR_CNT_CRC_CNT : Fld := ⟨0x120, 0x0, 0, 32⟩
def F.WL_FEC_CORR_CNT_CORR_CNT : Fld := ⟨0x124, 0x0, 0, 32⟩
def F.WL_FEC_UNCORR_CNT_UNCORR_CNT : Fld := ⟨0x128, 0x0, 0, 32⟩
def F.WL_LOOP_CNT_LOOP_CNT : Fld := ⟨0x12c, 0x0, 0, 32⟩
def F.WL_REPEAT_CNT_REPEAT_CNT : Fld := ⟨0x130, 0x0, 0, 32⟩
def F.POS_STAT_TILE : Fld := ⟨0x400, 0x20, 0, 13⟩
def F.POS_STAT_POS_CONFLICT : Fld := ⟨0x400, 0x20, 27, 1⟩
def F.POS_STAT_VIA_SEC : Fld := ⟨0x400, 0x20, 28, 1⟩
def F.POS_STAT_MISMATCH : Fld := ⟨0x400, 0x20, 29, 1⟩
def F.POS_STAT_ASSIGNED : Fld := ⟨0x400, 0x20, 30, 1⟩
def F.POS_STAT_PRESENT : Fld := ⟨0x400, 0x20, 31, 1⟩
def F.POS_ID0_PRODUCT : Fld := ⟨0x404, 0x20, 0, 16⟩
def F.POS_ID0_MAKER : Fld := ⟨0x404, 0x20, 16, 16⟩
def F.POS_ID1_FW_VERSION : Fld := ⟨0x408, 0x20, 0, 32⟩
def F.POS_GEOM_MIN_ON : Fld := ⟨0x40c, 0x20, 0, 10⟩
def F.POS_GEOM_L_M1 : Fld := ⟨0x40c, 0x20, 10, 2⟩
def F.POS_GEOM_TH_M1 : Fld := ⟨0x40c, 0x20, 12, 10⟩
def F.POS_GEOM_TW_M1 : Fld := ⟨0x40c, 0x20, 22, 10⟩
def F.POS_BUF_BUF_KIB : Fld := ⟨0x410, 0x20, 0, 24⟩
def F.POS_DELAY_A_DELAY : Fld := ⟨0x414, 0x20, 0, 32⟩
def F.POS_DELAY_B_DELAY : Fld := ⟨0x418, 0x20, 0, 32⟩
def F.POS_REPEAT_CNT_REPEAT_CNT : Fld := ⟨0x41c, 0x20, 0, 32⟩

/-- Rows 0 onward of block wl (R347, R348). -/
def rows_wl_0 : List Row := [
  ⟨F.WL_CAP_MAX_POS, 1, .ro, 0x40, false⟩,
  ⟨F.WL_CTL_CLEAR, 1, .wo, 0x0, false⟩,
  ⟨F.WL_STAT_MISMATCH_N, 1, .ro, 0x0, false⟩,
  ⟨F.WL_STAT_ASSIGNED_N, 1, .ro, 0x0, false⟩,
  ⟨F.WL_STAT_PRESENT_N, 1, .ro, 0x0, false⟩,
  ⟨F.WL_STAT_SEC_ACTIVE, 1, .ro, 0x0, false⟩,
  ⟨F.WL_STAT_PRI_ACTIVE, 1, .ro, 0x0, false⟩,
  ⟨F.WL_CFG_SEC_LANE, 1, .rwc, 0x0, false⟩,
  ⟨F.WL_CFG_PRI_LANE, 1, .rwc, 0x0, false⟩,
  ⟨F.WL_CFG_WIDTH, 1, .rwc, 0x0, false⟩,
  ⟨F.WL_CFG_RING, 1, .rwc, 0x0, false⟩,
  ⟨F.WL_CFG_ENABLE, 1, .rwc, 0x0, false⟩,
  ⟨F.WL_PRESENT_LO_POS, 1, .ro, 0x0, false⟩,
  ⟨F.WL_PRESENT_HI_POS, 1, .ro, 0x0, false⟩,
  ⟨F.WL_D_MEAS_D_NS, 1, .ro, 0x0, false⟩,
  ⟨F.WL_USE_BYTES_BYTES, 1, .ro, 0x0, false⟩,
  ⟨F.WL_LIMIT_BYTES_BYTES, 1, .ro, 0x0, false⟩,
  ⟨F.WL_TX_PKT_CNT_TX_CNT, 1, .ro, 0x0, false⟩,
  ⟨F.WL_RX_PKT_CNT_RX_CNT, 1, .ro, 0x0, false⟩,
  ⟨F.WL_CRC_ERR_CNT_CRC_CNT, 1, .ro, 0x0, false⟩,
  ⟨F.WL_FEC_CORR_CNT_CORR_CNT, 1, .ro, 0x0, false⟩,
  ⟨F.WL_FEC_UNCORR_CNT_UNCORR_CNT, 1, .ro, 0x0, false⟩,
  ⟨F.WL_LOOP_CNT_LOOP_CNT, 1, .ro, 0x0, false⟩,
  ⟨F.WL_REPEAT_CNT_REPEAT_CNT, 1, .ro, 0x0, false⟩,
  ⟨F.POS_STAT_TILE, 64, .ro, 0x1fff, false⟩,
  ⟨F.POS_STAT_POS_CONFLICT, 64, .ro, 0x0, false⟩,
  ⟨F.POS_STAT_VIA_SEC, 64, .ro, 0x0, false⟩,
  ⟨F.POS_STAT_MISMATCH, 64, .ro, 0x0, false⟩,
  ⟨F.POS_STAT_ASSIGNED, 64, .ro, 0x0, false⟩,
  ⟨F.POS_STAT_PRESENT, 64, .ro, 0x0, false⟩]

/-- Rows 30 onward of block wl (R347, R348). -/
def rows_wl_1 : List Row := [
  ⟨F.POS_ID0_PRODUCT, 64, .ro, 0x0, false⟩,
  ⟨F.POS_ID0_MAKER, 64, .ro, 0x0, false⟩,
  ⟨F.POS_ID1_FW_VERSION, 64, .ro, 0x0, false⟩,
  ⟨F.POS_GEOM_MIN_ON, 64, .ro, 0x0, false⟩,
  ⟨F.POS_GEOM_L_M1, 64, .ro, 0x0, false⟩,
  ⟨F.POS_GEOM_TH_M1, 64, .ro, 0x0, false⟩,
  ⟨F.POS_GEOM_TW_M1, 64, .ro, 0x0, false⟩,
  ⟨F.POS_BUF_BUF_KIB, 64, .ro, 0x0, false⟩,
  ⟨F.POS_DELAY_A_DELAY, 64, .ro, 0xffffffff, false⟩,
  ⟨F.POS_DELAY_B_DELAY, 64, .ro, 0xffffffff, false⟩,
  ⟨F.POS_REPEAT_CNT_REPEAT_CNT, 64, .ro, 0x0, false⟩]

/-- The register table of block wl (R347, R348). -/
def rows_wl : List Row := rows_wl_0 ++ rows_wl_1

/-! ### ser: R390, R391 -/

def F.SER_CAP_PLLS : Fld := ⟨0x4, 0x0, 0, 8⟩
def F.SER_CAP_LANES : Fld := ⟨0x4, 0x0, 8, 8⟩
def F.SER_STAT_LANE_PROV : Fld := ⟨0xc, 0x0, 0, 8⟩
def F.SER_STAT_LANE_ACTIVE : Fld := ⟨0xc, 0x0, 8, 8⟩
def F.SER_STAT_PLL_B_FREQ : Fld := ⟨0xc, 0x0, 20, 3⟩
def F.SER_STAT_PLL_A_FREQ : Fld := ⟨0xc, 0x0, 24, 3⟩
def F.SER_STAT_REF_OK : Fld := ⟨0xc, 0x0, 29, 1⟩
def F.SER_STAT_PLL_B_LOCK : Fld := ⟨0xc, 0x0, 30, 1⟩
def F.SER_STAT_PLL_A_LOCK : Fld := ⟨0xc, 0x0, 31, 1⟩
def F.SER_ACT_ACT : Fld := ⟨0x100, 0x0, 0, 7⟩
def F.SER_ACT_BUSY_RUN_MS : Fld := ⟨0x100, 0x0, 16, 16⟩
def F.SER_TEMP_TEMP : Fld := ⟨0x104, 0x0, 0, 16⟩
def F.LN_CFG_AMP : Fld := ⟨0x200, 0x80, 0, 4⟩
def F.LN_CFG_RX_INV : Fld := ⟨0x200, 0x80, 6, 1⟩
def F.LN_CFG_TX_INV : Fld := ⟨0x200, 0x80, 7, 1⟩
def F.LN_CFG_OPTICAL : Fld := ⟨0x200, 0x80, 8, 1⟩
def F.LN_STAT_OWNER : Fld := ⟨0x204, 0x80, 0, 9⟩
def F.LN_STAT_INDEX : Fld := ⟨0x204, 0x80, 16, 3⟩
def F.LN_STAT_STEP_PEND : Fld := ⟨0x204, 0x80, 19, 1⟩
def F.LN_STAT_CW_LOCK : Fld := ⟨0x204, 0x80, 20, 1⟩
def F.LN_STAT_SIGNAL : Fld := ⟨0x204, 0x80, 21, 1⟩
def F.LN_STAT_POL_DET : Fld := ⟨0x204, 0x80, 22, 1⟩
def F.LN_STAT_ROLE : Fld := ⟨0x204, 0x80, 25, 3⟩
def F.LN_STAT_STAGE : Fld := ⟨0x204, 0x80, 28, 4⟩
def F.LN_CMD_RETRAIN : Fld := ⟨0x208, 0x80, 0, 1⟩
def F.LN_CMD_REGATHER : Fld := ⟨0x208, 0x80, 1, 1⟩
def F.LN_TXFFE_PRE : Fld := ⟨0x20c, 0x80, 0, 5⟩
def F.LN_TXFFE_POST : Fld := ⟨0x20c, 0x80, 8, 5⟩
def F.LN_TXFFE_MAIN : Fld := ⟨0x20c, 0x80, 16, 7⟩
def F.LN_CTLE_PEAK : Fld := ⟨0x210, 0x80, 0, 5⟩
def F.LN_CTLE_VGA : Fld := ⟨0x210, 0x80, 8, 5⟩
def F.LN_DFE0_TAP1 : Fld := ⟨0x214, 0x80, 0, 8⟩
def F.LN_DFE0_TAP2 : Fld := ⟨0x214, 0x80, 8, 6⟩
def F.LN_DFE0_TAP3 : Fld := ⟨0x214, 0x80, 14, 6⟩
def F.LN_DFE0_TAP4 : Fld := ⟨0x214, 0x80, 20, 6⟩
def F.LN_DFE0_TAP5 : Fld := ⟨0x214, 0x80, 26, 6⟩
def F.LN_DFE1_TAP6 : Fld := ⟨0x218, 0x80, 0, 6⟩
def F.LN_DFE1_TAP7 : Fld := ⟨0x218, 0x80, 6, 6⟩
def F.LN_DFE1_TAP8 : Fld := ⟨0x218, 0x80, 12, 6⟩
def F.LN_DFE1_TAP9 : Fld := ⟨0x218, 0x80, 18, 6⟩
def F.LN_DFE1_TAP10 : Fld := ⟨0x218, 0x80, 24, 6⟩
def F.LN_DFE2_TAP11 : Fld := ⟨0x21c, 0x80, 0, 6⟩
def F.LN_DFE2_TAP12 : Fld := ⟨0x21c, 0x80, 6, 6⟩
def F.LN_OFFSET_OFS_L : Fld := ⟨0x220, 0x80, 0, 8⟩
def F.LN_OFFSET_OFS_M : Fld := ⟨0x220, 0x80, 8, 8⟩
def F.LN_OFFSET_OFS_U : Fld := ⟨0x220, 0x80, 16, 8⟩
def F.LN_OFFSET_OFS_E : Fld := ⟨0x220, 0x80, 24, 8⟩
def F.LN_THRESH_TH_L : Fld := ⟨0x224, 0x80, 0, 8⟩
def F.LN_THRESH_TH_M : Fld := ⟨0x224, 0x80, 8, 8⟩
def F.LN_THRESH_TH_U : Fld := ⟨0x224, 0x80, 16, 8⟩
def F.LN_REMOTE_DPRE : Fld := ⟨0x228, 0x80, 0, 6⟩
def F.LN_REMOTE_DPOST : Fld := ⟨0x228, 0x80, 8, 6⟩
def F.LN_REMOTE_RP_PRESET : Fld := ⟨0x228, 0x80, 16, 2⟩
def F.LN_META_TEMP : Fld := ⟨0x22c, 0x80, 0, 16⟩
def F.LN_META_ACT : Fld := ⟨0x22c, 0x80, 16, 7⟩
def F.LN_META_SOURCE : Fld := ⟨0x22c, 0x80, 28, 2⟩
def F.LN_META_PROVISIONAL : Fld := ⟨0x22c, 0x80, 31, 1⟩
def F.LN_PSET_TXFFE_PRE : Fld := ⟨0x230, 0x80, 0, 5⟩
def F.LN_PSET_TXFFE_POST : Fld := ⟨0x230, 0x80, 8, 5⟩
def F.LN_PSET_TXFFE_MAIN : Fld := ⟨0x230, 0x80, 16, 7⟩
def F.LN_PSET_CTLE_PEAK : Fld := ⟨0x234, 0x80, 0, 5⟩
def F.LN_PSET_CTLE_VGA : Fld := ⟨0x234, 0x80, 8, 5⟩
def F.LN_PSET_DFE0_TAP1 : Fld := ⟨0x238, 0x80, 0, 8⟩
def F.LN_PSET_DFE0_TAP2 : Fld := ⟨0x238, 0x80, 8, 6⟩
def F.LN_PSET_DFE0_TAP3 : Fld := ⟨0x238, 0x80, 14, 6⟩
def F.LN_PSET_DFE0_TAP4 : Fld := ⟨0x238, 0x80, 20, 6⟩
def F.LN_PSET_DFE0_TAP5 : Fld := ⟨0x238, 0x80, 26, 6⟩
def F.LN_PSET_DFE1_TAP6 : Fld := ⟨0x23c, 0x80, 0, 6⟩
def F.LN_PSET_DFE1_TAP7 : Fld := ⟨0x23c, 0x80, 6, 6⟩
def F.LN_PSET_DFE1_TAP8 : Fld := ⟨0x23c, 0x80, 12, 6⟩
def F.LN_PSET_DFE1_TAP9 : Fld := ⟨0x23c, 0x80, 18, 6⟩
def F.LN_PSET_DFE1_TAP10 : Fld := ⟨0x23c, 0x80, 24, 6⟩
def F.LN_PSET_DFE2_TAP11 : Fld := ⟨0x240, 0x80, 0, 6⟩
def F.LN_PSET_DFE2_TAP12 : Fld := ⟨0x240, 0x80, 6, 6⟩
def F.LN_PSET_OFFSET_OFS_L : Fld := ⟨0x244, 0x80, 0, 8⟩
def F.LN_PSET_OFFSET_OFS_M : Fld := ⟨0x244, 0x80, 8, 8⟩
def F.LN_PSET_OFFSET_OFS_U : Fld := ⟨0x244, 0x80, 16, 8⟩
def F.LN_PSET_OFFSET_OFS_E : Fld := ⟨0x244, 0x80, 24, 8⟩
def F.LN_PSET_THRESH_TH_L : Fld := ⟨0x248, 0x80, 0, 8⟩
def F.LN_PSET_THRESH_TH_M : Fld := ⟨0x248, 0x80, 8, 8⟩
def F.LN_PSET_THRESH_TH_U : Fld := ⟨0x248, 0x80, 16, 8⟩
def F.LN_PSET_REMOTE_DPRE : Fld := ⟨0x24c, 0x80, 0, 6⟩
def F.LN_PSET_REMOTE_DPOST : Fld := ⟨0x24c, 0x80, 8, 6⟩
def F.LN_PSET_REMOTE_RP_PRESET : Fld := ⟨0x24c, 0x80, 16, 2⟩
def F.LN_PSET_META_TEMP : Fld := ⟨0x250, 0x80, 0, 16⟩
def F.LN_PSET_META_ACT : Fld := ⟨0x250, 0x80, 16, 7⟩
def F.LN_PSET_META_SOURCE : Fld := ⟨0x250, 0x80, 28, 2⟩
def F.LN_PSET_META_PROVISIONAL : Fld := ⟨0x250, 0x80, 31, 1⟩
def F.LN_TEST_PATTERN : Fld := ⟨0x254, 0x80, 20, 4⟩
def F.LN_TEST_RATE : Fld := ⟨0x254, 0x80, 24, 3⟩
def F.LN_TEST_LOOP : Fld := ⟨0x254, 0x80, 27, 3⟩
def F.LN_TEST_CHECK_EN : Fld := ⟨0x254, 0x80, 30, 1⟩
def F.LN_TEST_EN : Fld := ⟨0x254, 0x80, 31, 1⟩
def F.LN_TEST_USER_LO_USER : Fld := ⟨0x258, 0x80, 0, 32⟩
def F.LN_TEST_USER_HI_USER : Fld := ⟨0x25c, 0x80, 0, 32⟩
def F.LN_TEST_STAT_TEST_ERR : Fld := ⟨0x260, 0x80, 30, 1⟩
def F.LN_TEST_STAT_SYNC : Fld := ⟨0x260, 0x80, 31, 1⟩
def F.LN_TEST_ERR_CNT_ERR_CNT : Fld := ⟨0x264, 0x80, 0, 32⟩
def F.LN_TEST_BITS_CNT_BITS_CNT : Fld := ⟨0x268, 0x80, 0, 32⟩
def F.LN_EYE_EH_L : Fld := ⟨0x26c, 0x80, 0, 8⟩
def F.LN_EYE_EH_M : Fld := ⟨0x26c, 0x80, 8, 8⟩
def F.LN_EYE_EH_U : Fld := ⟨0x26c, 0x80, 16, 8⟩
def F.LN_CORR_CNT_CORR_CNT : Fld := ⟨0x270, 0x80, 0, 32⟩
def F.LN_FAIL_FAIL_CNT : Fld := ⟨0x274, 0x80, 0, 24⟩
def F.LN_FAIL_LAST_FAIL : Fld := ⟨0x274, 0x80, 28, 4⟩
def F.LN_TRIM_CNT_NOFILL_CNT : Fld := ⟨0x278, 0x80, 0, 16⟩
def F.LN_TRIM_CNT_REVERT_CNT : Fld := ⟨0x278, 0x80, 16, 16⟩

/-- Rows 0 onward of block ser (R390, R391). -/
def rows_ser_0 : List Row := [
  ⟨F.SER_CAP_PLLS, 1, .ro, 0x2, false⟩,
  ⟨F.SER_CAP_LANES, 1, .ro, 0x8, false⟩,
  ⟨F.SER_STAT_LANE_PROV, 1, .ro, 0x0, false⟩,
  ⟨F.SER_STAT_LANE_ACTIVE, 1, .ro, 0x0, false⟩,
  ⟨F.SER_STAT_PLL_B_FREQ, 1, .ro, 0x0, false⟩,
  ⟨F.SER_STAT_PLL_A_FREQ, 1, .ro, 0x0, false⟩,
  ⟨F.SER_STAT_REF_OK, 1, .ro, 0x0, false⟩,
  ⟨F.SER_STAT_PLL_B_LOCK, 1, .ro, 0x0, false⟩,
  ⟨F.SER_STAT_PLL_A_LOCK, 1, .ro, 0x0, false⟩,
  ⟨F.SER_ACT_ACT, 1, .ro, 0x0, false⟩,
  ⟨F.SER_ACT_BUSY_RUN_MS, 1, .ro, 0x0, false⟩,
  ⟨F.SER_TEMP_TEMP, 1, .ro, 0x0, false⟩,
  ⟨F.LN_CFG_AMP, 8, .rw, 0x8, false⟩,
  ⟨F.LN_CFG_RX_INV, 8, .rw, 0x0, false⟩,
  ⟨F.LN_CFG_TX_INV, 8, .rw, 0x0, false⟩,
  ⟨F.LN_CFG_OPTICAL, 8, .rw, 0x0, false⟩,
  ⟨F.LN_STAT_OWNER, 8, .ro, 0x0, false⟩,
  ⟨F.LN_STAT_INDEX, 8, .ro, 0x0, false⟩,
  ⟨F.LN_STAT_STEP_PEND, 8, .ro, 0x0, false⟩,
  ⟨F.LN_STAT_CW_LOCK, 8, .ro, 0x0, false⟩,
  ⟨F.LN_STAT_SIGNAL, 8, .ro, 0x0, false⟩,
  ⟨F.LN_STAT_POL_DET, 8, .ro, 0x0, false⟩,
  ⟨F.LN_STAT_ROLE, 8, .ro, 0x0, false⟩,
  ⟨F.LN_STAT_STAGE, 8, .ro, 0x0, false⟩,
  ⟨F.LN_CMD_RETRAIN, 8, .wo, 0x0, false⟩,
  ⟨F.LN_CMD_REGATHER, 8, .wo, 0x0, false⟩,
  ⟨F.LN_TXFFE_PRE, 8, .ro, 0x0, false⟩,
  ⟨F.LN_TXFFE_POST, 8, .ro, 0x0, false⟩,
  ⟨F.LN_TXFFE_MAIN, 8, .ro, 0x40, false⟩,
  ⟨F.LN_CTLE_PEAK, 8, .ro, 0x8, false⟩]

/-- Rows 30 onward of block ser (R390, R391). -/
def rows_ser_1 : List Row := [
  ⟨F.LN_CTLE_VGA, 8, .ro, 0xc, false⟩,
  ⟨F.LN_DFE0_TAP1, 8, .ro, 0x0, false⟩,
  ⟨F.LN_DFE0_TAP2, 8, .ro, 0x0, false⟩,
  ⟨F.LN_DFE0_TAP3, 8, .ro, 0x0, false⟩,
  ⟨F.LN_DFE0_TAP4, 8, .ro, 0x0, false⟩,
  ⟨F.LN_DFE0_TAP5, 8, .ro, 0x0, false⟩,
  ⟨F.LN_DFE1_TAP6, 8, .ro, 0x0, false⟩,
  ⟨F.LN_DFE1_TAP7, 8, .ro, 0x0, false⟩,
  ⟨F.LN_DFE1_TAP8, 8, .ro, 0x0, false⟩,
  ⟨F.LN_DFE1_TAP9, 8, .ro, 0x0, false⟩,
  ⟨F.LN_DFE1_TAP10, 8, .ro, 0x0, false⟩,
  ⟨F.LN_DFE2_TAP11, 8, .ro, 0x0, false⟩,
  ⟨F.LN_DFE2_TAP12, 8, .ro, 0x0, false⟩,
  ⟨F.LN_OFFSET_OFS_L, 8, .ro, 0x0, false⟩,
  ⟨F.LN_OFFSET_OFS_M, 8, .ro, 0x0, false⟩,
  ⟨F.LN_OFFSET_OFS_U, 8, .ro, 0x0, false⟩,
  ⟨F.LN_OFFSET_OFS_E, 8, .ro, 0x0, false⟩,
  ⟨F.LN_THRESH_TH_L, 8, .ro, 0x0, false⟩,
  ⟨F.LN_THRESH_TH_M, 8, .ro, 0x0, false⟩,
  ⟨F.LN_THRESH_TH_U, 8, .ro, 0x0, false⟩,
  ⟨F.LN_REMOTE_DPRE, 8, .ro, 0x0, false⟩,
  ⟨F.LN_REMOTE_DPOST, 8, .ro, 0x0, false⟩,
  ⟨F.LN_REMOTE_RP_PRESET, 8, .ro, 0x1, false⟩,
  ⟨F.LN_META_TEMP, 8, .ro, 0x0, false⟩,
  ⟨F.LN_META_ACT, 8, .ro, 0x0, false⟩,
  ⟨F.LN_META_SOURCE, 8, .ro, 0x0, false⟩,
  ⟨F.LN_META_PROVISIONAL, 8, .ro, 0x0, false⟩,
  ⟨F.LN_PSET_TXFFE_PRE, 8, .rw, 0x0, false⟩,
  ⟨F.LN_PSET_TXFFE_POST, 8, .rw, 0x0, false⟩,
  ⟨F.LN_PSET_TXFFE_MAIN, 8, .rw, 0x0, false⟩]

/-- Rows 60 onward of block ser (R390, R391). -/
def rows_ser_2 : List Row := [
  ⟨F.LN_PSET_CTLE_PEAK, 8, .rw, 0x0, false⟩,
  ⟨F.LN_PSET_CTLE_VGA, 8, .rw, 0x0, false⟩,
  ⟨F.LN_PSET_DFE0_TAP1, 8, .rw, 0x0, false⟩,
  ⟨F.LN_PSET_DFE0_TAP2, 8, .rw, 0x0, false⟩,
  ⟨F.LN_PSET_DFE0_TAP3, 8, .rw, 0x0, false⟩,
  ⟨F.LN_PSET_DFE0_TAP4, 8, .rw, 0x0, false⟩,
  ⟨F.LN_PSET_DFE0_TAP5, 8, .rw, 0x0, false⟩,
  ⟨F.LN_PSET_DFE1_TAP6, 8, .rw, 0x0, false⟩,
  ⟨F.LN_PSET_DFE1_TAP7, 8, .rw, 0x0, false⟩,
  ⟨F.LN_PSET_DFE1_TAP8, 8, .rw, 0x0, false⟩,
  ⟨F.LN_PSET_DFE1_TAP9, 8, .rw, 0x0, false⟩,
  ⟨F.LN_PSET_DFE1_TAP10, 8, .rw, 0x0, false⟩,
  ⟨F.LN_PSET_DFE2_TAP11, 8, .rw, 0x0, false⟩,
  ⟨F.LN_PSET_DFE2_TAP12, 8, .rw, 0x0, false⟩,
  ⟨F.LN_PSET_OFFSET_OFS_L, 8, .rw, 0x0, false⟩,
  ⟨F.LN_PSET_OFFSET_OFS_M, 8, .rw, 0x0, false⟩,
  ⟨F.LN_PSET_OFFSET_OFS_U, 8, .rw, 0x0, false⟩,
  ⟨F.LN_PSET_OFFSET_OFS_E, 8, .rw, 0x0, false⟩,
  ⟨F.LN_PSET_THRESH_TH_L, 8, .rw, 0x0, false⟩,
  ⟨F.LN_PSET_THRESH_TH_M, 8, .rw, 0x0, false⟩,
  ⟨F.LN_PSET_THRESH_TH_U, 8, .rw, 0x0, false⟩,
  ⟨F.LN_PSET_REMOTE_DPRE, 8, .rw, 0x0, false⟩,
  ⟨F.LN_PSET_REMOTE_DPOST, 8, .rw, 0x0, false⟩,
  ⟨F.LN_PSET_REMOTE_RP_PRESET, 8, .rw, 0x0, false⟩,
  ⟨F.LN_PSET_META_TEMP, 8, .rw, 0x0, false⟩,
  ⟨F.LN_PSET_META_ACT, 8, .rw, 0x0, false⟩,
  ⟨F.LN_PSET_META_SOURCE, 8, .rw, 0x0, false⟩,
  ⟨F.LN_PSET_META_PROVISIONAL, 8, .rw, 0x0, false⟩,
  ⟨F.LN_TEST_PATTERN, 8, .rw, 0x0, false⟩,
  ⟨F.LN_TEST_RATE, 8, .rw, 0x1, false⟩]

/-- Rows 90 onward of block ser (R390, R391). -/
def rows_ser_3 : List Row := [
  ⟨F.LN_TEST_LOOP, 8, .rw, 0x0, false⟩,
  ⟨F.LN_TEST_CHECK_EN, 8, .rw, 0x0, false⟩,
  ⟨F.LN_TEST_EN, 8, .rw, 0x0, false⟩,
  ⟨F.LN_TEST_USER_LO_USER, 8, .rw, 0x0, false⟩,
  ⟨F.LN_TEST_USER_HI_USER, 8, .rw, 0x0, false⟩,
  ⟨F.LN_TEST_STAT_TEST_ERR, 8, .ro, 0x0, false⟩,
  ⟨F.LN_TEST_STAT_SYNC, 8, .ro, 0x0, false⟩,
  ⟨F.LN_TEST_ERR_CNT_ERR_CNT, 8, .ro, 0x0, false⟩,
  ⟨F.LN_TEST_BITS_CNT_BITS_CNT, 8, .ro, 0x0, false⟩,
  ⟨F.LN_EYE_EH_L, 8, .ro, 0x0, false⟩,
  ⟨F.LN_EYE_EH_M, 8, .ro, 0x0, false⟩,
  ⟨F.LN_EYE_EH_U, 8, .ro, 0x0, false⟩,
  ⟨F.LN_CORR_CNT_CORR_CNT, 8, .ro, 0x0, false⟩,
  ⟨F.LN_FAIL_FAIL_CNT, 8, .ro, 0x0, false⟩,
  ⟨F.LN_FAIL_LAST_FAIL, 8, .ro, 0x0, false⟩,
  ⟨F.LN_TRIM_CNT_NOFILL_CNT, 8, .ro, 0x0, false⟩,
  ⟨F.LN_TRIM_CNT_REVERT_CNT, 8, .ro, 0x0, false⟩]

/-- The register table of block ser (R390, R391). -/
def rows_ser : List Row := rows_ser_0 ++ rows_ser_1 ++ rows_ser_2 ++ rows_ser_3

/-! ### time: R421, R422, R423, R424 -/

def F.TIME_CAP_PORTS : Fld := ⟨0x4, 0x0, 8, 8⟩
def F.TIME_CAP_TCAPS : Fld := ⟨0x4, 0x0, 16, 8⟩
def F.TIME_CAP_TOUTS : Fld := ⟨0x4, 0x0, 24, 8⟩
def F.TIME_STAT_SYNC_STATE : Fld := ⟨0xc, 0x0, 0, 4⟩
def F.TIME_STAT_MASTER_PORT : Fld := ⟨0xc, 0x0, 4, 3⟩
def F.TIME_STAT_MASTER_VALID : Fld := ⟨0xc, 0x0, 7, 1⟩
def F.TIME_STAT_STEP_GEN : Fld := ⟨0xc, 0x0, 8, 4⟩
def F.TIME_STAT_STEP_SCHED : Fld := ⟨0xc, 0x0, 12, 1⟩
def F.TIME_CFG_ANN_TIMEOUT : Fld := ⟨0x100, 0x0, 4, 4⟩
def F.TIME_CFG_DOMAIN : Fld := ⟨0x100, 0x0, 8, 8⟩
def F.TIME_CFG_PPS_MODE : Fld := ⟨0x100, 0x0, 25, 2⟩
def F.TIME_CFG_AUTO_FIRST : Fld := ⟨0x100, 0x0, 27, 1⟩
def F.TIME_CFG_TCAP_PPS : Fld := ⟨0x100, 0x0, 28, 2⟩
def F.TIME_CFG_SYNC_SRC : Fld := ⟨0x100, 0x0, 30, 2⟩
def F.TIME_STEP_THR_THR_NS : Fld := ⟨0x104, 0x0, 0, 32⟩
def F.TIME_LOCK_LOCK_NS : Fld := ⟨0x108, 0x0, 0, 16⟩
def F.TIME_PPS_WIDTH_US : Fld := ⟨0x10c, 0x0, 0, 20⟩
def F.TIME_NOW_LO_NS : Fld := ⟨0x110, 0x0, 0, 32⟩
def F.TIME_NOW_HI_NS : Fld := ⟨0x114, 0x0, 0, 32⟩
def F.TIME_NOW_FRAC_FRAC : Fld := ⟨0x118, 0x0, 0, 16⟩
def F.TIME_FREE_LO_COUNT : Fld := ⟨0x11c, 0x0, 0, 32⟩
def F.TIME_FREE_HI_COUNT : Fld := ⟨0x120, 0x0, 0, 32⟩
def F.TIME_OFS_LO_NS : Fld := ⟨0x124, 0x0, 0, 32⟩
def F.TIME_OFS_HI_NS : Fld := ⟨0x128, 0x0, 0, 32⟩
def F.TIME_OFS_FRAC_FRAC : Fld := ⟨0x12c, 0x0, 0, 16⟩
def F.TIME_ANCHOR_LO_COUNT : Fld := ⟨0x130, 0x0, 0, 32⟩
def F.TIME_ANCHOR_HI_COUNT : Fld := ⟨0x134, 0x0, 0, 32⟩
def F.TIME_RATE_LO_RATE : Fld := ⟨0x138, 0x0, 0, 32⟩
def F.TIME_RATE_HI_RATE : Fld := ⟨0x13c, 0x0, 0, 8⟩
def F.TIME_RATE_HI_SIGN : Fld := ⟨0x13c, 0x0, 8, 24⟩
def F.TIME_STEP_PEND_LO_NS : Fld := ⟨0x140, 0x0, 0, 32⟩
def F.TIME_STEP_PEND_HI_NS : Fld := ⟨0x144, 0x0, 0, 32⟩
def F.TIME_STEP_VAL_LO_NS : Fld := ⟨0x148, 0x0, 0, 32⟩
def F.TIME_STEP_VAL_HI_NS : Fld := ⟨0x14c, 0x0, 0, 32⟩
def F.TIME_STEP_CTL_OP : Fld := ⟨0x150, 0x0, 0, 2⟩
def F.TIME_STEP_CTL_KEY : Fld := ⟨0x150, 0x0, 16, 16⟩
def F.TIME_STEP_STAT_REFUSED_CNT : Fld := ⟨0x154, 0x0, 0, 16⟩
def F.TIME_STEP_STAT_PEND_VALID : Fld := ⟨0x154, 0x0, 31, 1⟩
def F.TIME_STEP_LAST_LO_NS : Fld := ⟨0x158, 0x0, 0, 32⟩
def F.TIME_STEP_LAST_HI_NS : Fld := ⟨0x15c, 0x0, 0, 32⟩
def F.TIME_THETA_THETA : Fld := ⟨0x160, 0x0, 0, 32⟩
def F.TIME_MPD_MPD : Fld := ⟨0x164, 0x0, 0, 32⟩
def F.TIME_MASTER_ID_LO_ID : Fld := ⟨0x168, 0x0, 0, 32⟩
def F.TIME_MASTER_ID_HI_ID : Fld := ⟨0x16c, 0x0, 0, 32⟩
def F.TIME_MASTER_PORT_PORT_NUM : Fld := ⟨0x170, 0x0, 0, 16⟩
def F.TIME_MASTER_PORT_ETH : Fld := ⟨0x170, 0x0, 16, 3⟩
def F.TIME_UTC_UTC_OFS : Fld := ⟨0x174, 0x0, 0, 16⟩
def F.TIME_UTC_LI_59 : Fld := ⟨0x174, 0x0, 29, 1⟩
def F.TIME_UTC_LI_61 : Fld := ⟨0x174, 0x0, 30, 1⟩
def F.TIME_UTC_VALID : Fld := ⟨0x174, 0x0, 31, 1⟩
def F.TIME_SYNC_CNT_SYNC_CNT : Fld := ⟨0x180, 0x0, 0, 32⟩
def F.TIME_DROP_CNT_DROP_CNT : Fld := ⟨0x184, 0x0, 0, 32⟩
def F.TIME_ANN_CNT_ANN_CNT : Fld := ⟨0x188, 0x0, 0, 32⟩
def F.TIME_TC_FWD_CNT_FWD_CNT : Fld := ⟨0x18c, 0x0, 0, 32⟩
def F.TIME_TC_DROP_CNT_TC_DROP_CNT : Fld := ⟨0x190, 0x0, 0, 32⟩
def F.TPORT_CFG_TC_FWD : Fld := ⟨0x200, 0x10, 0, 8⟩
def F.TPORT_CFG_DREQ_UNICAST : Fld := ⟨0x200, 0x10, 28, 1⟩
def F.TPORT_CFG_TRANSPORT : Fld := ⟨0x200, 0x10, 29, 2⟩
def F.TPORT_CFG_PTP_EN : Fld := ⟨0x200, 0x10, 31, 1⟩
def F.TPORT_TX_DLY_TX_DLY : Fld := ⟨0x204, 0x10, 0, 24⟩
def F.TPORT_RX_DLY_RX_DLY : Fld := ⟨0x208, 0x10, 0, 24⟩
def F.TOUT_CFG_PHASE_C : Fld := ⟨0x400, 0x20, 0, 8⟩
def F.TOUT_CFG_EVERY_M1 : Fld := ⟨0x400, 0x20, 8, 8⟩
def F.TOUT_CFG_CFG_ERR : Fld := ⟨0x400, 0x20, 25, 1⟩
def F.TOUT_CFG_MISSED : Fld := ⟨0x400, 0x20, 26, 1⟩
def F.TOUT_CFG_POL : Fld := ⟨0x400, 0x20, 27, 1⟩
def F.TOUT_CFG_MODE : Fld := ⟨0x400, 0x20, 28, 2⟩
def F.TOUT_CFG_DISARM : Fld := ⟨0x400, 0x20, 30, 1⟩
def F.TOUT_CFG_ARM : Fld := ⟨0x400, 0x20, 31, 1⟩
def F.TOUT_T0_LO_T0 : Fld := ⟨0x404, 0x20, 0, 32⟩
def F.TOUT_T0_HI_T0 : Fld := ⟨0x408, 0x20, 0, 32⟩
def F.TOUT_PERIOD_PERIOD : Fld := ⟨0x40c, 0x20, 0, 32⟩
def F.TOUT_PERIOD_FRAC_FRAC : Fld := ⟨0x410, 0x20, 0, 16⟩
def F.TOUT_WIDTH_WIDTH : Fld := ⟨0x414, 0x20, 0, 32⟩
def F.TOUT_OFS_OFS : Fld := ⟨0x418, 0x20, 0, 32⟩
def F.TOUT_NEXT_NS : Fld := ⟨0x41c, 0x20, 0, 32⟩
def F.TCAP_CFG_EDGE : Fld := ⟨0x600, 0x10, 29, 2⟩
def F.TCAP_CFG_EN : Fld := ⟨0x600, 0x10, 31, 1⟩
def F.TCAP_TS_LO_NS : Fld := ⟨0x604, 0x10, 0, 32⟩
def F.TCAP_TS_HI_NS : Fld := ⟨0x608, 0x10, 0, 32⟩
def F.TCAP_INFO_DROP_CNT : Fld := ⟨0x60c, 0x10, 0, 16⟩
def F.TCAP_INFO_LEVEL : Fld := ⟨0x60c, 0x10, 16, 5⟩
def F.TCAP_INFO_STEP_GEN : Fld := ⟨0x60c, 0x10, 24, 4⟩
def F.TCAP_INFO_OVF : Fld := ⟨0x60c, 0x10, 29, 1⟩
def F.TCAP_INFO_RISING : Fld := ⟨0x60c, 0x10, 30, 1⟩
def F.TCAP_INFO_VALID : Fld := ⟨0x60c, 0x10, 31, 1⟩

/-- Rows 0 onward of block time (R421, R422, R423, R424). -/
def rows_time_0 : List Row := [
  ⟨F.TIME_CAP_PORTS, 1, .ro, 0x8, false⟩,
  ⟨F.TIME_CAP_TCAPS, 1, .ro, 0x4, false⟩,
  ⟨F.TIME_CAP_TOUTS, 1, .ro, 0x10, false⟩,
  ⟨F.TIME_STAT_SYNC_STATE, 1, .ro, 0x0, false⟩,
  ⟨F.TIME_STAT_MASTER_PORT, 1, .ro, 0x0, false⟩,
  ⟨F.TIME_STAT_MASTER_VALID, 1, .ro, 0x0, false⟩,
  ⟨F.TIME_STAT_STEP_GEN, 1, .ro, 0x0, true⟩,
  ⟨F.TIME_STAT_STEP_SCHED, 1, .ro, 0x0, false⟩,
  ⟨F.TIME_CFG_ANN_TIMEOUT, 1, .rw, 0x3, false⟩,
  ⟨F.TIME_CFG_DOMAIN, 1, .rw, 0x7f, false⟩,
  ⟨F.TIME_CFG_PPS_MODE, 1, .rw, 0x2, false⟩,
  ⟨F.TIME_CFG_AUTO_FIRST, 1, .rw, 0x1, false⟩,
  ⟨F.TIME_CFG_TCAP_PPS, 1, .rw, 0x0, false⟩,
  ⟨F.TIME_CFG_SYNC_SRC, 1, .rw, 0x0, false⟩,
  ⟨F.TIME_STEP_THR_THR_NS, 1, .rw, 0x3e8, false⟩,
  ⟨F.TIME_LOCK_LOCK_NS, 1, .rw, 0x64, false⟩,
  ⟨F.TIME_PPS_WIDTH_US, 1, .rw, 0x2710, false⟩,
  ⟨F.TIME_NOW_LO_NS, 1, .ro, 0x0, false⟩,
  ⟨F.TIME_NOW_HI_NS, 1, .ro, 0x0, false⟩,
  ⟨F.TIME_NOW_FRAC_FRAC, 1, .ro, 0x0, false⟩,
  ⟨F.TIME_FREE_LO_COUNT, 1, .ro, 0x0, false⟩,
  ⟨F.TIME_FREE_HI_COUNT, 1, .ro, 0x0, false⟩,
  ⟨F.TIME_OFS_LO_NS, 1, .ro, 0x0, false⟩,
  ⟨F.TIME_OFS_HI_NS, 1, .ro, 0x0, false⟩,
  ⟨F.TIME_OFS_FRAC_FRAC, 1, .ro, 0x0, false⟩,
  ⟨F.TIME_ANCHOR_LO_COUNT, 1, .ro, 0x0, false⟩,
  ⟨F.TIME_ANCHOR_HI_COUNT, 1, .ro, 0x0, false⟩,
  ⟨F.TIME_RATE_LO_RATE, 1, .rw, 0x0, true⟩,
  ⟨F.TIME_RATE_HI_RATE, 1, .rw, 0x0, true⟩,
  ⟨F.TIME_RATE_HI_SIGN, 1, .ro, 0x0, true⟩]

/-- Rows 30 onward of block time (R421, R422, R423, R424). -/
def rows_time_1 : List Row := [
  ⟨F.TIME_STEP_PEND_LO_NS, 1, .ro, 0x0, false⟩,
  ⟨F.TIME_STEP_PEND_HI_NS, 1, .ro, 0x0, false⟩,
  ⟨F.TIME_STEP_VAL_LO_NS, 1, .rw, 0x0, false⟩,
  ⟨F.TIME_STEP_VAL_HI_NS, 1, .rw, 0x0, false⟩,
  ⟨F.TIME_STEP_CTL_OP, 1, .wo, 0x0, false⟩,
  ⟨F.TIME_STEP_CTL_KEY, 1, .wo, 0x0, false⟩,
  ⟨F.TIME_STEP_STAT_REFUSED_CNT, 1, .ro, 0x0, false⟩,
  ⟨F.TIME_STEP_STAT_PEND_VALID, 1, .ro, 0x0, false⟩,
  ⟨F.TIME_STEP_LAST_LO_NS, 1, .ro, 0x0, true⟩,
  ⟨F.TIME_STEP_LAST_HI_NS, 1, .ro, 0x0, true⟩,
  ⟨F.TIME_THETA_THETA, 1, .ro, 0x0, false⟩,
  ⟨F.TIME_MPD_MPD, 1, .ro, 0x0, false⟩,
  ⟨F.TIME_MASTER_ID_LO_ID, 1, .ro, 0x0, false⟩,
  ⟨F.TIME_MASTER_ID_HI_ID, 1, .ro, 0x0, false⟩,
  ⟨F.TIME_MASTER_PORT_PORT_NUM, 1, .ro, 0x0, false⟩,
  ⟨F.TIME_MASTER_PORT_ETH, 1, .ro, 0x0, false⟩,
  ⟨F.TIME_UTC_UTC_OFS, 1, .ro, 0x0, false⟩,
  ⟨F.TIME_UTC_LI_59, 1, .ro, 0x0, false⟩,
  ⟨F.TIME_UTC_LI_61, 1, .ro, 0x0, false⟩,
  ⟨F.TIME_UTC_VALID, 1, .ro, 0x0, false⟩,
  ⟨F.TIME_SYNC_CNT_SYNC_CNT, 1, .ro, 0x0, false⟩,
  ⟨F.TIME_DROP_CNT_DROP_CNT, 1, .ro, 0x0, false⟩,
  ⟨F.TIME_ANN_CNT_ANN_CNT, 1, .ro, 0x0, false⟩,
  ⟨F.TIME_TC_FWD_CNT_FWD_CNT, 1, .ro, 0x0, false⟩,
  ⟨F.TIME_TC_DROP_CNT_TC_DROP_CNT, 1, .ro, 0x0, false⟩,
  ⟨F.TPORT_CFG_TC_FWD, 8, .rw, 0x0, false⟩,
  ⟨F.TPORT_CFG_DREQ_UNICAST, 8, .rw, 0x0, false⟩,
  ⟨F.TPORT_CFG_TRANSPORT, 8, .rw, 0x0, false⟩,
  ⟨F.TPORT_CFG_PTP_EN, 8, .rw, 0x0, false⟩,
  ⟨F.TPORT_TX_DLY_TX_DLY, 8, .rw, 0x0, false⟩]

/-- Rows 60 onward of block time (R421, R422, R423, R424). -/
def rows_time_2 : List Row := [
  ⟨F.TPORT_RX_DLY_RX_DLY, 8, .rw, 0x0, false⟩,
  ⟨F.TOUT_CFG_PHASE_C, 16, .rw, 0x0, false⟩,
  ⟨F.TOUT_CFG_EVERY_M1, 16, .rw, 0x0, false⟩,
  ⟨F.TOUT_CFG_CFG_ERR, 16, .ro, 0x0, false⟩,
  ⟨F.TOUT_CFG_MISSED, 16, .ro, 0x0, false⟩,
  ⟨F.TOUT_CFG_POL, 16, .rw, 0x0, false⟩,
  ⟨F.TOUT_CFG_MODE, 16, .rw, 0x0, false⟩,
  ⟨F.TOUT_CFG_DISARM, 16, .wo, 0x0, false⟩,
  ⟨F.TOUT_CFG_ARM, 16, .w1s, 0x0, false⟩,
  ⟨F.TOUT_T0_LO_T0, 16, .rw, 0x0, false⟩,
  ⟨F.TOUT_T0_HI_T0, 16, .rw, 0x0, false⟩,
  ⟨F.TOUT_PERIOD_PERIOD, 16, .rw, 0x0, false⟩,
  ⟨F.TOUT_PERIOD_FRAC_FRAC, 16, .rw, 0x0, false⟩,
  ⟨F.TOUT_WIDTH_WIDTH, 16, .rw, 0x0, false⟩,
  ⟨F.TOUT_OFS_OFS, 16, .rw, 0x0, false⟩,
  ⟨F.TOUT_NEXT_NS, 16, .ro, 0x0, false⟩,
  ⟨F.TCAP_CFG_EDGE, 4, .rw, 0x1, false⟩,
  ⟨F.TCAP_CFG_EN, 4, .rw, 0x0, false⟩,
  ⟨F.TCAP_TS_LO_NS, 4, .ro, 0x0, false⟩,
  ⟨F.TCAP_TS_HI_NS, 4, .ro, 0x0, false⟩,
  ⟨F.TCAP_INFO_DROP_CNT, 4, .ro, 0x0, false⟩,
  ⟨F.TCAP_INFO_LEVEL, 4, .ro, 0x0, false⟩,
  ⟨F.TCAP_INFO_STEP_GEN, 4, .ro, 0x0, false⟩,
  ⟨F.TCAP_INFO_OVF, 4, .w1c, 0x0, false⟩,
  ⟨F.TCAP_INFO_RISING, 4, .ro, 0x0, false⟩,
  ⟨F.TCAP_INFO_VALID, 4, .ro, 0x0, false⟩]

/-- The register table of block time (R421, R422, R423, R424). -/
def rows_time : List Row := rows_time_0 ++ rows_time_1 ++ rows_time_2

/-! ### servo: R443 -/

def F.SERVO_CAP_B_SLOTS : Fld := ⟨0x4, 0x0, 16, 8⟩
def F.SERVO_CAP_A_SLOTS : Fld := ⟨0x4, 0x0, 24, 8⟩
def F.SERVO_STAT_A_LOST_N : Fld := ⟨0xc, 0x0, 0, 5⟩
def F.SERVO_STAT_B_LOST_N : Fld := ⟨0xc, 0x0, 16, 7⟩
def F.SERVO_A_LOST_SLOT : Fld := ⟨0x100, 0x0, 0, 16⟩
def F.SERVO_B_LOST_LO_SLOT : Fld := ⟨0x104, 0x0, 0, 32⟩
def F.SERVO_B_LOST_HI_SLOT : Fld := ⟨0x108, 0x0, 0, 32⟩
def F.SERVO_SAMPLE_CNT_SAMPLE_CNT : Fld := ⟨0x10c, 0x0, 0, 32⟩

/-- Rows 0 onward of block servo (R443). -/
def rows_servo_0 : List Row := [
  ⟨F.SERVO_CAP_B_SLOTS, 1, .ro, 0x40, false⟩,
  ⟨F.SERVO_CAP_A_SLOTS, 1, .ro, 0x10, false⟩,
  ⟨F.SERVO_STAT_A_LOST_N, 1, .ro, 0x0, false⟩,
  ⟨F.SERVO_STAT_B_LOST_N, 1, .ro, 0x0, false⟩,
  ⟨F.SERVO_A_LOST_SLOT, 1, .ro, 0x0, false⟩,
  ⟨F.SERVO_B_LOST_LO_SLOT, 1, .ro, 0x0, false⟩,
  ⟨F.SERVO_B_LOST_HI_SLOT, 1, .ro, 0x0, false⟩,
  ⟨F.SERVO_SAMPLE_CNT_SAMPLE_CNT, 1, .ro, 0x0, false⟩]

/-- The register table of block servo (R443). -/
def rows_servo : List Row := rows_servo_0

/-! ### sva: R444 -/

def F.SA_CFG_ACT_TOUT : Fld := ⟨0x100, 0x700, 14, 4⟩
def F.SA_CFG_ACT_EN : Fld := ⟨0x100, 0x700, 18, 1⟩
def F.SA_CFG_TAPER_EN : Fld := ⟨0x100, 0x700, 19, 1⟩
def F.SA_CFG_TCAP : Fld := ⟨0x100, 0x700, 20, 2⟩
def F.SA_CFG_FLOW : Fld := ⟨0x100, 0x700, 22, 6⟩
def F.SA_CFG_SRC : Fld := ⟨0x100, 0x700, 28, 3⟩
def F.SA_CFG_EN : Fld := ⟨0x100, 0x700, 31, 1⟩
def F.SA_KP_K : Fld := ⟨0x110, 0x700, 0, 32⟩
def F.SA_KI_K : Fld := ⟨0x114, 0x700, 0, 32⟩
def F.SA_KFF_K : Fld := ⟨0x118, 0x700, 0, 32⟩
def F.SA_SHIFT_SP : Fld := ⟨0x11c, 0x700, 0, 6⟩
def F.SA_SHIFT_SI : Fld := ⟨0x11c, 0x700, 8, 6⟩
def F.SA_SHIFT_SF : Fld := ⟨0x11c, 0x700, 16, 6⟩
def F.SA_BIAS_VALUE : Fld := ⟨0x120, 0x700, 0, 32⟩
def F.SA_UMIN_VALUE : Fld := ⟨0x124, 0x700, 0, 32⟩
def F.SA_UMAX_VALUE : Fld := ⟨0x128, 0x700, 0, 32⟩
def F.SA_VMAX_LIMIT : Fld := ⟨0x12c, 0x700, 0, 32⟩
def F.SA_AMAX_LIMIT : Fld := ⟨0x130, 0x700, 0, 32⟩
def F.SA_FE_LIM_LIMIT : Fld := ⟨0x134, 0x700, 0, 32⟩
def F.SA_FE_TIME_US : Fld := ⟨0x138, 0x700, 0, 32⟩
def F.SA_CMD_APPLY : Fld := ⟨0x13c, 0x700, 0, 1⟩
def F.SA_CMD_RESET : Fld := ⟨0x13c, 0x700, 1, 1⟩
def F.SA_CMD_RELEASE : Fld := ⟨0x13c, 0x700, 2, 1⟩
def F.SA_ACT_KP_K : Fld := ⟨0x140, 0x700, 0, 32⟩
def F.SA_ACT_KI_K : Fld := ⟨0x144, 0x700, 0, 32⟩
def F.SA_ACT_KFF_K : Fld := ⟨0x148, 0x700, 0, 32⟩
def F.SA_ACT_SHIFT_SP : Fld := ⟨0x14c, 0x700, 0, 6⟩
def F.SA_ACT_SHIFT_SI : Fld := ⟨0x14c, 0x700, 8, 6⟩
def F.SA_ACT_SHIFT_SF : Fld := ⟨0x14c, 0x700, 16, 6⟩
def F.SA_ACT_BIAS_VALUE : Fld := ⟨0x150, 0x700, 0, 32⟩
def F.SA_ACT_UMIN_VALUE : Fld := ⟨0x154, 0x700, 0, 32⟩
def F.SA_ACT_UMAX_VALUE : Fld := ⟨0x158, 0x700, 0, 32⟩
def F.SA_ACT_VMAX_LIMIT : Fld := ⟨0x15c, 0x700, 0, 32⟩
def F.SA_ACT_AMAX_LIMIT : Fld := ⟨0x160, 0x700, 0, 32⟩
def F.SA_ACT_FE_LIM_LIMIT : Fld := ⟨0x164, 0x700, 0, 32⟩
def F.SA_ACT_FE_TIME_US : Fld := ⟨0x168, 0x700, 0, 32⟩
def F.SA_TARGET_R : Fld := ⟨0x16c, 0x700, 0, 32⟩
def F.SA_SP_S : Fld := ⟨0x170, 0x700, 0, 32⟩
def F.SA_SPV_V : Fld := ⟨0x174, 0x700, 0, 32⟩
def F.SA_Y_Y : Fld := ⟨0x178, 0x700, 0, 32⟩
def F.SA_E_E : Fld := ⟨0x17c, 0x700, 0, 32⟩
def F.SA_I_I : Fld := ⟨0x180, 0x700, 0, 32⟩
def F.SA_U_U : Fld := ⟨0x184, 0x700, 0, 32⟩
def F.SA_TRIM_TRIM : Fld := ⟨0x188, 0x700, 0, 32⟩
def F.SA_STAT_ACT_IGNORED : Fld := ⟨0x18c, 0x700, 24, 1⟩
def F.SA_STAT_APPLY_ERR : Fld := ⟨0x18c, 0x700, 25, 1⟩
def F.SA_STAT_FE_RUN : Fld := ⟨0x18c, 0x700, 26, 1⟩
def F.SA_STAT_AT_TARGET : Fld := ⟨0x18c, 0x700, 27, 1⟩
def F.SA_STAT_SAT_LO : Fld := ⟨0x18c, 0x700, 28, 1⟩
def F.SA_STAT_SAT_HI : Fld := ⟨0x18c, 0x700, 29, 1⟩
def F.SA_STAT_LOST : Fld := ⟨0x18c, 0x700, 30, 1⟩
def F.SA_STAT_ACTIVE : Fld := ⟨0x18c, 0x700, 31, 1⟩
def F.SA_SAMPLE_CNT_SAMPLE_CNT : Fld := ⟨0x190, 0x700, 0, 32⟩
def F.SA_CNT_SAT_CNT : Fld := ⟨0x194, 0x700, 0, 16⟩
def F.SA_CNT_LOST_CNT : Fld := ⟨0x194, 0x700, 16, 16⟩

/-- Rows 0 onward of block sva (R444). -/
def rows_sva_0 : List Row := [
  ⟨F.SA_CFG_ACT_TOUT, 2, .rw, 0x0, false⟩,
  ⟨F.SA_CFG_ACT_EN, 2, .rw, 0x0, false⟩,
  ⟨F.SA_CFG_TAPER_EN, 2, .rw, 0x0, false⟩,
  ⟨F.SA_CFG_TCAP, 2, .rw, 0x0, false⟩,
  ⟨F.SA_CFG_FLOW, 2, .rw, 0x0, false⟩,
  ⟨F.SA_CFG_SRC, 2, .rw, 0x1, false⟩,
  ⟨F.SA_CFG_EN, 2, .rw, 0x0, false⟩,
  ⟨F.SA_KP_K, 2, .rw, 0x0, false⟩,
  ⟨F.SA_KI_K, 2, .rw, 0x0, false⟩,
  ⟨F.SA_KFF_K, 2, .rw, 0x0, false⟩,
  ⟨F.SA_SHIFT_SP, 2, .rw, 0x0, false⟩,
  ⟨F.SA_SHIFT_SI, 2, .rw, 0x0, false⟩,
  ⟨F.SA_SHIFT_SF, 2, .rw, 0x0, false⟩,
  ⟨F.SA_BIAS_VALUE, 2, .rw, 0x0, false⟩,
  ⟨F.SA_UMIN_VALUE, 2, .rw, 0x0, false⟩,
  ⟨F.SA_UMAX_VALUE, 2, .rw, 0x0, false⟩,
  ⟨F.SA_VMAX_LIMIT, 2, .rw, 0x0, false⟩,
  ⟨F.SA_AMAX_LIMIT, 2, .rw, 0x0, false⟩,
  ⟨F.SA_FE_LIM_LIMIT, 2, .rw, 0x0, false⟩,
  ⟨F.SA_FE_TIME_US, 2, .rw, 0x0, false⟩,
  ⟨F.SA_CMD_APPLY, 2, .w1s, 0x0, false⟩,
  ⟨F.SA_CMD_RESET, 2, .wo, 0x0, false⟩,
  ⟨F.SA_CMD_RELEASE, 2, .wo, 0x0, false⟩,
  ⟨F.SA_ACT_KP_K, 2, .ro, 0x0, false⟩,
  ⟨F.SA_ACT_KI_K, 2, .ro, 0x0, false⟩,
  ⟨F.SA_ACT_KFF_K, 2, .ro, 0x0, false⟩,
  ⟨F.SA_ACT_SHIFT_SP, 2, .ro, 0x0, false⟩,
  ⟨F.SA_ACT_SHIFT_SI, 2, .ro, 0x0, false⟩,
  ⟨F.SA_ACT_SHIFT_SF, 2, .ro, 0x0, false⟩,
  ⟨F.SA_ACT_BIAS_VALUE, 2, .ro, 0x0, false⟩]

/-- Rows 30 onward of block sva (R444). -/
def rows_sva_1 : List Row := [
  ⟨F.SA_ACT_UMIN_VALUE, 2, .ro, 0x0, false⟩,
  ⟨F.SA_ACT_UMAX_VALUE, 2, .ro, 0x0, false⟩,
  ⟨F.SA_ACT_VMAX_LIMIT, 2, .ro, 0x0, false⟩,
  ⟨F.SA_ACT_AMAX_LIMIT, 2, .ro, 0x0, false⟩,
  ⟨F.SA_ACT_FE_LIM_LIMIT, 2, .ro, 0x0, false⟩,
  ⟨F.SA_ACT_FE_TIME_US, 2, .ro, 0x0, false⟩,
  ⟨F.SA_TARGET_R, 2, .rw, 0x0, false⟩,
  ⟨F.SA_SP_S, 2, .ro, 0x0, false⟩,
  ⟨F.SA_SPV_V, 2, .ro, 0x0, false⟩,
  ⟨F.SA_Y_Y, 2, .ro, 0x0, false⟩,
  ⟨F.SA_E_E, 2, .ro, 0x0, false⟩,
  ⟨F.SA_I_I, 2, .ro, 0x0, false⟩,
  ⟨F.SA_U_U, 2, .ro, 0x0, false⟩,
  ⟨F.SA_TRIM_TRIM, 2, .ro, 0x0, false⟩,
  ⟨F.SA_STAT_ACT_IGNORED, 2, .ro, 0x0, false⟩,
  ⟨F.SA_STAT_APPLY_ERR, 2, .ro, 0x0, false⟩,
  ⟨F.SA_STAT_FE_RUN, 2, .ro, 0x0, false⟩,
  ⟨F.SA_STAT_AT_TARGET, 2, .ro, 0x0, false⟩,
  ⟨F.SA_STAT_SAT_LO, 2, .ro, 0x0, false⟩,
  ⟨F.SA_STAT_SAT_HI, 2, .ro, 0x0, false⟩,
  ⟨F.SA_STAT_LOST, 2, .ro, 0x0, false⟩,
  ⟨F.SA_STAT_ACTIVE, 2, .ro, 0x0, false⟩,
  ⟨F.SA_SAMPLE_CNT_SAMPLE_CNT, 2, .ro, 0x0, false⟩,
  ⟨F.SA_CNT_SAT_CNT, 2, .ro, 0x0, false⟩,
  ⟨F.SA_CNT_LOST_CNT, 2, .ro, 0x0, false⟩]

/-- The register table of block sva (R444). -/
def rows_sva : List Row := rows_sva_0 ++ rows_sva_1

/-! ### svb: R445 -/

def F.SB_CFG_TAPER_EN : Fld := ⟨0x100, 0xf0, 30, 1⟩
def F.SB_CFG_EN : Fld := ⟨0x100, 0xf0, 31, 1⟩
def F.SB_KP_K : Fld := ⟨0x104, 0xf0, 0, 16⟩
def F.SB_KI_K : Fld := ⟨0x108, 0xf0, 0, 16⟩
def F.SB_UMAX_LIMIT : Fld := ⟨0x10c, 0xf0, 0, 32⟩
def F.SB_VMAX_LIMIT : Fld := ⟨0x110, 0xf0, 0, 32⟩
def F.SB_AMAX_LIMIT : Fld := ⟨0x114, 0xf0, 0, 32⟩
def F.SB_FE_LIM_NS : Fld := ⟨0x118, 0xf0, 0, 32⟩
def F.SB_FE_TIME_US : Fld := ⟨0x11c, 0xf0, 0, 32⟩
def F.SB_CMD_APPLY : Fld := ⟨0x120, 0xf0, 0, 1⟩
def F.SB_CMD_RESET : Fld := ⟨0x120, 0xf0, 1, 1⟩
def F.SB_CMD_RELEASE : Fld := ⟨0x120, 0xf0, 2, 1⟩
def F.SB_ACT_KP_K : Fld := ⟨0x124, 0xf0, 0, 16⟩
def F.SB_ACT_KI_K : Fld := ⟨0x128, 0xf0, 0, 16⟩
def F.SB_ACT_UMAX_LIMIT : Fld := ⟨0x12c, 0xf0, 0, 32⟩
def F.SB_ACT_VMAX_LIMIT : Fld := ⟨0x130, 0xf0, 0, 32⟩
def F.SB_ACT_AMAX_LIMIT : Fld := ⟨0x134, 0xf0, 0, 32⟩
def F.SB_ACT_FE_LIM_NS : Fld := ⟨0x138, 0xf0, 0, 32⟩
def F.SB_ACT_FE_TIME_US : Fld := ⟨0x13c, 0xf0, 0, 32⟩
def F.SB_SP_LO_S : Fld := ⟨0x140, 0xf0, 0, 32⟩
def F.SB_SP_HI_S : Fld := ⟨0x144, 0xf0, 0, 32⟩
def F.SB_SPV_V : Fld := ⟨0x148, 0xf0, 0, 32⟩
def F.SB_I_LO_I : Fld := ⟨0x14c, 0xf0, 0, 32⟩
def F.SB_I_HI_I : Fld := ⟨0x150, 0xf0, 0, 32⟩
def F.SB_PERIOD_LO_PERIOD : Fld := ⟨0x154, 0xf0, 0, 32⟩
def F.SB_PERIOD_HI_PERIOD : Fld := ⟨0x158, 0xf0, 0, 32⟩
def F.SB_E_E : Fld := ⟨0x15c, 0xf0, 0, 32⟩
def F.SB_NEXT_LO_NS : Fld := ⟨0x160, 0xf0, 0, 32⟩
def F.SB_NEXT_HI_NS : Fld := ⟨0x164, 0xf0, 0, 32⟩
def F.SB_STAT_SEEDED : Fld := ⟨0x168, 0xf0, 25, 1⟩
def F.SB_STAT_APPLY_ERR : Fld := ⟨0x168, 0xf0, 26, 1⟩
def F.SB_STAT_FE_RUN : Fld := ⟨0x168, 0xf0, 27, 1⟩
def F.SB_STAT_AT_TARGET : Fld := ⟨0x168, 0xf0, 28, 1⟩
def F.SB_STAT_SAT : Fld := ⟨0x168, 0xf0, 29, 1⟩
def F.SB_STAT_LOST : Fld := ⟨0x168, 0xf0, 30, 1⟩
def F.SB_STAT_ACTIVE : Fld := ⟨0x168, 0xf0, 31, 1⟩
def F.SB_SAMPLE_CNT_SAMPLE_CNT : Fld := ⟨0x16c, 0xf0, 0, 32⟩
def F.SB_CNT_MISS_CNT : Fld := ⟨0x170, 0xf0, 0, 16⟩
def F.SB_CNT_LOST_CNT : Fld := ⟨0x170, 0xf0, 16, 16⟩

/-- Rows 0 onward of block svb (R445). -/
def rows_svb_0 : List Row := [
  ⟨F.SB_CFG_TAPER_EN, 16, .rw, 0x0, false⟩,
  ⟨F.SB_CFG_EN, 16, .rw, 0x0, false⟩,
  ⟨F.SB_KP_K, 16, .rw, 0x0, false⟩,
  ⟨F.SB_KI_K, 16, .rw, 0x0, false⟩,
  ⟨F.SB_UMAX_LIMIT, 16, .rw, 0x0, false⟩,
  ⟨F.SB_VMAX_LIMIT, 16, .rw, 0x0, false⟩,
  ⟨F.SB_AMAX_LIMIT, 16, .rw, 0x0, false⟩,
  ⟨F.SB_FE_LIM_NS, 16, .rw, 0x0, false⟩,
  ⟨F.SB_FE_TIME_US, 16, .rw, 0x0, false⟩,
  ⟨F.SB_CMD_APPLY, 16, .w1s, 0x0, false⟩,
  ⟨F.SB_CMD_RESET, 16, .wo, 0x0, false⟩,
  ⟨F.SB_CMD_RELEASE, 16, .wo, 0x0, false⟩,
  ⟨F.SB_ACT_KP_K, 16, .ro, 0x0, false⟩,
  ⟨F.SB_ACT_KI_K, 16, .ro, 0x0, false⟩,
  ⟨F.SB_ACT_UMAX_LIMIT, 16, .ro, 0x0, false⟩,
  ⟨F.SB_ACT_VMAX_LIMIT, 16, .ro, 0x0, false⟩,
  ⟨F.SB_ACT_AMAX_LIMIT, 16, .ro, 0x0, false⟩,
  ⟨F.SB_ACT_FE_LIM_NS, 16, .ro, 0x0, false⟩,
  ⟨F.SB_ACT_FE_TIME_US, 16, .ro, 0x0, false⟩,
  ⟨F.SB_SP_LO_S, 16, .ro, 0x0, false⟩,
  ⟨F.SB_SP_HI_S, 16, .ro, 0x0, false⟩,
  ⟨F.SB_SPV_V, 16, .ro, 0x0, false⟩,
  ⟨F.SB_I_LO_I, 16, .ro, 0x0, false⟩,
  ⟨F.SB_I_HI_I, 16, .ro, 0x0, false⟩,
  ⟨F.SB_PERIOD_LO_PERIOD, 16, .ro, 0x0, false⟩,
  ⟨F.SB_PERIOD_HI_PERIOD, 16, .ro, 0x0, false⟩,
  ⟨F.SB_E_E, 16, .ro, 0x0, false⟩,
  ⟨F.SB_NEXT_LO_NS, 16, .ro, 0x0, false⟩,
  ⟨F.SB_NEXT_HI_NS, 16, .ro, 0x0, false⟩,
  ⟨F.SB_STAT_SEEDED, 16, .ro, 0x0, false⟩]

/-- Rows 30 onward of block svb (R445). -/
def rows_svb_1 : List Row := [
  ⟨F.SB_STAT_APPLY_ERR, 16, .ro, 0x0, false⟩,
  ⟨F.SB_STAT_FE_RUN, 16, .ro, 0x0, false⟩,
  ⟨F.SB_STAT_AT_TARGET, 16, .ro, 0x0, false⟩,
  ⟨F.SB_STAT_SAT, 16, .ro, 0x0, false⟩,
  ⟨F.SB_STAT_LOST, 16, .ro, 0x0, false⟩,
  ⟨F.SB_STAT_ACTIVE, 16, .ro, 0x0, false⟩,
  ⟨F.SB_SAMPLE_CNT_SAMPLE_CNT, 16, .ro, 0x0, false⟩,
  ⟨F.SB_CNT_MISS_CNT, 16, .ro, 0x0, false⟩,
  ⟨F.SB_CNT_LOST_CNT, 16, .ro, 0x0, false⟩]

/-- The register table of block svb (R445). -/
def rows_svb : List Row := rows_svb_0 ++ rows_svb_1

/-! ### mem: R474 -/

def F.MEM_CAP_MIN_RATE : Fld := ⟨0x4, 0x0, 0, 8⟩
def F.MEM_CAP_MAX_RATE : Fld := ⟨0x4, 0x0, 8, 8⟩
def F.MEM_CAP_DEVICES : Fld := ⟨0x4, 0x0, 16, 8⟩
def F.MEM_CAP_CHANNELS : Fld := ⟨0x4, 0x0, 24, 8⟩
def F.MEM_CTL_RETRAIN : Fld := ⟨0x8, 0x0, 0, 1⟩
def F.MEM_STAT_CH_FAIL_N : Fld := ⟨0xc, 0x0, 0, 8⟩
def F.MEM_STAT_RATE : Fld := ⟨0xc, 0x0, 8, 5⟩
def F.MEM_STAT_RATE_LATCHED : Fld := ⟨0xc, 0x0, 28, 1⟩
def F.MEM_STAT_STATE : Fld := ⟨0xc, 0x0, 29, 3⟩
def F.MEM_CFG_RATE : Fld := ⟨0x100, 0x0, 0, 5⟩
def F.MEM_CFG_DENSITY : Fld := ⟨0x100, 0x0, 31, 1⟩
def F.MEM_TIMING0_TREFI : Fld := ⟨0x104, 0x0, 0, 16⟩
def F.MEM_TIMING0_TRFCPB : Fld := ⟨0x104, 0x0, 16, 12⟩
def F.MEM_TIMING1_TWR : Fld := ⟨0x108, 0x0, 0, 8⟩
def F.MEM_TIMING1_TRAS : Fld := ⟨0x108, 0x0, 8, 8⟩
def F.MEM_TIMING1_TRP : Fld := ⟨0x108, 0x0, 16, 8⟩
def F.MEM_TIMING1_TRCD : Fld := ⟨0x108, 0x0, 24, 8⟩
def F.MEM_PANIC_OFF : Fld := ⟨0x110, 0x4, 0, 4⟩
def F.MEM_PANIC_ON : Fld := ⟨0x110, 0x4, 4, 4⟩
def F.MEM_PANIC_CNT_PANIC_CNT : Fld := ⟨0x130, 0x0, 0, 32⟩
def F.MEM_UNDERRUN_CNT_UNDERRUN_CNT : Fld := ⟨0x134, 0x0, 0, 32⟩
def F.MEM_FORCED_REF_CNT_FORCED_REF_CNT : Fld := ⟨0x138, 0x0, 0, 32⟩
def F.MEM_RATE_CHG_CNT_RATE_CHG_CNT : Fld := ⟨0x13c, 0x0, 0, 32⟩
def F.MEM_PAUSE_PAUSE_US : Fld := ⟨0x140, 0x0, 0, 32⟩

/-- Rows 0 onward of block mem (R474). -/
def rows_mem_0 : List Row := [
  ⟨F.MEM_CAP_MIN_RATE, 1, .ro, 0xc, false⟩,
  ⟨F.MEM_CAP_MAX_RATE, 1, .ro, 0x18, false⟩,
  ⟨F.MEM_CAP_DEVICES, 1, .ro, 0x10, false⟩,
  ⟨F.MEM_CAP_CHANNELS, 1, .ro, 0x20, false⟩,
  ⟨F.MEM_CTL_RETRAIN, 1, .wo, 0x0, false⟩,
  ⟨F.MEM_STAT_CH_FAIL_N, 1, .ro, 0x0, false⟩,
  ⟨F.MEM_STAT_RATE, 1, .ro, 0x0, false⟩,
  ⟨F.MEM_STAT_RATE_LATCHED, 1, .ro, 0x0, false⟩,
  ⟨F.MEM_STAT_STATE, 1, .ro, 0x0, false⟩,
  ⟨F.MEM_CFG_RATE, 1, .rwc, 0xc, false⟩,
  ⟨F.MEM_CFG_DENSITY, 1, .rwb, 0x0, false⟩,
  ⟨F.MEM_TIMING0_TREFI, 1, .rwb, 0x76c, false⟩,
  ⟨F.MEM_TIMING0_TRFCPB, 1, .rwb, 0x78, false⟩,
  ⟨F.MEM_TIMING1_TWR, 1, .rwb, 0x12, false⟩,
  ⟨F.MEM_TIMING1_TRAS, 1, .rwb, 0x20, false⟩,
  ⟨F.MEM_TIMING1_TRP, 1, .rwb, 0x12, false⟩,
  ⟨F.MEM_TIMING1_TRCD, 1, .rwb, 0x12, false⟩,
  ⟨F.MEM_PANIC_OFF, 7, .rw, 0x8, false⟩,
  ⟨F.MEM_PANIC_ON, 7, .rw, 0xc, false⟩,
  ⟨F.MEM_PANIC_CNT_PANIC_CNT, 1, .ro, 0x0, false⟩,
  ⟨F.MEM_UNDERRUN_CNT_UNDERRUN_CNT, 1, .ro, 0x0, false⟩,
  ⟨F.MEM_FORCED_REF_CNT_FORCED_REF_CNT, 1, .ro, 0x0, false⟩,
  ⟨F.MEM_RATE_CHG_CNT_RATE_CHG_CNT, 1, .ro, 0x0, false⟩,
  ⟨F.MEM_PAUSE_PAUSE_US, 1, .ro, 0x0, false⟩]

/-- The register table of block mem (R474). -/
def rows_mem : List Row := rows_mem_0

/-! ### memch: R475 -/

def F.MC_STAT_TEMP : Fld := ⟨0x100, 0x0, 0, 16⟩
def F.MC_STAT_HELD_MAX : Fld := ⟨0x100, 0x0, 16, 4⟩
def F.MC_STAT_GATHERING : Fld := ⟨0x100, 0x0, 30, 1⟩
def F.MC_STAT_CH_FAIL : Fld := ⟨0x100, 0x0, 31, 1⟩
def F.MC_ACT_ACT : Fld := ⟨0x104, 0x0, 0, 7⟩
def F.MC_ACT_BUSY_RUN_MS : Fld := ⟨0x104, 0x0, 16, 16⟩
def F.MC_TRIM_RD_DLY : Fld := ⟨0x108, 0x4, 0, 7⟩
def F.MC_TRIM_RD_VREF : Fld := ⟨0x108, 0x4, 12, 6⟩
def F.MC_TRIM_WR_DLY : Fld := ⟨0x108, 0x4, 18, 7⟩
def F.MC_TRIM_WR_VREF : Fld := ⟨0x108, 0x4, 25, 7⟩
def F.MC_META_TEMP : Fld := ⟨0x110, 0x0, 0, 16⟩
def F.MC_META_ACT : Fld := ⟨0x110, 0x0, 16, 7⟩
def F.MC_META_SOURCE : Fld := ⟨0x110, 0x0, 28, 2⟩
def F.MC_META_PROVISIONAL : Fld := ⟨0x110, 0x0, 31, 1⟩
def F.MC_PSET_TRIM_RD_DLY : Fld := ⟨0x114, 0x4, 0, 7⟩
def F.MC_PSET_TRIM_RD_VREF : Fld := ⟨0x114, 0x4, 12, 6⟩
def F.MC_PSET_TRIM_WR_DLY : Fld := ⟨0x114, 0x4, 18, 7⟩
def F.MC_PSET_TRIM_WR_VREF : Fld := ⟨0x114, 0x4, 25, 7⟩
def F.MC_PSET_META_TEMP : Fld := ⟨0x11c, 0x0, 0, 16⟩
def F.MC_PSET_META_ACT : Fld := ⟨0x11c, 0x0, 16, 7⟩
def F.MC_PSET_META_SOURCE : Fld := ⟨0x11c, 0x0, 28, 2⟩
def F.MC_PSET_META_PROVISIONAL : Fld := ⟨0x11c, 0x0, 31, 1⟩
def F.MC_EDC_RD_CNT_RD_CNT : Fld := ⟨0x120, 0x0, 0, 32⟩
def F.MC_EDC_WR_CNT_WR_CNT : Fld := ⟨0x124, 0x0, 0, 32⟩
def F.MC_RETRY_FAIL_CNT_RETRY_FAIL_CNT : Fld := ⟨0x128, 0x0, 0, 32⟩
def F.MC_TRIM_CNT_NOWIN_CNT : Fld := ⟨0x12c, 0x0, 0, 16⟩
def F.MC_TRIM_CNT_REVERT_CNT : Fld := ⟨0x12c, 0x0, 16, 16⟩

/-- Rows 0 onward of block memch (R475). -/
def rows_memch_0 : List Row := [
  ⟨F.MC_STAT_TEMP, 1, .ro, 0x0, false⟩,
  ⟨F.MC_STAT_HELD_MAX, 1, .ro, 0x0, false⟩,
  ⟨F.MC_STAT_GATHERING, 1, .ro, 0x0, false⟩,
  ⟨F.MC_STAT_CH_FAIL, 1, .ro, 0x0, false⟩,
  ⟨F.MC_ACT_ACT, 1, .ro, 0x0, false⟩,
  ⟨F.MC_ACT_BUSY_RUN_MS, 1, .ro, 0x0, false⟩,
  ⟨F.MC_TRIM_RD_DLY, 2, .ro, 0x20, true⟩,
  ⟨F.MC_TRIM_RD_VREF, 2, .ro, 0x23, true⟩,
  ⟨F.MC_TRIM_WR_DLY, 2, .ro, 0x20, true⟩,
  ⟨F.MC_TRIM_WR_VREF, 2, .ro, 0x40, true⟩,
  ⟨F.MC_META_TEMP, 1, .ro, 0x0, true⟩,
  ⟨F.MC_META_ACT, 1, .ro, 0x0, true⟩,
  ⟨F.MC_META_SOURCE, 1, .ro, 0x0, true⟩,
  ⟨F.MC_META_PROVISIONAL, 1, .ro, 0x0, true⟩,
  ⟨F.MC_PSET_TRIM_RD_DLY, 2, .rw, 0x0, false⟩,
  ⟨F.MC_PSET_TRIM_RD_VREF, 2, .rw, 0x0, false⟩,
  ⟨F.MC_PSET_TRIM_WR_DLY, 2, .rw, 0x0, false⟩,
  ⟨F.MC_PSET_TRIM_WR_VREF, 2, .rw, 0x0, false⟩,
  ⟨F.MC_PSET_META_TEMP, 1, .rw, 0x0, false⟩,
  ⟨F.MC_PSET_META_ACT, 1, .rw, 0x0, false⟩,
  ⟨F.MC_PSET_META_SOURCE, 1, .rw, 0x0, false⟩,
  ⟨F.MC_PSET_META_PROVISIONAL, 1, .rw, 0x0, false⟩,
  ⟨F.MC_EDC_RD_CNT_RD_CNT, 1, .ro, 0x0, false⟩,
  ⟨F.MC_EDC_WR_CNT_WR_CNT, 1, .ro, 0x0, false⟩,
  ⟨F.MC_RETRY_FAIL_CNT_RETRY_FAIL_CNT, 1, .ro, 0x0, false⟩,
  ⟨F.MC_TRIM_CNT_NOWIN_CNT, 1, .ro, 0x0, false⟩,
  ⟨F.MC_TRIM_CNT_REVERT_CNT, 1, .ro, 0x0, false⟩]

/-- The register table of block memch (R475). -/
def rows_memch : List Row := rows_memch_0

/-! ### therm: R504 -/

def F.THERM_CAP_SENSORS : Fld := ⟨0x4, 0x0, 24, 8⟩
def F.THERM_STAT_H : Fld := ⟨0xc, 0x0, 0, 16⟩
def F.THERM_STAT_DL : Fld := ⟨0xc, 0x0, 16, 7⟩
def F.THERM_STAT_HOT_SENSOR : Fld := ⟨0xc, 0x0, 24, 5⟩
def F.THERM_STAT_HOLD : Fld := ⟨0xc, 0x0, 31, 1⟩
def F.THERM_CFG_DIE_RISE : Fld := ⟨0x100, 0x0, 8, 8⟩
def F.THERM_CFG_DIE_LIMIT : Fld := ⟨0x100, 0x0, 16, 8⟩
def F.THERM_CFG_SHUT_T : Fld := ⟨0x100, 0x0, 24, 8⟩
def F.THERM_CHECK_HOLD_S : Fld := ⟨0x104, 0x0, 0, 16⟩
def F.THERM_CHECK_MARGIN : Fld := ⟨0x104, 0x0, 16, 8⟩
def F.THERM_CHECK_NBR_DEV : Fld := ⟨0x104, 0x0, 24, 8⟩
def F.THERM_SHUT_LAST_T : Fld := ⟨0x108, 0x0, 0, 16⟩
def F.THERM_SHUT_LAST_SENSOR : Fld := ⟨0x108, 0x0, 24, 5⟩
def F.THERM_SENS_T : Fld := ⟨0x200, 0x4, 0, 16⟩
def F.THERM_SENS_FAILED : Fld := ⟨0x200, 0x4, 31, 1⟩
def F.THERM_RAIL_MV : Fld := ⟨0x280, 0x4, 0, 16⟩
def F.THERM_RAIL_OUT : Fld := ⟨0x280, 0x4, 31, 1⟩

/-- Rows 0 onward of block therm (R504). -/
def rows_therm_0 : List Row := [
  ⟨F.THERM_CAP_SENSORS, 1, .ro, 0x18, false⟩,
  ⟨F.THERM_STAT_H, 1, .ro, 0x0, false⟩,
  ⟨F.THERM_STAT_DL, 1, .ro, 0x40, false⟩,
  ⟨F.THERM_STAT_HOT_SENSOR, 1, .ro, 0x0, false⟩,
  ⟨F.THERM_STAT_HOLD, 1, .ro, 0x0, false⟩,
  ⟨F.THERM_CFG_DIE_RISE, 1, .rw, 0x32, false⟩,
  ⟨F.THERM_CFG_DIE_LIMIT, 1, .rw, 0x76, false⟩,
  ⟨F.THERM_CFG_SHUT_T, 1, .rwb, 0x80, false⟩,
  ⟨F.THERM_CHECK_HOLD_S, 1, .rw, 0x3c, false⟩,
  ⟨F.THERM_CHECK_MARGIN, 1, .rw, 0xa, false⟩,
  ⟨F.THERM_CHECK_NBR_DEV, 1, .rw, 0x14, false⟩,
  ⟨F.THERM_SHUT_LAST_T, 1, .ro, 0x0, true⟩,
  ⟨F.THERM_SHUT_LAST_SENSOR, 1, .ro, 0x0, true⟩,
  ⟨F.THERM_SENS_T, 24, .ro, 0x0, false⟩,
  ⟨F.THERM_SENS_FAILED, 24, .ro, 0x0, false⟩,
  ⟨F.THERM_RAIL_MV, 9, .ro, 0x0, false⟩,
  ⟨F.THERM_RAIL_OUT, 9, .ro, 0x0, false⟩]

/-- The register table of block therm (R504). -/
def rows_therm : List Row := rows_therm_0

/-! ### hk: R505 -/

def F.HK_CAP_DIAGQ : Fld := ⟨0x4, 0x0, 0, 16⟩
def F.HK_CAP_OFFLIST : Fld := ⟨0x4, 0x0, 16, 16⟩
def F.HK_CTL_RESCAN : Fld := ⟨0x8, 0x0, 0, 1⟩
def F.HK_STAT_OFF_N : Fld := ⟨0xc, 0x0, 0, 16⟩
def F.HK_STAT_OFFLIST_FULL : Fld := ⟨0xc, 0x0, 30, 1⟩
def F.HK_STAT_LH_SCAN : Fld := ⟨0xc, 0x0, 31, 1⟩
def F.HK_CFG_THR_FLOOR : Fld := ⟨0x100, 0x0, 0, 8⟩
def F.HK_CFG_TILE_LIMIT : Fld := ⟨0x100, 0x0, 8, 8⟩
def F.HK_CFG_LH_EN : Fld := ⟨0x100, 0x0, 31, 1⟩
def F.HK_LH_BASE_LO_BASE : Fld := ⟨0x104, 0x0, 12, 20⟩
def F.HK_LH_BASE_HI_BASE : Fld := ⟨0x108, 0x0, 0, 32⟩
def F.HK_DIAG_DIAG_W : Fld := ⟨0x10c, 0x0, 0, 16⟩
def F.HK_UNBLANK_ZONE : Fld := ⟨0x110, 0x0, 0, 8⟩
def F.HK_UNBLANK_KEY : Fld := ⟨0x110, 0x0, 16, 16⟩
def F.HK_LAMP_TILE_TILE : Fld := ⟨0x114, 0x0, 0, 12⟩
def F.HK_LAMP_TILE_LAMP : Fld := ⟨0x114, 0x0, 16, 2⟩
def F.HK_LAMP_CMD_PIXEL : Fld := ⟨0x118, 0x0, 0, 16⟩
def F.HK_LAMP_CMD_STATE : Fld := ⟨0x118, 0x0, 28, 2⟩
def F.HK_LAMP_CMD_OP : Fld := ⟨0x118, 0x0, 30, 2⟩
def F.HK_LAMP_RES_STATE : Fld := ⟨0x11c, 0x0, 0, 2⟩
def F.HK_LAMP_RES_ERR : Fld := ⟨0x11c, 0x0, 30, 1⟩
def F.HK_LAMP_RES_BUSY : Fld := ⟨0x11c, 0x0, 31, 1⟩
def F.HK_ROUND_LO_ROUND : Fld := ⟨0x120, 0x0, 0, 32⟩
def F.HK_ROUND_HI_ROUND : Fld := ⟨0x124, 0x0, 0, 32⟩
def F.HK_MEAS_W_MEAS_W : Fld := ⟨0x128, 0x0, 0, 24⟩
def F.HK_HOLD_ZONE : Fld := ⟨0x130, 0x4, 0, 32⟩
def F.HK_POLL_CNT_POLL_CNT : Fld := ⟨0x150, 0x0, 0, 32⟩
def F.HK_MISS_CNT_MISS_CNT : Fld := ⟨0x154, 0x0, 0, 32⟩
def F.HK_LATE_CNT_LATE_CNT : Fld := ⟨0x158, 0x0, 0, 32⟩
def F.HK_FAULT_CNT_FAULT_CNT : Fld := ⟨0x15c, 0x0, 0, 32⟩
def F.HK_BAD_CNT_BAD_CNT : Fld := ⟨0x160, 0x0, 0, 32⟩
def F.HK_DIAG_PASS_CNT_PASS_CNT : Fld := ⟨0x164, 0x0, 0, 32⟩
def F.HK_DIAG_FAIL_CNT_FAIL_CNT : Fld := ⟨0x168, 0x0, 0, 32⟩
def F.HK_DIAG_RETRY_CNT_RETRY_CNT : Fld := ⟨0x16c, 0x0, 0, 32⟩
def F.HK_DIAG_DROP_CNT_DROP_CNT : Fld := ⟨0x170, 0x0, 0, 32⟩
def F.HK_SNUFF_CNT_SNUFF_CNT : Fld := ⟨0x174, 0x0, 0, 32⟩
def F.HK_UNVER_N_UNVER_N : Fld := ⟨0x178, 0x0, 0, 32⟩
def F.HK_TILE_ALERT_TILE : Fld := ⟨0x200, 0x4, 0, 32⟩

/-- Rows 0 onward of block hk (R505). -/
def rows_hk_0 : List Row := [
  ⟨F.HK_CAP_DIAGQ, 1, .ro, 0x1000, false⟩,
  ⟨F.HK_CAP_OFFLIST, 1, .ro, 0x8000, false⟩,
  ⟨F.HK_CTL_RESCAN, 1, .wo, 0x0, false⟩,
  ⟨F.HK_STAT_OFF_N, 1, .ro, 0x0, false⟩,
  ⟨F.HK_STAT_OFFLIST_FULL, 1, .ro, 0x0, false⟩,
  ⟨F.HK_STAT_LH_SCAN, 1, .ro, 0x0, false⟩,
  ⟨F.HK_CFG_THR_FLOOR, 1, .rw, 0x0, false⟩,
  ⟨F.HK_CFG_TILE_LIMIT, 1, .rw, 0x55, false⟩,
  ⟨F.HK_CFG_LH_EN, 1, .rwc, 0x0, false⟩,
  ⟨F.HK_LH_BASE_LO_BASE, 1, .rwc, 0x0, false⟩,
  ⟨F.HK_LH_BASE_HI_BASE, 1, .rwc, 0x0, false⟩,
  ⟨F.HK_DIAG_DIAG_W, 1, .rw, 0x0, false⟩,
  ⟨F.HK_UNBLANK_ZONE, 1, .wo, 0x0, false⟩,
  ⟨F.HK_UNBLANK_KEY, 1, .wo, 0x0, false⟩,
  ⟨F.HK_LAMP_TILE_TILE, 1, .rw, 0x0, false⟩,
  ⟨F.HK_LAMP_TILE_LAMP, 1, .rw, 0x0, false⟩,
  ⟨F.HK_LAMP_CMD_PIXEL, 1, .wo, 0x0, false⟩,
  ⟨F.HK_LAMP_CMD_STATE, 1, .wo, 0x0, false⟩,
  ⟨F.HK_LAMP_CMD_OP, 1, .wo, 0x0, false⟩,
  ⟨F.HK_LAMP_RES_STATE, 1, .ro, 0x0, false⟩,
  ⟨F.HK_LAMP_RES_ERR, 1, .ro, 0x0, false⟩,
  ⟨F.HK_LAMP_RES_BUSY, 1, .ro, 0x0, false⟩,
  ⟨F.HK_ROUND_LO_ROUND, 1, .ro, 0x0, false⟩,
  ⟨F.HK_ROUND_HI_ROUND, 1, .ro, 0x0, false⟩,
  ⟨F.HK_MEAS_W_MEAS_W, 1, .ro, 0x0, false⟩,
  ⟨F.HK_HOLD_ZONE, 8, .ro, 0x0, false⟩,
  ⟨F.HK_POLL_CNT_POLL_CNT, 1, .ro, 0x0, false⟩,
  ⟨F.HK_MISS_CNT_MISS_CNT, 1, .ro, 0x0, false⟩,
  ⟨F.HK_LATE_CNT_LATE_CNT, 1, .ro, 0x0, false⟩,
  ⟨F.HK_FAULT_CNT_FAULT_CNT, 1, .ro, 0x0, false⟩]

/-- Rows 30 onward of block hk (R505). -/
def rows_hk_1 : List Row := [
  ⟨F.HK_BAD_CNT_BAD_CNT, 1, .ro, 0x0, false⟩,
  ⟨F.HK_DIAG_PASS_CNT_PASS_CNT, 1, .ro, 0x0, false⟩,
  ⟨F.HK_DIAG_FAIL_CNT_FAIL_CNT, 1, .ro, 0x0, false⟩,
  ⟨F.HK_DIAG_RETRY_CNT_RETRY_CNT, 1, .ro, 0x0, false⟩,
  ⟨F.HK_DIAG_DROP_CNT_DROP_CNT, 1, .ro, 0x0, false⟩,
  ⟨F.HK_SNUFF_CNT_SNUFF_CNT, 1, .ro, 0x0, false⟩,
  ⟨F.HK_UNVER_N_UNVER_N, 1, .ro, 0x0, false⟩,
  ⟨F.HK_TILE_ALERT_TILE, 128, .w1c, 0x0, false⟩]

/-- The register table of block hk (R505). -/
def rows_hk : List Row := rows_hk_0 ++ rows_hk_1

/-! ### evt: R530 -/

def F.EVT_CAP_SEATS : Fld := ⟨0x4, 0x0, 10, 5⟩
def F.EVT_CAP_LEVELS : Fld := ⟨0x4, 0x0, 15, 5⟩
def F.EVT_CAP_SOURCES : Fld := ⟨0x4, 0x0, 20, 12⟩
def F.EVT_STAT_HELD_N : Fld := ⟨0xc, 0x0, 0, 11⟩
def F.EVT_STAT_PLAYOUT_PEND : Fld := ⟨0xc, 0x0, 14, 1⟩
def F.EVT_STAT_PLAYOUT : Fld := ⟨0xc, 0x0, 15, 1⟩
def F.EVT_STAT_PRESENT : Fld := ⟨0xc, 0x0, 16, 16⟩
def F.EVT_ALIVE_ALIVE_MS : Fld := ⟨0x100, 0x4, 0, 16⟩
def F.EVT_PLAYOUT_CFG_LOOP_EXTENT : Fld := ⟨0x140, 0x0, 16, 8⟩
def F.EVT_PLAYOUT_CFG_EN : Fld := ⟨0x140, 0x0, 31, 1⟩
def F.EVT_PLAYOUT_CTL_STOP : Fld := ⟨0x144, 0x0, 0, 1⟩
def F.EVT_PLAYOUT_STAT_REASON : Fld := ⟨0x148, 0x0, 24, 8⟩
def F.EVT_SRC_SEL_SOURCE : Fld := ⟨0x14c, 0x0, 0, 11⟩
def F.EVT_SRC_INFO_ELIG : Fld := ⟨0x150, 0x0, 0, 16⟩
def F.EVT_SRC_INFO_LEVEL : Fld := ⟨0x150, 0x0, 16, 4⟩
def F.EVT_SRC_INFO_SEAT : Fld := ⟨0x150, 0x0, 24, 4⟩
def F.EVT_SRC_INFO_ROUTED : Fld := ⟨0x150, 0x0, 29, 1⟩
def F.EVT_SRC_INFO_HELD : Fld := ⟨0x150, 0x0, 30, 1⟩
def F.EVT_SRC_INFO_ASSERTED : Fld := ⟨0x150, 0x0, 31, 1⟩
def F.EVT_REROUTE_CNT_REROUTE_CNT : Fld := ⟨0x154, 0x0, 0, 32⟩
def F.EVT_HELD_CNT_HELD_CNT : Fld := ⟨0x158, 0x0, 0, 32⟩
def F.EVT_PLAYOUT_CNT_PLAYOUT_CNT : Fld := ⟨0x15c, 0x0, 0, 32⟩
def F.EVT_HELD_SOURCE : Fld := ⟨0x200, 0x4, 0, 32⟩

/-- Rows 0 onward of block evt (R530). -/
def rows_evt_0 : List Row := [
  ⟨F.EVT_CAP_SEATS, 1, .ro, 0x10, false⟩,
  ⟨F.EVT_CAP_LEVELS, 1, .ro, 0x10, false⟩,
  ⟨F.EVT_CAP_SOURCES, 1, .ro, 0x800, false⟩,
  ⟨F.EVT_STAT_HELD_N, 1, .ro, 0x0, false⟩,
  ⟨F.EVT_STAT_PLAYOUT_PEND, 1, .ro, 0x0, false⟩,
  ⟨F.EVT_STAT_PLAYOUT, 1, .ro, 0x0, false⟩,
  ⟨F.EVT_STAT_PRESENT, 1, .ro, 0x0, false⟩,
  ⟨F.EVT_ALIVE_ALIVE_MS, 16, .rwb, 0x0, false⟩,
  ⟨F.EVT_PLAYOUT_CFG_LOOP_EXTENT, 1, .rwb, 0x0, false⟩,
  ⟨F.EVT_PLAYOUT_CFG_EN, 1, .rwb, 0x0, false⟩,
  ⟨F.EVT_PLAYOUT_CTL_STOP, 1, .wo, 0x0, false⟩,
  ⟨F.EVT_PLAYOUT_STAT_REASON, 1, .ro, 0x0, false⟩,
  ⟨F.EVT_SRC_SEL_SOURCE, 1, .rw, 0x0, false⟩,
  ⟨F.EVT_SRC_INFO_ELIG, 1, .ro, 0x0, false⟩,
  ⟨F.EVT_SRC_INFO_LEVEL, 1, .ro, 0x0, false⟩,
  ⟨F.EVT_SRC_INFO_SEAT, 1, .ro, 0x0, false⟩,
  ⟨F.EVT_SRC_INFO_ROUTED, 1, .ro, 0x0, false⟩,
  ⟨F.EVT_SRC_INFO_HELD, 1, .ro, 0x0, false⟩,
  ⟨F.EVT_SRC_INFO_ASSERTED, 1, .ro, 0x0, false⟩,
  ⟨F.EVT_REROUTE_CNT_REROUTE_CNT, 1, .ro, 0x0, false⟩,
  ⟨F.EVT_HELD_CNT_HELD_CNT, 1, .ro, 0x0, false⟩,
  ⟨F.EVT_PLAYOUT_CNT_PLAYOUT_CNT, 1, .ro, 0x0, false⟩,
  ⟨F.EVT_HELD_SOURCE, 64, .ro, 0x0, false⟩]

/-- The register table of block evt (R530). -/
def rows_evt : List Row := rows_evt_0

/-! ### evtp: R531 -/

def F.EVTP_CFG_THRESH : Fld := ⟨0x100, 0x0, 0, 4⟩
def F.EVTP_CFG_RESEND_MS : Fld := ⟨0x100, 0x0, 16, 8⟩
def F.EVTP_CFG_RINGLOG : Fld := ⟨0x100, 0x0, 29, 1⟩
def F.EVTP_CFG_WAKE_ON : Fld := ⟨0x100, 0x0, 30, 1⟩
def F.EVTP_CFG_ASLEEP : Fld := ⟨0x100, 0x0, 31, 1⟩
def F.EVTP_RUN_LEVELS : Fld := ⟨0x104, 0x0, 0, 16⟩
def F.EVTP_RUN_RL : Fld := ⟨0x104, 0x0, 24, 4⟩
def F.EVTP_RUN_IDLE : Fld := ⟨0x104, 0x0, 31, 1⟩
def F.EVTP_ENTER_LEVEL : Fld := ⟨0x108, 0x0, 0, 4⟩
def F.EVTP_ENTER_GO : Fld := ⟨0x108, 0x0, 31, 1⟩
def F.EVTP_EXIT_GO : Fld := ⟨0x10c, 0x0, 0, 1⟩
def F.EVTP_NOTE_LEVEL : Fld := ⟨0x110, 0x0, 0, 4⟩
def F.EVTP_NOTE_OUTSTANDING : Fld := ⟨0x110, 0x0, 31, 1⟩
def F.EVTP_NSEQ_NSEQ : Fld := ⟨0x114, 0x0, 0, 32⟩
def F.EVTP_SUM_LVL_LEVEL : Fld := ⟨0x118, 0x0, 0, 16⟩
def F.EVTP_SUM_W_LO_WORD : Fld := ⟨0x11c, 0x0, 0, 32⟩
def F.EVTP_SUM_W_HI_WORD : Fld := ⟨0x120, 0x0, 0, 32⟩
def F.EVTP_ALIVE_ANY : Fld := ⟨0x124, 0x0, 0, 32⟩
def F.EVTP_STAT_ERR_CNT : Fld := ⟨0x128, 0x0, 0, 16⟩
def F.EVTP_STAT_PRESENT : Fld := ⟨0x128, 0x0, 31, 1⟩
def F.EVTP_LOST_CNT_LOST_CNT : Fld := ⟨0x12c, 0x0, 0, 32⟩
def F.EVTP_PEND_SOURCE : Fld := ⟨0x200, 0x4, 0, 32⟩

/-- Rows 0 onward of block evtp (R531). -/
def rows_evtp_0 : List Row := [
  ⟨F.EVTP_CFG_THRESH, 1, .rw, 0x0, true⟩,
  ⟨F.EVTP_CFG_RESEND_MS, 1, .rw, 0xa, true⟩,
  ⟨F.EVTP_CFG_RINGLOG, 1, .rw, 0x0, true⟩,
  ⟨F.EVTP_CFG_WAKE_ON, 1, .rw, 0x0, true⟩,
  ⟨F.EVTP_CFG_ASLEEP, 1, .rw, 0x0, true⟩,
  ⟨F.EVTP_RUN_LEVELS, 1, .ro, 0x0, true⟩,
  ⟨F.EVTP_RUN_RL, 1, .ro, 0x0, true⟩,
  ⟨F.EVTP_RUN_IDLE, 1, .ro, 0x1, true⟩,
  ⟨F.EVTP_ENTER_LEVEL, 1, .wo, 0x0, false⟩,
  ⟨F.EVTP_ENTER_GO, 1, .wo, 0x0, false⟩,
  ⟨F.EVTP_EXIT_GO, 1, .wo, 0x0, false⟩,
  ⟨F.EVTP_NOTE_LEVEL, 1, .ro, 0x0, false⟩,
  ⟨F.EVTP_NOTE_OUTSTANDING, 1, .ro, 0x0, false⟩,
  ⟨F.EVTP_NSEQ_NSEQ, 1, .ro, 0x0, true⟩,
  ⟨F.EVTP_SUM_LVL_LEVEL, 1, .ro, 0x0, false⟩,
  ⟨F.EVTP_SUM_W_LO_WORD, 1, .ro, 0x0, false⟩,
  ⟨F.EVTP_SUM_W_HI_WORD, 1, .ro, 0x0, false⟩,
  ⟨F.EVTP_ALIVE_ANY, 1, .wo, 0x0, false⟩,
  ⟨F.EVTP_STAT_ERR_CNT, 1, .ro, 0x0, false⟩,
  ⟨F.EVTP_STAT_PRESENT, 1, .ro, 0x1, false⟩,
  ⟨F.EVTP_LOST_CNT_LOST_CNT, 1, .ro, 0x0, false⟩,
  ⟨F.EVTP_PEND_SOURCE, 64, .ro, 0x0, false⟩]

/-- The register table of block evtp (R531). -/
def rows_evtp : List Row := rows_evtp_0

/-! ### ember: R532 -/

def F.EMBER_CAP_SAVE_MIB : Fld := ⟨0x4, 0x0, 0, 8⟩
def F.EMBER_STAT_REFUSE : Fld := ⟨0xc, 0x0, 8, 4⟩
def F.EMBER_STAT_WAKE_CAUSE : Fld := ⟨0xc, 0x0, 12, 4⟩
def F.EMBER_STAT_IMAGE_USED : Fld := ⟨0xc, 0x0, 28, 1⟩
def F.EMBER_STAT_IMAGE_VALID : Fld := ⟨0xc, 0x0, 29, 1⟩
def F.EMBER_STAT_PSTATE : Fld := ⟨0xc, 0x0, 30, 2⟩
def F.EMBER_PWR_CMD_OP : Fld := ⟨0x100, 0x0, 0, 2⟩
def F.EMBER_PWR_CMD_KEY : Fld := ⟨0x100, 0x0, 16, 16⟩
def F.EMBER_SAVE_BASE_LO_BASE : Fld := ⟨0x104, 0x0, 20, 12⟩
def F.EMBER_SAVE_BASE_HI_BASE : Fld := ⟨0x108, 0x0, 0, 32⟩
def F.EMBER_ALARM_LO_NS : Fld := ⟨0x10c, 0x0, 0, 32⟩
def F.EMBER_ALARM_HI_NS : Fld := ⟨0x110, 0x0, 0, 32⟩
def F.EMBER_WAKE_CFG_STBY_PORTS : Fld := ⟨0x114, 0x0, 0, 8⟩
def F.EMBER_WAKE_CFG_WAKE_N_EN : Fld := ⟨0x114, 0x0, 30, 1⟩
def F.EMBER_WAKE_CFG_ALARM_EN : Fld := ⟨0x114, 0x0, 31, 1⟩
def F.EMBER_STBY_CNT_STBY_CNT : Fld := ⟨0x118, 0x0, 0, 32⟩
def F.EMBER_SLEEP_CNT_SLEEP_CNT : Fld := ⟨0x11c, 0x0, 0, 32⟩
def F.EMBER_WAKE_TIME_US : Fld := ⟨0x120, 0x0, 0, 32⟩

/-- Rows 0 onward of block ember (R532). -/
def rows_ember_0 : List Row := [
  ⟨F.EMBER_CAP_SAVE_MIB, 1, .ro, 0x10, false⟩,
  ⟨F.EMBER_STAT_REFUSE, 1, .ro, 0x0, false⟩,
  ⟨F.EMBER_STAT_WAKE_CAUSE, 1, .ro, 0x0, true⟩,
  ⟨F.EMBER_STAT_IMAGE_USED, 1, .ro, 0x0, false⟩,
  ⟨F.EMBER_STAT_IMAGE_VALID, 1, .ro, 0x0, true⟩,
  ⟨F.EMBER_STAT_PSTATE, 1, .ro, 0x0, false⟩,
  ⟨F.EMBER_PWR_CMD_OP, 1, .wo, 0x0, false⟩,
  ⟨F.EMBER_PWR_CMD_KEY, 1, .wo, 0x0, false⟩,
  ⟨F.EMBER_SAVE_BASE_LO_BASE, 1, .rwb, 0x0, false⟩,
  ⟨F.EMBER_SAVE_BASE_HI_BASE, 1, .rwb, 0x0, false⟩,
  ⟨F.EMBER_ALARM_LO_NS, 1, .rw, 0x0, true⟩,
  ⟨F.EMBER_ALARM_HI_NS, 1, .rw, 0x0, true⟩,
  ⟨F.EMBER_WAKE_CFG_STBY_PORTS, 1, .rw, 0x0, true⟩,
  ⟨F.EMBER_WAKE_CFG_WAKE_N_EN, 1, .rw, 0x1, true⟩,
  ⟨F.EMBER_WAKE_CFG_ALARM_EN, 1, .rw, 0x0, true⟩,
  ⟨F.EMBER_STBY_CNT_STBY_CNT, 1, .ro, 0x0, true⟩,
  ⟨F.EMBER_SLEEP_CNT_SLEEP_CNT, 1, .ro, 0x0, true⟩,
  ⟨F.EMBER_WAKE_TIME_US, 1, .ro, 0x0, false⟩]

/-- The register table of block ember (R532). -/
def rows_ember : List Row := rows_ember_0

/-! ### pcie: R563 -/

def F.PCIE_CAP_RP_LANES : Fld := ⟨0x4, 0x0, 16, 8⟩
def F.PCIE_CAP_EP_LANES : Fld := ⟨0x4, 0x0, 24, 8⟩
def F.PCIE_STAT_RP1_WIDTH : Fld := ⟨0xc, 0x0, 8, 4⟩
def F.PCIE_STAT_RP1_SPEED : Fld := ⟨0xc, 0x0, 12, 3⟩
def F.PCIE_STAT_RP1_UP : Fld := ⟨0xc, 0x0, 15, 1⟩
def F.PCIE_STAT_RP0_WIDTH : Fld := ⟨0xc, 0x0, 16, 4⟩
def F.PCIE_STAT_RP0_SPEED : Fld := ⟨0xc, 0x0, 20, 3⟩
def F.PCIE_STAT_RP0_UP : Fld := ⟨0xc, 0x0, 23, 1⟩
def F.PCIE_STAT_EP_WIDTH : Fld := ⟨0xc, 0x0, 24, 4⟩
def F.PCIE_STAT_EP_SPEED : Fld := ⟨0xc, 0x0, 28, 3⟩
def F.PCIE_STAT_EP_UP : Fld := ⟨0xc, 0x0, 31, 1⟩
def F.PCIE_BAR0_ERR_CNT_DROP_CNT : Fld := ⟨0x100, 0x0, 0, 16⟩
def F.PCIE_BAR0_ERR_CNT_ABORT_CNT : Fld := ⟨0x100, 0x0, 16, 16⟩
def F.PCIE_BAR2_DROP_CNT_DROP_CNT : Fld := ⟨0x104, 0x0, 0, 32⟩
def F.PCIE_BAR2_UR_CNT_UR_CNT : Fld := ⟨0x108, 0x0, 0, 32⟩
def F.PCIE_RP_UR_CNT_UR_CNT : Fld := ⟨0x10c, 0x0, 0, 32⟩

/-- Rows 0 onward of block pcie (R563). -/
def rows_pcie_0 : List Row := [
  ⟨F.PCIE_CAP_RP_LANES, 1, .ro, 0x4, false⟩,
  ⟨F.PCIE_CAP_EP_LANES, 1, .ro, 0x8, false⟩,
  ⟨F.PCIE_STAT_RP1_WIDTH, 1, .ro, 0x0, false⟩,
  ⟨F.PCIE_STAT_RP1_SPEED, 1, .ro, 0x0, false⟩,
  ⟨F.PCIE_STAT_RP1_UP, 1, .ro, 0x0, false⟩,
  ⟨F.PCIE_STAT_RP0_WIDTH, 1, .ro, 0x0, false⟩,
  ⟨F.PCIE_STAT_RP0_SPEED, 1, .ro, 0x0, false⟩,
  ⟨F.PCIE_STAT_RP0_UP, 1, .ro, 0x0, false⟩,
  ⟨F.PCIE_STAT_EP_WIDTH, 1, .ro, 0x0, false⟩,
  ⟨F.PCIE_STAT_EP_SPEED, 1, .ro, 0x0, false⟩,
  ⟨F.PCIE_STAT_EP_UP, 1, .ro, 0x0, false⟩,
  ⟨F.PCIE_BAR0_ERR_CNT_DROP_CNT, 1, .ro, 0x0, false⟩,
  ⟨F.PCIE_BAR0_ERR_CNT_ABORT_CNT, 1, .ro, 0x0, false⟩,
  ⟨F.PCIE_BAR2_DROP_CNT_DROP_CNT, 1, .ro, 0x0, false⟩,
  ⟨F.PCIE_BAR2_UR_CNT_UR_CNT, 1, .ro, 0x0, false⟩,
  ⟨F.PCIE_RP_UR_CNT_UR_CNT, 1, .ro, 0x0, false⟩]

/-- The register table of block pcie (R563). -/
def rows_pcie : List Row := rows_pcie_0

/-! ### nvme: R564 -/

def F.NVME_CAP_DRIVES : Fld := ⟨0x4, 0x0, 0, 8⟩
def F.NVME_STAT_ERR : Fld := ⟨0xc, 0x0, 20, 4⟩
def F.NVME_STAT_STORE_VALID : Fld := ⟨0xc, 0x0, 24, 1⟩
def F.NVME_STAT_BUSY : Fld := ⟨0xc, 0x0, 25, 1⟩
def F.NVME_STAT_D0_STATE : Fld := ⟨0xc, 0x0, 26, 3⟩
def F.NVME_STAT_D1_STATE : Fld := ⟨0xc, 0x0, 29, 3⟩
def F.NVME_QBASE_LO_BASE : Fld := ⟨0x100, 0x0, 16, 16⟩
def F.NVME_QBASE_HI_BASE : Fld := ⟨0x104, 0x0, 0, 32⟩
def F.NVME_BUF_LO_BUF : Fld := ⟨0x108, 0x0, 12, 20⟩
def F.NVME_BUF_HI_BUF : Fld := ⟨0x10c, 0x0, 0, 32⟩
def F.NVME_ENT_LO_ENT : Fld := ⟨0x110, 0x0, 6, 26⟩
def F.NVME_ENT_HI_ENT : Fld := ⟨0x114, 0x0, 0, 32⟩
def F.NVME_CMD_EXTENT : Fld := ⟨0x118, 0x0, 0, 8⟩
def F.NVME_CMD_OP : Fld := ⟨0x118, 0x0, 12, 3⟩
def F.NVME_CMD_USE_DEST : Fld := ⟨0x118, 0x0, 15, 1⟩
def F.NVME_CMD_KEY : Fld := ⟨0x118, 0x0, 16, 16⟩
def F.NVME_CAPACITY_UNITS : Fld := ⟨0x11c, 0x0, 0, 32⟩
def F.NVME_DIR_GEN_GEN : Fld := ⟨0x120, 0x0, 0, 32⟩
def F.NVME_RESULT_CRC_CRC : Fld := ⟨0x124, 0x0, 0, 32⟩
def F.NVME_PROGRESS_LO_BYTES : Fld := ⟨0x128, 0x0, 0, 32⟩
def F.NVME_PROGRESS_HI_BYTES : Fld := ⟨0x12c, 0x0, 0, 32⟩
def F.NVME_D0_ERR_CNT_ERR_CNT : Fld := ⟨0x130, 0x0, 0, 32⟩
def F.NVME_D1_ERR_CNT_ERR_CNT : Fld := ⟨0x134, 0x0, 0, 32⟩

/-- Rows 0 onward of block nvme (R564). -/
def rows_nvme_0 : List Row := [
  ⟨F.NVME_CAP_DRIVES, 1, .ro, 0x2, false⟩,
  ⟨F.NVME_STAT_ERR, 1, .ro, 0x0, false⟩,
  ⟨F.NVME_STAT_STORE_VALID, 1, .ro, 0x0, false⟩,
  ⟨F.NVME_STAT_BUSY, 1, .ro, 0x0, false⟩,
  ⟨F.NVME_STAT_D0_STATE, 1, .ro, 0x0, false⟩,
  ⟨F.NVME_STAT_D1_STATE, 1, .ro, 0x0, false⟩,
  ⟨F.NVME_QBASE_LO_BASE, 1, .rwb, 0x0, false⟩,
  ⟨F.NVME_QBASE_HI_BASE, 1, .rwb, 0x0, false⟩,
  ⟨F.NVME_BUF_LO_BUF, 1, .rw, 0x0, false⟩,
  ⟨F.NVME_BUF_HI_BUF, 1, .rw, 0x0, false⟩,
  ⟨F.NVME_ENT_LO_ENT, 1, .rw, 0x0, false⟩,
  ⟨F.NVME_ENT_HI_ENT, 1, .rw, 0x0, false⟩,
  ⟨F.NVME_CMD_EXTENT, 1, .wo, 0x0, false⟩,
  ⟨F.NVME_CMD_OP, 1, .wo, 0x0, false⟩,
  ⟨F.NVME_CMD_USE_DEST, 1, .wo, 0x0, false⟩,
  ⟨F.NVME_CMD_KEY, 1, .wo, 0x0, false⟩,
  ⟨F.NVME_CAPACITY_UNITS, 1, .ro, 0x0, false⟩,
  ⟨F.NVME_DIR_GEN_GEN, 1, .ro, 0x0, false⟩,
  ⟨F.NVME_RESULT_CRC_CRC, 1, .ro, 0x0, false⟩,
  ⟨F.NVME_PROGRESS_LO_BYTES, 1, .ro, 0x0, false⟩,
  ⟨F.NVME_PROGRESS_HI_BYTES, 1, .ro, 0x0, false⟩,
  ⟨F.NVME_D0_ERR_CNT_ERR_CNT, 1, .ro, 0x0, false⟩,
  ⟨F.NVME_D1_ERR_CNT_ERR_CNT, 1, .ro, 0x0, false⟩]

/-- The register table of block nvme (R564). -/
def rows_nvme : List Row := rows_nvme_0

/-! ### upd: R565 -/

def F.UPD_CAP_SLOTS : Fld := ⟨0x4, 0x0, 0, 4⟩
def F.UPD_STAT_SPARE_COMMIT : Fld := ⟨0xc, 0x0, 16, 1⟩
def F.UPD_STAT_STAGED : Fld := ⟨0xc, 0x0, 17, 1⟩
def F.UPD_STAT_FALLBACK : Fld := ⟨0xc, 0x0, 18, 1⟩
def F.UPD_STAT_TRIALS : Fld := ⟨0xc, 0x0, 19, 2⟩
def F.UPD_STAT_CONFIRMED : Fld := ⟨0xc, 0x0, 21, 1⟩
def F.UPD_STAT_BOOTED : Fld := ⟨0xc, 0x0, 22, 2⟩
def F.UPD_STAT_FLASH_ERR : Fld := ⟨0xc, 0x0, 24, 4⟩
def F.UPD_STAT_FLASH_OP : Fld := ⟨0xc, 0x0, 28, 4⟩
def F.UPD_SRC_LO_SRC : Fld := ⟨0x100, 0x0, 12, 20⟩
def F.UPD_SRC_HI_SRC : Fld := ⟨0x104, 0x0, 0, 32⟩
def F.UPD_LEN_LEN : Fld := ⟨0x108, 0x0, 0, 22⟩
def F.UPD_CMD_OP : Fld := ⟨0x10c, 0x0, 0, 3⟩
def F.UPD_CMD_SLOT : Fld := ⟨0x10c, 0x0, 8, 2⟩
def F.UPD_CMD_KEY : Fld := ⟨0x10c, 0x0, 16, 16⟩
def F.UPD_RESULT_CRC_CRC : Fld := ⟨0x110, 0x0, 0, 32⟩
def F.UPD_PROGRESS_BYTES : Fld := ⟨0x114, 0x0, 0, 22⟩
def F.UPD_TJ_CTL_EXTENT : Fld := ⟨0x120, 0x0, 0, 8⟩
def F.UPD_TJ_CTL_STOP : Fld := ⟨0x120, 0x0, 30, 1⟩
def F.UPD_TJ_CTL_GO : Fld := ⟨0x120, 0x0, 31, 1⟩
def F.UPD_TJ_RANGE_FIRST : Fld := ⟨0x124, 0x0, 0, 12⟩
def F.UPD_TJ_RANGE_LAST : Fld := ⟨0x124, 0x0, 16, 12⟩
def F.UPD_TJ_ACT_ACT_S : Fld := ⟨0x128, 0x0, 0, 16⟩
def F.UPD_TJ_STAT_TILE : Fld := ⟨0x12c, 0x0, 0, 12⟩
def F.UPD_TJ_STAT_SEQ : Fld := ⟨0x12c, 0x0, 16, 8⟩
def F.UPD_TJ_STAT_HALT : Fld := ⟨0x12c, 0x0, 24, 4⟩
def F.UPD_TJ_STAT_STATE : Fld := ⟨0x12c, 0x0, 28, 4⟩
def F.UPD_TJ_DONE_CNT_DONE_CNT : Fld := ⟨0x130, 0x0, 0, 32⟩
def F.UPD_TJ_SKIP_CNT_SKIP_CNT : Fld := ⟨0x134, 0x0, 0, 32⟩

/-- Rows 0 onward of block upd (R565). -/
def rows_upd_0 : List Row := [
  ⟨F.UPD_CAP_SLOTS, 1, .ro, 0x2, false⟩,
  ⟨F.UPD_STAT_SPARE_COMMIT, 1, .ro, 0x0, false⟩,
  ⟨F.UPD_STAT_STAGED, 1, .ro, 0x0, false⟩,
  ⟨F.UPD_STAT_FALLBACK, 1, .ro, 0x0, false⟩,
  ⟨F.UPD_STAT_TRIALS, 1, .ro, 0x0, false⟩,
  ⟨F.UPD_STAT_CONFIRMED, 1, .ro, 0x0, false⟩,
  ⟨F.UPD_STAT_BOOTED, 1, .ro, 0x3, false⟩,
  ⟨F.UPD_STAT_FLASH_ERR, 1, .ro, 0x0, false⟩,
  ⟨F.UPD_STAT_FLASH_OP, 1, .ro, 0x0, false⟩,
  ⟨F.UPD_SRC_LO_SRC, 1, .rw, 0x0, false⟩,
  ⟨F.UPD_SRC_HI_SRC, 1, .rw, 0x0, false⟩,
  ⟨F.UPD_LEN_LEN, 1, .rw, 0x0, false⟩,
  ⟨F.UPD_CMD_OP, 1, .wo, 0x0, false⟩,
  ⟨F.UPD_CMD_SLOT, 1, .wo, 0x0, false⟩,
  ⟨F.UPD_CMD_KEY, 1, .wo, 0x0, false⟩,
  ⟨F.UPD_RESULT_CRC_CRC, 1, .ro, 0x0, false⟩,
  ⟨F.UPD_PROGRESS_BYTES, 1, .ro, 0x0, false⟩,
  ⟨F.UPD_TJ_CTL_EXTENT, 1, .rw, 0x0, false⟩,
  ⟨F.UPD_TJ_CTL_STOP, 1, .wo, 0x0, false⟩,
  ⟨F.UPD_TJ_CTL_GO, 1, .w1s, 0x0, false⟩,
  ⟨F.UPD_TJ_RANGE_FIRST, 1, .rw, 0x0, false⟩,
  ⟨F.UPD_TJ_RANGE_LAST, 1, .rw, 0x0, false⟩,
  ⟨F.UPD_TJ_ACT_ACT_S, 1, .rw, 0x3c, false⟩,
  ⟨F.UPD_TJ_STAT_TILE, 1, .ro, 0x0, false⟩,
  ⟨F.UPD_TJ_STAT_SEQ, 1, .ro, 0x0, false⟩,
  ⟨F.UPD_TJ_STAT_HALT, 1, .ro, 0x0, false⟩,
  ⟨F.UPD_TJ_STAT_STATE, 1, .ro, 0x0, false⟩,
  ⟨F.UPD_TJ_DONE_CNT_DONE_CNT, 1, .ro, 0x0, false⟩,
  ⟨F.UPD_TJ_SKIP_CNT_SKIP_CNT, 1, .ro, 0x0, false⟩]

/-- The register table of block upd (R565). -/
def rows_upd : List Row := rows_upd_0

/-! ### crc: R566 -/

def F.CRC_CFG_REFOUT : Fld := ⟨0x100, 0x0, 0, 1⟩
def F.CRC_CFG_REFIN : Fld := ⟨0x100, 0x0, 1, 1⟩
def F.CRC_POLY_POLY : Fld := ⟨0x104, 0x0, 0, 32⟩
def F.CRC_XOROUT_XOROUT : Fld := ⟨0x108, 0x0, 0, 32⟩
def F.CRC_VALUE_V : Fld := ⟨0x10c, 0x0, 0, 32⟩
def F.CRC_DATA_DATA : Fld := ⟨0x110, 0x0, 0, 32⟩
def F.CRC_RESULT_RESULT : Fld := ⟨0x114, 0x0, 0, 32⟩
def F.CRC_BYTE_CNT_BYTE_CNT : Fld := ⟨0x118, 0x0, 0, 32⟩

/-- Rows 0 onward of block crc (R566). -/
def rows_crc_0 : List Row := [
  ⟨F.CRC_CFG_REFOUT, 1, .rw, 0x1, false⟩,
  ⟨F.CRC_CFG_REFIN, 1, .rw, 0x1, false⟩,
  ⟨F.CRC_POLY_POLY, 1, .rw, 0x1edc6f41, false⟩,
  ⟨F.CRC_XOROUT_XOROUT, 1, .rw, 0xffffffff, false⟩,
  ⟨F.CRC_VALUE_V, 1, .rw, 0xffffffff, false⟩,
  ⟨F.CRC_DATA_DATA, 1, .wo, 0x0, false⟩,
  ⟨F.CRC_RESULT_RESULT, 1, .ro, 0x0, false⟩,
  ⟨F.CRC_BYTE_CNT_BYTE_CNT, 1, .rw, 0x0, false⟩]

/-- The register table of block crc (R566). -/
def rows_crc : List Row := rows_crc_0

end Sys2Proof.Machine
end

