-- ==== Sys2Proof/Machine/State.lean ====
section
/-!
DEFINITION. The state of the block as plain data, and the state after reset. Registers are sparse
maps from byte addresses to words: an address that is not listed holds the value the register
tables give for power-up. What the registers do not show (buffers, queues, filters, timers'
conditions, the contents of memories) stands in the records below.
-/
namespace Sys2Proof.Machine

/-- Why a step stops for good. The spec names no condition that stops the block (R44), so nothing
raises a fault: the type has no constructor, and no run ends in one. -/
inductive Fault
  deriving DecidableEq, Repr

/-- Why a command has no meaning here. -/
inductive Refusal
  /-- A command not modelled yet; raised by an arm of `exec` only. Safe: nothing is claimed of it. -/
  | notModelled (mnemonic : String)
  deriving DecidableEq, Repr

/-- A sparse map in canonical form: keys strictly rising, no entry equal to what an unlisted key holds. -/
abbrev Sparse (α : Type) := List (Nat × α)

/-- GDDR6 contents: the listed bytes, and the regions `(lo, hi, k)` whose unlisted bytes are open
(the last 8 MiB after a training, R457; the save area, R526). -/
structure Mem where
  cells : List Host.Cell
  lost : List (Nat × Nat × Nat)
  deriving DecidableEq, Repr

/-- A ring's state (R120). -/
structure Ring where
  base : Nat
  space : Nat
  sizeLog2 : Nat
  cons : Nat
  prod : Nat
  role : Nat
  owner : Nat
  enable : Bool
  drop : Nat
  err : Nat
  deriving DecidableEq, Repr

/-- Engine time (R393 to R396): free counter, OFFSET in 2^-16 ns, ANCHOR, RATE in 2^-48, and what
the Ember domain recorded: engine time in 2^-16 ns, RATE, and crystal ticks since the recording. -/
structure Clock where
  free : Nat
  offset : Nat
  anchor : Nat
  rate : Int
  emberTime : Nat
  emberRate : Int
  emberTicks : Nat
  deriving DecidableEq, Repr

/-- Supplies, resets and the power-up path. -/
structure Power where
  /-- Rails in the order of R64: valid. -/
  rails : List Bool
  /-- REFCLK_CORE is in fault (R74). -/
  coreFault : Bool
  /-- Main domains are out of reset. -/
  up : Bool
  /-- THERMTRIP_N and the restart after a shutdown (R89): 0 high; 1 low until POR_N pulses or a rail fails;
  2 low until the hottest sensor has cooled. -/
  thermHold : Nat
  /-- Shutdown has started (R490). -/
  shutting : Bool
  /-- ALERT_N is low for a shutdown (R90). -/
  shutAlert : Bool
  /-- The sensor that started the shutdown, and its reading in use. -/
  shutAt : Nat × Int
  /-- Store loads still to run, by extent (R84). -/
  loads : List Nat
  loadFailed : Bool
  /-- The record holds an initial commit that has not been targeted. -/
  initCommit : Bool
  xtal : Bool
  /-- In Sleep, or waking from it. -/
  sleeping : Bool
  /-- PCIE_EP_WAKE_N is low (R527). -/
  epWake : Bool
  deriving DecidableEq, Repr

/-- A commit captured at its GO (R277), or an initial or playout commit. -/
structure Commit where
  seat : Nat
  group : Nat
  /-- ORIGIN of _ADM: 0 a seat's GO, 1 initial, 2 playout. -/
  origin : Nat
  target : Nat
  late : Bool
  /-- The named target fails R280. -/
  badTarget : Bool
  words : Sparse Word
  deriving DecidableEq, Repr

/-- A requested step (R398): by OP 0x1, by OP 0x2 with its value, or by AUTO_FIRST. -/
inductive StepReq | authorised | value (v : Int) | auto (v : Int)
  deriving DecidableEq, Repr

/-- The cycle sequencer. Times are engine time in whole ns. -/
structure Cycles where
  run : Bool
  /-- Number of the cycle whose compose start comes next. -/
  next : Nat
  /-- T and P of the cycle before it. -/
  prevLaunch : Nat
  prevPeriod : Nat
  /-- Launch times of the last three cycles that have started, newest first. -/
  recent : List Nat
  /-- T and P of `next`. -/
  launch : Nat
  period : Nat
  /-- W of `next` has passed. -/
  closed : Bool
  /-- Cycles below this number have had their output edges scheduled (R569). -/
  edged : Nat
  /-- Numbered bridge cycles still to start, with their launch times (R286). -/
  bridge : List (Nat × Nat)
  /-- Numbers from here to below `next` belong to the bridge before `next` (R286). -/
  bridgeFrom : Nat
  pend : List Commit
  /-- Commits accepted for `next`. -/
  acc : List Commit
  /-- GEN of the schedule sent last, and cycles started since plus 1, 0 before the first (R321). -/
  gen : Nat
  genAge : Nat
  req : Option StepReq
  /-- A step scheduled for `next`: its Δ, and whether AUTO_FIRST made it. -/
  sched : Option (Int × Bool)
  /-- G and D that come into force at the next compose start (R284). -/
  newGuard : Nat
  newD : Nat
  /-- Compose starts before this engine time compose nothing (R525). -/
  resume : Nat
  deriving DecidableEq, Repr

/-- A flash step: erase of `len` bytes, or a program of bytes (R535, R538). -/
inductive FlashStep
  | erase (addr len : Nat)
  | program (addr : Nat) (bytes : List Byte)
  deriving DecidableEq, Repr

/-- IP and UDP header of a datagram that the engine sends; an address below 2^32 is IPv4. -/
structure UdpTx where
  src : Nat
  dst : Nat
  srcPort : Nat
  dstPort : Nat
  deriving DecidableEq, Repr

/-- A group record of a membership report (R146): INCLUDE or EXCLUDE, and its sources. -/
structure GroupRec where
  group : BitVec 128
  exclude : Bool
  sources : List (BitVec 128)
  deriving DecidableEq, Repr

/-- What a frame that a port sends carries. -/
inductive Tx
  | datagram (seat : Nat) (udp : UdpTx) (bytes : List Byte)
  | event (seat : Nat) (udp : UdpTx) (words : List Quad)
  | arpReply (mac : BitVec 48) (ip : Word)
  | gratuitousArp (ip : Word)
  | advertisement (target : BitVec 128) (solicited : Bool)
  | neighbourRequest (ip : BitVec 128)
  /-- A membership report with the Router Alert option (R147): source and destination address, records. -/
  | groupReport (src dst : Nat) (records : List GroupRec) (change : Bool)
  /-- A forwarded PTP frame (R410): source MAC, the IP and UDP headers as received, the message. -/
  | ptpForward (mac : BitVec 48) (ip : Option (IpRx × UdpRx)) (m : PtpMsg)
  | delayReq (seq : Nat) (udp : Option UdpTx)
  | preview (view : Nat) (udp : UdpTx) (dscp ttl : Nat) (rtp : List Word) (payload : List Byte)
  deriving DecidableEq, Repr

/-- What the block sends or answers, in order: the model's own record of its outputs. -/
inductive Out
  | readData (seat : Nat) (value : Word)
  | completion (bytes : List Byte)
  | completerAbort
  | unsupported
  | retryStatus
  /-- A frame: port, destination MAC, VLAN tag (R140), content. -/
  | frame (port : Nat) (mac : Nat) (vlan : Option Nat) (body : Tx)
  | msix (vector : Nat) (addr : Quad) (data : Word)
  | packet (link : Nat) (sec : Bool) (words : List Quad) (crc : Word)
  | pdresp (feed : FeedId) (seq : Byte) (turnaround : Word)
  | training (lane : Nat) (control status : Word)
  /-- Symbols that a lane sends from the next tick on, and the samples of R355 that have left, in 1/384 mV. -/
  | line (lane : Nat) (levels : List Nat) (samples : List Int)
  | detectPulse (lane : Nat)
  | sample (slot : Nat) (value : Int)
  | hostWrite (addr : Nat) (bytes : List Byte)
  | flash (step : FlashStep)
  | nvme (drive : Nat) (op : Nat)
  | pin (name : String) (level : Bool)
  /-- Levels that the test port drives, by cell of the boundary register; none is not driven (R62). -/
  | testPins (cells : List (Option Bool))
  | tdo (bit : Bool)
  deriving DecidableEq, Repr

/-- A frame in assembly (R152): timestamp, buffer, pixels written. For 4:2:2, the chroma of its co-sited
samples and the luma of odd pixels that wait for the sample at their right, by row * 65536 + x. -/
structure Asm where
  ts : Nat
  buf : Nat
  count : Nat
  chroma : Sparse (Option (Nat × Nat))
  wait : Sparse (Option Nat)
  full : Bool
  deriving DecidableEq, Repr

/-- A complete frame in a buffer: its number since the restart, timestamp or push count, completion time,
and whether a compose start has selected it. -/
structure Frame where
  serial : Nat
  ts : Nat
  time : Nat
  chosen : Bool
  deriving DecidableEq, Repr

/-- An accepted packet: extended sequence number, path B, arrival. -/
structure Arrival where
  seq : Nat
  pathB : Bool
  time : Nat
  deriving DecidableEq, Repr

/-- What a flow keeps beside its table entry (R152 to R168). -/
structure FlowRt where
  asm : Option Asm
  readBuf : Option Nat
  newest : Option Nat
  /-- The buffer of a damaged frame, which the next frame takes (R153). -/
  again : Option Nat
  /-- The buffer that a push fills (R168). -/
  pushBuf : Nat
  frames : Sparse (Option Frame)
  serial : Nat
  pushes : Nat
  /-- ING_PUSH writes whose frame has not completed. -/
  waiting : Nat
  /-- The timestamp of the last frame that ended (R154). -/
  lastTs : Option Nat
  /-- H and the record of R155. -/
  high : Option Nat
  seen : List Arrival
  /-- Arrival of the last frame's first packet (R166) and of the last accepted packet. -/
  firstAt : Option Nat
  lastAt : Option Nat
  /-- The last 64 gaps, newest first (R157). -/
  gaps : List Nat
  stall : Nat
  /-- Condition 3 has been raised for this stall (R181). -/
  stalled : Bool
  deriving DecidableEq, Repr

/-- An Ethernet port's caches (R143 to R147). -/
structure PortRt where
  /-- Neighbours, most recently used first: address, MAC. -/
  cache : List (BitVec 128 × BitVec 48)
  /-- Misses: address, requests sent, frames waiting. -/
  misses : List (BitVec 128 × Nat × List Tx)
  /-- Groups joined: group, sources; no source is EXCLUDE with an empty list. -/
  groups : List (BitVec 128 × List (BitVec 128))
  /-- State-change reports to be sent once more, oldest first. -/
  changes : List (List GroupRec)
  /-- Groups that a query asked about. -/
  reports : List (BitVec 128)
  deriving DecidableEq, Repr

/-- A frame of a writeback or preview: its cycle, launch time and buffer. -/
structure Shot where
  cycle : Nat
  launch : Nat
  buf : Nat
  deriving DecidableEq, Repr

/-- What a view last sent for a part of a tile: tile, START, drive values, sum_pre of each lamp, saturations. -/
structure Sent where
  tile : Nat
  start : Nat
  values : List Nat
  pre : List Nat
  sat : Nat
  deriving DecidableEq, Repr

/-- What a view keeps beside its page. -/
structure ViewRt where
  /-- The last compose start judged it; the frames that its visible layers selected there: layer, and buffer
  with the frame's number when it shows. -/
  judged : Bool
  seen : List (Nat × Option (Nat × Nat))
  /-- A commit or a change of SHOWING has touched the view since (R207). -/
  touched : Bool
  /-- What its last sent cycle sent (R247, R256). -/
  sent : List Sent
  wbNext : Nat
  /-- Writebacks in progress, oldest first, and the one completed last. -/
  wb : List Shot
  wbLast : Option Shot
  /-- The preview frame in progress and its packets sent. -/
  pv : Option (Shot × Nat)
  pvSeq : Nat
  deriving DecidableEq, Repr

/-- Bring-up of one feed or port (R361 to R371): `cfg` is the configuration word it runs with; `record` is
what a bring-up starts from (R360): 0 the preset record, 1 the defaults, 2 the trims in force. -/
structure Feed where
  stage : Nat
  lane : Nat
  width : Nat
  cfg : Nat
  fails : Nat
  record : Nat
  relock : Bool
  deriving DecidableEq, Repr

/-- Where a receiver stands in the procedure of R365. -/
inductive TrainPhase
  /-- It waits for frame lock. -/
  | lock
  /-- It requests RP_PRESET. -/
  | preset
  /-- It replays DPRE and DPOST. -/
  | replay
  /-- It measures `best` of a tap's search. -/
  | best
  /-- It requests a step of the search, measures its effect, or takes it back. -/
  | ask
  | measure
  | undo
  /-- RX_READY. -/
  | ready
  deriving DecidableEq, Repr

/-- The requester's half of the handshake (R364) and the search of R365. -/
structure Train where
  phase : TrainPhase
  /-- The search is at PRE, not POST; at dec, not inc; has kept a step; and the best metric, uV. -/
  pre : Bool
  dec : Bool
  kept : Bool
  best : Int
  /-- PRE and POST steps still to replay. -/
  left : Int × Int
  /-- Consecutive valid frames that answered the request, and the answer; hold is sent after three. -/
  answers : Nat
  result : Nat
  hold : Bool
  /-- Consecutive valid frames with the partner's RX_READY, up to 16; some frame has had it. -/
  partner : Nat
  seen : Bool
  deriving DecidableEq, Repr

/-- Generator and checker of a test lane (R384, R385). -/
structure TestRt where
  /-- The generator's position: the register of a PRBS, or the bits sent of another pattern. -/
  gen : Nat
  /-- Symbols due, in 1/32 symbol. -/
  clock : Nat
  /-- The last bits received, newest lowest, and how many. -/
  bits : Nat
  got : Nat
  /-- The checker's expected position while synchronised, and its errors among the last 64 bits. -/
  expect : Nat
  errs : Nat
  /-- Bits checked below a unit of BITS_CNT. -/
  part : Nat
  /-- The two symbols before the next one sent. -/
  hist : Nat × Nat
  deriving DecidableEq, Repr

/-- A lane's training handshake (R364) and calibration (R373 to R379). -/
structure LaneRt where
  /-- Consecutive valid training frames. -/
  frames : Nat
  /-- The last requests, and for how many frames each was held: preset, PRE, POST. -/
  reqs : List (Nat × Nat)
  preSts : Nat
  postSts : Nat
  presetDone : Bool
  train : Train
  /-- The index that the partner gives its transmitter on this receive lane (R354). -/
  rxIndex : Nat
  /-- Windows of R372 since the statistics began: blocks, non-FILL blocks. -/
  wins : List (Nat × Nat)
  /-- Steps waiting for a FILL window. -/
  pend : List TrimStep
  /-- The steps applied last, with the codes they replaced. -/
  last : List TrimStep
  /-- Fields frozen after a revert, with the free counter at which they thaw. -/
  frozen : List (TrimStep × Nat)
  gathering : Bool
  moving : Bool
  fromHost : Bool
  targets : List TrimStep
  targetAct : Nat
  /-- The trims in force came from a feed that reached stage 5. -/
  good : Bool
  test : TestRt
  deriving DecidableEq, Repr

/-- What the transmitters of a feed have in progress (R298 to R309, R362). -/
structure LineTx where
  /-- What they send: 0 nothing, 1 detect pulses, 2 training frames, 3 codewords. -/
  mode : Nat
  /-- 1/7 ns since the last frame, codeword or pulse began. -/
  phase : Nat
  /-- Frames to send after stage 2, codewords with CAP after stage 4. -/
  more : Nat
  /-- Outputs of the block that the line has taken in. -/
  taken : Nat
  /-- Packets that wait, and PDRESP blocks. -/
  queue : List (List Nat)
  resp : List (List Byte)
  /-- Bytes of the packet in progress, and its TYPE and TILE. -/
  rest : List Byte
  key : Nat
  /-- Non-hop blocks since the last FILL block. -/
  sinceFill : Nat
  /-- Training frames sent, or codewords of the stream. -/
  count : Nat
  /-- By lane: the scrambler's last 58 bits, and the two symbols before the next one. -/
  scram : List Nat
  hist : List (Nat × Nat)
  deriving DecidableEq, Repr

/-- What the receivers of a feed have in progress (R300, R305, R309, R366). -/
structure LineRx where
  /-- By lane: the last 58 scrambled bits. -/
  scram : List Nat
  /-- Bytes of the packet in progress. -/
  part : List Byte
  /-- Data are ignored until a packet starts. -/
  skip : Bool
  /-- The last CAP block, how many of it in succession, and the YOUR_POS applied. -/
  cap : List Byte
  caps : Nat
  pos : Nat
  deriving DecidableEq, Repr

/-- Both directions of a feed's line. -/
structure LineRt where
  tx : LineTx
  rx : LineRx
  deriving DecidableEq, Repr

/-- What a link keeps of a position (R332, R333, R346). -/
structure PosRt where
  /-- Cycles since its last link report. -/
  quiet : Nat
  /-- Serial number of the tile that holds it; another tile has claimed it. -/
  serial : Option Nat
  second : Bool
  /-- An ASSIGN waits to be sent. -/
  assign : Bool
  deriving DecidableEq, Repr

/-- What a link keeps beside its page: broadcast system messages of this cycle (R341), the feeds on which a SCHED
waits, positions. -/
structure LinkRt where
  sent : Nat
  sched : List Bool
  pos : Sparse PosRt
  deriving DecidableEq, Repr

/-- A memory channel's calibration and refresh (R454 to R466). -/
structure ChanRt where
  pend : List MemStep
  last : List MemStep
  frozen : List (MemStep × Nat)
  gathering : Bool
  moving : Bool
  targets : List MemStep
  targetAct : Nat
  /-- Due refreshes held, by bank. -/
  due : Sparse Nat
  /-- Free time of the last trim change (R463). -/
  changed : Option Nat
  /-- A re-gather that fell due before a change of pin rate waits for its end (R473). -/
  waits : Bool
  deriving DecidableEq, Repr

/-- A BAR2 request that the endpoint holds during a change of pin rate (R469). -/
structure Bar2Req where
  write : Bool
  addr : Nat
  bytes : List Byte
  len : Nat
  deriving DecidableEq, Repr

/-- Message credits with one tile (R338 to R340), by pool for what the tile grants. -/
structure Credit where
  limit0 : Nat
  used0 : Nat
  limit1 : Nat
  used1 : Nat
  upLimit : Nat
  /-- Words of upstream messages freed: written to the ring or dropped. -/
  upUsed : Nat
  /-- Upstream messages the engine holds until they fit the ring (R123): HDR_LO, RX_TIME, payload. -/
  held : List (Nat × Nat × List Nat)
  deriving DecidableEq, Repr

/-- A tile's telemetry (R478 to R489). -/
structure TileRt where
  pseq : Nat
  /-- A POLL has been sent; a STATE record for the latest has been accepted. -/
  polled : Bool
  answered : Bool
  misses : Nat
  stopped : Bool
  /-- The last FSEQ accepted. -/
  fseq : Option Nat
  power : Nat
  /-- Accepted temperatures, newest first: free counter, T, failed sensors. -/
  temps : List (Nat × Int × Nat)
  everValid : Nat
  failed : Nat
  supplier : Option Nat
  deriving DecidableEq, Repr

/-- A diagnostic message out for results (R498 to R501). -/
structure DiagOut where
  tile : Nat
  dseq : Nat
  lamps : List (Nat × Nat)
  /-- The cycle of its slot. -/
  cycle : Nat
  deriving DecidableEq, Repr

/-- The housekeeping state: die sensors, zones, lamp health. -/
structure House where
  /-- Reading, failed, consecutive deviating conversions, by sensor. -/
  die : Sparse (Int × Bool × Nat)
  /-- Readings in use and failure states of the last 125 rounds, newest first. -/
  rounds : List (List (Int × Bool))
  tiles : Sparse TileRt
  lastPolled : Nat
  /-- Zone levels (64 unlisted), and 500 ms boundaries since the zone's last violation (8 unlisted). -/
  zoneLevel : Sparse Nat
  zoneViol : Sparse Nat
  dieViol : Nat
  holds : List Nat
  dieHold : Bool
  /-- The sensor that supplied H in the previous round. -/
  hotPrev : Option Nat
  blankReq : List Nat
  unblankReq : List Nat
  /-- Consecutive rounds with the measured power above the cap. -/
  overCap : Nat
  /-- Off list: record index, lamp. -/
  offList : List (Nat × Nat)
  /-- Diagnostic queue: tile, pixel, lamp. -/
  queue : List (Nat × Nat × Nat)
  outs : List DiagOut
  dseq : Nat
  /-- Free times at which the holds end, by zone; 256 is the die's (R489). -/
  holdEnds : Sparse Nat
  deriving DecidableEq, Repr

/-- A master heard by Announce (R404). -/
structure Master where
  port : Nat
  ann : Announce
  /-- The free counter at its last Announce. -/
  heard : Nat
  deriving DecidableEq, Repr

/-- The PTP slave and the lock counters (R402 to R409). Times in 2^-16 ns. -/
structure Ptp where
  masters : List Master
  selected : Option Master
  /-- A two-step Sync with its corrected receive stamp, waiting for its Follow_Up. -/
  pendSync : Option (PtpMsg × Int)
  ms : Option Int
  /-- The last eight delays, newest first. -/
  dlys : List Int
  /-- The Delay_Req out: its number, t3, and the last ms before t3. -/
  dreq : Option (Nat × Int × Option Int)
  dreqSeq : Nat
  good : Nat
  bad : Nat
  lastEdge : Option Nat
  deriving DecidableEq, Repr

/-- An edge due of a cycle output: its instant, its cycle, and T_c + OFS (R430). -/
structure DueEdge where
  at' : Nat
  cycle : Nat
  base : Int
  deriving DecidableEq, Repr

/-- A timing output with the fields it latched (R414), k of its next periodic edge, and scheduled edges
of a cycle output. -/
structure Tout where
  armed : Bool
  cfg : Word
  t0 : Nat
  period : Nat
  frac : Nat
  width : Nat
  ofs : Int
  k : Nat
  due : List DueEdge
  pulse : Bool
  stopping : Bool
  /-- The pin is active low, by the POL that governs it (R412, R414). -/
  low : Bool
  /-- The TRIM in force at the last S_c (R430). -/
  trim : Int
  deriving DecidableEq, Repr

/-- A capture entry (R417): ns, rising, STEP_GEN. -/
structure Stamp where
  ns : Nat
  rising : Bool
  gen : Nat
  deriving DecidableEq, Repr

/-- A capture input: FIFO, oldest first, and the last stamped edge. -/
structure Tcap where
  fifo : List Stamp
  last : Option Nat
  latched : Sparse Stamp
  deriving DecidableEq, Repr

/-- What a servo slot keeps beside its registers (R434 to R438): the tracker's prediction q (2^-8 ns) and
change v, and a release that waits for the next sample. -/
structure Servo where
  q : Int
  v : Int
  releasing : Bool
  /-- R441 has rebased the slot since its release: R439 does not rebase it again (R442). -/
  rebased : Bool
  deriving DecidableEq, Repr

/-- Event delivery (R506 to R522). -/
structure Events where
  routed : Sparse Nat
  held : List Nat
  woken : List (Nat × Nat)
  lost : List Nat
  /-- Wake vectors of seat 0 pending for a held source: source, level. -/
  wakeBits : List (Nat × Nat)
  deriving DecidableEq, Repr

/-- The state of seat datagrams (R110): executed one yet, and the stored reply. -/
structure DgRt where
  seen : Bool
  reply : List Byte
  deriving DecidableEq, Repr

/-- Standby playout (R521, R552 to R554): tracks as (flow, CPF, FRAMES, address of frame 0). -/
structure Playout where
  loading : Bool
  withdrawn : Bool
  pending : Bool
  running : Bool
  start : Nat
  base : Nat
  tracks : List (Nat × Nat × Nat × Nat)
  copying : List (Nat × Nat)
  words : Sparse Word
  bad : Bool
  deriving DecidableEq, Repr

/-- A flash operation in progress: FLASH_OP, and steps left, the first one running. -/
structure FlashOp where
  op : Nat
  steps : List FlashStep
  /-- Where the content starts and how long it is, for UPD_RESULT_CRC. -/
  at0 : Nat
  len : Nat
  deriving DecidableEq, Repr

/-- A store operation (R549): OP, extent, buffer, who asked (seat, or none for the engine), and the
transfers left of each drive. `purpose` 0: host; 1: boot load; 2: playout load; 3: tile-job load. -/
structure StoreOp where
  op : Nat
  extent : Nat
  buf : Nat
  purpose : Nat
  entry : List Byte
  moved : Nat
  failed : Bool
  deriving DecidableEq, Repr

/-- A drive (R543 to R547). -/
structure Drive where
  linkUp : Bool
  /-- Initialisation step 0 to 6 (R544), 7 when done. -/
  phase : Nat
  units : Nat
  resetOnce : Bool
  cells : Sparse Byte
  deriving DecidableEq, Repr

/-- A tile job (R555 to R557): its image's directory entry, LAST of its range, and in the running step the
offset of the next DATA and whether the step's message has left. -/
structure TileJob where
  entry : List Byte
  last : Nat
  offset : Nat
  sent : Bool
  deriving DecidableEq, Repr

/-- The save image of Sleep (R526). -/
structure Image where
  regs : Sparse Word
  force : Sparse Word
  rings : Sparse Ring
  resp : Sparse Nat
  stale : List Nat
  deriving DecidableEq, Repr

/-- The IEEE 1149.1 test port (R62): TAP state, instruction, shift registers, held boundary, and whether an AC form
of EXTEST has inverted the AC-coupled outputs. -/
structure Tap where
  state : Nat
  ir : Nat
  irShift : Nat
  shift : List Bool
  held : List Bool
  flip : Bool
  deriving DecidableEq, Repr

/-- The whole state. `free` counts the free values taken; it is the model's own. -/
structure State where
  pending : List Instr
  free : Nat
  out : List Out
  regs : Sparse Word
  force : Sparse Word
  /-- R28: a seat's latched _HI, by seat * 2^24 + address, and its pending _LO half. -/
  latch : Sparse (Option Word)
  lowHalf : Sparse (Option Word)
  mem : Mem
  hostMem : Sparse Byte
  rings : Sparse Ring
  /-- Stale references (R134): object + 128 * ring. -/
  stale : List Nat
  commands : Sparse (Option Nat)
  clk : Clock
  pow : Power
  cyc : Cycles
  flows : Sparse FlowRt
  ports : Sparse PortRt
  views : Sparse ViewRt
  feeds : Sparse Feed
  lanes : Sparse LaneRt
  /-- R377, by octet: windows since the last busy one, and windows of the run. -/
  busy : Sparse (Nat × Nat)
  chans : Sparse ChanRt
  credits : Sparse Credit
  house : House
  ptp : Ptp
  touts : Sparse Tout
  tcaps : Sparse Tcap
  ppsHigh : Bool
  servos : Sparse Servo
  evt : Events
  dgs : Sparse DgRt
  resp : Sparse Nat
  respLoad : Option (Nat × Nat × Nat × Nat)
  cap : List (Nat × Nat)
  corrTouched : Bool
  play : Playout
  flashMem : Sparse Byte
  flashOp : Option FlashOp
  drives : Sparse Drive
  storeOp : Option StoreOp
  storeWait : List StoreOp
  job : Option TileJob
  /-- ABORT messages that wait for credit: tile, JOB (R557). -/
  aborts : List (Nat × Nat)
  /-- Real-time memory ports in panic (R451). -/
  panic : List Nat
  rateWait : Bool
  powerReq : Option Bool
  image : Option Image
  bar4 : Sparse Word
  cfgSpace : Sparse (Option Word)
  tap : Tap
  lines : Sparse LineRt
  linkRt : Sparse LinkRt
  /-- The pin rate that the change in progress, or the retraining after it, trains at; 0 for none (R469, R473). -/
  rateTo : Nat
  bar2Held : List Bar2Req
  deriving DecidableEq, Repr

/-- The test port in Test-Logic-Reset (R62). -/
def Tap.reset : Tap := ⟨0, 0xF, 0, [], [], false⟩

/-- Playout not running. -/
def Playout.idle : Playout := ⟨false, false, false, false, 0, 0, [], [], [], false⟩

/-- The PTP slave with nothing heard. -/
def Ptp.reset : Ptp := ⟨[], none, none, none, [], none, 0, 0, 0, none⟩

/-- Housekeeping after a reset of the main domains. -/
def House.reset : House :=
  ⟨[], [], [], 4095, [], [], 8, [], false, none, [], [], 0, [], [], [], 0, []⟩

/-- The sequencer before READY. -/
def Cycles.reset : Cycles :=
  ⟨false, 0, 0, 0, [], 0, 0, false, 0, [], 0, [], [], 0, 0, none, none, 20, 0, 0⟩

/-- The block right after power-up (R30, R76): rails valid, POR_N high and main domains not yet started,
every register at its value of the register tables, no memory listed. -/
def State.reset : State :=
  { pending := [], free := 0, out := [], regs := [], force := [], latch := [], lowHalf := [],
    mem := ⟨[], []⟩, hostMem := [], rings := [], stale := [], commands := [],
    clk := ⟨0, 0, 0, 0, 0, 0, 0⟩,
    pow := ⟨List.replicate 9 true, false, false, 0, false, false, (0, 0), [], false, false, true, false, false⟩,
    cyc := Cycles.reset, flows := [], ports := [], views := [], feeds := [], lanes := [], busy := [],
    chans := [], credits := [], house := House.reset, ptp := Ptp.reset, touts := [], tcaps := [],
    ppsHigh := false, servos := [], evt := ⟨[], [], [], [], []⟩, dgs := [], resp := [],
    respLoad := none, cap := [], corrTouched := false, play := Playout.idle, flashMem := [],
    flashOp := none, drives := [], storeOp := none, storeWait := [], job := none, aborts := [], panic := [],
    rateWait := false, powerReq := none, image := none, bar4 := [], cfgSpace := [],
    tap := Tap.reset, lines := [], linkRt := [], rateTo := 0, bar2Held := [] }

end Sys2Proof.Machine
end

