-- ==== Sys2Proof/Machine/Ops.lean ====
section
/-!
DEFINITION. The shared operations: sparse maps, bit fields, rounding (R17), the page map (R99 to
R101), register words and fields, GDDR6 bytes, engine time (R394), the ring primitives (R120 to
R125) and CRC-32C (R82).
-/
namespace Sys2Proof.Machine

/-! ### Sparse maps -/

/-- What a sparse map holds at `k`; `d` is what an unlisted key holds. -/
def look {α : Type} (d : α) : Sparse α → Nat → α
  | [], _ => d
  | (k', v) :: t, k => if k' = k then v else look d t k

/-- A sparse map without the key `k`. -/
def unlist {α : Type} (k : Nat) (m : Sparse α) : Sparse α := m.filter (fun e => e.1 != k)

/-- A sparse map with an entry placed before the first larger key. -/
def place {α : Type} (k : Nat) (v : α) : Sparse α → Sparse α
  | [] => [(k, v)]
  | (k', v') :: t => if k < k' then (k, v) :: (k', v') :: t else (k', v') :: place k v t

/-- Write `v` at `k`, keeping the canonical form: a key that holds `d` is not listed. -/
def ins {α : Type} [DecidableEq α] (d : α) (k : Nat) (v : α) (m : Sparse α) : Sparse α :=
  if v = d then unlist k m else place k v (unlist k m)

/-- Keys strictly rising, the first above `lo`. -/
def rising {α : Type} (lo : Option Nat) : Sparse α → Bool
  | [] => true
  | (k, _) :: t => (match lo with | none => true | some l => decide (l < k)) && rising (some k) t

/-! ### Bits and rounding (R14, R17) -/

/-- Bits `[lo + w - 1 : lo]` of `n`. -/
def bitsOf (n lo w : Nat) : Nat := (n >>> lo) % 2 ^ w

/-- `n` with bits `[lo + w - 1 : lo]` replaced by the low bits of `v`. -/
def setBits (n lo w v : Nat) : Nat := n - (bitsOf n lo w) * 2 ^ lo + (v % 2 ^ w) * 2 ^ lo

/-- Bit `i` of `n`. -/
def bit (n i : Nat) : Bool := n.testBit i

/-- A w-bit pattern read as two's complement (R15). -/
def toS (w n : Nat) : Int := if 2 ^ (w - 1) ≤ n % 2 ^ w then (n % 2 ^ w : Nat) - (2 ^ w : Nat) else (n % 2 ^ w : Nat)

/-- An integer as a w-bit pattern. -/
def ofS (w : Nat) (x : Int) : Nat := (x % (2 ^ w : Nat)).toNat

/-- `rshr` of R17. -/
def rshr (x : Int) (n : Nat) : Int := if n = 0 then x else (x + (2 : Int) ^ (n - 1)) / (2 : Int) ^ n

/-- `sat_u` of R17. -/
def satU (x : Int) (w : Nat) : Nat := min x.toNat (2 ^ w - 1)

/-- `sat_s` of R17. -/
def satS (x : Int) (w : Nat) : Int := max (-(2 : Int) ^ (w - 1)) (min x ((2 : Int) ^ (w - 1) - 1))

/-- x clamped to lo … hi. -/
def clampI (x lo hi : Int) : Int := max lo (min x hi)

/-- `div_round` of R158: nearest, halves away from zero. -/
def divRound (a b : Int) : Int :=
  if 0 ≤ a then (2 * a + b) / (2 * b) else -((2 * (-a) + b) / (2 * b))

/-- ceil(a / b). -/
def ceilDiv (a b : Nat) : Nat := if b = 0 then 0 else (a + b - 1) / b

/-- R16: a is later than b at width w. -/
def later (w a b : Nat) : Bool := decide (0 < toS w (a + 2 ^ w - b % 2 ^ w))

/-- A counter of width w counts and stops at all ones (R29). -/
def countUp (w n by' : Nat) : Nat := min (n + by') (2 ^ w - 1)

/-! ### The page map (R99 to R101) -/

/-- The blocks of the page map and the table windows. -/
inductive Blk
  | sys | ember | therm | hk | crc | upd | seat | evt | evtp | ring | time | servo | sva | svb
  | eth | ing | cmp | view | lyr | map | cor | zone | wl | ser | mem | memch | pcie | nvme
  | rstate | flow | tile | zn
  deriving DecidableEq, Repr

/-- The pages of R99: base, number of pages, block, BLOCK_TYPE. -/
def pageMap : List (Nat × Nat × Blk × Nat) :=
  [(0x000000, 1, .sys, 1), (0x001000, 1, .ember, 2), (0x002000, 1, .therm, 3), (0x003000, 1, .hk, 4),
   (0x004000, 4, .crc, 5), (0x008000, 1, .upd, 6), (0x010000, 16, .seat, 7), (0x020000, 1, .evt, 8),
   (0x021000, 16, .evtp, 9), (0x031000, 1, .ring, 10), (0x040000, 1, .time, 11), (0x041000, 1, .servo, 12),
   (0x042000, 8, .sva, 13), (0x04A000, 4, .svb, 13), (0x050000, 8, .eth, 14), (0x060000, 1, .ing, 15),
   (0x080000, 1, .cmp, 16), (0x081000, 8, .view, 17), (0x100000, 256, .lyr, 18), (0x200000, 1, .map, 19),
   (0x201000, 1, .cor, 20), (0x202000, 1, .zone, 21), (0x400000, 512, .wl, 22), (0x600000, 64, .ser, 23),
   (0x700000, 1, .mem, 24), (0x701000, 32, .memch, 25), (0x780000, 1, .pcie, 26), (0x781000, 1, .nvme, 27)]

/-- Where an address lies: block, its number, offset within its page or table entry, BLOCK_TYPE. -/
structure Loc where
  blk : Blk
  inst : Nat
  off : Nat
  typ : Nat
  deriving DecidableEq, Repr

/-- The page of an address (R99). -/
def findPage (a : Nat) : List (Nat × Nat × Blk × Nat) → Option Loc
  | [] => none
  | (b, n, k, t) :: r =>
    if b ≤ a ∧ a < b + n * 0x1000 then some ⟨k, (a - b) / 0x1000, (a - b) % 0x1000, t⟩ else findPage a r

/-- R99, R101: the place of a byte address of the register space; none for an unassigned address. -/
def locate (a : Nat) : Option Loc :=
  if 0x800000 ≤ a ∧ a < 0x880000 then some ⟨.rstate, (a - 0x800000) / 32, a % 32, 0⟩
  else if 0x880000 ≤ a ∧ a < 0x890000 then some ⟨.flow, (a - 0x880000) / 1024, a % 1024, 0⟩
  else if 0x900000 ≤ a ∧ a < 0x940000 then some ⟨.tile, (a - 0x900000) / 64, a % 64, 0⟩
  else if 0x940000 ≤ a ∧ a < 0x944000 then some ⟨.zn, (a - 0x940000) / 64, a % 64, 0⟩
  else findPage a pageMap

/-- Bases of pages and table entries (R99, R101): each number is below the number of pages or entries of its block. -/
def pSys : Nat := 0
def pEmber : Nat := 0x1000
def pTherm : Nat := 0x2000
def pHk : Nat := 0x3000
def pCrc (n : Nat) : Nat := 0x4000 + n % 4 * 0x1000
def pUpd : Nat := 0x8000
def pSeat (s : Nat) : Nat := 0x10000 + s % 16 * 0x1000
def pEvt : Nat := 0x20000
def pEvtp (s : Nat) : Nat := 0x21000 + s % 16 * 0x1000
def pRing : Nat := 0x31000
def pTime : Nat := 0x40000
def pServo : Nat := 0x41000
def pSvl (m : Nat) : Nat := 0x42000 + m % 12 * 0x1000
def pEth (p : Nat) : Nat := 0x50000 + p % 8 * 0x1000
def pIng : Nat := 0x60000
def pCmp : Nat := 0x80000
def pView (v : Nat) : Nat := 0x81000 + v % 8 * 0x1000
def pLyr (k : Nat) : Nat := 0x100000 + k % 256 * 0x1000
def pMap : Nat := 0x200000
def pCor : Nat := 0x201000
def pZone : Nat := 0x202000
def pWl (n : Nat) : Nat := 0x400000 + n % 512 * 0x1000
def pSer (n : Nat) : Nat := 0x600000 + n % 64 * 0x1000
def pMem : Nat := 0x700000
def pMc (c : Nat) : Nat := 0x701000 + c % 32 * 0x1000
def pPcie : Nat := 0x780000
def pNvme : Nat := 0x781000
def pFlow (f : Nat) : Nat := 0x880000 + f % 64 * 1024
def pTile (t : Nat) : Nat := 0x900000 + t % 4096 * 64
def pZn (z : Nat) : Nat := 0x940000 + z % 256 * 64

/-- The register table of a block. -/
def rowsOf : Blk → List Row
  | .sys => rows_sys | .ember => rows_ember | .therm => rows_therm | .hk => rows_hk
  | .crc => rows_crc | .upd => rows_upd | .seat => rows_seat | .evt => rows_evt | .evtp => rows_evtp
  | .ring => rows_ring | .time => rows_time | .servo => rows_servo | .sva => rows_sva | .svb => rows_svb
  | .eth => rows_eth | .ing => rows_ing | .cmp => rows_cmp | .view => rows_view | .lyr => rows_lyr
  | .map => rows_map | .cor => rows_cor | .zone => rows_zone | .wl => rows_wl | .ser => rows_ser
  | .mem => rows_mem | .memch => rows_memch | .pcie => rows_pcie | .nvme => rows_nvme
  | .rstate => [] | .flow => rows_flow | .tile => rows_tile | .zn => rows_zn

/-- A table window carries no common header (R101). -/
def isWindow : Blk → Bool
  | .rstate | .flow | .tile | .zn => true
  | _ => false

/-- The row holds a field of the register at offset `off`. -/
def Row.covers (r : Row) (off : Nat) : Bool :=
  if r.f.stride = 0 ∨ r.cnt ≤ 1 then r.f.off == off
  else decide (r.f.off ≤ off) && (off - r.f.off) % r.f.stride == 0 && decide ((off - r.f.off) / r.f.stride < r.cnt)

/-- Key of a seat's own copy of a register (R131, R294, R530). -/
def seatKey (seat a : Nat) : Nat := a + (seat + 1) * 2 ^ 28

/-- Key of coefficient word `k` of a bank, axis and phase (R195). -/
def coefKey (bank axis phase k : Nat) : Nat := 0x1000000 + ((bank % 8 * 2 + axis % 2) * 64 + phase % 64) * 16 + 4 * (k % 4)

/-- The address belongs to a coefficient row. -/
def isCoef (a : Nat) : Bool := decide (0x1000000 ≤ a ∧ a < 0x1004000)

/-- The built-in coefficient words of R195: hc[3] = vc[2] = 1,024 - 16 p, hc[4] = vc[3] = 16 p. -/
def coefReset (a : Nat) : Nat :=
  let r := (a - 0x1000000) / 16
  let k := (a - 0x1000000) % 16 / 4
  let p := r % 64
  if (r / 64) % 2 = 0 then
    (if k = 1 then (1024 - 16 * p) * 2 ^ 16 else if k = 2 then 16 * p else 0)
  else (if k = 1 then (1024 - 16 * p) + (16 * p) * 2 ^ 16 else 0)

/-- The rows of the register at an address: of its block, or of the common header. -/
def regRows (a : Nat) : List Row :=
  match locate a with
  | none => []
  | some l =>
    ((if isWindow l.blk then [] else rows_hdr) ++ rowsOf l.blk).filter (·.covers l.off)

/-- The value after power-up that the table gives (R30). -/
def resetNat (a : Nat) : Nat :=
  if isCoef a then coefReset a
  else
    let b := a % 2 ^ 28
    match locate b with
    | none => 0
    | some l =>
      if l.off = 0x1C ∧ (l.blk = .seat ∨ l.blk = .evtp) then 2 ^ l.inst
      else ((regRows b).map (fun r => r.rst * 2 ^ r.f.lo)).sum

/-- The same as a register word. -/
def resetWord (a : Nat) : Word := BitVec.ofNat 32 (resetNat a)

/-- The bits of the register at `a` that have one of the given access types. -/
def maskWhere (p : Row → Bool) (a : Nat) : Nat :=
  if isCoef a then (if p ⟨F.CMP_COEF_DATA_C_EVEN, 4, .rwc, 0, false⟩ then 0x0FFF0FFF else 0)
  else (((regRows (a % 2 ^ 28)).filter p).map (fun r => (2 ^ r.f.w - 1) * 2 ^ r.f.lo)).sum

/-- Bits of one access type. -/
def accMask (k : Acc) (a : Nat) : Nat := maskWhere (fun r => r.acc = k) a

/-- Bits held in the Ember domain (R30, ret). -/
def retMask (a : Nat) : Nat := maskWhere (fun r => r.ret) a

/-! ### Register words and fields -/

/-- The stored word at an address. -/
def State.reg (s : State) (a : Nat) : Word := look (resetWord a) s.regs a

/-- Store a word. -/
def State.setReg (s : State) (a : Nat) (v : Word) : State := { s with regs := ins (resetWord a) a v s.regs }

/-- The word in force at an address of a configuration (R18 RWC). -/
def inForce (c : Sparse Word) (a : Nat) : Word := look (resetWord a) c a

/-- Field `f` of repetition `i` of the page or entry at `p`. -/
def State.fld (s : State) (p : Nat) (f : Fld) (i : Nat := 0) : Nat :=
  bitsOf (s.reg (p + f.off + i * f.stride)).toNat f.lo f.w

/-- Set a field. -/
def State.setFld (s : State) (p : Nat) (f : Fld) (v : Nat) (i : Nat := 0) : State :=
  s.setReg (p + f.off + i * f.stride)
    (BitVec.ofNat 32 (setBits (s.reg (p + f.off + i * f.stride)).toNat f.lo f.w v))

/-- A field of a configuration in force. -/
def cfld (c : Sparse Word) (p : Nat) (f : Fld) (i : Nat := 0) : Nat :=
  bitsOf (inForce c (p + f.off + i * f.stride)).toNat f.lo f.w

/-- A field in force. -/
def State.ff (s : State) (p : Nat) (f : Fld) (i : Nat := 0) : Nat := cfld s.force p f i

/-- A field as a signed number. -/
def State.sfld (s : State) (p : Nat) (f : Fld) (i : Nat := 0) : Int := toS f.w (s.fld p f i)

/-- Set a field to a signed number. -/
def State.setS (s : State) (p : Nat) (f : Fld) (v : Int) (i : Nat := 0) : State := s.setFld p f (ofS f.w v) i

/-- Count in a field of a counter, stopping at all ones (R29). -/
def State.inc (s : State) (p : Nat) (f : Fld) (i : Nat := 0) (by' : Nat := 1) : State :=
  s.setFld p f (countUp f.w (s.fld p f i) by') i

/-- Set a _LO/_HI pair of two whole words, `lo` naming its _LO (R28). -/
def State.setPair (s : State) (p : Nat) (lo hi : Fld) (v : Nat) (i : Nat := 0) : State :=
  (s.setFld p lo (v % 2 ^ 32) i).setFld p hi (v / 2 ^ 32 % 2 ^ 32) i

/-- Read a _LO/_HI pair. -/
def State.pair (s : State) (p : Nat) (lo hi : Fld) (i : Nat := 0) : Nat :=
  s.fld p lo i * 2 ^ lo.lo + s.fld p hi i * 2 ^ 32

/-- A _LO/_HI pair of a configuration. -/
def cpair (c : Sparse Word) (p : Nat) (lo hi : Fld) (i : Nat := 0) : Nat :=
  cfld c p lo i * 2 ^ lo.lo + cfld c p hi i * 2 ^ 32

/-- Record an output. -/
def State.emit (s : State) (o : Out) : State := { s with out := s.out ++ [o] }

/-- Fold an operation over a list. -/
def State.each {α : Type} (s : State) (l : List α) (f : State → α → State) : State := l.foldl f s

/-- `s` changed by `f` when `b`. -/
def State.when (s : State) (b : Bool) (f : State → State) : State := if b then f s else s

/-! ### Condition of the engine -/

/-- SYS_STAT READY. -/
def State.ready (s : State) : Bool := s.fld pSys F.SYS_STAT_READY == 1
/-- PSTATE (R532). -/
def State.pstate (s : State) : Nat := s.fld pEmber F.EMBER_STAT_PSTATE
/-- Active (R523), until a requested state takes effect. -/
def State.active (s : State) : Bool := s.ready && decide (s.pstate ≤ 1) && !s.pow.sleeping
/-- SYS_STAT MEM_OFFLINE (R86). -/
def State.memOff (s : State) : Bool := s.fld pSys F.SYS_STAT_MEM_OFFLINE == 1

/-! ### GDDR6 (R447 to R449) -/

/-- Installed bytes (R447). -/
def State.capacity (s : State) : Nat := if s.fld pMem F.MEM_CFG_DENSITY = 1 then 2 ^ 36 else 2 ^ 35

/-- What an unlisted byte reads as. -/
def Mem.default (m : Mem) (a : Nat) : Byte :=
  match m.lost.find? (fun r => decide (r.1 ≤ a ∧ a < r.2.1)) with
  | some r => Config.freeByte r.2.2 a
  | none => 0

/-- A byte. -/
def Mem.byte (m : Mem) (a : Nat) : Byte := look (m.default a) m.cells a

/-- Write a byte, keeping the canonical form. -/
def Mem.put (m : Mem) (a : Nat) (b : Byte) : Mem := { m with cells := ins (m.default a) a b m.cells }

/-- The canonical form: addresses strictly rising, no entry equal to what an unlisted address reads as. -/
def Mem.wf (m : Mem) : Bool := rising none m.cells && m.cells.all (fun c => decide (c.2 ≠ m.default c.1))

/-- Write bytes at ascending addresses. -/
def Mem.putAll (m : Mem) (a : Nat) : List Byte → Mem
  | [] => m
  | b :: t => (m.put a b).putAll (a + 1) t

/-- Read `n` bytes. -/
def Mem.bytes (m : Mem) (a n : Nat) : List Byte := (List.range n).map (fun i => m.byte (a + i))

/-- Make the contents of `[lo, hi)` open (R457, R526). -/
def Mem.lose (m : Mem) (lo hi k : Nat) : Mem :=
  { cells := m.cells.filter (fun c => !decide (lo ≤ c.1 ∧ c.1 < hi)), lost := (lo, hi, k) :: m.lost }

/-- Write bytes into GDDR6. -/
def State.poke (s : State) (a : Nat) (bs : List Byte) : State := { s with mem := s.mem.putAll a bs }

/-- Little-endian number of bytes (R14). -/
def leNat : List Byte → Nat
  | [] => 0
  | b :: t => b.toNat + 256 * leNat t

/-- `n` little-endian bytes of a number (R14). -/
def leBytes (n v : Nat) : List Byte := (List.range n).map (fun i => BitVec.ofNat 8 (v >>> (8 * i)))

/-- Most significant byte first. -/
def beBytes (n v : Nat) : List Byte := (leBytes n v).reverse

/-- A little-endian word of `n` bytes in GDDR6. -/
def State.peek (s : State) (a n : Nat) : Nat := leNat (s.mem.bytes a n)

/-- Byte range inside installed GDDR6, no wrap. -/
def State.inGddr (s : State) (a len : Nat) : Bool := decide (a + len ≤ s.capacity)

/-- A seat's write window (R117). -/
def State.inWindow (s : State) (seat a len : Nat) : Bool :=
  decide (s.pair (pSeat seat) F.SEAT_MEM_BASE_LO_BASE F.SEAT_MEM_BASE_HI_BASE ≤ a ∧
    a + len ≤ s.pair (pSeat seat) F.SEAT_MEM_LIMIT_LO_LIMIT F.SEAT_MEM_LIMIT_HI_LIMIT)

/-- Read bytes of a space (R120 SPACE): GDDR6, or seat 0 host memory. -/
def State.spaceRead (s : State) (space a n : Nat) : List Byte :=
  if space = 0 then s.mem.bytes a n else (List.range n).map (fun i => look 0 s.hostMem (a + i))

/-- Write bytes into a space. -/
def State.spaceWrite (s : State) (space a : Nat) (bs : List Byte) : State :=
  if space = 0 then s.poke a bs
  else { s with hostMem := (bs.zipIdx).foldl (fun m b => ins 0 (a + b.2) b.1 m) s.hostMem,
                out := s.out ++ [.hostWrite a bs] }

/-- The channel location of a byte address: channel, bank, row, column, byte (R448). -/
def channelOf (a : Nat) : Nat × Nat × Nat × Nat × Nat :=
  (Nat.xor (bitsOf a 6 5) (bitsOf a 20 5), Nat.xor (bitsOf a 16 4) (bitsOf a 20 4), bitsOf a 20 16,
   bitsOf a 11 5, bitsOf a 0 6)

/-! ### Engine time (R394) -/

/-- Engine time from the free counter, in 2^-16 ns (R394). -/
def Clock.time (c : Clock) : Nat :=
  let d : Nat := (c.free + 2 ^ 64 - c.anchor) % 2 ^ 64
  ofS 80 ((c.offset : Int) + (d : Int) * 2 ^ 16 + rshr ((d : Int) * c.rate) 32)

/-- Engine time in whole ns. -/
def State.now (s : State) : Nat := s.clk.time / 2 ^ 16

/-- R395: a new RATE keeps engine time continuous. -/
def State.setRate (s : State) (r : Int) : State :=
  { s with clk := { s.clk with offset := s.clk.time, anchor := s.clk.free, rate := r } }

/-! ### CRC-32C (R82) -/

/-- One bit of a reflected CRC. -/
def crcBit (poly v : Nat) : Nat := if v % 2 = 1 then Nat.xor (v / 2) poly else v / 2

/-- Apply `f` n times. -/
def iter {α : Type} (f : α → α) : Nat → α → α
  | 0, x => x
  | n + 1, x => iter f n (f x)

/-- Feed one byte, reflected. -/
def crcByte (poly v b : Nat) : Nat := iter (crcBit poly) 8 (Nat.xor v b)

/-- CRC-32C of bytes: polynomial 0x1EDC_6F41, whose bit reversal is 0x82F6_3B78 (R82). -/
def crc32c (bs : List Byte) : Nat :=
  Nat.xor (bs.foldl (fun v b => crcByte 0x82F63B78 v b.toNat) 0xFFFFFFFF) 0xFFFFFFFF

/-! ### Rings (R118 to R125) -/

/-- The fixed role of a ring that no seat allocates (R118, R119). -/
def ringRole (n : Nat) : Nat :=
  if n < 8192 then (if n % 2 = 0 then 1 else 2) else if n < 8200 then (if n % 2 = 0 then 6 else 7) else 0

/-- A ring's state when nothing has set it. -/
def ringReset (n : Nat) : Ring := ⟨0, 0, 0, 0, 0, ringRole n, 0, false, 0, 0⟩

/-- A ring's state. -/
def State.ring (s : State) (n : Nat) : Ring := look (ringReset n) s.rings n

/-- Set a ring's state. -/
def State.setRing (s : State) (n : Nat) (r : Ring) : State := { s with rings := ins (ringReset n) n r s.rings }

/-- R121. -/
def Ring.size (r : Ring) : Nat := if r.sizeLog2 = 0 then 0 else 2 ^ r.sizeLog2
/-- R121. -/
def Ring.occ (r : Ring) : Nat := (r.prod + 2 ^ 32 - r.cons) % 2 ^ 32
/-- Address of index `i` (R121). -/
def Ring.slot (r : Ring) (i : Nat) : Nat := r.base + (i % 2 ^ r.sizeLog2) * 32

/-- The ring behaves as zero-size: SIZE_LOG2 0, or in GDDR6 while MEM_OFFLINE is set (R472). -/
def State.zeroRing (s : State) (r : Ring) : Bool := r.sizeLog2 == 0 || (r.space == 0 && s.memOff)

/-- Bytes of descriptor words. -/
def quadBytes (qs : List Nat) : List Byte := (qs.map (leBytes 8)).flatten

/-- Write slots at PROD and advance it (the caller has checked the room). -/
def State.ringWrite (s : State) (n : Nat) (slots : List (List Byte)) : State :=
  let r := s.ring n
  let s := (slots.zipIdx).foldl (fun s b => s.spaceWrite r.space (r.slot (r.prod + b.2)) b.1) s
  s.setRing n { r with prod := (r.prod + slots.length) % 2 ^ 32 }

/-- Words of the slot at an index. -/
def State.slotWords (s : State) (r : Ring) (i : Nat) : List Nat :=
  let b := s.spaceRead r.space (r.slot i) 32
  [leNat (b.take 8), leNat ((b.drop 8).take 8), leNat ((b.drop 16).take 8), leNat (b.drop 24)]

/-- Host memory cannot be reached: the endpoint's link is down. -/
def State.hostGone (s : State) (r : Ring) : Bool := r.space == 1 && s.fld pPcie F.PCIE_STAT_EP_UP == 0

/-- The engine produces one entry; a full, zero-size or disabled ring drops and counts it (R123), and so does one whose
host memory fails (R133). -/
def State.ringPush (s : State) (n : Nat) (words : List Nat) : State :=
  let r := s.ring n
  if s.zeroRing r ∨ r.enable = false ∨ r.size ≤ r.occ ∨ s.hostGone r = true then
    s.setRing n { r with drop := countUp 32 r.drop 1 }
  else s.ringWrite n [quadBytes words]

/-- An entry for a seat's host event ring, when SEAT_EVT_RING names one (R130, R517). -/
def State.eventEntry (s : State) (seat : Nat) (words : List Nat) : State :=
  if s.fld (pSeat seat) F.SEAT_EVT_RING_VALID = 1 then
    s.ringPush (s.fld (pSeat seat) F.SEAT_EVT_RING_RING) words
  else s

/-! ### Seats -/

/-- R117: seat 0 always exists. -/
def State.exists? (s : State) (seat : Nat) : Bool :=
  seat == 0 || s.fld (pSeat seat) F.SEAT_CFG_ENABLE == 1

/-- R519: the seat exists and is not lost. -/
def State.present (s : State) (seat : Nat) : Bool := s.exists? seat && !s.evt.lost.contains seat

/-- Seat `seat` owns the page at `p` (R46). -/
def State.owns (s : State) (seat p : Nat) : Bool := bit (s.reg (p + 0x1C)).toNat seat

/-- Write an entry to every existing seat's host event ring (R518). -/
def State.allSeatsEntry (s : State) (words : List Nat) : State :=
  s.each (List.range 16) (fun s k => if s.exists? k then s.eventEntry k words else s)

end Sys2Proof.Machine
end

