-- ==== Sys2Proof/Machine/Flags.lean ====
section
/-!
DEFINITION. Conditions and event delivery: which source a page's condition raises, assertion
(R506), candidates (R507), routing (R509 to R511), notification (R513 to R518).
-/
namespace Sys2Proof.Machine

/-- The event source that condition `k` of a page raises, by the chapters' tables (R98, R179, R181,
R218, R295, R350, R392, R425, R446, R476, R504, R505, R530, R563 to R565). -/
def sourceOf (l : Loc) (k : Nat) : Option Nat :=
  match l.blk with
  | .sys => if k ≤ 5 then some k else none
  | .therm => if k ≤ 5 then some (8 + k) else none
  | .hk => if k ≤ 11 then some (16 + k) else none
  | .time => if k ≤ 8 then some (64 + k) else none
  | .servo => if k = 0 then some 80 else none
  | .sva => some (81 + l.inst)
  | .svb => some (89 + l.inst)
  | .eth => if k ≤ 4 then some (128 + l.inst) else none
  | .ing => if k ≤ 6 then some (160 + k) else none
  | .cmp => if k = 1 then some 193 else if k ≤ 4 then some 192 else none
  | .view => if k ≤ 3 then some (200 + 4 * l.inst + k) else none
  | .wl => if k ≤ 5 then some (256 + l.inst) else none
  | .ser => if k ≤ 7 then some (768 + l.inst) else none
  | .memch => if k ≤ 4 then some (832 + l.inst / 2) else none
  | .mem => if k ≤ 4 then some 848 else none
  | .pcie => if k ≤ 1 then some 864 else none
  | .nvme => if k ≤ 2 then some 872 else none
  | .upd => if k ≤ 4 then some 896 else none
  | .evt => if k ≤ 15 then some (912 + k) else none
  | _ => none

/-- A page that raises a source, for its _EVT_LVL (R506). -/
def pageOfSource (n : Nat) : Nat :=
  if n < 8 then pSys else if n < 16 then pTherm else if n < 64 then pHk else if n < 80 then pTime
  else if n = 80 then pServo else if n < 93 then pSvl (n - 81) else if n < 160 then pEth (n - 128)
  else if n < 192 then pIng else if n < 200 then pCmp else if n < 232 then pView ((n - 200) / 4)
  else if n < 768 then pWl (n - 256) else if n < 832 then pSer (n - 768)
  else if n < 848 then pMc (2 * (n - 832)) else if n < 864 then pMem else if n < 872 then pPcie
  else if n < 896 then pNvme else if n < 912 then pUpd else pEvt

/-- R102: LEVEL and ELIG of a source. -/
def State.level (s : State) (n : Nat) : Nat := s.fld (pageOfSource n) F.HDR_LVL_LEVEL
/-- R102. -/
def State.elig (s : State) (n : Nat) : Nat := s.fld (pageOfSource n) F.HDR_LVL_ELIG

/-- Insert into an ascending list without repeats. -/
def insertNat (n : Nat) : List Nat → List Nat
  | [] => [n]
  | m :: t => if n < m then n :: m :: t else if n = m then m :: t else m :: insertNat n t

/-- The sources one listed register word asserts: the pending, enabled conditions of its page (R506). -/
def sourcesOfWord (s : State) (a : Nat) (w : Word) : List Nat :=
  if a % 0x1000 = 0x10 then
    match locate a with
    | none => []
    | some l =>
      if isWindow l.blk then []
      else (List.range 32).filterMap (fun k =>
        if bit w.toNat k && bit (s.reg (a + 4)).toNat k then sourceOf l k else none)
  else []

/-- All asserted sources, ascending (R506). -/
def State.asserted (s : State) : List Nat :=
  s.regs.foldl (fun acc e => (sourcesOfWord s e.1 e.2).foldl (fun acc n => insertNat n acc) acc) []

/-- R508: the running level plus one, 0 for idle. -/
def State.runLevel (s : State) (seat : Nat) : Nat :=
  let w := s.fld (pEvtp seat) F.EVTP_RUN_LEVELS
  if w = 0 then 0 else Nat.log2 w + 1

/-- R507: the seat is a candidate for the source. -/
def State.candidate (s : State) (n seat : Nat) : Bool :=
  bit (s.elig n) seat && s.present seat && s.fld (pEvtp seat) F.EVTP_CFG_ASLEEP == 0 &&
    decide (s.fld (pEvtp seat) F.EVTP_CFG_THRESH ≤ s.level n)

/-- R509: the candidate with the lowest running level, then the lowest number. -/
def State.pickSeat (s : State) (n : Nat) : Option Nat :=
  (List.range 16).foldl (fun best k =>
    if s.candidate n k then
      match best with
      | none => some k
      | some b => if s.runLevel k < s.runLevel b then some k else some b
    else best) none

/-- Highest level plus one of the sources pending on a seat, 0 for none (R513). -/
def State.topPending (s : State) (seat : Nat) : Nat :=
  s.evt.routed.foldl (fun m e => if e.2 = seat then max m (s.level e.1 + 1) else m) 0

/-- EVTP_SUM_LVL of a seat (R531). -/
def State.sumLevels (s : State) (seat : Nat) : Nat :=
  (List.range 16).foldl (fun m l =>
    if s.evt.routed.any (fun e => e.2 == seat && s.level e.1 == l) then m + 2 ^ l else m) 0

/-- Words 0 to 3 of an event datagram (R516). -/
def State.eventWords (s : State) (seat level : Nat) (wake : Bool) : List Quad :=
  let w0 := 0x5A45 * 2 ^ 48 + 1 * 2 ^ 44 + seat * 2 ^ 40 + (if wake then 2 ^ 36 else 0) + level * 2 ^ 32 +
    s.fld (pEvtp seat) F.EVTP_NSEQ_NSEQ
  let w1 := s.sumLevels seat * 2 ^ 48
  let w2 := s.now
  let c := crc32c ((beBytes 8 w0) ++ (beBytes 8 w1) ++ (beBytes 8 w2))
  [BitVec.ofNat 64 w0, BitVec.ofNat 64 w1, BitVec.ofNat 64 w2, BitVec.ofNat 64 c]

/-- Word `k` of BAR4 (R515): after a reset the mask bit of every vector is set, all else is 0. -/
def bar4Reset (k : Nat) : Word := if k < 256 ∧ k % 16 = 12 then 1 else 0
/-- R515. -/
def State.bar4Word (s : State) (a : Nat) : Word := look (bar4Reset a) s.bar4 a
/-- R515. -/
def State.setBar4 (s : State) (a : Nat) (w : Word) : State := { s with bar4 := ins (bar4Reset a) a w s.bar4 }

/-- The message of MSI-X vector L, as its table entry gives it. -/
def State.msixOut (s : State) (l : Nat) : Out :=
  .msix l (BitVec.ofNat 64 ((s.bar4Word (16 * l)).toNat + (s.bar4Word (16 * l + 4)).toNat * 2 ^ 32))
    (s.bar4Word (16 * l + 8))

/-- Set or clear a pending bit of the array at 0x8000 (R515). -/
def State.setPba (s : State) (l : Nat) (b : Bool) : State :=
  s.setBar4 0x8000 (BitVec.ofNat 32 (setBits (s.bar4Word 0x8000).toNat l 1 (if b then 1 else 0)))

/-- Send vector L, or set its pending bit while it is masked (R515). -/
def State.vector (s : State) (l : Nat) : State :=
  if (s.bar4Word (16 * l + 12)).toNat % 2 = 1 then s.setPba l true else s.emit (s.msixOut l)

/-- Set condition `k` of the page at `p` (no delivery yet). -/
def State.setCond (s : State) (p k : Nat) : State :=
  s.setReg (p + 0x10) (BitVec.ofNat 32 (setBits (s.reg (p + 0x10)).toNat k 1 1))

/-! ### Frames that a port originates (R145) -/

/-- The port's link is up. -/
def State.portUp (s : State) (p : Nat) : Bool := s.fld (pEth p) F.ETH_STAT_LINK_UP == 1

/-- A port with nothing cached or joined. -/
def PortRt.idle : PortRt := ⟨[], [], [], [], []⟩
/-- A port's caches. -/
def State.port (s : State) (p : Nat) : PortRt := look PortRt.idle s.ports p
/-- Replace them. -/
def State.setPort (s : State) (p : Nat) (r : PortRt) : State := { s with ports := ins PortRt.idle p r s.ports }

/-- An address of four register fields of a page, the first the most significant; IPv4 stands in the first
field alone and is the number below 2^32 that it holds. -/
def addr4 (v6 : Bool) (w : Nat → Nat) : Nat :=
  if v6 then w 0 * 2 ^ 96 + w 1 * 2 ^ 64 + w 2 * 2 ^ 32 + w 3 else w 0

/-- A port's addresses in force: IPv4, global IPv6, link-local IPv6; 0 for none. -/
def State.ip4 (s : State) (p : Nat) : Nat := s.ff (pEth p) F.ETH_IP4_ADDR
/-- Global IPv6. -/
def State.ip6 (s : State) (p : Nat) : Nat := addr4 true (fun k => s.ff (pEth p) F.ETH_IP6G_ADDR k)
/-- Link-local IPv6. -/
def State.ip6ll (s : State) (p : Nat) : Nat := addr4 true (fun k => s.ff (pEth p) F.ETH_IP6LL_ADDR k)

/-- A multicast address. -/
def isMulticast (ip : Nat) : Bool := if ip < 2 ^ 32 then ip / 2 ^ 28 == 0xE else ip / 2 ^ 120 == 0xFF

/-- The multicast MAC address of a group, as RFC 1112 and RFC 2464 give it. -/
def groupMac (ip : Nat) : Nat := if ip < 2 ^ 32 then 0x01005E000000 + ip % 2 ^ 23 else 0x333300000000 + ip % 2 ^ 32

/-- The solicited-node group of an IPv6 address: its last 24 bits behind 33-33-FF. -/
def solicitedMac (ip : Nat) : Nat := 0x3333FF000000 + ip % 2 ^ 24

/-- The port's own address toward a destination: link-local toward a link-local one or where it has no global
address (log entry 70). -/
def State.sourceIp (s : State) (p ip : Nat) : Nat :=
  if ip < 2 ^ 32 then s.ip4 p
  else if ip / 2 ^ 118 = 0x3FA ∨ s.ip6 p = 0 then s.ip6ll p else s.ip6 p

/-- R145: the address that is resolved for a destination: itself inside the port's prefix, the gateway outside it;
none with no gateway. -/
def State.nextHop (s : State) (p ip : Nat) : Option Nat :=
  let v4 := decide (ip < 2 ^ 32)
  let w := if v4 then 32 else 128
  let own := if v4 then s.ip4 p else s.ip6 p
  let len := if v4 then s.ff (pEth p) F.ETH_CFG_IP4_PREFIX else s.ff (pEth p) F.ETH_CFG_IP6_PREFIX
  let gw := if v4 then s.ff (pEth p) F.ETH_GW4_ADDR else addr4 true (fun k => s.ff (pEth p) F.ETH_GW6_ADDR k)
  if ip / 2 ^ (w - len) = own / 2 ^ (w - len) then some ip
  else if gw = 0 then none else some gw

/-- The tag of the frames that a port sends (R140). -/
def State.vlanTag (s : State) (p : Nat) : Option Nat :=
  if s.ff (pEth p) F.ETH_CFG_VLAN_EN = 1 then some (s.ff (pEth p) F.ETH_CFG_VLAN_ID) else none

/-- A frame leaves a port for a MAC address; a preview packet counts for its view too. -/
def State.txFrame (s : State) (p mac : Nat) (o : Tx) : State :=
  let s := (s.emit (.frame p mac (s.vlanTag p) o)).inc (pEth p) F.ETH_TX_CNT_TX_CNT
  match o with
  | .preview v _ _ _ _ _ => s.inc (pView v) F.VIEW_PV_PKT_CNT_PKT_CNT
  | _ => s

/-- An ARP request or a Neighbour Solicitation for an address. -/
def State.askNeighbour (s : State) (p : Nat) (ip : BitVec 128) : State :=
  s.txFrame p (if ip.toNat < 2 ^ 32 then 0xFFFFFFFFFFFF else solicitedMac ip.toNat) (.neighbourRequest ip)

/-- R145: send a frame to an address. A hit becomes the most recently used entry; a miss asks for the neighbour
and the frame waits. -/
def State.sendVia (s : State) (p ip : Nat) (o : Tx) : State :=
  if s.portUp p = false then s.inc (pEth p) F.ETH_NBR_FAIL_CNT_NBR_FAIL_CNT
  else if isMulticast ip then s.txFrame p (groupMac ip) o
  else
    match s.nextHop p ip with
    | none => (s.inc (pEth p) F.ETH_NBR_FAIL_CNT_NBR_FAIL_CNT).setCond (pEth p) 4
    | some h =>
      let k := BitVec.ofNat 128 h
      let r := s.port p
      match r.cache.find? (fun e => e.1 == k) with
      | some e => (s.setPort p { r with cache := e :: r.cache.filter (fun x => x.1 != k) }).txFrame p e.2.toNat o
      | none =>
        match r.misses.find? (fun e => e.1 == k) with
        | some _ =>
          s.setPort p { r with misses := r.misses.map (fun e => if e.1 = k then (e.1, e.2.1, e.2.2 ++ [o]) else e) }
        | none => (s.setPort p { r with misses := r.misses ++ [(k, 1, [o])] }).askNeighbour p k

/-- The address of a seat's host (R516). -/
def State.hostAddr (s : State) (seat : Nat) : Nat :=
  addr4 (s.fld (pSeat seat) F.SEAT_CFG_IPV6 == 1) (fun k => s.fld (pSeat seat) F.SEAT_HOST_ADDR_ADDR k)

/-- Send an event datagram (R516); one that the port cannot deliver is dropped and counted. -/
def State.eventDatagram (s : State) (seat level : Nat) (wake : Bool) : State :=
  let p := s.fld (pSeat seat) F.SEAT_CFG_ETH_PORT
  let h := s.hostAddr seat
  s.sendVia p h (.event seat ⟨s.sourceIp p h, h, 23127, s.fld (pSeat seat) F.SEAT_CFG_HOST_UDP⟩ (s.eventWords seat level wake))

/-- R517: a new notification of a seat, with its NSEQ and its KIND 0x60 record. -/
def State.notify (s : State) (seat level : Nat) (wake : Bool) : State :=
  let s := s.setFld (pEvtp seat) F.EVTP_NSEQ_NSEQ (s.fld (pEvtp seat) F.EVTP_NSEQ_NSEQ + 1)
  let s := if seat = 0 then s.vector level else s.eventDatagram seat level wake
  if s.fld (pEvtp seat) F.EVTP_CFG_RINGLOG = 1 then
    s.eventEntry seat [0x60 * 2 ^ 56 + seat * 2 ^ 44,
      s.fld (pEvtp seat) F.EVTP_NSEQ_NSEQ * 2 ^ 32 + (if wake then 16 else 0) + level, s.now, 0]
  else s

/-- R514: the notification of a seat stops being outstanding; its pending vector bit clears (R515). -/
def State.clearNote (s : State) (seat : Nat) : State :=
  let o := s.fld (pEvtp seat) F.EVTP_NOTE_LEVEL
  let s := (s.setFld (pEvtp seat) F.EVTP_NOTE_OUTSTANDING 0).setFld (pEvtp seat) F.EVTP_NOTE_LEVEL 0
  if seat = 0 then s.setPba o false else s

/-- R514: clear the outstanding notification when nothing pending at its level or above it lies above
the running level. -/
def State.checkNote (s : State) (seat : Nat) : State :=
  if s.fld (pEvtp seat) F.EVTP_NOTE_OUTSTANDING = 1 ∧
      ¬ (s.evt.routed.any (fun e => e.2 == seat && decide (s.fld (pEvtp seat) F.EVTP_NOTE_LEVEL ≤ s.level e.1) &&
        decide (s.runLevel seat ≤ s.level e.1))) then s.clearNote seat
  else s

/-- R513: compare the highest pending level with the running and the outstanding level. -/
def State.compareNote (s : State) (seat : Nat) : State :=
  let s := s.checkNote seat
  let n := s.topPending seat
  let out := s.fld (pEvtp seat) F.EVTP_NOTE_OUTSTANDING
  if s.runLevel seat < n ∧ (out = 0 ∨ s.fld (pEvtp seat) F.EVTP_NOTE_LEVEL + 1 < n) then
    let s := if seat = 0 ∧ out = 1 then s.setPba (s.fld (pEvtp seat) F.EVTP_NOTE_LEVEL) false else s
    let s := (s.setFld (pEvtp seat) F.EVTP_NOTE_OUTSTANDING 1).setFld (pEvtp seat) F.EVTP_NOTE_LEVEL (n - 1)
    s.notify seat (n - 1) false
  else s

/-- Replace the routing tables. -/
def State.setEvt (s : State) (e : Events) : State := { s with evt := e }

/-- R509, R511: route a source to a seat, or hold it. Answers the state and the seat, if any. -/
def State.routeOne (s : State) (n : Nat) (wasHeld : Bool) : State × List Nat :=
  match s.pickSeat n with
  | some k => (s.setEvt { s.evt with routed := ins 16 n k s.evt.routed, held := s.evt.held.filter (· ≠ n) }, [k])
  | none =>
    if wasHeld then (s, [])
    else ((s.setEvt { s.evt with routed := s.evt.routed.filter (fun e => e.1 ≠ n),
                                 held := insertNat n s.evt.held }).inc pEvt F.EVT_HELD_CNT_HELD_CNT, [])

/-- One asserted source: keep, re-route (R510), route or hold. -/
def State.settleOne (st : State × List Nat) (n : Nat) : State × List Nat :=
  let s := st.1
  match s.evt.routed.find? (fun e => e.1 == n) with
  | some e =>
    if s.candidate n e.2 then st
    else
      let s := s.inc pEvt F.EVT_REROUTE_CNT_REROUTE_CNT
      let r := s.routeOne n false
      (r.1, r.2 ++ st.2)
  | none =>
    let r := s.routeOne n (s.evt.held.contains n)
    (r.1, r.2 ++ st.2)

/-- R511: wake notifications for a held source, one to each sleeping eligible seat with WAKE_ON. -/
def State.wakeFor (s : State) (n : Nat) : State :=
  s.each (List.range 16) (fun s k =>
    if bit (s.elig n) k && s.present k && s.fld (pEvtp k) F.EVTP_CFG_ASLEEP == 1 &&
        s.fld (pEvtp k) F.EVTP_CFG_WAKE_ON == 1 && !s.evt.woken.contains (n, k) then
      (s.setEvt { s.evt with woken := (n, k) :: s.evt.woken,
                             wakeBits := if k = 0 then (n, s.level n) :: s.evt.wakeBits else s.evt.wakeBits }).notify
        k (s.level n) true
    else s)

/-- R515: a wake vector's pending bit clears once its source is no longer held or seat 0 is awake. -/
def State.dropWakes (s : State) : State :=
  let awake := s.fld (pEvtp 0) F.EVTP_CFG_ASLEEP == 0
  let gone := s.evt.wakeBits.filter (fun e => awake || !s.evt.held.contains e.1)
  let s := s.each gone (fun s e =>
    if s.fld (pEvtp 0) F.EVTP_NOTE_OUTSTANDING = 1 ∧ s.fld (pEvtp 0) F.EVTP_NOTE_LEVEL = e.2 then s
    else s.setPba e.2 false)
  s.setEvt { s.evt with wakeBits := s.evt.wakeBits.filter (fun e => !(awake || !s.evt.held.contains e.1)),
                        woken := s.evt.woken.filter (fun e => s.evt.held.contains e.1) }

/-- Bring event delivery up to date with the pages: de-assertion first, then sources in ascending
number (R509 to R511), then notification of the seats that received one (R513, R529). -/
def State.settleOnce (s : State) (a : List Nat) : State :=
  let s := s.setEvt { s.evt with routed := s.evt.routed.filter (fun e => a.contains e.1),
                                 held := s.evt.held.filter (fun n => a.contains n) }
  let s := s.each (List.range 16) (fun s k => s.checkNote k)
  let r := a.foldl State.settleOne (s, [])
  let s := r.1.each (List.range 16) (fun s k => if r.2.contains k then s.compareNote k else s.checkNote k)
  let s := s.dropWakes
  s.each s.evt.held (fun s n => s.wakeFor n)

/-- Settle until the notifications raise nothing further: each of the eight ports can add a neighbour failure
(R145) once. -/
def State.settleMore (s : State) (a : List Nat) : Nat → State
  | 0 => s
  | n + 1 => let s := s.settleOnce a; if s.asserted = a then s else s.settleMore s.asserted n

/-- Event delivery up to date with the pages; it starts with READY (R2, R78). -/
def State.settle (s : State) : State := if s.ready then s.settleMore s.asserted 10 else s

/-- A layer's pending enabled condition holds its bit of CMP_LYR_ALERT set, which raises CMP
condition 1 (R218, R222). -/
def State.lyrAlert (s : State) (k : Nat) : State :=
  if ((s.reg (pLyr k + 0x10)).toNat &&& (s.reg (pLyr k + 0x14)).toNat &&& 3) ≠ 0 then
    (s.setFld pCmp F.CMP_LYR_ALERT_LAYER
      (setBits (s.fld pCmp F.CMP_LYR_ALERT_LAYER (k / 32 % 8)) (k % 32) 1 1) (k / 32 % 8)).setCond pCmp 1
  else s

/-- A condition arises: its bit is set and event delivery follows (R44, R506). -/
def State.raise (s : State) (p k : Nat) : State := (s.setCond p k).settle

end Sys2Proof.Machine
end

