-- ==== Sys2Proof/Machine/Ring.lean ====
section
/-!
DEFINITION. Foreign writes (R114, R130), ring operations (R131 to R134), index writes (R122) and the
host commands COPY, FILL and NOP (R127 to R129).
-/
namespace Sys2Proof.Machine

/-! ### Foreign writes -/

/-- R114, R130: a foreign write is counted at the page, at its writer and at each owner, and each owner's
host event ring receives a KIND 0x21 entry. -/
def State.foreign (s : State) (seat addr : Nat) (value : Word) (page : Nat) : State :=
  let s := (s.inc page F.HDR_FOREIGN_FOREIGN_CNT).inc (pSeat seat) F.SEAT_FOREIGN_OUT_OUT_CNT
  let s := (s.setFld page F.HDR_FOREIGN_LAST_OFFSET (addr % 0x1000)).setFld page F.HDR_FOREIGN_LAST_SEAT seat
  s.each (List.range 16) (fun s k =>
    if s.owns k page then
      let s := s.inc (pSeat k) F.SEAT_FOREIGN_IN_IN_CNT
      let s := (s.setFld (pSeat k) F.SEAT_FOREIGN_LAST_ADDR addr).setFld (pSeat k) F.SEAT_FOREIGN_LAST_WRITER seat
      s.eventEntry k [0x21 * 2 ^ 56 + seat * 2 ^ 44, value.toNat * 2 ^ 32 + addr, s.now, 0]
    else s)

/-! ### Who may act on a ring -/

/-- R567: the link on which a tile is placed in force. -/
def State.tileLink (s : State) (t : Nat) : Option Nat :=
  if s.ff (pTile t) F.TL_CFG_ENABLE = 1 then some (s.ff (pTile t) F.TL_LINK_LINK) else none

/-- R120, R567: the seat is a writing seat of the ring. -/
def State.ringWriter (s : State) (seat n : Nat) : Bool :=
  if n < 8192 then
    match s.tileLink (n / 2) with
    | some l => s.owns seat (pWl l)
    | none => false
  else if n < 8200 then false
  else (s.ring n).role != 0 && (s.ring n).owner == seat

/-- The host produces on the ring (R119). -/
def Ring.hostProduces (r : Ring) : Bool := r.role == 1 || r.role == 3
/-- The host consumes on the ring (R119). -/
def Ring.hostConsumes (r : Ring) : Bool := r.role == 2 || r.role == 4 || r.role == 5 || r.role == 8

/-- R121, R472: the size that index writes and pushes are judged by. -/
def State.ringSize (s : State) (n : Nat) : Nat := if s.zeroRing (s.ring n) then 0 else (s.ring n).size

/-- R122: write an index, or count it in ERR_CNT and leave the index unchanged. -/
def State.writeIndex (s : State) (n : Nat) (cons : Bool) (v : Nat) : State :=
  let r := s.ring n
  let d := (v + 2 ^ 32 - (if cons then r.cons else r.prod)) % 2 ^ 32
  if 2 ^ 31 ≤ d ∨ (cons = true ∧ r.occ < d) ∨ (cons = false ∧ 0 < d ∧ s.ringSize n < r.occ + d) then
    s.setRing n { r with err := countUp 32 r.err 1 }
  else if cons then s.setRing n { r with cons := v % 2 ^ 32 }
  else s.setRing n { r with prod := v % 2 ^ 32 }

/-! ### Ring operations (R132, R133) -/

/-- Page base of a seat's own copy of the RING registers (R131). -/
def pRingOf (seat : Nat) : Nat := seatKey seat pRing

/-- The arguments of a seat: BASE, SPACE, SIZE_LOG2, ROLE. -/
structure RingArg where
  base : Nat
  space : Nat
  size : Nat
  role : Nat
  deriving DecidableEq, Repr

/-- A seat's arguments (R131). -/
def State.ringArg (s : State) (seat : Nat) : RingArg :=
  ⟨s.pair (pRingOf seat) F.RING_ARG_BASE_LO_BASE F.RING_ARG_BASE_HI_BASE, s.fld (pRingOf seat) F.RING_ARG_CFG_SPACE,
   s.fld (pRingOf seat) F.RING_ARG_CFG_SIZE_LOG2, s.fld (pRingOf seat) F.RING_ARG_CFG_ROLE⟩

/-- R133 0x0A for the arguments: the ring leaves installed GDDR6, or wraps in host memory. -/
def State.argOutside (s : State) (a : RingArg) : Bool :=
  decide (4 ≤ a.size ∧ a.size ≤ 16) &&
    ((a.space == 0 && !s.inGddr a.base (32 * 2 ^ a.size)) ||
     (a.space == 1 && decide (2 ^ 64 < a.base + 32 * 2 ^ a.size)))

/-- R133 0x07 for SPACE and SIZE_LOG2. -/
def RingArg.reserved (a : RingArg) : Bool :=
  decide (1 < a.space) || (a.size != 0 && !decide (4 ≤ a.size ∧ a.size ≤ 16))

/-- The lowest free pool ring at or above `n`, among `k` rings. -/
def State.freeRing (s : State) : Nat → Nat → Option Nat
  | _, 0 => none
  | n, k + 1 => if (s.ring n).role = 0 then some n else s.freeRing (n + 1) k

/-- RING_OP_STAT of a seat after an operation (R131). -/
def State.ringResult (s : State) (seat reason ring : Nat) : State :=
  (s.setFld (pRingOf seat) F.RING_OP_STAT_REASON reason).setFld (pRingOf seat) F.RING_OP_STAT_RING ring

/-- R133: the reason an allocate fails, 0 for none. -/
def State.allocReason (s : State) (seat : Nat) (a : RingArg) : Nat :=
  if seat ≠ 0 ∧ a.space = 1 then 0x08
  else if s.freeRing 8200 8184 = none then 0x0B
  else if s.argOutside a then 0x0A
  else if (a.role ≠ 3 ∧ a.role ≠ 4 ∧ a.role ≠ 5 ∧ a.role ≠ 8) ∨ a.reserved then 0x07 else 0

/-- R132 allocate. -/
def State.ringAllocate (s : State) (seat : Nat) : State :=
  let a := s.ringArg seat
  let c := s.allocReason seat a
  match s.freeRing 8200 8184 with
  | some n =>
    if c = 0 then
      let s := s.setRing n { s.ring n with base := a.base, space := a.space, sizeLog2 := a.size, cons := 0,
                                           prod := 0, role := a.role, owner := seat, enable := true }
      (s.setFld pRing F.RING_POOL_FREE_FREE (s.fld pRing F.RING_POOL_FREE_FREE - 1)).ringResult seat 0 n
    else s.ringResult seat c 0
  | none => s.ringResult seat c 0

/-- R133: the reason that the target itself gives, 0 for none. `release` says a release asks. -/
def State.targetReason (s : State) (seat n : Nat) (release : Bool) : Nat :=
  if n < 8192 then (if !s.ringWriter seat n then 0x08 else if release then 0x0A else 0)
  else if n < 8200 then 0x0A
  else if (s.ring n).role = 0 then 0x0A
  else if (s.ring n).owner ≠ seat then 0x08 else 0

/-- R133: the reason a configure fails, the list's order kept between target and arguments. -/
def State.configReason (s : State) (seat n : Nat) : Nat :=
  let a := s.ringArg seat
  let t := s.targetReason seat n false
  if t = 0x08 ∨ (seat ≠ 0 ∧ a.space = 1) then 0x08
  else if t ≠ 0 ∨ s.argOutside a then 0x0A
  else if a.reserved then 0x07 else 0

/-- The ring's command in progress is discarded with its entries. -/
def State.dropCommand (s : State) (n : Nat) : State := { s with commands := ins none n none s.commands }

/-- R132 configure. -/
def State.ringConfigure (s : State) (seat n : Nat) : State :=
  let a := s.ringArg seat
  let c := s.configReason seat n
  if c = 0 then
    let r := s.ring n
    ((s.setRing n { r with base := a.base, space := a.space, sizeLog2 := a.size, cons := 0, prod := 0,
                           enable := true, owner := if n < 8192 then seat else r.owner }).dropCommand n).ringResult
      seat 0 n
  else s.ringResult seat c n

/-- Write captured words over a configuration. -/
def overlay (c words : Sparse Word) : Sparse Word := words.foldl (fun m e => ins (resetWord e.1) e.1 e.2 m) c

/-- The values in force, with those of the commits accepted for the next compose start. -/
def State.nextForce (s : State) : Sparse Word := s.cyc.acc.foldl (fun c k => overlay c k.words) s.force

/-- The ring that an object references in a configuration: flow f is object f, view v object 64 + v (R134). -/
def refIn (c : Sparse Word) (k : Nat) : Option Nat :=
  if k < 64 then (if cfld c (pFlow k) F.FLOW_RING_VALID = 1 then some (cfld c (pFlow k) F.FLOW_RING_RING) else none)
  else if cfld c (pView (k - 64)) F.VIEW_WB_RING_VALID = 1 then some (cfld c (pView (k - 64)) F.VIEW_WB_RING_RING) else none

/-- A stale reference of an object to a ring, as `State.stale` lists it. -/
def staleKey (k n : Nat) : Nat := k + 128 * n

/-- References to a ring of the values in force and of the accepted commits. -/
def State.referrers (s : State) (n : Nat) : List Nat :=
  ((List.range 72).filter (fun k => refIn s.force k == some n || refIn s.nextForce k == some n)).map (staleKey · n)

/-- R132 release: the entries and the state go, SEAT_EVT_RING VALID clears where it names the ring, and
references to it become stale (R134). -/
def State.ringRelease (s : State) (seat n : Nat) : State :=
  let c := s.targetReason seat n true
  if c = 0 then
    let st := s.referrers n
    let s := (s.setRing n (ringReset n)).dropCommand n
    let s := { s with stale := s.stale ++ st.filter (fun k => !s.stale.contains k) }
    let s := s.each (List.range 16) (fun s k =>
      if s.fld (pSeat k) F.SEAT_EVT_RING_VALID = 1 ∧ s.fld (pSeat k) F.SEAT_EVT_RING_RING = n then
        s.setFld (pSeat k) F.SEAT_EVT_RING_VALID 0 else s)
    (s.setFld pRing F.RING_POOL_FREE_FREE (s.fld pRing F.RING_POOL_FREE_FREE + 1)).ringResult seat 0 n
  else s.ringResult seat c n

/-- R132 reset indices. -/
def State.ringZero (s : State) (seat n : Nat) : State :=
  let c := s.targetReason seat n false
  if c = 0 then
    ((s.setRing n { s.ring n with cons := 0, prod := 0 }).dropCommand n).ringResult seat 0 n
  else s.ringResult seat c n

/-- A write of RING_OP with this OP and RING by a seat (R131 to R133). -/
def State.ringOp (s : State) (seat op ring : Nat) : State :=
  if op = 1 then s.ringAllocate seat
  else if op = 2 then s.ringConfigure seat ring
  else if op = 3 then s.ringRelease seat ring
  else if op = 4 then s.ringZero seat ring
  else s.ringResult seat 0x07 ring

/-- R123, R134: an entry for the ring that object `key` references; a stale reference sees a zero-size ring. -/
def State.refPush (s : State) (key n : Nat) (words : List Nat) : State :=
  if s.stale.contains (staleKey key n) then s.setRing n { s.ring n with drop := countUp 32 (s.ring n).drop 1 }
  else s.ringPush n words

/-! ### Host commands (R127 to R129) -/

/-- The command ring has a command that the engine may start: its words. -/
def State.frontCommand (s : State) (n : Nat) : Option (List Nat) :=
  let r := s.ring n
  if r.role = 3 ∧ r.enable = true ∧ s.zeroRing r = false ∧ r.occ ≠ 0 then some (s.slotWords r r.cons) else none

/-- Word `i` of a descriptor. -/
def wordAt (ws : List Nat) (i : Nat) : Nat := ws.getD i 0

/-- A range of a space that R128 step 5 refuses (R472: all of GDDR6 while MEM_OFFLINE is set). -/
def State.badRange (s : State) (space a len : Nat) : Bool :=
  if space = 0 then s.memOff || !s.inGddr a len else decide (2 ^ 64 < a + len)

/-- R128: the status by the checks before the move. -/
def State.judgeCommand (s : State) (seat : Nat) (ws : List Nat) : Nat :=
  let kind := bitsOf (wordAt ws 0) 56 8
  let len := bitsOf (wordAt ws 3) 0 32
  let dsp := bitsOf (wordAt ws 3) 56 2
  let ssp := if kind = 0x10 then bitsOf (wordAt ws 3) 58 2 else 0
  let dst := wordAt ws 2
  if kind = 0x12 then 0
  else if (kind ≠ 0x10 ∧ kind ≠ 0x11) ∨ 1 < dsp ∨ 1 < ssp then 4
  else if len = 0 then 0
  else if len % 4 ≠ 0 then 5
  else if seat ≠ 0 ∧ (dsp = 1 ∨ ssp = 1) then 3
  else if s.badRange dsp dst len ∨ (kind = 0x10 ∧ s.badRange ssp (wordAt ws 1) len) then 1
  else if dsp = 0 ∧ s.inWindow seat dst len = false then 2 else 0

/-- The command uses PCIe (SPACE 0x1). -/
def usesPcie (ws : List Nat) : Bool :=
  bitsOf (wordAt ws 3) 0 32 != 0 && bitsOf (wordAt ws 0) 56 8 != 0x12 &&
    (bitsOf (wordAt ws 3) 56 2 == 1 || (bitsOf (wordAt ws 0) 56 8 == 0x10 && bitsOf (wordAt ws 3) 58 2 == 1))

/-- Repeat a list. -/
def repeatBytes (bs : List Byte) : Nat → List Byte
  | 0 => []
  | n + 1 => bs ++ repeatBytes bs n

/-- The move of an accepted command: all of the source is read, then written. -/
def State.moveCommand (s : State) (ws : List Nat) : State :=
  let kind := bitsOf (wordAt ws 0) 56 8
  let len := bitsOf (wordAt ws 3) 0 32
  let dsp := bitsOf (wordAt ws 3) 56 2
  if kind = 0x10 then s.spaceWrite dsp (wordAt ws 2) (s.spaceRead (bitsOf (wordAt ws 3) 58 2) (wordAt ws 1) len)
  else if kind = 0x11 then
    s.spaceWrite dsp (wordAt ws 2) (repeatBytes (leBytes 4 (wordAt ws 1)) (len / 4))
  else s

/-- A command starts when it has the given KIND and none of its ring runs; its checks give its status. -/
def State.startCommand (s : State) (n kind : Nat) : State :=
  match s.frontCommand n with
  | some ws =>
    if look none s.commands n = none ∧ bitsOf (wordAt ws 0) 56 8 = kind then
      { s with commands := ins none n (some (s.judgeCommand (s.ring n).owner ws)) s.commands }
    else s
  | none => s

/-- The words of a completion entry (R129). -/
def completionWords (s : State) (n seat status : Nat) (ws : List Nat) : List Nat :=
  [0x20 * 2 ^ 56 + seat * 2 ^ 44 + bitsOf (wordAt ws 0) 0 32, (s.ring n).cons * 2 ^ 32 + n * 2 ^ 16 + status, s.now, 0]

/-- A command ends: its bytes are in place unless it failed, the entry follows, and CONS moves on. -/
def State.endCommand (s : State) (n : Nat) (ws : List Nat) (judged : Nat) (ok : Bool) : State :=
  let seat := (s.ring n).owner
  let status := if judged = 0 ∧ usesPcie ws = true ∧ ok = false then 6 else judged
  let entry := completionWords s n seat status ws
  let notify := bit (wordAt ws 0) 48 || status != 0
  let s := if status = 0 then s.moveCommand ws else s
  let s := (s.setRing n { s.ring n with cons := ((s.ring n).cons + 1) % 2 ^ 32 }).dropCommand n
  if notify then s.eventEntry seat entry else s

/-- COPY (R127): the engine starts the COPY at the front of a command ring. -/
def execCopy (ring : RingNo) (s : State) : Host.Outcome State Fault Refusal := .next (s.startCommand ring 0x10)
/-- FILL (R127). -/
def execFill (ring : RingNo) (s : State) : Host.Outcome State Fault Refusal := .next (s.startCommand ring 0x11)
/-- NOP (R127). -/
def execNop (ring : RingNo) (s : State) : Host.Outcome State Fault Refusal := .next (s.startCommand ring 0x12)

/-- The KIND is one of R127's. -/
def knownKind (ws : List Nat) : Bool :=
  let k := bitsOf (wordAt ws 0) 56 8
  k == 0x10 || k == 0x11 || k == 0x12

/-- COMMAND_COMPLETE (R129): the running command of a ring ends; a command of a reserved KIND, which no
row starts, fails at once with status 0x04 (R128). -/
def execCommandComplete (ring : RingNo) (transferOk : Bool) (s : State) : Host.Outcome State Fault Refusal :=
  .next (match s.frontCommand ring with
    | some ws =>
      match look none s.commands ring with
      | some st => s.endCommand ring ws st transferOk
      | none => if knownKind ws then s else s.endCommand ring ws 4 transferOk
    | none => s)

end Sys2Proof.Machine
end

