-- ==== Sys2Proof/Machine/Servo.lean ====
section
/-!
DEFINITION. The servo engine (R426 to R446): the Taper, the class-A difference equations, the class-B
trackers, following error, release and replacement of coefficients.
-/
namespace Sys2Proof.Machine

/-- Page and repetition of class-A slot k (R100). -/
def pSa (k : Nat) : Nat := pSvl (k / 2 % 8)
/-- Page of class-B slot k (R100). -/
def pSb (k : Nat) : Nat := pSvl (8 + k / 16 % 4)

/-- A slot's fields beside its registers; class-B slots follow the 16 class-A slots. -/
def State.servo (s : State) (n : Nat) : Servo := look ⟨0, 0, false, false⟩ s.servos n
/-- Set them. -/
def State.setServo (s : State) (n : Nat) (x : Servo) : State := { s with servos := ins ⟨0, 0, false, false⟩ n x s.servos }

/-- A field of class-A slot k, unsigned and signed. -/
def State.sa (s : State) (k : Nat) (f : Fld) : Nat := s.fld (pSa k) f (k % 2)
/-- Signed. -/
def State.saS (s : State) (k : Nat) (f : Fld) : Int := s.sfld (pSa k) f (k % 2)
/-- Set a field of class-A slot k. -/
def State.setSa (s : State) (k : Nat) (f : Fld) (v : Nat) : State := s.setFld (pSa k) f v (k % 2)
/-- Set a signed field. -/
def State.setSaS (s : State) (k : Nat) (f : Fld) (v : Int) : State := s.setS (pSa k) f v (k % 2)
/-- A field of class-B slot k. -/
def State.sb (s : State) (k : Nat) (f : Fld) : Nat := s.fld (pSb k) f (k % 16)
/-- Set a field of class-B slot k. -/
def State.setSb (s : State) (k : Nat) (f : Fld) (v : Nat) : State := s.setFld (pSb k) f v (k % 16)
/-- A 40-bit pair of class-B slot k. -/
def State.sb40 (s : State) (k : Nat) (lo hi : Fld) : Int :=
  toS 40 (s.sb k lo + s.sb k hi * 2 ^ 32)
/-- Set a signed pair: bits [31:8] of _HI copy bit [7]. -/
def State.setSb40 (s : State) (k : Nat) (lo hi : Fld) (v : Int) : State :=
  s.setPair (pSb k) lo hi (ofS 64 v) (k % 16)

/-- The sign of R431's pseudocode. -/
def signI (x : Int) : Int := if 0 < x then 1 else if x < 0 then -1 else 0

/-- The Taper (R431): the next set-point and its change. -/
def taper (on : Bool) (vmax amax r s v : Int) : Int × Int :=
  if on = false then (r, 0)
  else
    let d := r - s
    if d.natAbs ≤ amax ∧ v.natAbs ≤ amax then (r, 0)
    else
      let g := if d = 0 then -(signI v) else signI d
      let a := v * g
      let fits (c : Int) : Bool := decide (c ≤ vmax ∧ c * (c + amax) ≤ 2 * amax * d.natAbs)
      let an :=
        if a < 0 then a + amax
        else if fits (a + amax) then a + amax
        else if fits a then a
        else a - amax
      (s + g * an, g * an)

/-- Class-A slot k runs (R429, R444). -/
def State.saActive (s : State) (k : Nat) : Bool :=
  if k = 0 then s.fld pTime F.TIME_CFG_SYNC_SRC == 1 || s.fld pTime F.TIME_CFG_SYNC_SRC == 2
  else s.sa k F.SA_CFG_EN == 1

/-- Class-B slot k runs: enabled, and its flow is enabled in force with NUM not 0 (R435). -/
def State.sbActive (s : State) (k : Nat) : Bool :=
  s.sb k F.SB_CFG_EN == 1 && s.ff (pFlow k) F.FLOW_CFG_ENABLE == 1 && s.ff (pFlow k) F.FLOW_RATE_NUM != 0

/-- The target of class-B slot k (R435); for one that 40 bits cannot hold the spec states no value. -/
def State.sbTarget (s : State) (k : Nat) : Int :=
  let r : Nat := s.ff (pFlow k) F.FLOW_RATE_DEN * 10 ^ 9 * 256 / s.ff (pFlow k) F.FLOW_RATE_NUM
  if r < 2 ^ 39 then r else (Config.longTarget r).toInt

/-- Conditions of slots: a class-A slot's condition j, a class-B slot's 0 (lost) or 1 (APPLY refused) (R446). -/
def State.saCond (s : State) (k j : Nat) : State := s.setCond (pSa k) (16 * (k % 2) + j)
/-- R446. -/
def State.sbCond (s : State) (k j : Nat) : State := s.setCond (pSb k) (2 * (k % 16) + j)

/-- Declare class-A slot k lost (R436, R437). -/
def State.saLose (s : State) (k : Nat) : State :=
  let s := (s.setSa k F.SA_STAT_LOST 1).setSa k F.SA_STAT_FE_RUN 0
  let s := s.inc (pSa k) F.SA_CNT_LOST_CNT (k % 2)
  (s.saCond k 0).setCond pServo 0

/-- Declare class-B slot k lost. -/
def State.sbLose (s : State) (k : Nat) : State :=
  let s := (s.setSb k F.SB_STAT_LOST 1).setSb k F.SB_STAT_FE_RUN 0
  let s := s.inc (pSb k) F.SB_CNT_LOST_CNT (k % 16)
  (s.sbCond k 0).setCond pServo 0

/-- The following-error check of class-A slot k (R436). -/
def State.saFollow (s : State) (k : Nat) (e : Int) : State :=
  let lim := s.sa k F.SA_ACT_FE_LIM_LIMIT
  if lim = 0 ∨ e.natAbs ≤ lim then s.setSa k F.SA_STAT_FE_RUN 0
  else if s.sa k F.SA_ACT_FE_TIME_US = 0 then s.saLose k
  else s.setSa k F.SA_STAT_FE_RUN 1

/-- The following-error check of class-B slot k: |e| >> 8, in ns. -/
def State.sbFollow (s : State) (k : Nat) (e : Int) : State :=
  let lim := s.sb k F.SB_ACT_FE_LIM_NS
  if lim = 0 ∨ e.natAbs / 256 ≤ lim then s.setSb k F.SB_STAT_FE_RUN 0
  else if s.sb k F.SB_ACT_FE_TIME_US = 0 then s.sbLose k
  else s.setSb k F.SB_STAT_FE_RUN 1

/-- Copy a slot's pending set, laid out as its active set 0x30 bytes later (class A) (R444). -/
def State.saLatch (s : State) (k : Nat) : State :=
  (s.each (List.range 11) (fun s i =>
    let a := pSa k + 0x110 + (k % 2) * 0x700 + 4 * i
    s.setReg (a + 0x30) (s.reg a))).setSa k F.SA_CMD_APPLY 0

/-- The same for class B, 0x20 bytes later (R445). -/
def State.sbLatch (s : State) (k : Nat) : State :=
  (s.each (List.range 7) (fun s i =>
    let a := pSb k + 0x104 + (k % 16) * 0xF0 + 4 * i
    s.setReg (a + 0x20) (s.reg a))).setSb k F.SB_CMD_APPLY 0

/-- R439: rebase class-A slot k on the output u, with the active set. -/
def State.saRebase (s : State) (k : Nat) (u : Int) : State :=
  let p := satS (rshr (s.saS k F.SA_ACT_KP_K * s.saS k F.SA_E_E) (s.sa k F.SA_ACT_SHIFT_SP)) 32
  let f := satS (rshr (s.saS k F.SA_ACT_KFF_K * s.saS k F.SA_SPV_V) (s.sa k F.SA_ACT_SHIFT_SF)) 32
  let c := min (max u (s.saS k F.SA_ACT_UMIN_VALUE)) (s.saS k F.SA_ACT_UMAX_VALUE)
  s.setSaS k F.SA_I_I (satS (c - p - f - s.saS k F.SA_ACT_BIAS_VALUE) 32)

/-- Before a sample's computation: latch an applied set and rebase (R439), then rebase a released slot
(R438), unless R441 has done so (R442); a lost slot that is not released keeps its integrator (R442). -/
def State.saPrepare (s : State) (k : Nat) : State :=
  let ap := s.sa k F.SA_CMD_APPLY = 1
  let rel := (s.servo k).releasing
  let done := (s.servo k).rebased
  let lost := s.sa k F.SA_STAT_LOST = 1
  let s := if ap then s.saLatch k else s
  let s := if (rel ∧ ¬ done) ∨ (ap ∧ (rel ∨ ¬ lost)) then s.saRebase k (s.saS k F.SA_U_U) else s
  if rel then (s.setSa k F.SA_STAT_LOST 0).setServo k { s.servo k with releasing := false, rebased := false } else s

/-- AT_TARGET of class-A slot k, with condition 3 when it becomes set. -/
def State.saAtTarget (s : State) (k : Nat) : State :=
  if s.sa k F.SA_SP_S = s.sa k F.SA_TARGET_R ∧ s.sa k F.SA_SPV_V = 0 then
    if s.sa k F.SA_STAT_AT_TARGET = 1 then s else (s.setSa k F.SA_STAT_AT_TARGET 1).saCond k 3
  else s.setSa k F.SA_STAT_AT_TARGET 0

/-- R433 for one flag: `over` says the sum lies beyond the limit, `clear` that u lies inside it. -/
def State.saSat (s : State) (k : Nat) (f : Fld) (above clear : Bool) : State :=
  if above then
    if s.sa k f = 1 then s
    else ((s.setSa k f 1).inc (pSa k) F.SA_CNT_SAT_CNT (k % 2)).saCond k 2
  else if clear then s.setSa k f 0 else s

/-- The output of class-A slot k takes effect: RATE for A0 (R429), TRIM for a phase loop (R430). -/
def State.saOutput (s : State) (k : Nat) (u : Int) : State :=
  if k = 0 then s.setRate (u * 256)
  else s.setSaS k F.SA_TRIM_TRIM (satS (s.saS k F.SA_TRIM_TRIM + u) 32)

/-- R432, R433 for a running slot: integrator, output, saturation flags. -/
def State.saEquation (s : State) (k : Nat) (e v : Int) : State :=
  let p := satS (rshr (s.saS k F.SA_ACT_KP_K * e) (s.sa k F.SA_ACT_SHIFT_SP)) 32
  let f := satS (rshr (s.saS k F.SA_ACT_KFF_K * v) (s.sa k F.SA_ACT_SHIFT_SF)) 32
  let i0 := s.saS k F.SA_I_I
  let bias := s.saS k F.SA_ACT_BIAS_VALUE
  let umin := s.saS k F.SA_ACT_UMIN_VALUE
  let umax := s.saS k F.SA_ACT_UMAX_VALUE
  let it := satS (i0 + rshr (s.saS k F.SA_ACT_KI_K * e) (s.sa k F.SA_ACT_SHIFT_SI)) 32
  let w0 := p + it + f + bias
  let i1 := if (umax < w0 ∧ i0 < it) ∨ (w0 < umin ∧ it < i0) then i0 else it
  let w := p + i1 + f + bias
  let u := min (max w umin) umax
  let s := (s.setSaS k F.SA_I_I i1).setSaS k F.SA_U_U u
  let s := s.saSat k F.SA_STAT_SAT_HI (decide (umax < w)) (decide (u < umax))
  s.saSat k F.SA_STAT_SAT_LO (decide (w < umin)) (decide (umin < u))

/-- R433 for a lost slot, whose output is held: a flag clears once the output lies inside its limit. -/
def State.saHeldSat (s : State) (k : Nat) : State :=
  let u := s.saS k F.SA_U_U
  let s := s.saSat k F.SA_STAT_SAT_HI false (decide (u < s.saS k F.SA_ACT_UMAX_VALUE))
  s.saSat k F.SA_STAT_SAT_LO false (decide (s.saS k F.SA_ACT_UMIN_VALUE < u))

/-- One sample of class-A slot k (R432, R437). -/
def State.saSample (s : State) (k : Nat) (y : Int) : State :=
  let s := s.saPrepare k
  let t := taper (s.sa k F.SA_CFG_TAPER_EN == 1) (s.sa k F.SA_ACT_VMAX_LIMIT) (s.sa k F.SA_ACT_AMAX_LIMIT)
    (s.saS k F.SA_TARGET_R) (s.saS k F.SA_SP_S) (s.saS k F.SA_SPV_V)
  let e := satS (t.1 - satS y 32) 32
  let s := ((s.setSaS k F.SA_SP_S t.1).setSaS k F.SA_SPV_V t.2).setSaS k F.SA_Y_Y (satS y 32)
  let s := s.setSaS k F.SA_E_E e
  let s := if s.sa k F.SA_STAT_LOST = 1 then s.saHeldSat k else s.saEquation k e t.2
  let s := s.saOutput k (s.saS k F.SA_U_U)
  let s := if s.sa k F.SA_STAT_LOST = 1 then s else s.saFollow k e
  let s := s.saAtTarget k
  (s.inc (pSa k) F.SA_SAMPLE_CNT_SAMPLE_CNT (k % 2)).inc pServo F.SERVO_SAMPLE_CNT_SAMPLE_CNT

/-- Set-point and change of class-B slot k. -/
def State.sbSetPoint (s : State) (k : Nat) (sp v : Int) : State :=
  let s := s.setSb40 k F.SB_SP_LO_S F.SB_SP_HI_S sp
  (s.setSb k F.SB_SPV_V (ofS 32 (satS v 32))).setServo (16 + k) { s.servo (16 + k) with v := v }

/-- AT_TARGET of class-B slot k: s = r and v = 0, with r the target in force (R435, R445). -/
def State.sbAtTarget (s : State) (k : Nat) : Bool :=
  s.ff (pFlow k) F.FLOW_RATE_NUM != 0 && decide (s.sb40 k F.SB_SP_LO_S F.SB_SP_HI_S = s.sbTarget k ∧ (s.servo (16 + k)).v = 0)

/-- The period correction, and what PERIOD and SAT read from it and the set-point. -/
def State.sbCorrect (s : State) (k : Nat) (i sp : Int) : State :=
  let s := s.setSb40 k F.SB_I_LO_I F.SB_I_HI_I i
  let s := s.setSb40 k F.SB_PERIOD_LO_PERIOD F.SB_PERIOD_HI_PERIOD (sp + i)
  s.setSb k F.SB_STAT_SAT (if i.natAbs = s.sb k F.SB_ACT_UMAX_LIMIT then 1 else 0)

/-- Prediction, correction and what the registers read from them. -/
def State.sbResult (s : State) (k : Nat) (q i sp : Int) : State :=
  let s := s.setServo (16 + k) { s.servo (16 + k) with q := q }
  (s.sbCorrect k i sp).setPair (pSb k) F.SB_NEXT_LO_NS F.SB_NEXT_HI_NS (ofS 64 (q / 256)) (k % 16)

/-- Latch and rebase of class-B slot k before a sample at t (R438, R439). -/
def State.sbPrepare (s : State) (k : Nat) (t : Int) : State :=
  let ap := s.sb k F.SB_CMD_APPLY = 1
  let s := if ap then s.sbLatch k else s
  let um : Int := s.sb k F.SB_ACT_UMAX_LIMIT
  let s := if ap then s.setSb40 k F.SB_I_LO_I F.SB_I_HI_I (clampI (s.sb40 k F.SB_I_LO_I F.SB_I_HI_I) (-um) um) else s
  if (s.servo (16 + k)).releasing then
    (s.setSb k F.SB_STAT_LOST 0).setServo (16 + k)
      { s.servo (16 + k) with
        releasing := false,
        q := t * 256 + s.sb40 k F.SB_SP_LO_S F.SB_SP_HI_S + s.sb40 k F.SB_I_LO_I F.SB_I_HI_I }
  else s

/-- R434's skip of frames that never arrived: how many. -/
def skipCount (e per : Int) : Int :=
  if e > per / 2 then (if per = 0 then Config.skipByZero e else Int.fdiv (e + per / 2) per) else 0

/-- One sample of class-B slot k at arrival time t, ns (R434, R437). -/
def State.sbSample (s : State) (k : Nat) (t : Int) : State :=
  let r := s.sbTarget k
  let s := s.sbPrepare k t
  let s := if s.sb k F.SB_STAT_SEEDED = 0 then
      ((s.sbSetPoint k r 0).sbResult k (t * 256 + r) 0 r).setSb k F.SB_STAT_SEEDED 1
    else
      let x := s.servo (16 + k)
      let i0 := s.sb40 k F.SB_I_LO_I F.SB_I_HI_I
      let s0 := s.sb40 k F.SB_SP_LO_S F.SB_SP_HI_S
      let per := s0 + i0
      let n := skipCount (t * 256 - x.q) per
      let q := x.q + n * per
      let e := t * 256 - q
      let s := s.inc (pSb k) F.SB_CNT_MISS_CNT (k % 16) n.toNat
      let tp := taper (s.sb k F.SB_CFG_TAPER_EN == 1) (s.sb k F.SB_ACT_VMAX_LIMIT) (s.sb k F.SB_ACT_AMAX_LIMIT) r s0 x.v
      let lost := s.sb k F.SB_STAT_LOST = 1
      let um : Int := s.sb k F.SB_ACT_UMAX_LIMIT
      let kp := toS 16 (s.sb k F.SB_ACT_KP_K)
      let ki := toS 16 (s.sb k F.SB_ACT_KI_K)
      let i := if lost then i0 else min (max (i0 + rshr (ki * e) 15) (-um)) um
      let q := q + (if lost then 0 else rshr (kp * e) 15) + tp.1 + i
      let s := (s.sbSetPoint k tp.1 tp.2).sbResult k q i tp.1
      let s := s.setSb k F.SB_E_E (ofS 32 (satS e 32))
      if lost then s else s.sbFollow k e
  (s.inc (pSb k) F.SB_SAMPLE_CNT_SAMPLE_CNT (k % 16)).inc pServo F.SERVO_SAMPLE_CNT_SAMPLE_CNT

/-- Class-A slot k takes samples: it runs, and A0 not in HOLDOVER or STEP_WAIT (R429). -/
def State.saTakes (s : State) (k : Nat) : Bool :=
  s.saActive k && (k != 0 || (s.fld pTime F.TIME_STAT_SYNC_STATE != 3 && s.fld pTime F.TIME_STAT_SYNC_STATE != 4))

/-- SERVO_SAMPLE (R428): a running slot processes one sample. -/
def execServoSample (classA : Bool) (slot : Fin 64) (value : Int) (s : State) : Host.Outcome State Fault Refusal :=
  .next (if classA then (if slot < 16 ∧ s.saTakes slot then (s.saSample slot value).settle else s)
         else if s.sbActive slot then (s.sbSample slot value).settle else s)

/-- FOLLOWING_ERROR_LOST (R436): the running following-error timer reaches FE_TIME. -/
def execFollowingErrorLost (classA : Bool) (slot : Fin 64) (s : State) : Host.Outcome State Fault Refusal :=
  .next (if classA then
           (if slot < 16 ∧ s.sa slot F.SA_STAT_FE_RUN = 1 then (s.saLose slot).settle else s)
         else if s.sb slot F.SB_STAT_FE_RUN = 1 then (s.sbLose slot).settle else s)

/-! ### Commands of the host (R438 to R441) -/

/-- RELEASE of class-A slot k: a lost slot rebases at its next sample; condition 1. -/
def State.saRelease (s : State) (k : Nat) : State :=
  if s.sa k F.SA_STAT_LOST = 1 ∧ (s.servo k).releasing = false then
    (s.setServo k { s.servo k with releasing := true, rebased := false }).saCond k 1 else s

/-- RELEASE of class-B slot k. -/
def State.sbRelease (s : State) (k : Nat) : State :=
  if s.sb k F.SB_STAT_LOST = 1 then s.setServo (16 + k) { s.servo (16 + k) with releasing := true } else s

/-- RESET of class-A slot k (R440). -/
def State.saReset (s : State) (k : Nat) : State :=
  let u := min (max (s.saS k F.SA_ACT_BIAS_VALUE) (s.saS k F.SA_ACT_UMIN_VALUE)) (s.saS k F.SA_ACT_UMAX_VALUE)
  let s := ((s.setSa k F.SA_I_I 0).setSa k F.SA_TRIM_TRIM 0).setSaS k F.SA_U_U u
  let s := ((s.setSa k F.SA_STAT_LOST 0).setSa k F.SA_STAT_SAT_HI 0).setSa k F.SA_STAT_SAT_LO 0
  let s := ((s.setSa k F.SA_STAT_FE_RUN 0).setSa k F.SA_SP_S (s.sa k F.SA_TARGET_R)).setSa k F.SA_SPV_V 0
  (s.setServo k { s.servo k with releasing := false, rebased := false }).saAtTarget k

/-- RESET of class-B slot k. -/
def State.sbReset (s : State) (k : Nat) : State :=
  let s := ((s.setSb k F.SB_STAT_SEEDED 0).setSb k F.SB_STAT_LOST 0).setSb k F.SB_STAT_FE_RUN 0
  let s := s.setServo (16 + k) { s.servo (16 + k) with releasing := false }
  (s.sbSetPoint k (s.sbTarget k) 0).sbCorrect k 0 (s.sbTarget k)

/-- APPLY of class-A slot k: refused with APPLY_ERR when UMIN exceeds UMAX or the Taper has AMAX 0 (R440). -/
def State.saApply (s : State) (k : Nat) : State :=
  if s.saS k F.SA_UMAX_VALUE < s.saS k F.SA_UMIN_VALUE ∨
      (s.sa k F.SA_CFG_TAPER_EN = 1 ∧ s.sa k F.SA_AMAX_LIMIT = 0) then
    (s.setSa k F.SA_STAT_APPLY_ERR 1).saCond k 4
  else (s.setSa k F.SA_STAT_APPLY_ERR 0).setSa k F.SA_CMD_APPLY 1

/-- APPLY of class-B slot k. -/
def State.sbApply (s : State) (k : Nat) : State :=
  if s.sb k F.SB_CFG_TAPER_EN = 1 ∧ s.sb k F.SB_AMAX_LIMIT = 0 then
    (s.setSb k F.SB_STAT_APPLY_ERR 1).sbCond k 1
  else (s.setSb k F.SB_STAT_APPLY_ERR 0).setSb k F.SB_CMD_APPLY 1

/-- A write of a slot's CMD register: RESET, APPLY and RELEASE bits (R438 to R440). -/
def State.servoCmd (s : State) (classA : Bool) (k w : Nat) : State :=
  let s := s.when (bit w 1) (fun s => if classA then s.saReset k else s.sbReset k)
  let s := s.when (bit w 0) (fun s => if classA then s.saApply k else s.sbApply k)
  (s.when (bit w 2) (fun s => if classA then s.saRelease k else s.sbRelease k)).settle

/-- R441, R442: SYNC_SRC becomes 0x1 or 0x2; A0 starts from the RATE in force, and a release rebases it no more. -/
def State.rebaseA0 (s : State) : State :=
  let u := s.clk.rate / 256
  let s := (s.setSaS 0 F.SA_U_U u).setSaS 0 F.SA_I_I (satS (u - s.saS 0 F.SA_ACT_BIAS_VALUE) 32)
  let s := (s.setSa 0 F.SA_SP_S (s.sa 0 F.SA_TARGET_R)).setSa 0 F.SA_SPV_V 0
  (s.setServo 0 { s.servo 0 with rebased := (s.servo 0).releasing }).saAtTarget 0

/-- R435: a restart of flow f clears SEEDED, LOST and FE_RUN of its tracker; each phase loop on the flow
stops its timer (R442). -/
def State.restartTracker (s : State) (f : Nat) : State :=
  let s := ((s.setSb f F.SB_STAT_SEEDED 0).setSb f F.SB_STAT_LOST 0).setSb f F.SB_STAT_FE_RUN 0
  s.each ((List.range 16).filter (fun k => k != 0 && s.sa k F.SA_CFG_SRC == 1 && s.sa k F.SA_CFG_FLOW == f))
    (fun s k => s.setSa k F.SA_STAT_FE_RUN 0)

/-- Enabled phase loops of a SRC (R427). -/
def State.loopsOn (s : State) (src : Nat) : List Nat :=
  (List.range 16).filter (fun k => k != 0 && s.sa k F.SA_CFG_EN == 1 && s.sa k F.SA_CFG_SRC == src)

/-- The trim of timing output j: that of the lowest enabled phase loop that names it (R430). -/
def State.toutTrim (s : State) (j : Nat) : Int :=
  match (List.range 16).find? (fun k => k != 0 && s.sa k F.SA_CFG_EN == 1 && s.sa k F.SA_CFG_ACT_EN == 1 &&
      s.sa k F.SA_CFG_ACT_TOUT == j) with
  | some k => s.saS k F.SA_TRIM_TRIM
  | none => 0

/-- ACT_IGNORED of class-A slot k: a lower enabled slot names its output (R430). -/
def State.actIgnored (s : State) (k : Nat) : Bool :=
  k != 0 && s.sa k F.SA_CFG_EN == 1 && s.sa k F.SA_CFG_ACT_EN == 1 &&
    (List.range k).any (fun j => j != 0 && s.sa j F.SA_CFG_EN == 1 && s.sa j F.SA_CFG_ACT_EN == 1 &&
      s.sa j F.SA_CFG_ACT_TOUT == s.sa k F.SA_CFG_ACT_TOUT)

/-- Slots lost, as a bitmap, of class A or of class-B slots `lo` to `lo + n - 1` (R443). -/
def State.lostMap (s : State) (classA : Bool) (lo n : Nat) : Nat :=
  ((List.range n).map (fun i => (if classA then s.sa (lo + i) F.SA_STAT_LOST else s.sb (lo + i) F.SB_STAT_LOST) * 2 ^ i)).sum

end Sys2Proof.Machine
end

