-- ==== Sys2Proof/Machine/Grid.lean ====
section
/-!
DEFINITION. The launch grid in exact integers (R262, R263, R285).
-/
namespace Sys2Proof.Machine

/-- NUM, DEN and PHASE of a configuration. -/
structure Grid where
  num : Nat
  den : Nat
  phase : Nat
  deriving DecidableEq, Repr

/-- The grid of a configuration in force. -/
def gridOf (c : Sparse Word) : Grid :=
  ⟨cfld c pCmp F.CMP_CYC_RATE_NUM, cfld c pCmp F.CMP_CYC_RATE_DEN, cfld c pCmp F.CMP_CYC_PHASE_PHASE⟩

/-- T_n (R262). -/
def Grid.point (g : Grid) (n : Int) : Int := g.phase + n * (g.den * 10 ^ 9 : Nat) / g.num

/-- The least n with T_n at or after t. -/
def Grid.index (g : Grid) (t : Int) : Int := -((-((t - g.phase) * g.num)) / (g.den * 10 ^ 9 : Nat))

/-- P_MIN (R263). -/
def Grid.pMin (g : Grid) : Nat := g.den * 10 ^ 9 / g.num
/-- P_MAX. -/
def Grid.pMax (g : Grid) : Nat := ceilDiv (g.den * 10 ^ 9) g.num

/-- The launch time and period of the first point n for which T_n - P is at or after t, and T_n at or
after `e`. -/
def Grid.first (g : Grid) (e t : Int) : Nat × Nat :=
  let n := max (g.index e) (g.index t + 1)
  ((g.point n).toNat, (g.point n - g.point (n - 1)).toNat)

/-- The points of the grid from `lo` up to, not including, `hi`; at most `k`. -/
def Grid.between (g : Grid) (lo hi : Int) (k : Nat) : List Nat :=
  ((List.range k).map (fun (i : Nat) => g.point (g.index lo + i))).filterMap
    (fun t => if lo ≤ t ∧ t < hi then some t.toNat else none)

/-- G in force, ns (R34). -/
def State.guardNs (s : State) : Nat := s.fld pCmp F.CMP_GUARD_G_US * 1000

/-- S of the next cycle: T - P - G (R263, R285). -/
def State.nextStart (s : State) : Nat := s.cyc.launch - s.cyc.period - s.cyc.newGuard * 1000

/-- T and P of the next cycle (R285; R400 after a step), and E, the point the old grid would give. -/
def State.planLaunch (s : State) : (Nat × Nat) × Nat :=
  let c := s.cyc
  let old := gridOf s.force
  let new := gridOf s.nextForce
  let g := c.newGuard * 1000
  let e := old.point (old.index (c.prevLaunch + 1))
  (match c.sched with
    | some (d, _) => let b := (c.prevLaunch + c.prevPeriod : Nat) + d + g; new.first b b
    | none => new.first e ((c.prevLaunch : Int) - s.guardNs + g), e.toNat)

/-- The cycle that starts next: a bridge cycle, or the next composed one. CMP_CYCLE reads one less. -/
def Cycles.upcoming (c : Cycles) : Nat :=
  match c.bridge with
  | e :: _ => e.1
  | [] => c.next

/-- Replace the sequencer. -/
def State.setCyc (s : State) (c : Cycles) : State := { s with cyc := c }

/-- A value replaces a number's low 32 bits in a page's 64-bit pair (CMP_LAUNCH and the like). -/
def State.setCmp64 (s : State) (lo hi : Fld) (v : Nat) : State := s.setPair pCmp lo hi v

end Sys2Proof.Machine
end

