-- ==== Sys2Proof/Machine/Time.lean ====
section
/-!
DEFINITION. Engine time, PTP, steps, timing outputs and capture inputs (R393 to R425, R569).
-/
namespace Sys2Proof.Machine

/-! ### SYNC_STATE (R407, R408) -/

/-- SYNC_STATE. -/
def State.syncState (s : State) : Nat := s.fld pTime F.TIME_STAT_SYNC_STATE

/-- Replace the PTP slave. -/
def State.setPtp (s : State) (p : Ptp) : State := { s with ptp := p }

/-- TIME_STEP_PEND becomes invalid. -/
def State.pendInvalid (s : State) : State :=
  (s.setPair pTime F.TIME_STEP_PEND_LO_NS F.TIME_STEP_PEND_HI_NS 0).setFld pTime F.TIME_STEP_STAT_PEND_VALID 0

/-- Enter a SYNC_STATE, with conditions 0, 1 and 2 (R425); entry into HOLDOVER or STEP_WAIT stops A0's
following-error timer (R436). -/
def State.setSync (s : State) (n : Nat) : State :=
  let o := s.syncState
  if o = n then s
  else
    let s := s.setFld pTime F.TIME_STAT_SYNC_STATE n
    let s := s.when (n == 2) (·.setCond pTime 0)
    let s := s.when (o == 2) (·.setCond pTime 1)
    let s := s.when (n == 4) (·.setCond pTime 2)
    let s := s.when (n == 3 || n == 4) (·.setSa 0 F.SA_STAT_FE_RUN 0)
    s.setPtp { s.ptp with good := 0, bad := 0 }

/-- A sample within STEP_THR moves SYNC_STATE (R408). `near` says |theta| ≤ LOCK_NS. -/
def State.goodSample (s : State) (near : Bool) : State :=
  let st := s.syncState
  if st = 1 then
    let g := if near then s.ptp.good + 1 else 0
    let s := s.setPtp { s.ptp with good := g }
    if 16 ≤ g then s.setSync 2 else s
  else if st = 2 then
    let b := if near then 0 else s.ptp.bad + 1
    let s := s.setPtp { s.ptp with bad := b }
    if 4 ≤ b then s.setSync 1 else s
  else
    let s := if st = 4 then s.pendInvalid else s
    let s := s.setSync 1
    s.setPtp { s.ptp with good := if near then 1 else 0 }

/-- A step that AUTO_FIRST asked for is scheduled and has yet to take effect. -/
def State.autoSched (s : State) : Bool :=
  match s.cyc.sched with
  | some (_, auto) => auto
  | none => false

/-- A refused sample (R407): counted; a step of -theta when FREE with AUTO_FIRST, else STEP_WAIT. -/
def State.refusedSample (s : State) (theta : Int) : State :=
  let s := s.inc pTime F.TIME_STEP_STAT_REFUSED_CNT
  let v := divRound (-theta) (2 ^ 16)
  if s.syncState = 0 ∧ s.fld pTime F.TIME_CFG_AUTO_FIRST = 1 then
    if s.autoSched then s else s.setCyc { s.cyc with req := some (.auto v) }
  else
    let s := s.setPair pTime F.TIME_STEP_PEND_LO_NS F.TIME_STEP_PEND_HI_NS (ofS 64 v)
    (s.setFld pTime F.TIME_STEP_STAT_PEND_VALID 1).setSync 4

/-- A theta sample, in 2^-16 ns (R407). -/
def State.thetaSample (s : State) (theta : Int) : State :=
  let y := satS (rshr theta 12) 32
  let s := (s.inc pTime F.TIME_SYNC_CNT_SYNC_CNT).setS pTime F.TIME_THETA_THETA y
  let thr := s.fld pTime F.TIME_STEP_THR_THR_NS
  if thr ≠ 0xFFFFFFFF ∧ thr * 2 ^ 16 < theta.natAbs then s.refusedSample theta
  else (s.emit (.sample 0 y)).goodSample (decide (theta.natAbs ≤ s.fld pTime F.TIME_LOCK_LOCK_NS * 2 ^ 16))

/-- The master is lost (R408). -/
def State.loseMaster (s : State) : State :=
  if s.syncState = 1 ∨ s.syncState = 2 then s.setSync 3
  else if s.syncState = 4 then s.pendInvalid.setSync 3 else s

/-! ### PTP (R402 to R406) -/

/-- Picoseconds in 2^-16 ns. -/
def psTo16 (x : Int) : Int := divRound (x * 2 ^ 16) 1000

/-- RX_FIX of a port by its MODE, ps (R405). -/
def rxFix (mode : Nat) : Int :=
  if mode = 1 then 318600 else if mode = 2 then 196900 else if mode = 3 then 142300 else if mode = 4 then 118800 else 0
/-- TX_FIX. -/
def txFix (mode : Nat) : Int :=
  if mode = 1 then 41200 else if mode = 2 then 38400 else if mode = 3 then 35100 else if mode = 4 then 33000 else 0

/-- A receive stamp at the reference plane (R405). -/
def State.rxStamp (s : State) (p : Nat) (raw : Int) : Int :=
  raw - psTo16 (rxFix (s.ff (pEth p) F.ETH_CFG_MODE) + s.sfld pTime F.TPORT_RX_DLY_RX_DLY p)
/-- A transmit stamp at the reference plane. -/
def State.txStamp (s : State) (p : Nat) (raw : Int) : Int :=
  raw + psTo16 (txFix (s.ff (pEth p) F.ETH_CFG_MODE) + s.sfld pTime F.TPORT_TX_DLY_TX_DLY p)

/-- Port p takes part (R403). -/
def State.ptpPort (s : State) (p : Nat) : Bool := s.fld pTime F.TPORT_CFG_PTP_EN p == 1

/-- The transport that TRANSPORT of port p gives (R403). -/
def State.ptpVia (s : State) (p : Nat) : PtpVia :=
  if s.fld pTime F.TPORT_CFG_TRANSPORT p = 0 then .udp4
  else if s.fld pTime F.TPORT_CFG_TRANSPORT p = 1 then .udp6 else .ethernet

/-- Port p takes part, over this transport (R403). -/
def State.ptpOver (s : State) (p : Nat) (v : PtpVia) : Bool := s.ptpPort p && s.ptpVia p == v

/-- The message comes from the selected master on the port in use, over its transport, in DOMAIN. -/
def State.fromMaster (s : State) (p : Nat) (m : PtpMsg) : Bool :=
  s.ptpOver p m.via && m.domain.toNat == s.fld pTime F.TIME_CFG_DOMAIN &&
    (match s.ptp.selected with
     | some x => x.port == p && x.ann.srcId == m.srcId && x.ann.srcPort == m.srcPort
     | none => false)

/-- Insert into a list in ascending order. -/
def insertInt (x : Int) : List Int → List Int
  | [] => [x]
  | y :: t => if x ≤ y then x :: y :: t else y :: insertInt x t

/-- mpd: the median, the mean of the middle two of an even number (R406). -/
def median (l : List Int) : Int :=
  let o := l.foldr insertInt []
  let n := o.length
  if n % 2 = 1 then o.getD (n / 2) 0 else (o.getD (n / 2 - 1) 0 + o.getD (n / 2) 0) / 2

/-- ms of a Sync is known: a sample when a delay has been measured and PTP is the source (R406). -/
def State.formSample (s : State) (ms : Int) : State :=
  let s := s.setPtp { s.ptp with ms := some ms }
  if s.ptp.dlys = [] ∨ s.fld pTime F.TIME_CFG_SYNC_SRC ≠ 1 then s
  else (s.thetaSample (ms - median s.ptp.dlys)).settle

/-- SYNC_RX (R406). -/
def execSyncRx (port : PortNo) (m : PtpMsg) (stamp : Int) (s : State) : Host.Outcome State Fault Refusal :=
  .next (if m.kind = .sync ∧ s.fromMaster port m then
      let s := if s.ptp.pendSync = none then s else s.inc pTime F.TIME_DROP_CNT_DROP_CNT
      let t2 := s.rxStamp port stamp
      if m.twoStep then s.setPtp { s.ptp with pendSync := some (m, t2) }
      else (s.setPtp { s.ptp with pendSync := none }).formSample (t2 - m.stamp - m.corr)
    else s)

/-- FOLLOW_UP_RX (R406): t1 for the Sync of the same number. -/
def execFollowUpRx (port : PortNo) (m : PtpMsg) (s : State) : Host.Outcome State Fault Refusal :=
  .next (match s.ptp.pendSync with
    | some (y, t2) =>
      if m.kind = .followUp ∧ s.fromMaster port m ∧ m.seq = y.seq then
        (s.setPtp { s.ptp with pendSync := none }).formSample (t2 - m.stamp - (y.corr + m.corr))
      else s
    | none => s)

/-- PTP's multicast address over a transport: an IP address, or a MAC address (R403). -/
def ptpGroup : PtpVia → Nat
  | .udp4 => 0xE0000181
  | .udp6 => 0xFF0E * 2 ^ 112 + 0x181
  | .ethernet => 0x011B19000000

/-- Send Delay_Req number n on port p to the multicast address, or to the master's own (R403). -/
def State.sendDelayReq (s : State) (p n master : Nat) : State :=
  let v := s.ptpVia p
  let dst := if s.fld pTime F.TPORT_CFG_DREQ_UNICAST p = 1 then master else ptpGroup v
  if v = .ethernet then s.txFrame p dst (.delayReq n none)
  else s.sendVia p dst (.delayReq n (some ⟨s.sourceIp p dst, dst, 319, 319⟩))

/-- DELAY_REQ_SEND (R403): the engine sends a Delay_Req to the selected master while its port takes part; `stamp` is
when it left. -/
def execDelayReqSend (stamp : Int) (s : State) : Host.Outcome State Fault Refusal :=
  .next (match s.ptp.selected with
    | some x =>
      if s.ptpPort x.port ∧ s.portUp x.port then
        let n := s.ptp.dreqSeq
        let s := s.setPtp { s.ptp with dreq := some (n, s.txStamp x.port stamp, s.ptp.ms), dreqSeq := (n + 1) % 2 ^ 16 }
        (s.sendDelayReq x.port n x.ann.addr.toNat).settle
      else s
    | none => s)

/-- A completed delay measurement; a negative one is discarded and counted (R406). -/
def State.delayMeasured (s : State) (dly : Int) : State :=
  if dly < 0 then s.inc pTime F.TIME_DROP_CNT_DROP_CNT
  else
    let l := (dly :: s.ptp.dlys).take 8
    (s.setPtp { s.ptp with dlys := l }).setFld pTime F.TIME_MPD_MPD (satU (rshr (median l) 12) 32)

/-- DELAY_RESP_RX (R406). -/
def execDelayRespRx (port : PortNo) (m : PtpMsg) (s : State) : Host.Outcome State Fault Refusal :=
  .next (match s.ptp.dreq with
    | some (n, t3, some ms) =>
      if m.kind = .delayResp ∧ s.fromMaster port m ∧ m.forUs = true ∧ m.seq.toNat = n then
        (s.setPtp { s.ptp with dreq := none }).delayMeasured ((ms + (m.stamp - t3 - m.corr)) / 2)
      else s
    | _ => s)

/-- The first of two lists of numbers is less at their first difference. -/
def lexLess : List Nat → List Nat → Bool
  | a :: s, b :: t => if a < b then true else if b < a then false else lexLess s t
  | _, _ => false

/-- The data set comparison of IEEE 1588-2008 clause 9.3.4: m is better than n (R404). -/
def Master.better (m n : Master) : Bool :=
  let a := m.ann
  let b := n.ann
  if a.gmId = b.gmId then
    lexLess [a.steps.toNat, a.srcId.toNat, a.srcPort.toNat, m.port] [b.steps.toNat, b.srcId.toNat, b.srcPort.toNat, n.port]
  else
    lexLess [a.prio1.toNat, a.clockClass.toNat, a.accuracy.toNat, a.variance.toNat, a.prio2.toNat, a.gmId.toNat]
      [b.prio1.toNat, b.clockClass.toNat, b.accuracy.toNat, b.variance.toNat, b.prio2.toNat, b.gmId.toNat]

/-- The same master on some port. -/
def Master.same (m n : Master) : Bool := m.ann.srcId == n.ann.srcId && m.ann.srcPort == n.ann.srcPort

/-- The best of the masters heard, kept on the port in use while it is heard there (R404). -/
def Ptp.best (p : Ptp) : Option Master :=
  match p.masters.foldl (fun b m => match b with | none => some m | some x => if m.better x then some m else b) none with
  | none => none
  | some b =>
    match p.selected with
    | some x =>
      if x.same b then some ((p.masters.find? (fun m => m.same b && m.port == x.port)).getD b) else some b
    | none => some b

/-- The master is heard (R403, R404): its port takes part over the transport, the domain is DOMAIN, and its last
Announce came within ANN_TIMEOUT of its announce intervals of 2^logInterval s. -/
def State.hears (s : State) (m : Master) : Bool :=
  let age : Nat := (s.clk.free + 2 ^ 64 - m.heard) % 2 ^ 64
  let n := s.fld pTime F.TIME_CFG_ANN_TIMEOUT * 10 ^ 9
  s.ptpOver m.port m.ann.via && m.ann.domain.toNat == s.fld pTime F.TIME_CFG_DOMAIN &&
    decide (age * 2 ^ (-m.ann.logInterval).toNat ≤ n * 2 ^ m.ann.logInterval.toNat)

/-- What the TIME page reports of the selected master (R421), with condition 8 when its UTC data change. -/
def State.showMaster (s : State) (m : Master) : State :=
  let a := m.ann
  let utc := s.reg (pTime + 0x174)
  let s := (s.setFld pTime F.TIME_STAT_MASTER_VALID 1).setFld pTime F.TIME_STAT_MASTER_PORT m.port
  let s := s.setPair pTime F.TIME_MASTER_ID_LO_ID F.TIME_MASTER_ID_HI_ID a.srcId.toNat
  let s := (s.setFld pTime F.TIME_MASTER_PORT_ETH m.port).setFld pTime F.TIME_MASTER_PORT_PORT_NUM a.srcPort.toNat
  let s := (s.setFld pTime F.TIME_UTC_UTC_OFS a.utcOfs.toNat).setFld pTime F.TIME_UTC_VALID (if a.utcValid then 1 else 0)
  let s := (s.setFld pTime F.TIME_UTC_LI_59 (if a.li59 then 1 else 0)).setFld pTime F.TIME_UTC_LI_61 (if a.li61 then 1 else 0)
  s.when (utc.toNat % 2 ^ 31 != (s.reg (pTime + 0x174)).toNat % 2 ^ 31) (·.setCond pTime 8)

/-- Master selection runs; a change of master or of its port raises condition 4 and starts the
measurements afresh (R404). -/
def State.selectMaster (s : State) : State :=
  let b := s.ptp.best
  let changed := match s.ptp.selected, b with
    | some x, some y => !(x.same y) || x.port != y.port
    | none, none => false
    | _, _ => true
  let s := if changed then
      (s.setPtp { s.ptp with selected := b, pendSync := none, ms := none, dlys := [], dreq := none }).setCond pTime 4
    else s.setPtp { s.ptp with selected := b }
  match b with
  | some m => s.showMaster m
  | none => s.setFld pTime F.TIME_STAT_MASTER_VALID 0

/-- Masters that are no longer heard go; the selected one is lost with them (R408). Selection runs. -/
def State.hearMasters (s : State) : State :=
  let l := s.ptp.masters.filter s.hears
  let lost := match s.ptp.selected with
    | some x => !l.any (fun m => m.same x && m.port == x.port)
    | none => false
  let s := s.when (lost && s.fld pTime F.TIME_CFG_SYNC_SRC == 1) (·.loseMaster)
  (s.setPtp { s.ptp with masters := l }).selectMaster

/-- ANNOUNCE_RX (R404): an Announce in DOMAIN on a port that takes part; selection runs. -/
def execAnnounceRx (port : PortNo) (a : Announce) (s : State) : Host.Outcome State Fault Refusal :=
  .next (if s.ptpOver port a.via ∧ a.domain.toNat = s.fld pTime F.TIME_CFG_DOMAIN then
      let m : Master := ⟨port, a, s.clk.free⟩
      let s := s.inc pTime F.TIME_ANN_CNT_ANN_CNT
      let s := s.setPtp { s.ptp with masters := s.ptp.masters.filter (fun x => !(x.same m && x.port == m.port)) ++ [m] }
      s.hearMasters.settle
    else s)

/-- MASTER_LOST (R408): the master is no longer heard, or (`heard`) its port carries no usable Sync. -/
def execMasterLost (heard : Bool) (s : State) : Host.Outcome State Fault Refusal :=
  .next (match s.ptp.selected with
    | some x =>
      let s := if s.fld pTime F.TIME_CFG_SYNC_SRC = 1 then s.loseMaster else s
      let s := if heard then s
        else (s.setPtp { s.ptp with masters := s.ptp.masters.filter (fun m => !(m.same x && m.port == x.port)) }).hearMasters
      s.settle
    | none => s)

/-- PPS_TIMEOUT (R409): with SYNC_SRC 0x2, 3 s pass without an edge. -/
def execPpsTimeout (s : State) : Host.Outcome State Fault Refusal :=
  .next (if s.fld pTime F.TIME_CFG_SYNC_SRC = 2 then s.loseMaster.settle else s)

/-- R410: a PTP frame received on port p leaves by each other port that TC_FWD names: `dst` and `src` are its MAC
addresses, `ip` its IP and UDP headers. -/
def State.ptpForward (s : State) (p dst : Nat) (src : BitVec 48) (ip : Option (IpRx × UdpRx)) (x : PtpRx) : State :=
  s.each ((List.range 8).filter (fun q => q != p && bit (s.fld pTime F.TPORT_CFG_TC_FWD p) q)) (fun s q =>
    match x.residence.getD q none with
    | some n =>
      if s.portUp q then
        let r : Int := (n * 2 ^ 16 : Nat) + rshr (n * s.clk.rate) 32
        let m := if x.msg.kind = .sync ∨ x.msg.kind = .delayReq then { x.msg with corr := x.msg.corr + r } else x.msg
        (s.txFrame q dst (.ptpForward src ip m)).inc pTime F.TIME_TC_FWD_CNT_FWD_CNT
      else s.inc pTime F.TIME_TC_DROP_CNT_TC_DROP_CNT
    | none => s.inc pTime F.TIME_TC_DROP_CNT_TC_DROP_CNT)

/-! ### Steps (R398, R399) -/

/-- A write of TIME_STEP_CTL with its KEY (R398). -/
def State.stepCtl (s : State) (op : Nat) : State :=
  if op = 1 then (if s.syncState = 4 then s.setCyc { s.cyc with req := some .authorised } else s)
  else if op = 2 then
    s.setCyc { s.cyc with req := some (.value (toS 64 (s.pair pTime F.TIME_STEP_VAL_LO_NS F.TIME_STEP_VAL_HI_NS))) }
  else if op = 3 then s.setCyc { s.cyc with req := none }
  else s

/-- At W_c the request becomes a scheduled step, or an authorisation lapses (R398). -/
def State.stepAtWindow (s : State) : State :=
  match s.cyc.req with
  | none => s
  | some r =>
    let d := match r with
      | .authorised =>
        if s.syncState = 4 then some (toS 64 (s.pair pTime F.TIME_STEP_PEND_LO_NS F.TIME_STEP_PEND_HI_NS), false) else none
      | .value v => some (v, false)
      | .auto v => some (v, true)
    s.setCyc { s.cyc with req := none, sched := d }

/-! ### Timing outputs (R412 to R416, R569) -/

/-- An output that has never been armed. -/
def Tout.off : Tout := ⟨false, 0, 0, 0, 0, 0, 0, 0, [], false, false, false, 0⟩
/-- Output k. -/
def State.tout (s : State) (k : Nat) : Tout := look Tout.off s.touts k
/-- Set it. -/
def State.setTout (s : State) (k : Nat) (t : Tout) : State := { s with touts := ins Tout.off k t s.touts }

/-- MODE as latched. -/
def Tout.mode (t : Tout) : Nat := bitsOf t.cfg.toNat 28 2

/-- Edge k of a periodic output (R412). -/
def Tout.periodic (t : Tout) (k : Nat) : Nat := (t.t0 + k * (t.period * 2 ^ 16 + t.frac) / 2 ^ 16) % 2 ^ 64

/-- The first k of a periodic output whose edge is at or after `lo`. -/
def Tout.firstK (t : Tout) (lo : Nat) : Nat :=
  if later 64 lo t.t0 then ceilDiv ((lo + 2 ^ 64 - t.t0) % 2 ^ 64 * 2 ^ 16) (t.period * 2 ^ 16 + t.frac) else 0

/-- The engine is ready and not in Sleep: its timing outputs run (R412, R416). -/
def State.outputsOn (s : State) : Bool := s.ready && !s.pow.sleeping

/-- The output shows the level its pulse and its polarity give (R412); before READY and in Sleep it stays low (R60,
R416). -/
def State.driveTout (s : State) (k : Nat) : State :=
  if s.outputsOn then s.emit (.pin ("TOUT" ++ toString k) ((s.tout k).pulse != (s.tout k).low)) else s

/-- POL acts at once on an output that is not armed (R412, R414). -/
def State.freePol (s : State) (k : Nat) : State :=
  let t := s.tout k
  if t.armed || t.pulse then s else s.setTout k { t with low := s.fld pTime F.TOUT_CFG_POL k == 1 }

/-- An edge at `e` is at least 1 us after `t` (R415). -/
def late1us (e t : Nat) : Bool := !later 64 (t + 1000) e

/-- The edge of cycle n with launch time T for a cycle output under this trim, when the cycle qualifies (R412, R430). -/
def Tout.cycleEdge (t : Tout) (n launch : Nat) (trim : Int) : Option DueEdge :=
  if n % (bitsOf t.cfg.toNat 8 8 + 1) = bitsOf t.cfg.toNat 0 8 then
    let b := (launch : Int) + t.ofs
    some ⟨ofS 64 (b + trim), n, b⟩
  else none

/-- Cycles whose launch time is final: those that have started and the next one, once their edges have been
scheduled. -/
def State.finalCycles (s : State) : List (Nat × Nat) :=
  let c := s.cyc
  if c.run then
    (if 0 < c.upcoming then [(c.upcoming - 1, c.prevLaunch)] else []) ++
      (c.bridge ++ [(c.next, c.launch)]).filter (fun e => decide (e.1 < c.edged))
  else []

/-- The trim of output k for cycle n: the one in force at S_n once that has passed, else the one in force (R430). -/
def State.trimFor (s : State) (k n : Nat) : Int := if n < s.cyc.upcoming then (s.tout k).trim else s.toutTrim k

/-- Cycles in Active only have edges (R416). -/
def State.edgesOn (s : State) : Bool := decide (s.pstate ≤ 1)

/-- A once output missed its edge (R415). -/
def State.missTout (s : State) (k : Nat) : State :=
  let s := ((s.setTout k { s.tout k with armed := false, due := [] }).freePol k).driveTout k
  (s.setFld pTime F.TOUT_CFG_MISSED 1 k).setCond pTime 5

/-- Judge the pending edges of an armed output against an instant (R415). -/
def State.judgeTout (s : State) (k t : Nat) : State :=
  let o := s.tout k
  if o.armed = false then s
  else if o.mode = 1 then (if late1us o.t0 t then s else s.missTout k)
  else if o.mode = 2 then s.setTout k { o with k := o.firstK ((t + 1000) % 2 ^ 64) }
  else s.setTout k { o with due := o.due.filter (fun e => late1us e.at' t) }

/-- R414: the reasons for which ARM is refused. -/
def armRefused (cfg : Word) (period width : Nat) : Bool :=
  let mode := bitsOf cfg.toNat 28 2
  mode == 0 || decide (width < 8) || (mode == 2 && decide (period < width + 8)) ||
    (mode == 3 && decide (bitsOf cfg.toNat 8 8 < bitsOf cfg.toNat 0 8))

/-- ARM of output k (R414, R415). -/
def State.toutArm (s : State) (k : Nat) : State :=
  let cfg := s.reg (pTime + 0x400 + 0x20 * k)
  let period := s.fld pTime F.TOUT_PERIOD_PERIOD k
  let width := s.fld pTime F.TOUT_WIDTH_WIDTH k
  if armRefused cfg period width then s.setFld pTime F.TOUT_CFG_CFG_ERR 1 k
  else
    let t : Tout := { s.tout k with
      armed := true, cfg := cfg, t0 := s.pair pTime F.TOUT_T0_LO_T0 F.TOUT_T0_HI_T0 k, period := period,
      frac := s.fld pTime F.TOUT_PERIOD_FRAC_FRAC k, width := width, ofs := s.sfld pTime F.TOUT_OFS_OFS k, k := 0,
      due := [], stopping := false }
    let t := { t with due :=
      if t.mode = 3 ∧ s.edgesOn then s.finalCycles.filterMap (fun c => t.cycleEdge c.1 c.2 (s.trimFor k c.1)) else [] }
    let s := (s.setFld pTime F.TOUT_CFG_CFG_ERR 0 k).setFld pTime F.TOUT_CFG_MISSED 0 k
    ((s.setTout k t).judgeTout k s.now).settle

/-- DISARM of output k: once any pulse in progress has ended (R414). -/
def State.toutDisarm (s : State) (k : Nat) : State :=
  let t := s.tout k
  if t.pulse then s.setTout k { t with stopping := true, due := [] }
  else s.setTout k { t with armed := false, due := [] }

/-- The next active edge of an armed output (TOUT_NEXT). -/
def Tout.nextEdge (t : Tout) : Option Nat :=
  if t.armed = false ∨ t.stopping = true then none
  else if t.mode = 1 then some t.t0
  else if t.mode = 2 then some (t.periodic t.k)
  else t.due.head?.map (fun e => e.at')

/-- The edge of a running output has passed: the next one is due; a once output is disarmed, as it has no further
edge. -/
def Tout.advance (t : Tout) : Tout :=
  if t.mode = 1 then { t with armed := false }
  else if t.mode = 2 then { t with k := t.k + 1 } else { t with due := t.due.tail }

/-- TOUT_EDGE (R412): the output drives its active level at its next due edge, with the polarity it has latched (R414);
while the outputs are off the edge passes. -/
def execToutEdge (k : Fin 16) (s : State) : Host.Outcome State Fault Refusal :=
  .next (let t := s.tout k
    if s.pow.up = false ∨ t.nextEdge = none then s
    else if s.outputsOn then
      (s.setTout k { t.advance with pulse := true, low := bit t.cfg.toNat 27 }).driveTout k
    else s.setTout k t.advance)

/-- TOUT_PULSE_END (R412): WIDTH ns after the edge; a DISARM that waited for it acts (R414). -/
def execToutPulseEnd (k : Fin 16) (s : State) : Host.Outcome State Fault Refusal :=
  .next (let t := s.tout k
    if t.pulse then
      ((s.setTout k { t with pulse := false, armed := t.armed && !t.stopping, stopping := false }).freePol k).driveTout k
    else s)

/-- The instant that the edges of cycle n are judged against: now, in the new time when a step comes before the
cycle (R399, R569). -/
def State.judgeAt (s : State) (n : Nat) : Nat :=
  match s.cyc.sched with
  | some (d, _) => if n = s.cyc.next then ofS 64 ((s.now : Int) + d) else s.now
  | none => s.now

/-- Schedule the edges of cycles whose launch times are final on the armed cycle outputs; an edge less than 1 us away
is not produced (R569). -/
def State.scheduleEdges (s : State) (l : List (Nat × Nat)) : State :=
  s.each (List.range 16) (fun s k =>
    let t := s.tout k
    if t.armed = true ∧ t.stopping = false ∧ t.mode = 3 then
      let new := (l.filterMap (fun e => t.cycleEdge e.1 e.2 (s.toutTrim k))).filter (fun e => late1us e.at' (s.judgeAt e.cycle))
      s.setTout k { t with due := t.due ++ new }
    else s)

/-- CYCLE_EDGE_SCHEDULE (R569): launch times are final; in Standby their cycles have no edges (R416). -/
def execCycleEdgeSchedule (s : State) : Host.Outcome State Fault Refusal :=
  .next (let c := s.cyc
    let l := (c.bridge ++ (if c.closed then [(c.next, c.launch)] else [])).filter (fun e => decide (c.edged ≤ e.1))
    if c.run = true ∧ l ≠ [] then
      let s := s.setCyc { c with edged := l.foldl (fun m e => max m (e.1 + 1)) c.edged }
      s.when s.edgesOn (·.scheduleEdges l)
    else s)

/-- The cycle whose window has closed gets another launch time: edges scheduled on the old one go, and the cycle's
edges are scheduled anew (R569). -/
def State.moveEdges (s : State) : State :=
  if s.cyc.next < s.cyc.edged ∧ s.edgesOn then
    let s := s.each (List.range 16) (fun s k =>
      s.setTout k { s.tout k with due := (s.tout k).due.filter (fun e => e.cycle != s.cyc.next) })
    s.scheduleEdges [(s.cyc.next, s.cyc.launch)]
  else s

/-- Pending edges of cycles go: none is produced in Standby (R416). -/
def State.dropEdges (s : State) : State := s.each (List.range 16) (fun s k => s.setTout k { s.tout k with due := [] })

/-- R430: at S_c an edge of cycle c still to come takes the trim in force now. -/
def State.retrimEdges (s : State) (c start : Nat) : State :=
  s.each (List.range 16) (fun s k =>
    let t := s.tout k
    s.setTout k { t with trim := s.toutTrim k, due := t.due.map (fun e =>
      if e.cycle = c ∧ later 64 start e.at' = false then { e with at' := ofS 64 (e.base + s.toutTrim k) } else e) })

/-- After a step: SYNC_STATE moves, A0 is released, pending edges are judged again (R408, R415, R438). -/
def State.afterStep (s : State) (auto : Bool) : State :=
  let s := if s.syncState = 4 ∧ auto = false then s.pendInvalid.setSync 1
    else if s.syncState = 0 ∧ auto = true then s.setSync 1 else s
  (s.saRelease 0).each (List.range 16) (fun s k => s.judgeTout k s.now)

/-- STEP_TAKE_EFFECT (R399): the scheduled step moves engine time. -/
def execStepTakeEffect (s : State) : Host.Outcome State Fault Refusal :=
  .next (match s.cyc.sched with
    | none => s
    | some (d, auto) =>
      let s := { s with clk := { s.clk with offset := ofS 80 ((s.clk.time : Int) + d * 2 ^ 16), anchor := s.clk.free } }
      let s := s.setCyc { s.cyc with sched := none }
      let s := s.setFld pTime F.TIME_STAT_STEP_GEN (s.fld pTime F.TIME_STAT_STEP_GEN + 1)
      let s := (s.setPair pTime F.TIME_STEP_LAST_LO_NS F.TIME_STEP_LAST_HI_NS (ofS 64 d)).setCond pTime 3
      (s.afterStep auto).settle)

/-! ### Capture inputs and PPS_OUT (R417 to R419) -/

/-- Input k. -/
def State.tcap (s : State) (k : Nat) : Tcap := look ⟨[], none, []⟩ s.tcaps k
/-- Set it. -/
def State.setTcap (s : State) (k : Nat) (t : Tcap) : State := { s with tcaps := ins ⟨[], none, []⟩ k t s.tcaps }

/-- The latest launch time at or before t (R427). -/
def State.lastLaunch (s : State) (t : Nat) : Option Nat :=
  let c := s.cyc
  if c.run then
    (c.launch :: (c.bridge.map (·.2)).reverse ++ c.recent).find? (fun l => !later 64 l t)
  else none

/-- A stamped edge is a sample of each phase loop that watches the input (R427). -/
def State.captureSamples (s : State) (k t : Nat) : State :=
  match s.lastLaunch t with
  | none => s
  | some l =>
    s.each ((s.loopsOn 2).filter (fun j => s.sa j F.SA_CFG_TCAP == k)) (fun s j => s.emit (.sample j (toS 64 (t + 2 ^ 64 - l))))

/-- R417: the edge is stamped into the FIFO, or dropped when it is full. -/
def State.stampEdge (s : State) (k : Nat) (rising : Bool) : State :=
  let t := s.now
  let c := s.tcap k
  let e := s.fld pTime F.TCAP_CFG_EDGE k
  let close := match c.last with
    | some l => decide ((t + 2 ^ 64 - l) % 2 ^ 64 < 10)
    | none => false
  if s.fld pTime F.TCAP_CFG_EN k = 0 ∨ bit e (if rising then 0 else 1) = false ∨ close = true then s
  else if 16 ≤ c.fifo.length then
    ((s.setFld pTime F.TCAP_INFO_OVF 1 k).inc pTime F.TCAP_INFO_DROP_CNT k).setCond pTime 6
  else
    let s := s.setTcap k { c with fifo := c.fifo ++ [⟨t, rising, s.fld pTime F.TIME_STAT_STEP_GEN⟩], last := some t }
    ((s.setFld pTime F.TCAP_INFO_LEVEL (c.fifo.length + 1) k).setCond pTime 7).captureSamples k t

/-- R409: a rising edge of the PPS input is a sample, 500 ms apart at least. -/
def State.ppsEdge (s : State) (k : Nat) (rising : Bool) : State :=
  let t := s.now
  let soon := match s.ptp.lastEdge with
    | some l => decide ((t + 2 ^ 64 - l) % 2 ^ 64 < 500000000)
    | none => false
  if s.fld pTime F.TIME_CFG_SYNC_SRC = 2 ∧ s.fld pTime F.TIME_CFG_TCAP_PPS = k ∧ rising = true ∧ soon = false then
    let sec : Nat := (t + 500000000) / 1000000000 * 1000000000
    (s.setPtp { s.ptp with lastEdge := some t }).thetaSample (((t : Int) - (sec : Nat)) * 65536)
  else s

/-- TCAP_EDGE (R409, R417): an edge on input k; none is stamped in Sleep. -/
def execTcapEdge (k : Fin 4) (rising : Bool) (s : State) : Host.Outcome State Fault Refusal :=
  .next (if s.pow.up && !s.pow.sleeping then ((s.ppsEdge k rising).stampEdge k rising).settle else s)

/-- Latch an entry, or its absence, for a seat: validity under 2 * seat, the stamp after it. -/
def Tcap.latch (c : Tcap) (seat : Nat) (valid : Bool) (e : Stamp) : Tcap :=
  let l := ins ⟨0, false, 0⟩ (seat * 2) ⟨if valid then 1 else 0, false, 0⟩ c.latched
  { c with latched := ins ⟨0, false, 0⟩ (seat * 2 + 1) e l }

/-- R418: a read of TCAP_TS_LO takes the oldest entry for every seat and latches it for the reader. -/
def State.tcapPop (s : State) (seat k : Nat) : State :=
  let c := s.tcap k
  match c.fifo with
  | e :: t =>
    (s.setTcap k { c.latch seat true e with fifo := t }).setFld pTime F.TCAP_INFO_LEVEL t.length k
  | [] => s.setTcap k (c.latch seat false ⟨0, false, 0⟩)

/-- The stamp latched for a seat, and whether it is valid. -/
def State.tcapLatch (s : State) (seat k : Nat) : Bool × Stamp :=
  let l := (s.tcap k).latched
  ((look ⟨0, false, 0⟩ l (seat * 2)).ns == 1, look ⟨0, false, 0⟩ l (seat * 2 + 1))

/-- PPS_OUT produces pulses (R419). -/
def State.ppsOn (s : State) : Bool :=
  s.outputsOn && (s.fld pTime F.TIME_CFG_PPS_MODE == 1 || (s.fld pTime F.TIME_CFG_PPS_MODE == 2 && s.syncState == 2))

/-- PPS_PULSE (R419): a whole second of engine time. -/
def execPpsPulse (s : State) : Host.Outcome State Fault Refusal :=
  .next (if s.ppsOn then ({ s with ppsHigh := true }).emit (.pin "PPS_OUT" true) else s)

/-- PPS_PULSE_END (R419): WIDTH_US later. -/
def execPpsPulseEnd (s : State) : Host.Outcome State Fault Refusal :=
  .next (if s.ppsHigh then ({ s with ppsHigh := false }).emit (.pin "PPS_OUT" false) else s)

/-! ### Writes of TIME_CFG (R408, R441) -/

/-- PPS_MODE 0x0 keeps PPS_OUT low: a pulse in progress ends (R419). -/
def State.judgePps (s : State) : State :=
  if s.ppsHigh = true ∧ s.fld pTime F.TIME_CFG_PPS_MODE = 0 then ({ s with ppsHigh := false }).emit (.pin "PPS_OUT" false) else s

/-- SYNC_SRC has changed from `old` (R408, R438, R441). -/
def State.syncSrcChanged (s : State) (old : Nat) : State :=
  let n := s.fld pTime F.TIME_CFG_SYNC_SRC
  if n = old then s
  else
    let s := (s.setSync 0).pendInvalid
    let was := s.cyc.sched
    let s := s.setCyc { s.cyc with req := none, sched := none }
    let s := if was = none then s
      else (s.setCyc { s.cyc with launch := s.planLaunch.1.1, period := s.planLaunch.1.2 }).moveEdges
    let s := s.setPtp { s.ptp with lastEdge := none, good := 0, bad := 0 }
    let s := s.saRelease 0
    (if n = 1 ∨ n = 2 then s.rebaseA0 else s).settle

end Sys2Proof.Machine
end

