-- ==== Sys2Proof/Machine/Operands.lean ====
section
/-!
DEFINITION. Readers of a configuration: tiles (R258), links (R347), views, slots (R294), and which of
them it enables. A configuration is the values in force, or those a commit would put in force.
-/
namespace Sys2Proof.Machine

/-- Numbers of the objects whose register at `base + i * stride`, `i < n`, is listed with bit 31 set. -/
def listedOn (c : Sparse Word) (base stride n : Nat) : List Nat :=
  c.filterMap (fun e =>
    if base ≤ e.1 ∧ e.1 < base + n * stride ∧ (e.1 - base) % stride = 0 ∧ bit e.2.toNat 31 = true
    then some ((e.1 - base) / stride) else none)

/-- Enabled tiles, ascending. -/
def tilesOn (c : Sparse Word) : List Nat := listedOn c (pTile 0) 64 4096
/-- Enabled flows. -/
def flowsOn (c : Sparse Word) : List Nat := listedOn c (pFlow 0) 1024 64
/-- Enabled layers (LYR_CFG bit 31). -/
def layersOn (c : Sparse Word) : List Nat := listedOn c (pLyr 0 + F.LYR_CFG_ENABLE.off) 0x1000 256
/-- Enabled views. -/
def viewsOn (c : Sparse Word) : List Nat := listedOn c (pView 0 + F.VIEW_CFG_ENABLE.off) 0x1000 8
/-- Enabled links. -/
def linksOn (c : Sparse Word) : List Nat := listedOn c (pWl 0 + F.WL_CFG_ENABLE.off) 0x1000 512

/-- A tile's entry (R258). -/
structure Tile where
  num : Nat
  rot : Nat
  mirror : Bool
  scan : Bool
  lamps : Nat
  zone : Nat
  link : Nat
  pos : Nat
  x0 : Nat
  y0 : Nat
  tw : Nat
  th : Nat
  recIdx : Nat
  deriving DecidableEq, Repr

/-- Tile t of a configuration. -/
def tileOf (c : Sparse Word) (t : Nat) : Tile :=
  let p := pTile t
  ⟨t, cfld c p F.TL_CFG_ROT, cfld c p F.TL_CFG_MIRROR == 1, cfld c p F.TL_CFG_SCAN == 1, cfld c p F.TL_CFG_LAMPS + 1,
   cfld c p F.TL_CFG_ZONE, cfld c p F.TL_LINK_LINK, cfld c p F.TL_LINK_POS, cfld c p F.TL_ORIGIN_X0,
   cfld c p F.TL_ORIGIN_Y0, cfld c p F.TL_SIZE_TW, cfld c p F.TL_SIZE_TH, cfld c p F.TL_REC_REC_IDX⟩

/-- The enabled tiles with their entries. -/
def tilesOf (c : Sparse Word) : List Tile := (tilesOn c).map (tileOf c)

/-- Width of the footprint (R225): ROT 0x1 and 0x3 exchange the sides. -/
def Tile.fw (t : Tile) : Nat := if t.rot % 2 = 0 then t.tw else t.th
/-- Height of the footprint. -/
def Tile.fh (t : Tile) : Nat := if t.rot % 2 = 0 then t.th else t.tw

/-- Lanes of a link's feed, W (R347). -/
def linkWidth (c : Sparse Word) (n : Nat) : Nat := 2 ^ cfld c (pWl n) F.WL_CFG_WIDTH

/-- The enabled tiles of a link in ascending position. -/
def linkTiles (c : Sparse Word) (n : Nat) : List Tile :=
  let l := (tilesOf c).filter (fun t => t.link == n)
  (List.range 64).filterMap (fun p => l.find? (fun t => t.pos == p))

/-- The enabled tile at a position of a link (R332). -/
def tileAt (c : Sparse Word) (link pos : Nat) : Option Nat :=
  ((tilesOf c).find? (fun t => t.link == link && t.pos == pos)).map (·.num)

/-- A slot of the schedule (R294). -/
structure Slot where
  role : Nat
  view : Nat
  start : Nat
  dur : Nat
  deriving DecidableEq, Repr

/-- Slot k of a configuration. -/
def slotOf (c : Sparse Word) (k : Nat) : Slot :=
  ⟨cfld c pCmp F.CMP_SLOT_CFG_ROLE k, cfld c pCmp F.CMP_SLOT_CFG_VIEW k, cfld c pCmp F.CMP_SLOT_START_START k,
   cfld c pCmp F.CMP_SLOT_CFG_DUR k⟩

/-- The 32 slots. -/
def slotsOf (c : Sparse Word) : List Slot := (List.range 32).map (slotOf c)

/-- The used slots (R266). -/
def usedSlots (c : Sparse Word) : List Slot := (slotsOf c).filter (fun x => x.role != 0)

/-- Slots that show view v, with their numbers. -/
def viewSlots (c : Sparse Word) (v : Nat) : List (Nat × Slot) :=
  (((List.range 32).map (fun k => (k, slotOf c k)))).filter (fun x => x.2.role == 1 && x.2.view == v)

/-- Bits set among the low n of a number. -/
def ones (x n : Nat) : Nat := ((List.range n).filter (bit x)).length

/-- A bitmap of numbers. -/
def mapOf (l : List Nat) : Nat := (l.map (2 ^ ·)).sum

/-- Sum of a list of integers. -/
def sumI (l : List Int) : Int := l.foldl (· + ·) 0

end Sys2Proof.Machine
end

