-- ==== Sys2Proof/Machine/Wickline.lean ====
section
/-!
DEFINITION. Wickline (R297 to R350): packets, schedule and ASSIGN, feeds, chain delay, positions,
message credits, tile messages.
-/
namespace Sys2Proof.Machine

/-! ### Packets (R307 to R326) -/

/-- A packet header (R31). -/
def header (typ tile len lo : Nat) : Nat := typ * 2 ^ 60 + tile * 2 ^ 47 + len * 2 ^ 32 + lo % 2 ^ 32

/-- The CRC-32C trailer of a packet's words (R308). -/
def packetCrc (ws : List Nat) : Nat := crc32c ((ws.map (beBytes 8)).flatten)

/-- A feed is active (R347). -/
def State.feedActive (s : State) (link : Nat) (sec : Bool) : Bool :=
  s.fld (pWl link) (if sec then F.WL_STAT_SEC_ACTIVE else F.WL_STAT_PRI_ACTIVE) == 1

/-- The active feeds of a link. -/
def State.activeFeeds (s : State) (link : Nat) : List Bool := [false, true].filter (s.feedActive link)

/-- Send a packet on a feed that is active. -/
def State.sendOn (s : State) (link : Nat) (sec : Bool) (ws : List Nat) : State :=
  if s.feedActive link sec then
    (s.emit (.packet link sec (ws.map (BitVec.ofNat 64)) (BitVec.ofNat 32 (packetCrc ws)))).inc (pWl link)
      F.WL_TX_PKT_CNT_TX_CNT
  else s

/-- Send a packet on every active feed of a link. -/
def State.sendBoth (s : State) (link : Nat) (ws : List Nat) : State :=
  (s.sendOn link false ws).sendOn link true ws

/-- A system message header: SYS 1, UP 0, CLASS, and the class's bits (R318). -/
def sysLo (cls bits : Nat) : Nat := 2 ^ 31 + cls * 2 ^ 24 + bits

/-- SCHED (R320) of a configuration. -/
def schedPacket (c : Sparse Word) (gen : Nat) : List Nat :=
  let u := usedSlots c
  header 4 0x1FFF u.length (sysLo 0x01 (gen * 2 ^ 16 + u.length)) ::
    u.map (fun k => k.role * 2 ^ 62 + (if k.role = 1 then k.view else 0) * 2 ^ 59 + k.start * 2 ^ 26 + k.dur)

/-- ASSIGN (R322). -/
def assignPacket (pos tile : Nat) : List Nat := [header 4 0x1FFF 0 (sysLo 0x02 (pos * 2 ^ 18 + tile))]

/-! ### Chain delay (R337) -/

/-- Positions present on a link. -/
def State.presentPos (s : State) (link : Nat) : List Nat :=
  (List.range 64).filter (fun p => s.fld (pWl link) F.POS_STAT_PRESENT p == 1)

/-- t_m, ns. -/
def tM (w : Nat) : Nat := ceilDiv 164800 (w * 527)

/-- d_link of a link by its configuration in force. -/
def State.dLink (s : State) (link : Nat) : Nat :=
  let ps := s.presentPos link
  let w := linkWidth s.force link
  let delay (f : Fld) (p : Nat) : Option Nat :=
    if s.fld (pWl link) f p = 0xFFFFFFFF then none else some (ceilDiv (s.fld (pWl link) f p) 256)
  let a := (ps.filterMap (delay F.POS_DELAY_A_DELAY)).foldl max 0
  if s.ff (pWl link) F.WL_CFG_RING = 1 then
    (ps.filterMap (fun p => (delay F.POS_DELAY_B_DELAY p).map (fun (d : Nat) =>
      ((d : Int) + ((ps.length : Int) - 1 - p) * tM w).toNat))).foldl max a
  else a

/-- Links with an active feed. -/
def State.activeLinks (s : State) : List Nat :=
  s.regs.filterMap (fun e =>
    if pWl 0 ≤ e.1 ∧ e.1 < pSer 0 ∧ e.1 % 0x1000 = 0xC ∧ e.2.toNat / 2 ^ 30 ≠ 0 then some ((e.1 - pWl 0) / 0x1000) else none)

/-- D of R34: the greatest d_link over the links that are active now (DEDUCED, log 62). -/
def State.measureD (s : State) : State :=
  s.setFld pCmp F.CMP_D_MEAS_D_NS ((s.activeLinks.map (fun n => s.fld (pWl n) F.WL_D_MEAS_D_NS)).foldl max 0)

/-- R337: latch d_link, and the greatest over active links in CMP_D_MEAS; condition 3 when the measurement
exceeds the D in force (R35). -/
def State.latchDelay (s : State) (link : Nat) : State :=
  let d := s.dLink link
  ((s.setFld (pWl link) F.WL_D_MEAS_D_NS d).measureD).when (decide (s.fld pCmp F.CMP_D_FORCE_D_NS < d))
    (·.setCond (pWl link) 3)

/-! ### Positions and broadcasts that wait -/

/-- A position that no tile holds. -/
def PosRt.idle : PosRt := ⟨0, none, false, false⟩
/-- A link with nothing waiting. -/
def LinkRt.idle : LinkRt := ⟨0, [], []⟩
/-- What a link keeps. -/
def State.linkAt (s : State) (link : Nat) : LinkRt := look LinkRt.idle s.linkRt link
/-- Replace it. -/
def State.setLink (s : State) (link : Nat) (l : LinkRt) : State := { s with linkRt := ins LinkRt.idle link l s.linkRt }
/-- What a link keeps of a position. -/
def State.posAt (s : State) (link pos : Nat) : PosRt := look PosRt.idle (s.linkAt link).pos pos
/-- Replace it. -/
def State.setPos (s : State) (link pos : Nat) (r : PosRt) : State :=
  s.setLink link { s.linkAt link with pos := ins PosRt.idle pos r (s.linkAt link).pos }

/-- R341: at most 4 broadcast system messages in a cycle; there is no limit before cycles run. -/
def State.mayBroadcast (s : State) (link : Nat) : Bool := !s.cyc.run || decide ((s.linkAt link).sent < 4)

/-- Send a broadcast system message on feeds of a link (R329), and count it (R341). -/
def State.broadcast (s : State) (link : Nat) (feeds : List Bool) (ws : List Nat) : State :=
  (s.setLink link { s.linkAt link with sent := (s.linkAt link).sent + 1 }).each feeds (fun s sec => s.sendOn link sec ws)

/-- The broadcasts that wait on a link leave while R341 lets them: SCHED first, then ASSIGN in ascending position. -/
def State.flushBroadcasts (s : State) (link : Nat) : State :=
  let l := s.linkAt link
  let s := s.when (!l.sched.isEmpty && s.mayBroadcast link) (fun s =>
    (s.setLink link { l with sched := [] }).broadcast link l.sched (schedPacket s.nextForce s.cyc.gen))
  s.each (s.presentPos link) (fun s p =>
    s.when ((s.posAt link p).assign && s.mayBroadcast link) (fun s =>
      (s.setPos link p { s.posAt link p with assign := false }).broadcast link [false, true]
        (assignPacket p (s.fld (pWl link) F.POS_STAT_TILE p))))

/-- SCHED is to go out on feeds of a link (R321). -/
def State.askSched (s : State) (link : Nat) (feeds : List Bool) : State :=
  let l := s.linkAt link
  s.setLink link { l with sched := feeds ++ l.sched.filter (fun b => !feeds.contains b) }

/-! ### Credits (R338 to R340) -/

/-- Credits with a tile. -/
def State.credit (s : State) (t : Nat) : Credit := look ⟨0, 0, 0, 0, 0, 0, []⟩ s.credits t
/-- Set them. -/
def State.setCredit (s : State) (t : Nat) (c : Credit) : State := { s with credits := ins ⟨0, 0, 0, 0, 0, 0, []⟩ t c s.credits }

/-- Counts that start anew (R338); held messages keep the room they take. -/
def restartCredit (held : List (Nat × Nat × List Nat)) : Credit :=
  ⟨0, 0, 0, 0, 0, (2 ^ 24 - (held.map (fun m => m.2.2.length + 1)).sum % 2 ^ 24) % 2 ^ 24, held⟩

/-- The feed for messages to a tile that is present: its link, and the feed its reports last arrived on (R329,
R346). -/
def State.tileFeed (s : State) (t : Nat) : Option (Nat × Bool) :=
  match s.tileLink t with
  | some l =>
    let pos := s.ff (pTile t) F.TL_LINK_POS
    if s.fld (pWl l) F.POS_STAT_PRESENT pos = 1 then some (l, s.fld (pWl l) F.POS_STAT_VIA_SEC pos == 1) else none
  | none => none

/-- Credit for a message of n payload words (R338). -/
def enough (limit used n : Nat) : Bool := decide ((n : Int) + 1 ≤ toS 24 (limit + 2 ^ 24 - used))

/-- A credited system message can leave for the tile. -/
def State.canSys (s : State) (t n : Nat) : Bool :=
  match s.tileFeed t with
  | some (l, sec) => s.feedActive l sec && enough (s.credit t).limit1 (s.credit t).used1 n
  | none => false

/-- Send a credited system message to a tile (R319, R338). -/
def State.sendSys (s : State) (t cls bits : Nat) (payload : List Nat) : State :=
  match s.tileFeed t with
  | some (l, sec) =>
    let c := s.credit t
    (s.setCredit t { c with used1 := (c.used1 + payload.length + 1) % 2 ^ 24 }).sendOn l sec
      (header 4 t payload.length (sysLo cls bits) :: payload)
  | none => s

/-- Words granted and not yet used by the other tiles of a link. -/
def State.linkGranted (s : State) (link t : Nat) : Nat :=
  (((tilesOn s.force).filter (fun k => k != t && s.tileLink k == some link)).map (fun k =>
    ((s.credit k).upLimit + 2 ^ 24 - (s.credit k).upUsed) % 2 ^ 24)).sum

/-- The limit that R340 lets the engine grant a tile: at most 514 words beyond what it has used, at most
2,048 words over the link, and no more than one message that its upstream ring has room for takes: F free
slots hold 4 F - 4 payload words, 4 F - 3 words of credit; a zero-size ring takes all (DEDUCED, log 47). -/
def State.upGrant (s : State) (link t : Nat) : Nat :=
  let r := s.ring (2 * t + 1)
  let room := if s.zeroRing r then 514 else 4 * (r.size - r.occ) - 3
  ((s.credit t).upUsed + min (min 514 room) (2048 - s.linkGranted link t)) % 2 ^ 24

/-- Slots of a message of n payload words (R125). -/
def msgSlots (n : Nat) : Nat := 1 + ceilDiv n 4

/-- Pad a list of payload words to whole slots. -/
def padSlots (ws : List Nat) : List Nat := ws ++ List.replicate ((4 - ws.length % 4) % 4) 0

/-- Cut words into slots of 32 bytes; at most `k`. -/
def cutSlots : Nat → List Nat → List (List Byte)
  | 0, _ => []
  | k + 1, ws => quadBytes (ws.take 4) :: cutSlots k (ws.drop 4)

/-- Words that a held message of a tile frees once it is written or dropped. -/
def State.freeHeld (s : State) (t : Nat) (rest : List (Nat × Nat × List Nat)) (n : Nat) : State :=
  let c := s.credit t
  s.setCredit t { c with held := rest, upUsed := (c.upUsed + n + 1) % 2 ^ 24 }

/-- Held messages of a tile go to its upstream ring in order while they fit whole; a zero-size ring drops and
counts them, and so are a message of more than 256 words and one whose host memory fails (R123, R125, R126, R133). -/
def State.drainHeld (t : Nat) : List (Nat × Nat × List Nat) → State → State
  | [], s => s
  | (lo, at_, p) :: rest, s =>
    let n := 2 * t + 1
    let r := s.ring n
    if 256 < p.length ∨ s.zeroRing r = true ∨ s.hostGone r = true then
      State.drainHeld t rest ((s.setRing n { r with drop := countUp 32 r.drop 1 }).freeHeld t rest p.length)
    else if r.size < r.occ + msgSlots p.length then s
    else State.drainHeld t rest ((s.ringWrite n (quadBytes [0x02 * 2 ^ 56, p.length * 2 ^ 32 + lo, at_, 0] ::
        cutSlots (msgSlots p.length - 1) (padSlots p))).freeHeld t rest p.length)

/-- What a tile's ring has room for is written, and the tile is sent its upstream limit (R123, R326, R340). The
limit never falls. -/
def State.grantTile (s : State) (t : Nat) (atLeast : Nat) : State :=
  let s := State.drainHeld t (s.credit t).held s
  match s.tileFeed t with
  | some (l, sec) =>
    let c := s.credit t
    let g := s.upGrant l t
    let grow := toS 24 (g + 2 ^ 24 - c.upLimit)
    if s.feedActive l sec = true ∧ (atLeast : Int) ≤ max grow 0 then
      let n := if 0 < grow then g else c.upLimit
      (s.setCredit t { c with upLimit := n }).sendOn l sec [header 6 t 0 n]
    else s
  | none => s

/-! ### Feeds (R331, R338, R350) -/

/-- Replace the housekeeping state. -/
def State.setHouse (s : State) (h : House) : State := { s with house := h }

/-- A tile heard of by nothing yet. -/
def TileRt.idle : TileRt := ⟨0, false, true, 0, false, none, 0, [], 0, 0, none⟩
/-- A tile's telemetry. -/
def State.tele (s : State) (t : Nat) : TileRt := look TileRt.idle s.house.tiles t
/-- Replace it. -/
def State.setTele (s : State) (t : Nat) (r : TileRt) : State :=
  s.setHouse { s.house with tiles := ins TileRt.idle t r s.house.tiles }

/-- Tiles whose messages go on a feed: their counts of credit start at 0 (R338), and none of their sensors has
yet given a candidate value (R485). -/
def State.resetCredits (s : State) (link : Nat) (sec : Bool) : State :=
  s.each ((tilesOn s.force).filter (fun t => s.tileFeed t == some (link, sec))) (fun s t =>
    (s.setCredit t (restartCredit (s.credit t).held)).setTele t { s.tele t with everValid := 0 })

/-- A line that sends nothing. -/
def LineRt.idle : LineRt := ⟨⟨0, 0, 0, 0, [], [], [], 0, 0, 0, [], []⟩, ⟨[], [], true, [], 0, 0xFF⟩⟩
/-- Both directions of a feed's line. -/
def State.line (s : State) (k : Nat) : LineRt := look LineRt.idle s.lines k
/-- Replace them. -/
def State.setLine (s : State) (k : Nat) (l : LineRt) : State := { s with lines := ins LineRt.idle k l s.lines }
/-- What is in flight on a feed is lost (R346); what leaves from now on waits for its line. -/
def State.dropLine (s : State) (k : Nat) : State :=
  let l := s.line k
  s.setLine k ⟨{ l.tx with queue := [], resp := [], rest := [], taken := s.out.length },
    { l.rx with part := [], skip := true, caps := 0 }⟩

/-- A feed becomes active: condition 0, credits at 0, d_link latched, SCHED sent (R321, R337, R338, R350). -/
def State.feedUp (s : State) (link : Nat) (sec : Bool) : State :=
  let s := (s.dropLine (2 * link + if sec then 1 else 0)).setFld (pWl link)
    (if sec then F.WL_STAT_SEC_ACTIVE else F.WL_STAT_PRI_ACTIVE) 1
  let s := ((s.setCond (pWl link) 0).resetCredits link sec).latchDelay link
  (s.askSched link [sec]).flushBroadcasts link

/-- A feed leaves active: condition 1; D is that of the links still active. -/
def State.feedDown (s : State) (link : Nat) (sec : Bool) : State :=
  if s.feedActive link sec then
    (((s.dropLine (2 * link + if sec then 1 else 0)).setFld (pWl link)
      (if sec then F.WL_STAT_SEC_ACTIVE else F.WL_STAT_PRI_ACTIVE) 0).setCond (pWl link) 1).measureD
  else s

/-! ### Positions (R332, R333, R255) -/

/-- Bits that the configuration needs in a tile's buffer (R255). -/
def bufNeed (c : Sparse Word) (t : Nat) : Nat :=
  let x := tileOf c t
  2 * x.tw * x.th * (viewsOn c).length * x.lamps * 20

/-- BUF_SHORT of a tile that has declared its capacity; condition 4 of its link when it becomes set. -/
def State.judgeBuffer (s : State) (link t : Nat) : State :=
  let short := s.fld (pTile t) F.TL_STAT_DECLARED == 1 && decide (s.fld (pTile t) F.TL_DECL_DECL_KIB * 8192 < bufNeed s.force t)
  let was := s.fld (pTile t) F.TL_STAT_BUF_SHORT == 1
  let s := s.setFld (pTile t) F.TL_STAT_BUF_SHORT (if short then 1 else 0)
  s.when (short && !was) (·.setCond (pWl link) 4)

/-- The number for a position, none when no enabled tile is placed there or its geometry differs (R332). -/
def State.assignee (s : State) (link pos : Nat) : Option Nat :=
  match tileAt s.force link pos with
  | none => none
  | some t =>
    let x := tileOf s.force t
    let p := pWl link
    if s.fld p F.POS_GEOM_TW_M1 pos + 1 = x.tw ∧ s.fld p F.POS_GEOM_TH_M1 pos + 1 = x.th ∧
        s.fld p F.POS_GEOM_L_M1 pos + 1 = x.lamps then some t
    else none

/-- The declared capacity reaches the entry of the tile that has the position's number (R255, R348). -/
def State.declare (s : State) (link pos t : Nat) : State :=
  ((s.setFld (pTile t) F.TL_DECL_DECL_KIB (s.fld (pWl link) F.POS_BUF_BUF_KIB pos)).setFld (pTile t) F.TL_STAT_DECLARED
    1).judgeBuffer link t

/-- The number of a position is judged anew and its ASSIGN waits (R332); MISMATCH stays while another tile claims
the position (R346). -/
def State.number (s : State) (link pos : Nat) : State :=
  let a := s.assignee link pos
  let p := pWl link
  let bad := a.isNone || (s.posAt link pos).second
  let was := s.fld p F.POS_STAT_MISMATCH pos
  let s := (s.setFld p F.POS_STAT_TILE (a.getD 0x1FFF) pos).setFld p F.POS_STAT_ASSIGNED (if a = none then 0 else 1) pos
  let s := s.setFld p F.POS_STAT_MISMATCH (if bad then 1 else 0) pos
  let s := s.when (bad && was == 0) (·.setCond p 4)
  let s := s.setPos link pos { s.posAt link pos with assign := true }
  match a with
  | some t => s.declare link pos t
  | none => s

/-- Send ASSIGN for a position (R332, R341). -/
def State.assign (s : State) (link pos : Nat) : State := (s.number link pos).flushBroadcasts link

/-- What any capability report leaves in POS_STAT (R348). -/
def State.noteReport (s : State) (link pos : Nat) (sec conflict : Bool) : State :=
  (s.setFld (pWl link) F.POS_STAT_VIA_SEC (if sec then 1 else 0) pos).setFld (pWl link) F.POS_STAT_POS_CONFLICT
    (if conflict then 1 else 0) pos

/-- What a capability report leaves in the position's registers (R325, R348). -/
def State.storeReport (s : State) (link pos : Nat) (sec conflict : Bool) (w1 w2 : Nat) : State :=
  let p := pWl link
  let s := (s.setFld p F.POS_ID0_MAKER (bitsOf w1 48 16) pos).setFld p F.POS_ID0_PRODUCT (bitsOf w1 32 16) pos
  let s := (s.setFld p F.POS_ID1_FW_VERSION (bitsOf w1 0 32) pos).setFld p F.POS_BUF_BUF_KIB (bitsOf w2 40 24) pos
  let s := (s.setFld p F.POS_GEOM_TW_M1 (bitsOf w2 30 10) pos).setFld p F.POS_GEOM_TH_M1 (bitsOf w2 20 10) pos
  let s := (s.setFld p F.POS_GEOM_L_M1 (bitsOf w2 18 2) pos).setFld p F.POS_GEOM_MIN_ON (bitsOf w2 0 10) pos
  s.noteReport link pos sec conflict

/-- Another tile claims a position that one holds (R346): its serial number differs, and a port disagrees. -/
def State.secondClaim (s : State) (link pos : Nat) (conflict : Bool) (serial : Nat) : Bool :=
  s.fld (pWl link) F.POS_STAT_PRESENT pos == 1 && (s.posAt link pos).serial.any (· != serial) &&
    (conflict || s.fld (pWl link) F.POS_STAT_POS_CONFLICT pos == 1)

/-- A capability report of a position on a link (R325, R332, R333, R346); the last FSEQ of its tile is forgotten
(R481). -/
def State.capability (s : State) (link pos : Nat) (sec conflict : Bool) (w1 w2 serial : Nat) : State :=
  let p := pWl link
  if s.secondClaim link pos conflict serial then
    (((s.noteReport link pos sec conflict).setPos link pos { s.posAt link pos with second := true }).setFld p
      F.POS_STAT_MISMATCH 1 pos).setCond p 4
  else
    let new := s.fld p F.POS_STAT_PRESENT pos = 0
    let s := (s.storeReport link pos sec conflict w1 w2).setFld p F.POS_STAT_PRESENT 1 pos
    let s := s.setPos link pos { s.posAt link pos with serial := some serial }
    let s := s.when conflict (·.setCond p 4)
    let s := if new then ((s.setCond p 2).latchDelay link).assign link pos
      else s.when (s.fld p F.POS_STAT_ASSIGNED pos == 1) (fun s => s.declare link pos (s.fld p F.POS_STAT_TILE pos))
    let t := s.fld p F.POS_STAT_TILE pos
    s.when (s.fld p F.POS_STAT_ASSIGNED pos == 1) (fun s => s.setTele t { s.tele t with fseq := none })

/-- A position vanishes (R333): it holds no number; membership changes; no credit exists (R346). -/
def State.vanish (s : State) (link pos : Nat) : State :=
  let p := pWl link
  if s.fld p F.POS_STAT_PRESENT pos = 1 then
    let t := s.fld p F.POS_STAT_TILE pos
    let s := s.when (s.fld p F.POS_STAT_ASSIGNED pos == 1) (fun s => s.setCredit t (restartCredit (s.credit t).held))
    let s := ((s.setFld p F.POS_STAT_PRESENT 0 pos).setFld p F.POS_STAT_ASSIGNED 0 pos).setFld p F.POS_STAT_MISMATCH 0 pos
    (((s.setFld p F.POS_STAT_TILE 0x1FFF pos).setPos link pos PosRt.idle).setCond p 2).latchDelay link
  else s

/-- A cycle passes at every position that a tile holds (R333). -/
def State.quietCycle (s : State) : State :=
  { s with linkRt := s.linkRt.map (fun l => (l.1, { l.2 with pos := l.2.pos.map (fun e => (e.1, { e.2 with quiet := e.2.quiet + 1 })) })) }

/-- Positions of a link with a bit of POS_STAT (R347). -/
def State.countPos (s : State) (link : Nat) (f : Fld) : Nat := ((List.range 64).filter (fun p => s.fld (pWl link) f p == 1)).length

/-! ### Commands -/

/-- An upstream packet on a feed: discarded unless the feed is active (R367), dropped and counted when it fails
its CRC (R308). -/
def State.upstream (s : State) (link : Nat) (sec crcOk : Bool) (f : State → State) : State :=
  if s.feedActive link sec = false then s
  else if crcOk then (f (s.inc (pWl link) F.WL_RX_PKT_CNT_RX_CNT)).settle
  else s.inc (pWl link) F.WL_CRC_ERR_CNT_CRC_CNT

/-- A link report's contents (R324): repeats counted, delays kept, the feed noted. -/
def State.linkReport (s : State) (link pos : Nat) (sec : Bool) (notGood : Nat) (a b : Nat) : State :=
  let p := pWl link
  let n := ones notGood 8
  let s := (s.inc p F.POS_REPEAT_CNT_REPEAT_CNT pos n).inc p F.WL_REPEAT_CNT_REPEAT_CNT 0 n
  let s := (s.setFld p F.POS_DELAY_A_DELAY a pos).setFld p F.POS_DELAY_B_DELAY b pos
  let s := s.setPos link pos { s.posAt link pos with quiet := 0 }
  s.setFld p F.POS_STAT_VIA_SEC (if sec then 1 else 0) pos

/-- LINK_REPORT_RX (R324). DARK is not kept by the engine. -/
def execLinkReportRx (link : LinkNo) (sec crcOk : Bool) (pos : PosNo) (notGood _dark : Byte) (delayA delayB : Word)
    (s : State) : Host.Outcome State Fault Refusal :=
  .next (s.upstream link sec crcOk (fun s => s.linkReport link pos sec notGood.toNat delayA.toNat delayB.toNat))

/-- PDREQ_RX (R334): an active Wickline feed answers with the turnaround. -/
def execPdreqRx (feed : FeedId) (seq : Byte) (turnaround : Word) (s : State) : Host.Outcome State Fault Refusal :=
  .next (match feed with
    | .wl l sec => if s.feedActive l sec then s.emit (.pdresp feed seq turnaround) else s
    | .eth _ => s)

/-- DOWNSTREAM_PACKET_RETURN (R329): counted and discarded. -/
def execDownstreamPacketReturn (link : LinkNo) (sec : Bool) (s : State) : Host.Outcome State Fault Refusal :=
  .next (if s.feedActive link sec then s.inc (pWl link) F.WL_LOOP_CNT_LOOP_CNT else s)

/-- Payload words of a message that starts at index i of a ring. -/
def State.msgPayload (s : State) (r : Ring) (i n : Nat) : List Nat :=
  (((List.range (ceilDiv n 4)).map (fun k => s.slotWords r (i + 1 + k))).flatten).take n

/-- The next message of a downstream ring (R125, R126, R338). -/
def State.tileSend (s : State) (t : Nat) : State :=
  let n := 2 * t
  let r := s.ring n
  match s.tileFeed t with
  | none => s
  | some (l, sec) =>
    if r.enable = false ∨ s.zeroRing r = true ∨ r.occ = 0 then s
    else
      let d := s.slotWords r r.cons
      let len := bitsOf (wordAt d 1) 32 15
      if bitsOf (wordAt d 0) 56 8 ≠ 0x01 ∨ 256 < len then
        s.setRing n { r with enable := false, err := countUp 32 r.err 1 }
      else if r.occ < msgSlots len ∨ s.feedActive l sec = false ∨ enough (s.credit t).limit0 (s.credit t).used0 len = false
        then s
      else
        let p := s.msgPayload r r.cons len
        let c := s.credit t
        let s := s.setRing n { r with cons := (r.cons + msgSlots len) % 2 ^ 32 }
        (s.setCredit t { c with used0 := (c.used0 + len + 1) % 2 ^ 24 }).sendOn l sec
          (header 4 t len (bitsOf (wordAt d 1) 0 30) :: p)

/-- TILE_MSG_SEND (R125). -/
def execTileMsgSend (tile : TileNo) (s : State) : Host.Outcome State Fault Refusal := .next (s.tileSend tile)

/-- An upstream host message of a tile placed on the link (R123, R125, R126, R340). -/
def State.tileReceive (s : State) (t lo : Nat) (payload : List Nat) : State :=
  let c := s.credit t
  (s.setCredit t { c with held := c.held ++ [(lo, s.now % 2 ^ 40, payload)] }).grantTile t 64

/-- A MSG packet that arrives on a feed: one with SYS 1 and UP 1 is dropped and counted (R319), one with UP 0 has
returned (R329), and a host message goes to its tile's upstream ring; one of a tile not placed on the link goes
nowhere (R567). -/
def State.messageIn (s : State) (link : Nat) (sec crcOk : Bool) (tile lo : Nat) (payload : List Nat) : State :=
  if s.feedActive link sec = false then s
  else if crcOk = false then s.inc (pWl link) F.WL_CRC_ERR_CNT_CRC_CNT
  else if bit lo 30 = false then s.inc (pWl link) F.WL_LOOP_CNT_LOOP_CNT
  else if bit lo 31 then s.inc (pWl link) F.WL_CRC_ERR_CNT_CRC_CNT
  else s.upstream link sec true (fun s => if s.tileLink tile = some link then s.tileReceive tile lo payload else s)

/-- UPSTREAM_MSG_RX (R125). -/
def execUpstreamMsgRx (link : LinkNo) (sec crcOk : Bool) (tile : TileNo) (hdrLo : Word) (payload : List Quad) (s : State) :
    Host.Outcome State Fault Refusal :=
  .next (s.messageIn link sec crcOk tile hdrLo.toNat (payload.map (·.toNat)))

/-- WL_CTL CLEAR (R347). -/
def State.wlClear (s : State) (link : Nat) : State :=
  let s := s.each [F.WL_TX_PKT_CNT_TX_CNT, F.WL_RX_PKT_CNT_RX_CNT, F.WL_CRC_ERR_CNT_CRC_CNT, F.WL_FEC_CORR_CNT_CORR_CNT,
    F.WL_FEC_UNCORR_CNT_UNCORR_CNT, F.WL_LOOP_CNT_LOOP_CNT, F.WL_REPEAT_CNT_REPEAT_CNT] (fun s f => s.setFld (pWl link) f 0)
  s.each (List.range 64) (fun s p => s.setFld (pWl link) F.POS_REPEAT_CNT_REPEAT_CNT 0 p)

end Sys2Proof.Machine
end

