-- ==== Sys2Proof/Machine/Jobs.lean ====
section
/-!
DEFINITION. A tile job after its image is loaded (R555 to R558): the tiles it visits, the messages of its
steps, and what ends a step.
-/
namespace Sys2Proof.Machine

/-- Word i of a directory entry (R548). -/
def entryWord (e : List Byte) (i : Nat) : Nat := leNat ((e.drop (8 * i)).take 8)
/-- Its fields. -/
def entType (e : List Byte) : Nat := bitsOf (entryWord e 0) 56 8
/-- CRC. -/
def entCrc (e : List Byte) : Nat := bitsOf (entryWord e 0) 0 32
/-- START. -/
def entStart (e : List Byte) : Nat := bitsOf (entryWord e 1) 32 32
/-- LENGTH. -/
def entLen (e : List Byte) : Nat := entryWord e 2
/-- DEST. -/
def entDest (e : List Byte) : Nat := entryWord e 3
/-- TO_VERSION. -/
def entTo (e : List Byte) : Nat := bitsOf (entryWord e 4) 0 32

/-- Replace the job. -/
def State.setJob (s : State) (j : Option TileJob) : State := { s with job := j }
/-- STATE of UPD_TJ_STAT. -/
def State.jobState (s : State) : Nat := s.fld pUpd F.UPD_TJ_STAT_STATE
/-- The tile being visited. -/
def State.jobTile (s : State) : Nat := s.fld pUpd F.UPD_TJ_STAT_TILE
/-- Header bits that hold JOB (R558). -/
def State.jobBits (s : State) : Nat := s.fld pUpd F.UPD_TJ_STAT_SEQ * 2 ^ 16

/-- A job ends in STATE v: GO reads 0 again. -/
def State.jobEnd (s : State) (v : Nat) : State :=
  ((s.setJob none).setFld pUpd F.UPD_TJ_STAT_STATE v).setFld pUpd F.UPD_TJ_CTL_GO 0

/-- ABORT to the tile being visited, or as soon as there is credit (R557). -/
def State.sendAbort (s : State) : State :=
  let t := s.jobTile
  if s.canSys t 0 then s.sendSys t 0x24 s.jobBits []
  else
    match s.tileFeed t with
    | some (l, sec) => if s.feedActive l sec then { s with aborts := s.aborts ++ [(t, s.jobBits)] } else s
    | none => s

/-- A step fails, or STOP: ABORT, HALT, condition 4 (R557, R565). -/
def State.jobHalt (s : State) (code : Nat) : State :=
  let s := s.when (decide (2 ≤ s.jobState)) (·.sendAbort)
  ((s.setFld pUpd F.UPD_TJ_STAT_HALT code).jobEnd 7).setCond pUpd 4

/-! ### Visits (R556) -/

/-- The tile holds its number (R332). -/
def State.tileNumbered (s : State) (t : Nat) : Bool :=
  match s.tileLink t with
  | some l =>
    let p := s.ff (pTile t) F.TL_LINK_POS
    s.fld (pWl l) F.POS_STAT_ASSIGNED p == 1 && s.fld (pWl l) F.POS_STAT_TILE p == t
  | none => false

/-- R556: the job skips the tile. -/
def State.jobSkips (s : State) (e : List Byte) (t : Nat) : Bool :=
  let l := s.ff (pTile t) F.TL_LINK_LINK
  let p := s.ff (pTile t) F.TL_LINK_POS
  let fw := s.fld (pWl l) F.POS_ID1_FW_VERSION p
  !s.tileNumbered t || (s.tele t).stopped || s.fld (pZn (s.ff (pTile t) F.TL_CFG_ZONE)) F.ZN_STAT_BLANKED == 1 ||
    s.fld (pWl l) F.POS_ID0_MAKER p != bitsOf (entryWord e 4) 48 16 ||
    s.fld (pWl l) F.POS_ID0_PRODUCT p != bitsOf (entryWord e 4) 32 16 || fw == entTo e ||
    decide (fw < bitsOf (entryWord e 5) 32 32) || decide (bitsOf (entryWord e 5) 0 32 < fw)

/-- Bytes of the image from an offset that one DATA message carries (R558). -/
def dataBytes (len off : Nat) : Nat := min 2040 (len - off)

/-- Bytes as payload words in the order sent, 0x00 after the last. -/
def sentWords (bs : List Byte) : List Nat :=
  (List.range (ceilDiv bs.length 8)).map (fun i =>
    let w := (bs.drop (8 * i)).take 8
    leNat (w ++ List.replicate (8 - w.length) 0).reverse)

/-- The message that the running step would send next: its CLASS and payload (R557, R558). -/
def State.jobMessage (s : State) (j : TileJob) : Option (Nat × List Nat) :=
  let k := s.jobState
  let len := entLen j.entry
  if k = 2 then (if j.sent then none else some (0x20, [len * 2 ^ 32 + entCrc j.entry, entTo j.entry * 2 ^ 32]))
  else if k = 3 then some (0x21, j.offset :: sentWords (s.mem.bytes (entDest j.entry + j.offset) (dataBytes len j.offset)))
  else if k = 4 then (if j.sent then none else some (0x22, []))
  else if k = 5 then (if j.sent then none else some (0x23, []))
  else none

/-- After a message has left: DATA moves on, and its last one opens step 3. -/
def State.jobSent (s : State) (j : TileJob) : State :=
  if s.jobState = 3 then
    if entLen j.entry ≤ j.offset + 2040 then (s.setFld pUpd F.UPD_TJ_STAT_STATE 4).setJob (some { j with sent := false })
    else s.setJob (some { j with offset := j.offset + 2040 })
  else s.setJob (some { j with sent := true })

/-- Send what the running step may send now, at most n messages. -/
def State.jobPump (s : State) : Nat → State
  | 0 => s
  | n + 1 =>
    match s.job with
    | none => s
    | some j =>
      match s.jobMessage j with
      | none => s
      | some m =>
        if s.canSys s.jobTile m.2.length then ((s.sendSys s.jobTile m.1 s.jobBits m.2).jobSent j).jobPump n else s

/-- As many messages as credit allows: a limit is at most 2^23 words ahead (R338). -/
def State.jobSend (s : State) : State := s.jobPump (2 ^ 23)

/-- Enter a step. -/
def State.jobStep (s : State) (j : TileJob) (k : Nat) : State :=
  ((s.setFld pUpd F.UPD_TJ_STAT_STATE k).setJob (some { j with sent := false, offset := 0 })).jobSend

/-- Visit the tiles from t on, n of them (R555, R556). -/
def State.jobVisit (s : State) (j : TileJob) (t : Nat) : Nat → State
  | 0 => (s.jobEnd 6).setCond pUpd 3
  | n + 1 =>
    let s := s.setFld pUpd F.UPD_TJ_STAT_TILE t
    if s.jobSkips j.entry t then (s.inc pUpd F.UPD_TJ_SKIP_CNT_SKIP_CNT).jobVisit j (t + 1) n else s.jobStep j 2

/-- A tile has ended; the next one. -/
def State.jobNext (s : State) (j : TileJob) : State :=
  (s.inc pUpd F.UPD_TJ_DONE_CNT_DONE_CNT).jobVisit j (s.jobTile + 1) (j.last - s.jobTile)

/-! ### What happens to the tile -/

/-- The feed for a tile's messages is active. -/
def State.tileActive (s : State) (t : Nat) : Bool :=
  match s.tileFeed t with
  | some f => s.feedActive f.1 f.2
  | none => false

/-- The tile in steps 1 to 3 has lost its feed or its position. -/
def State.jobLost (s : State) : Bool :=
  s.job.isSome && decide (2 ≤ s.jobState) && decide (s.jobState ≤ 4) &&
    (!s.tileActive s.jobTile || !s.tileNumbered s.jobTile)

/-- Its position vanishes or its feed leaves active in steps 1 to 3 (R557): HALT 0x4. An ABORT that waits for
credit goes with its feed. -/
def State.jobCheck (s : State) : State :=
  let s := { s with aborts := s.aborts.filter (fun a => s.tileActive a.1) }
  if s.jobLost then s.jobHalt 4 else s

/-- A capability report of the tile in step 4 (R557). -/
def State.jobReport (s : State) (link pos : Nat) : State :=
  match s.job with
  | some j =>
    if s.jobState = 5 ∧ s.tileLink s.jobTile = some link ∧ s.ff (pTile s.jobTile) F.TL_LINK_POS = pos ∧
        s.fld (pWl link) F.POS_ID1_FW_VERSION pos = entTo j.entry then s.jobNext j
    else s
  | none => s

/-- A record of the tile visited (R557, R558): reserved STATUS values say nothing. -/
def State.jobRecord (s : State) (link pos job status : Nat) : State :=
  match s.job with
  | some j =>
    if job = s.fld pUpd F.UPD_TJ_STAT_SEQ ∧ s.tileLink s.jobTile = some link ∧
        s.ff (pTile s.jobTile) F.TL_LINK_POS = pos ∧ 1 ≤ status ∧ status ≤ 5 then
      if s.jobState = 2 ∧ j.sent = true then (if status = 1 then s.jobStep j 3 else s.jobHalt 2)
      else if s.jobState = 4 ∧ j.sent = true then (if status = 2 then s.jobStep j 5 else s.jobHalt 2)
      else s
    else s
  | none => s

/-- ABORT messages that credit now allows. -/
def State.abortSend (s : State) : State :=
  s.each s.aborts (fun s a =>
    if s.canSys a.1 0 then { (s.sendSys a.1 0x24 a.2 []) with aborts := s.aborts.erase a } else s)

/-- A CREDIT packet of a tile (R326, R338): the LIMIT that the engine holds for a pool; a message that waits for it
leaves. A reserved POOL says nothing. -/
def State.creditIn (s : State) (tile pool limit : Nat) : State :=
  let c := s.credit tile
  ((s.setCredit tile (if pool = 0 then { c with limit0 := limit } else if pool = 1 then { c with limit1 := limit } else c)).abortSend).jobSend

/-- CREDIT_RX (R338). -/
def execCreditRx (link : LinkNo) (sec crcOk : Bool) (tile : TileNo) (pool : BitVec 2) (limit : BitVec 24) (s : State) :
    Host.Outcome State Fault Refusal :=
  .next (s.upstream link sec crcOk (fun s =>
    if s.tileLink tile = some link.val then s.creditIn tile pool.toNat limit.toNat else s))

/-- TILE_IMAGE_RECORD_RX (R558). -/
def execTileImageRecordRx (link : LinkNo) (sec crcOk : Bool) (pos : PosNo) (job : Byte) (status : BitVec 4) (s : State) :
    Host.Outcome State Fault Refusal :=
  .next (s.upstream link sec crcOk (fun s => s.jobRecord link pos job.toNat status.toNat))

/-- TILE_JOB_TIMEOUT (R557): the limit of step 1, 3 or 4. -/
def execTileJobTimeout (s : State) : Host.Outcome State Fault Refusal :=
  .next (if s.job.isNone then s
    else if s.jobState = 2 ∨ s.jobState = 4 then (s.jobHalt 2).settle
    else if s.jobState = 5 then (s.jobHalt 3).settle else s)

/-- CAPABILITY_REPORT_RX (R325, R332). LAST, POOL0, POOL1 and RES_MAX no register keeps. -/
def execCapabilityReportRx (link : LinkNo) (sec crcOk : Bool) (pos : PosNo) (conflict _last : Bool) (w1 w2 _w3 w4 : Quad)
    (s : State) : Host.Outcome State Fault Refusal :=
  .next (s.upstream link sec crcOk (fun s =>
    (s.capability link pos sec conflict w1.toNat w2.toNat w4.toNat).jobReport link pos))

/-- POSITION_VANISH (R333): after 16 consecutive cycles without a link report. -/
def execPositionVanish (link : LinkNo) (pos : PosNo) (s : State) : Host.Outcome State Fault Refusal :=
  .next (if 16 ≤ (s.posAt link pos).quiet then (s.vanish link pos).jobCheck.settle else s)

end Sys2Proof.Machine
end

