-- ==== Sys2Proof/Machine/Lanes.lean ====
section
/-!
DEFINITION. Lanes (R351 to R392): roles and PLLs, bring-up of feeds and ports, the training
handshake, trims in service, test mode. What an analogue measurement
finds is an operand of its event (log entry 6).
-/
namespace Sys2Proof.Machine

/-! ### Feeds and their lanes -/

/-- Key of a feed. -/
def feedKey : FeedId → Nat
  | .wl l sec => l.val * 2 + (if sec then 1 else 0)
  | .eth p => 1024 + p.val

/-- The key belongs to an Ethernet port. -/
def isEth (k : Nat) : Bool := decide (1024 ≤ k)

/-- A feed that is off. -/
def Feed.off : Feed := ⟨0, 0, 0, 0, 0, 0, false⟩

/-- Bring-up of a feed. -/
def State.feed (s : State) (k : Nat) : Feed := look Feed.off s.feeds k
/-- Lanes of a feed. -/
def Feed.lanes (f : Feed) : List Nat := (List.range f.width).map (f.lane + ·)
/-- The STAGE code of LN_STAT (R391). -/
def Feed.code (f : Feed) : Nat := if f.relock then 6 else f.stage
/-- A lane that nothing has trained. -/
def LaneRt.idle : LaneRt :=
  ⟨0, [(0, 0), (0, 0), (0, 0)], 0, 0, false, ⟨.lock, false, false, false, 0, (0, 0), 0, 0, false, 0, false⟩, 0, [], [], [], [],
    false, false, false, [], 0, false, ⟨0, 0, 0, 0, 0, 0, 0, (0, 0)⟩⟩
/-- A lane's handshake and calibration. -/
def State.lane (s : State) (l : Nat) : LaneRt := look LaneRt.idle s.lanes l
/-- Replace it; a step of tracking or of a re-gather that waits shows in STEP_PEND (R391). -/
def State.setLane (s : State) (l : Nat) (r : LaneRt) : State :=
  (({ s with lanes := ins LaneRt.idle l r s.lanes } : State).setFld (pSer (l / 8)) F.LN_STAT_STEP_PEND
    (if r.pend.isEmpty && !r.moving then 0 else 1) (l % 8))
/-- A field of a lane's register block. -/
def State.ln (s : State) (l : Nat) (f : Fld) : Nat := s.fld (pSer (l / 8)) f (l % 8)
/-- Set a field of a lane's register block. -/
def State.setLn (s : State) (l : Nat) (f : Fld) (v : Nat) : State := s.setFld (pSer (l / 8)) f v (l % 8)
/-- Count in a field of a lane's register block. -/
def State.incLn (s : State) (l : Nat) (f : Fld) (n : Nat) : State := s.inc (pSer (l / 8)) f (l % 8) n

/-- The feed a lane belongs to, with its key. -/
def State.laneFeed (s : State) (l : Nat) : Option (Nat × Feed) :=
  s.feeds.find? (fun e => decide (e.2.lane ≤ l ∧ l < e.2.lane + e.2.width))

/-- Condition `k` of the octets of a feed's lanes. -/
def State.octetCond (s : State) (f : Feed) (k : Nat) : State := s.each f.lanes (fun s l => s.setCond (pSer (l / 8)) k)

/-- Replace a feed; its lanes report the stage (R361). -/
def State.putFeed (s : State) (k : Nat) (f : Feed) : State :=
  ({ s with feeds := ins Feed.off k f s.feeds } : State).each f.lanes (fun s l => s.setLn l F.LN_STAT_STAGE f.code)

/-- Leaving stage 5 drops pending trim steps and ends a re-gather (R389). -/
def State.dropTrims (s : State) (f : Feed) : State :=
  s.each f.lanes (fun s l => s.setLane l { s.lane l with pend := [], gathering := false, moving := false, targets := [] })

/-- The octet's SERREF is in fault (R72, R74). -/
def State.refBad (s : State) (octet : Nat) : Bool := s.fld pSys F.SYS_REFCLK_STAT_SERREF_FAULT / 2 ^ (octet / 8) % 2 == 1

/-! ### PLLs (R352) -/

/-- PLL frequency code of a rate (R352, R390). -/
def rateFreq (r : Nat) : Nat := if r = 1 ∨ r = 3 then 1 else if r = 2 then 2 else if r = 4 then 3 else if r = 5 then 4 else 0

/-- Frequency that lane l needs, 0 for none and while it is powered down. -/
def State.laneFreq (s : State) (l : Nat) : Nat :=
  if s.ln l F.LN_STAT_STAGE = 0 then 0
  else match s.ln l F.LN_STAT_ROLE with
  | 1 => 1
  | 2 => 1
  | 3 => 2
  | 4 => rateFreq (s.ln l F.LN_TEST_RATE)
  | _ => 0

/-- Lanes of an octet. -/
def octetLanes (n : Nat) : List Nat := (List.range 8).map (8 * n + ·)

/-- Frequencies that the octet's roles need. -/
def State.roleFreqs (s : State) (n : Nat) : List Nat :=
  (((octetLanes n).filter (fun l => s.ln l F.LN_STAT_ROLE != 4)).map s.laneFreq).filter (· != 0)

/-- Give a frequency to a PLL that runs it or is off. -/
def fillPll (ab : Nat × Nat) (f : Nat) : Option (Nat × Nat) :=
  if ab.1 = f ∨ ab.2 = f then some ab else if ab.1 = 0 then some (f, ab.2) else if ab.2 = 0 then some (ab.1, f) else none

/-- The PLLs, off where none of the frequencies needs them. -/
def keepPll (need : List Nat) (ab : Nat × Nat) : Nat × Nat :=
  (if need.contains ab.1 then ab.1 else 0, if need.contains ab.2 then ab.2 else 0)

/-- Frequencies of PLL A and B. -/
def State.plls (s : State) (n : Nat) : Nat × Nat :=
  (s.fld (pSer n) F.SER_STAT_PLL_A_FREQ, s.fld (pSer n) F.SER_STAT_PLL_B_FREQ)

/-- One PLL's frequency and lock. -/
def State.setPll (s : State) (n f : Nat) (freq lock : Fld) : State :=
  let old := s.fld (pSer n) freq
  let s := s.setFld (pSer n) freq f
  if f = 0 then s.setFld (pSer n) lock 0
  else if f = old then s
  else s.setFld (pSer n) lock (if s.refBad n then 0 else 1)

/-- Both PLLs. -/
def State.setPlls (s : State) (n : Nat) (ab : Nat × Nat) : State :=
  (s.setPll n ab.1 F.SER_STAT_PLL_A_FREQ F.SER_STAT_PLL_A_LOCK).setPll n ab.2 F.SER_STAT_PLL_B_FREQ F.SER_STAT_PLL_B_LOCK

/-- Test mode of a lane ends (R389); `err` sets TEST_ERR. -/
def State.endTest (s : State) (l : Nat) (err : Bool) : State :=
  let s := ((s.setLn l F.LN_TEST_EN 0).setLn l F.LN_TEST_STAT_SYNC 0).setLn l F.LN_STAT_ROLE 0
  (s.setLn l F.LN_STAT_STAGE 0).setLn l F.LN_TEST_STAT_TEST_ERR (if err then 1 else s.ln l F.LN_TEST_STAT_TEST_ERR)

/-- Test lanes of an octet. -/
def State.testLanes (s : State) (n : Nat) : List Nat := (octetLanes n).filter (fun l => s.ln l F.LN_STAT_ROLE == 4)

/-- Run the PLLs that the octet's lanes need. A frequency that a role needs takes the PLL of a test lane, which
then stops with TEST_ERR (R389). -/
def State.planPlls (s : State) (n : Nat) : State :=
  let roles := s.roleFreqs n
  let all := roles ++ (s.testLanes n).map s.laneFreq
  match roles.foldlM fillPll (keepPll all (s.plls n)) with
  | some ab => s.setPlls n ab
  | none =>
    let s := s.each ((s.testLanes n).filter (fun l => !roles.contains (s.laneFreq l))) (fun s l => s.endTest l true)
    match roles.foldlM fillPll (keepPll roles (s.plls n)) with
    | some ab => s.setPlls n ab
    | none => s

/-! ### Records (R359, R360) -/

/-- Word k of the trims in force of a lane, LN_TXFFE to LN_META. -/
def lnTrim (l k : Nat) : Nat := pSer (l / 8) + 0x20C + 0x80 * (l % 8) + 4 * k
/-- Word k of its preset record. -/
def lnPset (l k : Nat) : Nat := pSer (l / 8) + 0x230 + 0x80 * (l % 8) + 4 * k

/-- The defaults of R360: preset 1, VGA 12, PEAK 8, all else 0, far-end preset 1. -/
def defaultTrims : List Word := [0x340C00, 0xC08, 0, 0, 0, 0, 0, 0x10000, 0]

/-- MAIN of a TXFFE word is 64 - PRE - POST. -/
def withMain (w : Word) : Word :=
  BitVec.ofNat 32 (setBits w.toNat 16 7 (64 - bitsOf w.toNat 0 5 - bitsOf w.toNat 8 5))

/-- The preset record, or the defaults when it is empty. -/
def State.presetTrims (s : State) (l : Nat) : List Word :=
  if bitsOf (s.reg (lnPset l 8)).toNat 28 2 = 0 then defaultTrims
  else withMain (s.reg (lnPset l 0)) :: ((List.range 8).map (fun k => s.reg (lnPset l (k + 1))))

/-- The starting record of a lane of a feed (R360). -/
def State.startRecord (s : State) (f : Feed) (l : Nat) : List Word :=
  if f.record = 1 then defaultTrims
  else if f.record = 2 ∧ (s.lane l).good = true ∧ s.ln l F.LN_META_PROVISIONAL = 0 then
    (List.range 9).map (fun k => s.reg (lnTrim l k))
  else s.presetTrims l

/-- Write words of the trims in force, from word k on, keeping LN_OFFSET and the bits that are no field. -/
def State.writeTrims (s : State) (l k : Nat) : List Word → State
  | [] => s
  | w :: t =>
    (if k = 5 then s else s.setReg (lnTrim l k) (w &&& BitVec.ofNat 32 (accMask .ro (lnTrim l k)))).writeTrims l (k + 1) t

/-- Reading of the die sensor nearest an octet (R378). -/
def State.octetTemp (s : State) (n : Nat) : Int :=
  s.sfld pTherm F.THERM_SENS_T (6 * ((n % 32) / 8) + (if n < 32 then 0 else 5))

/-- Activity of windows above a share, `num / den`. -/
def busyWindows (num den : Nat) (ws : List (Nat × Nat)) : List (Nat × Nat) :=
  ws.filter (fun w => decide (num * w.1 ≤ den * w.2 ∧ 0 < w.1))

/-- The rounded mean A of windows, in percent (R376). -/
def meanActivity (ws : List (Nat × Nat)) : Nat :=
  let x : Rat := (ws.map (fun w => ((w.2 : Rat) / (w.1 : Rat)))).sum * 100 / ((ws.length : Nat) : Rat)
  min 100 (x + 1 / 2).floor.toNat

/-- ACT and PROVISIONAL by R376; condition 3 when the record is marked. -/
def State.markAct (s : State) (l act : Nat) : State :=
  let s := s.setLn l F.LN_META_ACT act
  let s := s.setLn l F.LN_META_PROVISIONAL (if act < 25 then 1 else 0)
  s.when (decide (act < 25)) (·.setCond (pSer (l / 8)) 3)

/-! ### Starting and stopping feeds -/

/-- Wickline or Ethernet role, owner and index of a feed's lanes (R353, R391). -/
def State.giveRole (s : State) (k : Nat) (f : Feed) : State :=
  s.each (List.range f.width) (fun s i =>
    let l := f.lane + i
    let s := s.when (s.ln l F.LN_STAT_ROLE == 4) (·.endTest l false)
    let s := s.setLn l F.LN_STAT_ROLE (if isEth k then 3 else 1 + k % 2)
    (s.setLn l F.LN_STAT_OWNER (if isEth k then k - 1024 else k / 2)).setLn l F.LN_STAT_INDEX i)

/-- Signal, lock and polarity bits of a feed's lanes. -/
def State.laneBits (s : State) (f : Feed) (signal lock : Nat) : State :=
  s.each f.lanes (fun s l => (s.setLn l F.LN_STAT_SIGNAL signal).setLn l F.LN_STAT_CW_LOCK lock)

/-- The feed enters stage 1, or REF_WAIT while a reference of its octets is in fault (R361, R389). -/
def State.toDetect (s : State) (k : Nat) (f : Feed) : State :=
  (s.laneBits f 0 0).putFeed k
    { f with stage := if f.lanes.any (fun l => s.refBad (l / 8)) then 0xA else 1, relock := false }

/-- A port's link falls: LINK_UP, condition 1. -/
def State.linkFall (s : State) (p : Nat) : State :=
  if s.portUp p then ((s.setFld (pEth p) F.ETH_STAT_LINK_UP 0).setFld (pEth p) F.ETH_STAT_LANE_LOCK 0).setCond (pEth p) 1 else s

/-- A feed in stage 5 stops being active: condition 2 of its octets, and the link's or the port's condition. -/
def State.leaveActive (s : State) (k : Nat) (f : Feed) : State :=
  if f.stage = 5 then
    let s := (s.octetCond f 2).dropTrims f
    if isEth k then s.linkFall (k - 1024) else (s.feedDown (k / 2) (k % 2 == 1)).jobCheck
  else s

/-- Start bring-up of a feed on its lanes (R360, R361). -/
def State.startFeed (s : State) (k lane width cfg record : Nat) : State :=
  let f : Feed := { stage := 1, lane := lane, width := width, cfg := cfg, fails := 0, record := record, relock := false }
  let s := (s.giveRole k f).toDetect k f
  s.each ((f.lanes.map (· / 8)).eraseDups) (fun s n => s.planPlls n)

/-- Power the lanes of a feed down; their role stays (R353, R380). -/
def State.restFeed (s : State) (k : Nat) : State :=
  let f := s.feed k
  let s := (s.leaveActive k f).laneBits f 0 0
  let s := s.each f.lanes (fun s l =>
    ((s.setLn l F.LN_STAT_STAGE 0).setLn l F.LN_STAT_POL_DET 0).setLane l
      { s.lane l with frames := 0, pend := [], moving := false, gathering := false })
  { s with feeds := ins Feed.off k Feed.off s.feeds }

/-- Lanes lose their role (R353). -/
def State.dropRole (s : State) (lanes : List Nat) : State :=
  s.each lanes (fun s l => ((s.setLn l F.LN_STAT_ROLE 0).setLn l F.LN_STAT_OWNER 0).setLn l F.LN_STAT_INDEX 0)

/-- A feed ends: its lanes are powered down and have no role. -/
def State.stopFeed (s : State) (k : Nat) : State := (s.restFeed k).dropRole (s.feed k).lanes

/-- The feeds that a configuration asks for: key, first lane, width, configuration word (R137, R347, R353). -/
def wantedFeeds (c : Sparse Word) : List (Nat × Nat × Nat × Nat) :=
  ((linksOn c).map (fun n =>
    let w := (inForce c (pWl n + F.WL_CFG_ENABLE.off)).toNat
    (2 * n, cfld c (pWl n) F.WL_CFG_PRI_LANE, linkWidth c n, w) ::
      (if cfld c (pWl n) F.WL_CFG_RING = 1 then [(2 * n + 1, cfld c (pWl n) F.WL_CFG_SEC_LANE, linkWidth c n, w)] else []))).flatten ++
  (List.range 8).filterMap (fun p =>
    let m := cfld c (pEth p) F.ETH_CFG_MODE
    if m = 0 then none else some (1024 + p, 8 * p, 2 ^ (m - 1), m))

/-- A running feed is one of those wanted, as it runs. -/
def keptFeed (want : List (Nat × Nat × Nat × Nat)) (e : Nat × Feed) : Bool :=
  want.any (fun w => w.1 == e.1 && w.2.1 == e.2.lane && w.2.2.1 == e.2.width && w.2.2.2 == e.2.cfg)

/-- Stop the feeds that are not wanted as they run, and start those wanted. -/
def State.wantFeeds (s : State) (want : List (Nat × Nat × Nat × Nat)) (record : Nat) : State :=
  let gone := s.feeds.filter (fun e => !keptFeed want e)
  let octets := ((gone.map (fun e => e.2.lanes.map (· / 8))).flatten).eraseDups
  let s := s.each gone (fun s e => s.stopFeed e.1)
  let s := s.each octets (fun s n => s.planPlls n)
  s.each (want.filter (fun w => (s.feed w.1).width == 0)) (fun s w => s.startFeed w.1 w.2.1 w.2.2.1 w.2.2.2 record)

/-- Bring the running feeds in line with a configuration: a change of a link's WL_CFG restarts its feeds, a
change of MODE restarts the port (R178, R347, R353). -/
def State.syncFeeds (s : State) (c : Sparse Word) (record : Nat) : State := s.wantFeeds (wantedFeeds c) record

/-- Two ranges of lanes meet. -/
def lanesMeet (a m b n : Nat) : Bool := decide (a < b + n ∧ b < a + m)

/-- The same as a commit replaces `old` by `new`: a feed that the boot record started and that neither enables runs
on, unless its lanes are wanted (R77). -/
def State.syncCommit (s : State) (old new : Sparse Word) : State :=
  let want := wantedFeeds new
  let known := (want ++ wantedFeeds old).map (·.1)
  let stays := s.feeds.filter (fun e => !known.contains e.1 && want.all (fun w => !lanesMeet w.2.1 w.2.2.1 e.2.lane e.2.width))
  s.wantFeeds (want ++ stays.map (fun e => (e.1, e.2.lane, e.2.width, e.2.cfg))) 0

/-- Roles follow a commit in Standby, where the lanes of most feeds stay powered down (R353, R525): the ports that run
go on as R178 gives. -/
def State.syncRest (s : State) (old new : Sparse Word) : State :=
  let lanes (w : Nat × Nat × Nat × Nat) : List Nat := (List.range w.2.2.1).map (w.2.1 + ·)
  let want := wantedFeeds new
  let s := s.each (s.feeds.filter (fun e => !keptFeed want e)) (fun s e => s.stopFeed e.1)
  let s := s.each ((wantedFeeds old).filter (fun w => !want.contains w && (s.feed w.1).width == 0)) (fun s w => s.dropRole (lanes w))
  s.each (want.filter (fun w => (s.feed w.1).width == 0)) (fun s w =>
    s.giveRole w.1 { Feed.off with lane := w.2.1, width := w.2.2.1 })

/-- The lanes are powered down, as in Standby (R380, R525), but for those of the ports whose bit is set; test mode
ends. -/
def State.lanesOff (s : State) (ports : Nat) : State :=
  let s := s.each (s.feeds.filter (fun e => !(isEth e.1 && bit ports (e.1 - 1024)))) (fun s e => s.restFeed e.1)
  s.each (List.range 64) (fun s n => (s.each (s.testLanes n) (fun s l => s.endTest l false)).planPlls n)

/-- One PLL loses its lock: condition 7 (R392). -/
def State.unlock (s : State) (n : Nat) (f : Fld) : State :=
  s.when (s.fld (pSer n) f == 1) (fun s => (s.setFld (pSer n) f 0).setCond (pSer n) 7)

/-- SERREF g enters fault: the PLLs of octets 8g to 8g + 7 lose lock, and the feeds and test lanes there hold in
REF_WAIT (R96, R389). -/
def State.refLost (s : State) (g : Nat) : State :=
  let s := s.each (List.range 8) (fun s i => (s.unlock (8 * g + i) F.SER_STAT_PLL_A_LOCK).unlock (8 * g + i) F.SER_STAT_PLL_B_LOCK)
  let s := s.each (List.range 8) (fun s i => s.each (s.testLanes (8 * g + i)) (fun s l => s.setLn l F.LN_STAT_STAGE 0xA))
  s.each (s.feeds.filter (fun e => e.2.lanes.any (fun l => l / 64 == g))) (fun s e =>
    ((s.leaveActive e.1 e.2).laneBits e.2 0 0).putFeed e.1 { e.2 with stage := 0xA, relock := false, record := 2 })

/-- SERREF g leaves fault: the feeds that waited start again, test lanes go on (R389). -/
def State.refBack (s : State) (g : Nat) : State :=
  let s := s.each (List.range 8) (fun s i =>
    let ab := s.plls (8 * g + i)
    let s := s.when (ab.1 != 0) (·.setFld (pSer (8 * g + i)) F.SER_STAT_PLL_A_LOCK 1)
    let s := s.when (ab.2 != 0) (·.setFld (pSer (8 * g + i)) F.SER_STAT_PLL_B_LOCK 1)
    s.each (s.testLanes (8 * g + i)) (fun s l => s.setLn l F.LN_STAT_STAGE 9))
  s.each (s.feeds.filter (fun e => e.2.stage == 0xA && e.2.lanes.any (fun l => l / 64 == g))) (fun s e => s.toDetect e.1 e.2)

/-! ### Bring-up -/

/-- A lane's starting record becomes its trims in force, with fresh offsets (R357, R360); an Ethernet transmitter takes
PRE and POST of its preset record. -/
def State.loadLane (s : State) (k : Nat) (f : Feed) (l : Nat) (offset : Word) : State :=
  let start := s.startRecord f l
  let start := if isEth k then (s.presetTrims l).head?.toList ++ start.drop 1 else start
  ((s.writeTrims l 0 start).setReg (lnTrim l 5) offset).setLane l LaneRt.idle

/-- DETECT_DONE (R361, R371): stage 1 ends; a Wickline feed trains, a port adapts and locks. -/
def State.detectDone (s : State) (k : Nat) (offsets : List Word) : State :=
  let f := s.feed k
  if f.stage = 1 then
    let s := s.each (List.range f.width) (fun s i => s.loadLane k f (f.lane + i) (offsets.getD i 0))
    (s.laneBits f 1 0).putFeed k { f with stage := if isEth k then 3 else 2 }
  else s

/-- DETECT_DONE (R361). -/
def execDetectDone (feed : FeedId) (offsets : List Word) (s : State) : Host.Outcome State Fault Refusal :=
  .next (s.detectDone (feedKey feed) offsets)

/-- A field of a training frame is valid: ID 0xC5 and a correct CHECK (R363). -/
def trainOk (w : Nat) : Bool :=
  bitsOf w 24 8 == 0xC5 && bitsOf w 0 8 == Nat.xor (Nat.xor (bitsOf w 24 8) (bitsOf w 16 8)) (Nat.xor (bitsOf w 8 8) 0x5A)

/-- PRE and POST of a preset (R356). -/
def presetFfe (p : Nat) : Nat × Nat := [(0, 0), (0, 12), (4, 12), (6, 18)].getD p (0, 0)

/-- Set PRE and POST; MAIN follows (R355). -/
def State.setFfe (s : State) (l pre post : Nat) : State :=
  ((s.setLn l F.LN_TXFFE_PRE pre).setLn l F.LN_TXFFE_POST post).setLn l F.LN_TXFFE_MAIN (64 - pre - post)

/-- Answer to a tap request (R355, R363, R364): the tap's new value and its status. -/
def tapStep (req v top other : Nat) : Nat × Nat :=
  if req = 1 then (if v < top ∧ v + other < 32 then (v + 1, 1) else (v, 3))
  else if req = 2 then (if 0 < v then (v - 1, 1) else (v, 2))
  else (v, 0)

/-- A request and the number of consecutive valid frames that have held it. -/
def heldReq (old : Nat × Nat) (req : Nat) : Nat × Nat := if old.1 = req then (req, old.2 + 1) else (req, 1)

/-- R364: the PRE and POST requests of one valid frame. A request acts when it has been held in three frames. -/
def State.tapRequests (s : State) (l : Nat) (qp qo : Nat × Nat) : State :=
  let pre := s.ln l F.LN_TXFFE_PRE
  let post := s.ln l F.LN_TXFFE_POST
  let a := if qp.2 = 3 then tapStep qp.1 pre 16 post else (pre, (s.lane l).preSts)
  let b := if qo.2 = 3 then tapStep qo.1 post 24 a.1 else (post, (s.lane l).postSts)
  let s := s.setFfe l a.1 b.1
  s.setLane l { s.lane l with preSts := if qp.1 = 0 then 0 else a.2, postSts := if qo.1 = 0 then 0 else b.2 }

/-- R364: a responder's handling of a control field. A PRESET_REQ has precedence over tap requests. -/
def State.respond (s : State) (l c : Nat) : State :=
  let r := s.lane l
  let old (i : Nat) : Nat × Nat := r.reqs.getD i (0, 0)
  let p := heldReq (old 0) (bitsOf c 20 3)
  if bit c 22 then
    let s := s.setLane l { r with reqs := [p, (0, 0), (0, 0)], presetDone := r.presetDone || decide (3 ≤ p.2) }
    if p.2 = 3 then s.setFfe l (presetFfe (bitsOf c 20 2)).1 (presetFfe (bitsOf c 20 2)).2 else s
  else
    let qp := heldReq (old 1) (bitsOf c 18 2)
    let qo := heldReq (old 2) (bitsOf c 16 2)
    (s.setLane l { r with reqs := [(0, 0), qp, qo], presetDone := false }).tapRequests l qp qo

/-- The status field that a lane sends (R363). -/
def State.trainStatus (s : State) (l : Nat) : Nat :=
  let r := s.lane l
  let b := r.preSts * 2 ^ 6 + r.postSts * 2 ^ 4 + (s.ln l F.LN_STAT_INDEX % 4) * 4 + (if r.presetDone then 2 else 0)
  0xC5 * 2 ^ 24 + b * 2 ^ 16 + Nat.xor (Nat.xor 0xC5 b) 0x5A

/-! The requester (R364, R365) -/

/-- The tap that is requested is PRE. -/
def Train.onPre (r : Train) : Bool := if r.phase = .replay then r.left.1 != 0 else r.pre
/-- The request is a decrement. -/
def Train.down (r : Train) : Bool :=
  match r.phase with
  | .replay => if r.left.1 ≠ 0 then decide (r.left.1 < 0) else decide (r.left.2 < 0)
  | .undo => !r.dec
  | _ => r.dec
/-- A tap request is under way. -/
def Train.asks (r : Train) : Bool := r.phase == .replay || r.phase == .ask || r.phase == .undo
/-- The status of the requested tap (R363). -/
def Train.sts (r : Train) (status : Nat) : Nat := if r.onPre then bitsOf status 22 2 else bitsOf status 20 2

/-- The loop of R365 over one direction ends: the other direction unless a step was kept, then the other tap. -/
def Train.endDir (r : Train) : Train :=
  if r.dec = false ∧ r.kept = false then { r with phase := .ask, dec := true }
  else if r.pre then { r with phase := .ready }
  else { r with phase := .best, pre := true, dec := false, kept := false }

/-- One step nearer to 0. -/
def shrink (x : Int) : Int := if 0 < x then x - 1 else if x < 0 then x + 1 else 0

/-- After replayed steps, the search begins with POST. -/
def Train.replayed (r : Train) : Train :=
  if r.left = (0, 0) then { r with phase := .best, pre := false, dec := false, kept := false } else { r with phase := .replay }

/-- The answer to a tap request is in and hold has been received. -/
def Train.settled (r : Train) : Train :=
  let q := { r with hold := false, result := 0 }
  match r.phase with
  | .replay =>
    { q with left := if r.left.1 ≠ 0 then (shrink r.left.1, r.left.2) else (r.left.1, shrink r.left.2) }.replayed
  | .ask => if r.result = 1 then { q with phase := .measure } else q.endDir
  | .undo => q.endDir
  | _ => q

/-- One valid frame of a partner in frame lock: its status, and metric() when a measurement has ended (R364, R365).
`steps` are the DPRE and DPOST to replay. -/
def Train.hear (r : Train) (status : Nat) (metric : Option Int) (steps : Int × Int) : Train :=
  match r.phase with
  | .lock => { r with phase := .preset }
  | .preset =>
    if r.hold then { r with hold := false, left := steps }.replayed
    else if bit status 17 then
      (if r.answers = 2 then { r with answers := 0, hold := true } else { r with answers := r.answers + 1 })
    else { r with answers := 0 }
  | .replay | .ask | .undo =>
    if r.hold then (if r.sts status = 0 then r.settled else r)
    else if r.sts status = 0 then { r with answers := 0 }
    else if r.answers = 2 then { r with answers := 0, hold := true, result := r.sts status }
    else { r with answers := r.answers + 1 }
  | .best => match metric with
    | some m => { r with best := m, phase := .ask }
    | none => r
  | .measure => match metric with
    | some m => if r.best + 2000 ≤ m then { r with best := m, kept := true, phase := .ask } else { r with phase := .undo }
    | none => r
  | .ready => r

/-- The control field that a lane sends (R363). -/
def State.trainControl (s : State) (l : Nat) : Nat :=
  let r := (s.lane l).train
  let req := if r.asks && !r.hold then (if r.down then 2 else 1) * (if r.onPre then 4 else 1) else 0
  let b := (if r.phase = .ready then 2 ^ 7 else 0) +
    (if r.phase = .preset ∧ r.hold = false then 2 ^ 6 + s.ln l F.LN_REMOTE_RP_PRESET * 2 ^ 4 else 0) + req
  0xC5 * 2 ^ 24 + b * 2 ^ 16 + Nat.xor (Nat.xor 0xC5 b) 0x5A

/-- Net steps of a tap in LN_REMOTE. -/
def State.remote (s : State) (l : Nat) (pre : Bool) : Int :=
  s.sfld (pSer (l / 8)) (if pre then F.LN_REMOTE_DPRE else F.LN_REMOTE_DPOST) (l % 8)
/-- Set them. -/
def State.setRemote (s : State) (l : Nat) (pre : Bool) (v : Int) : State :=
  s.setS (pSer (l / 8)) (if pre then F.LN_REMOTE_DPRE else F.LN_REMOTE_DPOST) (satS v 6) (l % 8)

/-- The requester hears one valid frame; LN_REMOTE keeps the preset and the net steps (R359, R365). -/
def State.trainHear (s : State) (l control status : Nat) (metric : Option Int) : State :=
  let r := (s.lane l).train
  let r := { r with partner := if bit control 23 then min (r.partner + 1) 16 else 0, seen := r.seen || bit control 23 }
  if (s.lane l).frames < 8 then s.setLane l { s.lane l with train := r }
  else
    let q := r.hear status metric (s.remote l true, s.remote l false)
    let s := s.setLane l { s.lane l with train := q, rxIndex := bitsOf status 18 2 }
    if r.phase = .preset ∧ q.phase ≠ .preset then (s.setRemote l true 0).setRemote l false 0
    else if r.asks && r.hold && r.sts status == 0 && r.result == 1 then
      s.setRemote l r.onPre (s.remote l r.onPre + if r.down then -1 else 1)
    else s

/-- A training frame on a lane in stage 2 (R362 to R365). An invalid one breaks every run of frames. -/
def State.trainingFrame (s : State) (l control status : Nat) (inverted : Bool) (metric : Option Int) : State :=
  match s.laneFeed l with
  | some (k, f) =>
    if f.stage ≠ 2 ∨ isEth k = true then s
    else if trainOk control && trainOk status then
      let n := min ((s.lane l).frames + 1) 16
      let s := (s.setLane l { s.lane l with frames := n }).respond l control
      let s := s.when (decide (8 ≤ n)) (·.setLn l F.LN_STAT_POL_DET (if inverted then 1 else 0))
      let s := s.trainHear l control status metric
      s.emit (.training l (BitVec.ofNat 32 (s.trainControl l)) (BitVec.ofNat 32 (s.trainStatus l)))
    else
      let r := s.lane l
      s.setLane l { r with frames := 0, reqs := [(0, 0), (0, 0), (0, 0)], train := { r.train with answers := 0, partner := 0 } }
  | none => s

/-- TRAINING_FRAME_RX (R364, R365). -/
def execTrainingFrameRx (lane : LaneNo) (control status : Word) (inverted : Bool) (metric : Option Int) (s : State) :
    Host.Outcome State Fault Refusal :=
  .next (s.trainingFrame lane control.toNat status.toNat inverted metric)

/-- A lane's record gathered in stage 2 (R359, R365, R376, R378), with its last eye heights (R391). -/
def State.trained (s : State) (l : Nat) (t : List Word) (eye : Word) : State :=
  let s := s.writeTrims l 1 ((t.drop 1).take 6)
  let s := s.setReg (pSer (l / 8) + F.LN_EYE_EH_L.off + 0x80 * (l % 8)) (eye &&& 0xFFFFFF)
  let s := (s.setLn l F.LN_META_SOURCE 1).setS (pSer (l / 8)) F.LN_META_TEMP (s.octetTemp (l / 8)) (l % 8)
  let act := meanActivity (s.lane l).wins
  (s.setLane l { s.lane l with wins := [] }).markAct l act

/-- R361, R367: both ends are ready on a lane. `codewords` says that codewords arrive in place of training frames. -/
def Train.both (r : Train) (codewords : Bool) : Bool := r.phase == .ready && (r.partner == 16 || (codewords && r.seen))

/-- TRAIN_DONE (R361, R367): stage 2 ends with the trims to which the receiver has adapted (R365). -/
def execTrainDone (feed : FeedId) (trims : List LaneTrim) (eyes : List Word) (codewords : Bool) (s : State) :
    Host.Outcome State Fault Refusal :=
  let k := feedKey feed
  let f := s.feed k
  .next (if f.stage = 2 ∧ isEth k = false ∧ f.lanes.all (fun l => (s.lane l).train.both codewords) = true then
      ((s.each (List.range f.width) (fun s i =>
        s.trained (f.lane + i) (trims.getD i ⟨[]⟩).words (eyes.getD i 0))).putFeed k { f with stage := 3 }).settle
    else s)

/-- The ALIGN blocks of one count map and deskew the lanes (R301, R354): each index once, W as configured, and arrivals
not more than 500 ns apart. -/
def alignsOk (w : Nat) (as : List AlignRx) : Bool :=
  as.length == w && as.all (fun a => a.width == w && as.all (fun b => decide (a.at' ≤ b.at' + 500))) &&
    (List.range w).all (fun i => as.any (fun a => a.index.val == i))

/-- LOCK_DONE (R361): codeword lock, deskew and mapping; the feed goes on to stage 4, in relock too (R368). -/
def execLockDone (feed : FeedId) (aligns : List AlignRx) (s : State) : Host.Outcome State Fault Refusal :=
  let k := feedKey feed
  let f := s.feed k
  .next (if f.stage = 3 ∧ isEth k = false ∧ alignsOk f.width aligns = true then
      let s := s.each (aligns.zipIdx) (fun s a => s.setLane (f.lane + a.2) { s.lane (f.lane + a.2) with rxIndex := a.1.index.val })
      (s.laneBits f 1 1).putFeed k { f with stage := 4 }
    else s)

/-- A feed or port reaches stage 5: the consecutive failures end (R369), BUSY_RUN_MS restarts (R389). -/
def State.reachActive (s : State) (k : Nat) : State :=
  let f := s.feed k
  let s := s.each f.lanes (fun s l =>
    let s := s.setLane l { s.lane l with good := true, wins := [] }
    let s := s.setFld (pSer (l / 8)) F.SER_ACT_BUSY_RUN_MS 0
    { s with busy := ins (0, 0) (l / 8) (0, 0) s.busy })
  s.putFeed k { f with stage := 5, relock := false, fails := 0 }

/-- CAP_DONE (R361, R366, R370): the feed becomes active, or enters fault when its width is unsupported. -/
def execCapDone (feed : FeedId) (widths : Byte) (s : State) : Host.Outcome State Fault Refusal :=
  let k := feedKey feed
  let f := s.feed k
  .next (if f.stage = 4 then
      if widths.toNat.testBit (Nat.log2 f.width) then ((s.reachActive k).feedUp (k / 2) (k % 2 == 1)).settle
      else
        let s := s.each f.lanes (fun s l => s.setLn l F.LN_FAIL_LAST_FAIL 4)
        (((s.laneBits f 0 0).putFeed k { f with stage := 8, relock := false }).octetCond f 1).settle
    else s)

/-- LAST_FAIL of a stage that runs out of time (R391). -/
def Feed.failCode (f : Feed) : Nat := if f.relock then 5 else f.stage - 1

/-- A failure (R369): back to stage 1, or to backoff from the fourth on; from the second on the defaults (R360). -/
def State.failFeed (s : State) (k : Nat) : State :=
  let f := s.feed k
  let s := s.each f.lanes (fun s l => (s.incLn l F.LN_FAIL_FAIL_CNT 1).setLn l F.LN_FAIL_LAST_FAIL f.failCode)
  let s := s.octetCond f 0
  let g := { f with fails := f.fails + 1, relock := false, record := if 1 ≤ f.fails then 1 else f.record }
  if 4 ≤ g.fails then ((s.laneBits f 0 0).putFeed k { g with stage := 7 }).octetCond f 1 else s.toDetect k g

/-- STAGE_TIMEOUT (R361, R368, R369, R371). -/
def execStageTimeout (feed : FeedId) (s : State) : Host.Outcome State Fault Refusal :=
  let k := feedKey feed
  .next (if 2 ≤ (s.feed k).stage ∧ (s.feed k).stage ≤ 4 then (s.failFeed k).settle else s)

/-- FEED_LOSS (R368): an active feed enters relock; `signal` says whether a signal is still there. -/
def execFeedLoss (feed : FeedId) (signal : Bool) (s : State) : Host.Outcome State Fault Refusal :=
  let k := feedKey feed
  let f := s.feed k
  .next (if f.stage = 5 ∧ isEth k = false then
      (((s.leaveActive k f).laneBits f (if signal then 1 else 0) 0).putFeed k { f with stage := 3, relock := true, record := 2 }).settle
    else s)

/-- BACKOFF_END (R369). -/
def execBackoffEnd (feed : FeedId) (s : State) : Host.Outcome State Fault Refusal :=
  let k := feedKey feed
  .next (if (s.feed k).stage = 7 then s.toDetect k (s.feed k) else s)

/-- FAULT_RETRY (R370). -/
def execFaultRetry (feed : FeedId) (s : State) : Host.Outcome State Fault Refusal :=
  let k := feedKey feed
  .next (if (s.feed k).stage = 8 then s.toDetect k (s.feed k) else s)

/-- The far end of RETRAIN (R379): the lane's whole feed goes to stage 1, no failure counted. -/
def State.retrainLane (s : State) (l : Nat) : State :=
  match s.laneFeed l with
  | some (k, f) =>
    if f.stage = 0 ∨ f.stage = 0xA then s
    else ((s.leaveActive k f).toDetect k { f with record := if f.stage = 5 then 2 else f.record }).settle
  | none => s

/-! ### Calibration in service -/

/-- Activity in percent, rounded (R372). -/
def activity (blocks nonFill : Nat) : Nat := if blocks = 0 then 0 else min 100 ((200 * nonFill + blocks) / (2 * blocks))

/-- Some lane of the octet has provisional trims in force. -/
def State.octetProv (s : State) (n : Nat) : Bool := (octetLanes n).any (fun l => s.ln l F.LN_META_PROVISIONAL == 1)

/-- R377: the run of busy windows, as (windows since the last busy one, windows of the run). -/
def busyNext (period : Nat) (b : Nat × Nat) (busy : Bool) : Nat × Nat :=
  if busy then (0, b.2 + 1)
  else if b.2 = 0 ∨ period < (b.1 + 1) * 100000 then (0, 0)
  else (b.1 + 1, b.2 + 1)

/-- A lane has a role of the configuration in force (R353). -/
def State.hasRole (s : State) (l : Nat) : Bool := decide (1 ≤ s.ln l F.LN_STAT_ROLE ∧ s.ln l F.LN_STAT_ROLE ≤ 3)

/-- Lanes that take statistics: in stage 2, in stage 5, and in test mode. -/
def State.gathers (s : State) (l : Nat) : Bool := [2, 5, 9].contains (s.ln l F.LN_STAT_STAGE)

/-- ACTIVITY_WINDOW (R372, R377). -/
def execActivityWindow (octet : OctetNo) (blocks nonFill : Nat) (s : State) : Host.Outcome State Fault Refusal :=
  let n := octet.val
  let used := (octetLanes n).any s.hasRole && blocks != 0
  let w := if used then (blocks, min nonFill blocks) else (1, 0)
  let b := if s.octetProv n then busyNext s.cyc.period (look (0, 0) s.busy n) (decide (60 * w.1 < 100 * w.2)) else (0, 0)
  let s := s.each ((octetLanes n).filter s.gathers) (fun s l => s.setLane l { s.lane l with wins := w :: (s.lane l).wins })
  .next ((({ s with busy := ins (0, 0) n b s.busy } : State).setFld (pSer n) F.SER_ACT_ACT (activity w.1 w.2)).setFld (pSer n)
    F.SER_ACT_BUSY_RUN_MS (min (b.2 / 10) 65535))

/-- The receiver trim fields of R358 in the words LN_CTLE to LN_THRESH: word, low bit, width. -/
def trimFields : List (Nat × Nat × Nat) :=
  [(1, 8, 5), (1, 0, 5), (2, 0, 8), (2, 8, 6), (2, 14, 6), (2, 20, 6), (2, 26, 6), (3, 0, 6), (3, 6, 6), (3, 12, 6),
   (3, 18, 6), (3, 24, 6), (4, 0, 6), (4, 6, 6), (5, 0, 8), (5, 8, 8), (5, 16, 8), (5, 24, 8), (6, 0, 8), (6, 8, 8), (6, 16, 8)]

/-- The step names a receiver trim. -/
def trimValid (t : TrimStep) : Bool := trimFields.contains (t.word.val, t.lo.val, t.width.val)
/-- Two steps of one field. -/
def trimSame (t u : TrimStep) : Bool := t.word == u.word && t.lo == u.lo && t.width == u.width
/-- The steps that are frozen at this time are left out (R375). -/
def State.thawed (s : State) (l : Nat) (ts : List TrimStep) : List TrimStep :=
  ts.filter (fun t => trimValid t && !(s.lane l).frozen.any (fun z => trimSame z.1 t && decide (s.clk.free < z.2)))

/-- The code of a field as a number: VGA and PEAK are unsigned (R358). -/
def trimNum (t : TrimStep) (n : Nat) : Int := if t.word = 1 then (n % 2 ^ t.width.val : Nat) else toS t.width n
/-- Code in force of a field. -/
def State.trimCode (s : State) (l : Nat) (t : TrimStep) : Nat := bitsOf (s.reg (lnTrim l t.word)).toNat t.lo t.width
/-- Set a field's code. -/
def State.setTrim (s : State) (l : Nat) (t : TrimStep) (code : Nat) : State :=
  s.setReg (lnTrim l t.word) (BitVec.ofNat 32 (setBits (s.reg (lnTrim l t.word)).toNat t.lo t.width code))
/-- The field has reached its target. -/
def State.trimThere (s : State) (l : Nat) (t : TrimStep) : Bool := s.trimCode l t == t.code % 2 ^ t.width.val

/-- One step of a code towards a target. -/
def towards (a b : Int) : Int := if a < b then a + 1 else if b < a then a - 1 else a

/-- Move fields one step each toward their targets; the old codes stay for a revert (R374, R375, R377). -/
def State.moveTrims (s : State) (l : Nat) (ts : List TrimStep) : State :=
  let ts := ts.filter (fun t => !s.trimThere l t)
  let old := ts.map (fun t => { t with code := s.trimCode l t })
  (s.each ts (fun s t => s.setTrim l t (ofS t.width (towards (trimNum t (s.trimCode l t)) (trimNum t t.code))))).setLane l
    { s.lane l with last := old }

/-- The lane is in stage 5. -/
def State.inService (s : State) (l : Nat) : Bool := s.ln l F.LN_STAT_STAGE == 5
/-- The lane is in test mode. -/
def State.inTest (s : State) (l : Nat) : Bool := s.ln l F.LN_STAT_ROLE == 4

/-- Statistics of a lane: eye heights, corrected symbols and codewords (R347, R391). -/
def State.laneStats (s : State) (l : Nat) (eye : Word) (syms cws : Nat) : State :=
  let s := (s.setReg (pSer (l / 8) + F.LN_EYE_EH_L.off + 0x80 * (l % 8)) (eye &&& 0xFFFFFF)).incLn l F.LN_CORR_CNT_CORR_CNT syms
  match s.laneFeed l with
  | some (k, _) =>
    if isEth k then s.inc (pEth (k - 1024)) F.ETH_FEC_CORR_CNT_CORR_CNT 0 cws
    else s.inc (pWl (k / 2)) F.WL_FEC_CORR_CNT_CORR_CNT 0 cws
  | none => s

/-- The record after a tracking step (R376). -/
def State.trackMeta (s : State) (l act : Nat) : State :=
  let s := (s.setS (pSer (l / 8)) F.LN_META_TEMP (s.octetTemp (l / 8)) (l % 8)).setLn l F.LN_META_SOURCE 2
  if s.ln l F.LN_META_PROVISIONAL = 1 then s.markAct l act else s

/-- Queue the steps of a tracking round; a test lane does not wait (R373, R374, R382). -/
def State.queueTrims (s : State) (l : Nat) (ts : List TrimStep) : State :=
  let ts := (s.thawed l ts).filter (fun t => !s.trimThere l t)
  if s.inTest l then s.moveTrims l ts
  else
    let r := s.lane l
    s.setLane l { r with pend := ts ++ r.pend.filter (fun t => !ts.any (fun u => trimSame u t)) }

/-- The windows of a tracking step that are eligible (R373). -/
def State.eligible (s : State) (l : Nat) : List (Nat × Nat) :=
  if s.ln l F.LN_META_PROVISIONAL = 1 then (s.lane l).wins else busyWindows 1 4 (s.lane l).wins

/-- TRIM_TRACK (R373, R376): every 10 ms. Without an eligible window nothing changes. -/
def execTrimTrack (lane : LaneNo) (steps : List TrimStep) (eye : Word) (corrSymbols corrWords : Nat) (s : State) :
    Host.Outcome State Fault Refusal :=
  let l := lane.val
  .next (if s.inService l || s.inTest l then
      let s := s.laneStats l eye corrSymbols corrWords
      let r := s.lane l
      if r.gathering || r.moving then s
      else
        let ws := s.eligible l
        let s := s.setLane l { r with wins := [] }
        if ws.isEmpty then s else ((s.queueTrims l steps).trackMeta l (meanActivity ws)).settle
    else s)

/-- Every target is reached: the re-gathered record (R376, R377, R379). -/
def State.regatherDone (s : State) (l : Nat) : State :=
  let r := s.lane l
  if r.moving && (r.targets.filter trimValid).all (s.trimThere l) then
    let s := (s.setLane l { r with moving := false, targets := [] }).setLn l F.LN_META_SOURCE 3
    if r.fromHost then s.markAct l r.targetAct
    else ((s.setLn l F.LN_META_ACT r.targetAct).setLn l F.LN_META_PROVISIONAL 0).setCond (pSer (l / 8)) 4
  else s

/-- TRIM_STEP_APPLY (R374, R377): the waiting steps take effect in a FILL window or at an FEC boundary. -/
def execTrimStepApply (lane : LaneNo) (s : State) : Host.Outcome State Fault Refusal :=
  let l := lane.val
  .next (if s.inService l then
      let r := s.lane l
      if r.moving then ((s.moveTrims l (s.thawed l r.targets)).regatherDone l).settle
      else if r.pend.isEmpty then s
      else (s.moveTrims l (s.thawed l r.pend)).setLane l { (s.moveTrims l (s.thawed l r.pend)).lane l with pend := [] }
    else s)

/-- TRIM_STEP_DROP (R374): no FILL window within 100 ms; a re-gather goes on with its next steps. -/
def execTrimStepDrop (lane : LaneNo) (s : State) : Host.Outcome State Fault Refusal :=
  let l := lane.val
  let r := s.lane l
  let lost := if r.moving then (s.thawed l r.targets).filter (fun t => !s.trimThere l t) else r.pend
  .next (if s.inService l then (s.incLn l F.LN_TRIM_CNT_NOFILL_CNT lost.length).setLane l { r with pend := [] } else s)

/-- The steps applied last come back; their fields freeze for 1 s (R375). -/
def State.revertTrims (s : State) (l : Nat) : State :=
  let r := s.lane l
  let s := s.each r.last (fun s t => s.setTrim l t t.code)
  let frozen := r.last.map (fun t => (t, s.clk.free + 10 ^ 9)) ++ r.frozen.filter (fun z => decide (s.clk.free < z.2))
  ((s.setLane l { r with last := [], frozen := frozen }).incLn l F.LN_TRIM_CNT_REVERT_CNT r.last.length).setCond (pSer (l / 8)) 5

/-- TRIM_REVERT (R375): corrected symbols over 10 ms before and after the step. -/
def execTrimRevert (lane : LaneNo) (before after : Nat) (s : State) : Host.Outcome State Fault Refusal :=
  let l := lane.val
  .next (if s.inService l = true ∧ (s.lane l).last ≠ [] ∧ 2 * before < after ∧ before + 64 ≤ after then (s.revertTrims l).settle else s)

/-- REGATHER_START (R377, R389). -/
def execRegatherStart (lane : LaneNo) (s : State) : Host.Outcome State Fault Refusal :=
  let l := lane.val
  let r := s.lane l
  .next (if s.inService l && !r.gathering && !r.moving && s.ln l F.LN_META_PROVISIONAL == 1 &&
        decide (1000 ≤ s.fld (pSer (l / 8)) F.SER_ACT_BUSY_RUN_MS) then
      s.setLane l { r with gathering := true, fromHost := false, pend := [], wins := [] }
    else s)

/-- LN_CMD REGATHER (R379). -/
def State.hostRegather (s : State) (l : Nat) : State :=
  let r := s.lane l
  if s.inService l && !r.gathering && !r.moving then
    s.setLane l { r with gathering := true, fromHost := true, pend := [], wins := [] }
  else s

/-- REGATHER_GATHER_END (R377 to R379): the targets of the statistics, from windows with A of 60 % or more, or from
every window when a host asked. With no such window there are no statistics and the re-gather ends. -/
def execRegatherGatherEnd (lane : LaneNo) (targets : List TrimStep) (s : State) : Host.Outcome State Fault Refusal :=
  let l := lane.val
  let r := s.lane l
  let ws := if r.fromHost then r.wins else busyWindows 3 5 r.wins
  .next (if s.inService l && r.gathering then
      if ws.isEmpty then s.setLane l { r with gathering := false, wins := [] }
      else (((s.setLane l
          { r with gathering := false, moving := true, targets := targets, targetAct := meanActivity ws, wins := [] }).setS
        (pSer (l / 8)) F.LN_META_TEMP (s.octetTemp (l / 8)) (l % 8)).regatherDone l).settle
    else s)

/-! ### Test mode (R382 to R385) -/

/-- Degree and taps of a PRBS: bit i is the sum of the bits that many places before it. -/
def prbsTaps (pattern : Nat) : List Nat :=
  [[7, 6], [9, 5], [13, 12, 2, 1], [15, 14], [23, 18], [31, 28]].getD pattern []

/-- Where a generator starts; a PRBS never from all zeros. -/
def patternStart (pattern lane : Nat) : Nat :=
  match prbsTaps pattern with
  | [] => 0
  | n :: _ => let x := Config.testSeed lane % 2 ^ n; if x = 0 then 2 ^ n - 1 else x

/-- Enter test mode, or wait while SERREF is in fault (R389): the preset record or the defaults, counters at 0, the
generator at its start. -/
def State.beginTest (s : State) (l : Nat) (fresh : Bool) : State :=
  let s := (s.writeTrims l 0 (s.presetTrims l)).setLane l
    { LaneRt.idle with test := { LaneRt.idle.test with gen := patternStart (s.ln l F.LN_TEST_PATTERN) l } }
  let s := ((s.setLn l F.LN_STAT_ROLE 4).setLn l F.LN_STAT_STAGE (if s.refBad (l / 8) then 0xA else 9)).setLn l F.LN_TEST_STAT_TEST_ERR 0
  s.when fresh (fun s => (s.setLn l F.LN_TEST_ERR_CNT_ERR_CNT 0).setLn l F.LN_TEST_BITS_CNT_BITS_CNT 0)

/-- The word of LN_TEST has been written; `was` is EN before (R382). -/
def State.testWritten (s : State) (l : Nat) (was : Bool) : State :=
  let n := l / 8
  if s.ln l F.LN_TEST_EN = 0 then
    if was then (s.endTest l false).planPlls n else s
  else
    let s := s.when was (fun s => (s.setLn l F.LN_STAT_ROLE 0).setLn l F.LN_STAT_STAGE 0)
    let need := s.roleFreqs n ++ (s.testLanes n).map s.laneFreq
    match (if s.ln l F.LN_STAT_ROLE = 0 then fillPll (keepPll need (s.plls n)) (rateFreq (s.ln l F.LN_TEST_RATE)) else none) with
    | some ab => ((s.setPlls n ab).beginTest l (!was)).when (s.ln l F.LN_TEST_CHECK_EN == 0) (·.setLn l F.LN_TEST_STAT_SYNC 0)
    | none =>
      if s.ln l F.LN_STAT_ROLE = 0 then (s.endTest l true).planPlls n
      else (s.setLn l F.LN_TEST_EN 0).setLn l F.LN_TEST_STAT_TEST_ERR 1

/-- PLL_LOCK_LOSS (R392). -/
def execPllLockLoss (octet : OctetNo) (pllB : Bool) (s : State) : Host.Outcome State Fault Refusal :=
  let f := if pllB then F.SER_STAT_PLL_B_LOCK else F.SER_STAT_PLL_A_LOCK
  .next (if s.fld (pSer octet) f = 1 then (s.setFld (pSer octet) f 0).raise (pSer octet) 7 else s)

end Sys2Proof.Machine
end

