-- ==== Sys2Proof/Machine/Line.lean ====
section
/-!
DEFINITION. The line: blocks, RS(272,257) codewords and scramblers of Wickline lanes (R298 to R309, R331,
R366), training frames (R362), the transmitted sample (R355), test patterns and their checker (R383 to R385), and what
passes in one cycle of the 1.0 GHz clock (R393).
-/
namespace Sys2Proof.Machine

/-! ### GF(2^10) and RS(272,257) (R299) -/

/-- Multiply by α: the field polynomial is x^10 + x^3 + 1. -/
def gfX (a : Nat) : Nat := if a < 512 then 2 * a else Nat.xor (2 * a) 0x409
/-- Product. -/
def gfMul (a b : Nat) : Nat :=
  (List.range 10).foldr (fun i acc => if bit b i then Nat.xor (gfX acc) a else gfX acc) 0
/-- α^n. -/
def gfPow (n : Nat) : Nat := iter gfX (n % 1023) 1
/-- Inverse: a^1022, 1022 being the sum of the powers of two from 2 to 512. -/
def gfInv (a : Nat) : Nat :=
  ((List.range 9).foldl (fun (st : Nat × Nat) _ => let q := gfMul st.1 st.1; (q, gfMul st.2 q)) (a, 1)).2

/-- Sum of two polynomials of one length, or of the longer one's. -/
def gfAdd : List Nat → List Nat → List Nat
  | [], q => q
  | p, [] => p
  | a :: p, b :: q => Nat.xor a b :: gfAdd p q

/-- g(x) = (x - α^0) … (x - α^14), highest power first. -/
def rsGen : List Nat :=
  (List.range 15).foldl (fun g i => gfAdd (g ++ [0]) (0 :: g.map (gfMul (gfPow i)))) [1]

/-- The 15 parity symbols of a message: what remains of message · x^15 on division by g. -/
def rsParity (msg : List Nat) : List Nat :=
  msg.foldl (fun r m => gfAdd (r.drop 1 ++ [0]) ((rsGen.drop 1).map (gfMul (Nat.xor m (r.headD 0))))) (List.replicate 15 0)

/-- A codeword: 257 message symbols and their parity. -/
def rsEncode (msg : List Nat) : List Nat := msg ++ rsParity msg

/-- Value of a polynomial, highest power first. -/
def gfEval (p : List Nat) (x : Nat) : Nat := p.foldl (fun v c => Nat.xor (gfMul v x) c) 0

/-- The 15 syndromes of a received word. -/
def rsSyndromes (w : List Nat) : List Nat := (List.range 15).map (fun i => gfEval w (gfPow i))

/-- One step of the search for the shortest recurrence of the syndromes (Berlekamp and Massey): the recurrence and the
last one of smaller length, lowest power first, its length, the shift, the last discrepancy. -/
def rsStep (syn : List Nat) (st : List Nat × List Nat × Nat × Nat × Nat) (n : Nat) :
    List Nat × List Nat × Nat × Nat × Nat :=
  let (c, b, l, m, d0) := st
  let d := (List.range (l + 1)).foldl (fun v i => Nat.xor v (gfMul (c.getD i 0) (syn.getD (n - i) 0))) 0
  if d = 0 then (c, b, l, m + 1, d0)
  else
    let c' := gfAdd c (List.replicate m 0 ++ b.map (gfMul (gfMul d (gfInv d0))))
    if 2 * l ≤ n then (c', c, n + 1 - l, 1, d) else (c', b, l, m + 1, d0)

/-- The error locator, lowest power first, and the number of errors. -/
def rsLocator (syn : List Nat) : List Nat × Nat :=
  let st := (List.range 15).foldl (rsStep syn) ([1], [1], 0, 1, 1)
  (st.1, st.2.2.1)

/-- Value at the error at power j of the received word, from the locator and the syndromes (Forney). -/
def rsValue (syn loc : List Nat) (j : Nat) : Nat :=
  let x := gfPow (1023 - j % 1023)
  let omega := (List.range 15).map (fun i =>
    (List.range (i + 1)).foldl (fun v k => Nat.xor v (gfMul (loc.getD k 0) (syn.getD (i - k) 0))) 0)
  let slope := loc.mapIdx (fun i a => if i % 2 = 1 then a else 0)
  gfMul (gfPow j) (gfMul (gfEval omega.reverse x) (gfInv (gfMul (gfEval slope.reverse x) (gfInv x))))

/-- Decode a received codeword of 272 symbols: its message and the number of symbols corrected, at most 7; none when it
is uncorrectable (R299, R305). -/
def rsDecode (w : List Nat) : Option (List Nat × Nat) :=
  if w.length ≠ 272 then none
  else
    let syn := rsSyndromes w
    if syn.all (· == 0) then some (w.take 257, 0)
    else
      let (loc, n) := rsLocator syn
      let bad := (List.range 272).filter (fun j => gfEval loc.reverse (gfPow (1023 - j)) == 0)
      if 7 < n ∨ bad.length ≠ n then none
      else
        let v := w.mapIdx (fun i a => if bad.contains (271 - i) then Nat.xor a (rsValue syn loc (271 - i)) else a)
        if (rsSyndromes v).all (· == 0) then some (v.take 257, n) else none

/-! ### Bits and blocks (R298, R300, R302) -/

/-- The w bits of a number, most significant first. -/
def msbBits (w n : Nat) : List Bool := (List.range w).map (fun i => n.testBit (w - 1 - i))
/-- The number of bits, most significant first. -/
def ofMsb (bs : List Bool) : Nat := bs.foldl (fun n b => 2 * n + b.toNat) 0
/-- Bytes as bits, each most significant bit first. -/
def byteBits (bs : List Byte) : List Bool := (bs.map (fun b => msbBits 8 b.toNat)).flatten
/-- A list cut into n pieces of length k. -/
def cutInto {α : Type} (k : Nat) : Nat → List α → List (List α)
  | 0, _ => []
  | n + 1, l => l.take k :: cutInto k n (l.drop k)
/-- Bytes to a length with 0x00 behind. -/
def padTo (n : Nat) (bs : List Byte) : List Byte := bs.take n ++ List.replicate (n - bs.length) 0

/-- A 257-bit block: header bit and 32 bytes. -/
structure Block where
  start : Bool
  bytes : List Byte
  deriving DecidableEq, Repr

/-- One bit through the scrambler 1 + x^39 + x^58, whose last 58 line bits are `st`, newest lowest. -/
def scrambleBit (st : Nat) (d : Bool) : Nat × Bool :=
  let b := xor d (xor (bit st 38) (bit st 57))
  ((2 * st + b.toNat) % 2 ^ 58, b)
/-- One line bit through the descrambler. -/
def descrambleBit (st : Nat) (b : Bool) : Nat × Bool :=
  ((2 * st + b.toNat) % 2 ^ 58, xor b (xor (bit st 38) (bit st 57)))
/-- Bits through a scrambler or descrambler, in order. -/
def throughBits (f : Nat → Bool → Nat × Bool) : Nat → List Bool → Nat × List Bool
  | st, [] => (st, [])
  | st, d :: t =>
    let x := f st d
    let y := throughBits f x.1 t
    (y.1, x.2 :: y.2)

/-- The message bits of ten blocks: header bits as they are, payload bits scrambled. -/
def codewordBits : Nat → List Block → Nat × List Bool
  | st, [] => (st, [])
  | st, b :: t =>
    let x := throughBits scrambleBit st (byteBits b.bytes)
    let y := codewordBits x.1 t
    (y.1, (b.start :: x.2) ++ y.2)

/-- Ten blocks as the 272 symbols of a codeword, and the scrambler after them (R298 to R300). -/
def encodeBlocks (st : Nat) (bs : List Block) : Nat × List Nat :=
  let x := codewordBits st bs
  (x.1, rsEncode ((cutInto 10 257 x.2).map ofMsb))

/-- The blocks of a codeword's message bits, and the descrambler after them. -/
def decodeBits : Nat → List (List Bool) → Nat × List Block
  | st, [] => (st, [])
  | st, b :: t =>
    let x := throughBits descrambleBit st (b.drop 1)
    let y := decodeBits x.1 t
    (y.1, ⟨b.headD false, (cutInto 8 32 x.2).map (fun p => BitVec.ofNat 8 (ofMsb p))⟩ :: y.2)

/-- The ten blocks of a decoded message (R298, R300). -/
def decodeBlocks (st : Nat) (msg : List Nat) : Nat × List Block :=
  decodeBits st (cutInto 257 10 (msg.map (msbBits 10)).flatten)

/-- PAM4 level of two bits, Gray-coded (R384). -/
def grayLevel (a b : Bool) : Nat := if a then (if b then 2 else 3) else (if b then 1 else 0)
/-- The two bits of a PAM4 level. -/
def levelBits (l : Nat) : List Bool := [decide (2 ≤ l), decide (l = 1 ∨ l = 2)]
/-- Bits as PAM4 levels. -/
def grayLevels : List Bool → List Nat
  | a :: b :: t => grayLevel a b :: grayLevels t
  | _ => []

/-- Control blocks of R302. -/
def fillBlock : Block := ⟨true, padTo 32 [0xF1]⟩
/-- ALIGN of a lane of W with its codeword count. -/
def alignBlock (lane w count : Nat) : Block :=
  ⟨true, padTo 32 ([0xA1, BitVec.ofNat 8 lane, BitVec.ofNat 8 w] ++ beBytes 4 count)⟩
/-- CAP: sender, YOUR_POS, and all three widths (R297, R331). -/
def capBlock (sender pos : Nat) : Block := ⟨true, padTo 32 [0xC1, BitVec.ofNat 8 sender, BitVec.ofNat 8 pos, 7]⟩
/-- PDRESP (R334). -/
def pdrespBytes (seq : Byte) (turnaround : Word) : List Byte := padTo 32 ([0xD2, seq] ++ beBytes 4 turnaround.toNat)

/-! ### What a feed's transmitters send (R303 to R309) -/

/-- Bytes of a packet on the line: words most significant byte first, the trailer least significant byte first (R307,
R308). -/
def packetBytes (ws : List Nat) : List Byte := (ws.map (beBytes 8)).flatten ++ leBytes 4 (packetCrc ws)

/-- TYPE and TILE of a packet. -/
def packetKey (ws : List Nat) : Nat := ws.headD 0 / 2 ^ 47

/-- A packet continues at the next byte behind one of a key: LAMP behind LAMP for the same tile (R309). -/
def joins (key : Nat) (ws : List Nat) : Bool := key / 2 ^ 13 == 2 && packetKey ws == key

/-- Bytes for a block, with the packets that join while there is room. -/
def joinBytes (acc : List Byte) (key : Nat) : List (List Nat) → List Byte × Nat × List (List Nat)
  | [] => (acc, key, [])
  | p :: q => if acc.length < 32 ∧ joins key p = true then joinBytes (acc ++ packetBytes p) key q else (acc, key, p :: q)

/-- TIME carries engine time, in 2^-16 ns, at its timestamp point (R317). -/
def stampTime (t : Nat) (ws : List Nat) : List Nat :=
  if ws.headD 0 / 2 ^ 60 = 3 then [ws.headD 0, t % 2 ^ 64] else ws

/-- A data block from bytes in progress. -/
def LineTx.data (tx : LineTx) (start : Bool) (bs : List Byte) (key : Nat) (queue : List (List Nat)) : Block × LineTx :=
  let x := joinBytes bs key queue
  (⟨start, padTo 32 x.1⟩, { tx with rest := x.1.drop 32, key := x.2.1, queue := x.2.2, sinceFill := tx.sinceFill + 1 })

/-- The next block: PDRESP, FILL when 4,095 blocks have passed without one (R306), the packet in progress, the next
packet, or FILL. `t` is the time at which its header bit leaves. -/
def LineTx.next (tx : LineTx) (t : Nat) : Block × LineTx :=
  match tx.resp with
  | b :: r => (⟨true, b⟩, { tx with resp := r })
  | [] =>
    if 4095 ≤ tx.sinceFill then (fillBlock, { tx with sinceFill := 0 })
    else if tx.rest ≠ [] then tx.data false tx.rest tx.key tx.queue
    else match tx.queue with
      | p :: q => tx.data true (packetBytes (stampTime t p)) (packetKey p) q
      | [] => (fillBlock, { tx with sinceFill := 0 })

/-- The blocks of a codeword from position i on, n of them; block j leaves 257 j / 56 ns after time `t`. -/
def LineTx.blocks (t : Nat) : Nat → Nat → LineTx → List Block × LineTx
  | 0, _, tx => ([], tx)
  | n + 1, i, tx =>
    let x := tx.next (t + i * 257 * 2 ^ 16 / 56)
    let y := LineTx.blocks t n (i + 1) x.2
    (x.1 :: y.1, y.2)

/-- A CAP block is due in codeword k of the stream (R361, R366). -/
def LineTx.capDue (tx : LineTx) (k : Nat) : Bool :=
  if tx.mode = 4 ∨ (tx.mode = 5 ∧ 0 < tx.more) then k % 16 == 0 else tx.mode == 5 && k % 4096 == 0

/-- The codeword of lane i of W: ALIGN first where the lane's count is a multiple of 4,096, then CAP (R301, R304). -/
def LineTx.codeword (tx : LineTx) (t i w sender pos : Nat) : List Nat × LineTx :=
  let k := tx.count
  let first := (if k / w % 4096 = 0 then [alignBlock i w (k / w)] else []) ++ (if tx.capDue k then [capBlock sender pos] else [])
  let x := tx.blocks t (10 - first.length) first.length
  let y := encodeBlocks (x.2.scram.getD i 0) (first ++ x.1)
  (y.2, { x.2 with count := k + 1, more := if tx.mode = 5 then tx.more - 1 else tx.more, scram := x.2.scram.set i y.1 })

/-! ### Training frames (R362) -/

/-- A bit of a control or status field as four symbols. -/
def trainSymbols (b : Bool) : List Nat := if b then [3, 3, 0, 0] else [0, 0, 3, 3]

/-- The n-th training frame of a lane. -/
def trainingSymbols (control status n : Nat) : List Nat :=
  List.replicate 32 3 ++ List.replicate 32 0 ++ ((msbBits 32 control).map trainSymbols).flatten ++
    ((msbBits 32 status).map trainSymbols).flatten ++ (List.range 3776).map (fun i => Config.qprbs13 (3776 * n + i) % 4)

/-! ### The transmitted sample (R355) -/

/-- The samples y(n) of R355 in 1/384 mV, for all symbols but the first and the last of a stretch of levels. -/
def sampleValues (amp pre post : Nat) : List Nat → List Int
  | a :: b :: c :: t =>
    let x (l : Nat) : Int := 2 * l - 3
    (700 + 25 * amp : Nat) * (-pre * x c + (64 - pre - post) * x b - post * x a) :: sampleValues amp pre post (b :: c :: t)
  | _ => []

/-- A lane sends symbols behind the two sent last: their samples leave as their successors are known. -/
def State.sendSymbols (s : State) (l : Nat) (hist : Nat × Nat) (levels : List Nat) : State :=
  s.emit (.line l levels (sampleValues (s.ln l F.LN_CFG_AMP) (s.ln l F.LN_TXFFE_PRE) (s.ln l F.LN_TXFFE_POST)
    (hist.1 :: hist.2 :: levels)))

/-- The last two symbols of a stretch. -/
def lastTwo (hist : Nat × Nat) (levels : List Nat) : Nat × Nat :=
  match levels.reverse with
  | b :: a :: _ => (a, b)
  | [b] => (hist.2, b)
  | [] => hist

/-! ### One nanosecond of a feed's line -/

/-- What a feed's transmitters send in its stage (R361); frames and codewords that follow stage 2 and stage 4 are
counted by `more`. -/
def Feed.sends (f : Feed) (tx : LineTx) : Nat :=
  match f.stage with
  | 1 => 1
  | 2 => 2
  | 3 | 4 | 5 => if tx.mode = 2 then 6 else if tx.mode = 6 ∧ 0 < tx.more then 6 else f.stage
  | _ => 0

/-- Enter a mode: 64 frames follow stage 2, CAP in 64 codewords follows stage 4; the codeword count goes on through
stages 3 to 5 and relock (log 63). -/
def LineTx.enter (tx : LineTx) (key w m : Nat) : LineTx :=
  if m = tx.mode then tx
  else
    let tx' := { tx with mode := m, more := if m = 6 then 64 else if m = 5 ∧ tx.mode = 4 then 64 else 0 }
    if m = 6 ∨ (3 ≤ tx.mode ∧ tx.mode ≤ 5 ∧ 3 ≤ m ∧ m ≤ 5) then tx'
    else { tx' with phase := 0, count := 0, sinceFill := 0,
                    scram := if 3 ≤ m then (List.range w).map (fun i => Config.scrambler (8 * key + i) % 2 ^ 58) else [],
                    hist := List.replicate w (0, 0) }

/-- Outputs of the block for a feed since the line last looked: packets wait in order, PDRESP blocks too. -/
def LineTx.absorb (tx : LineTx) (key : Nat) (out : List Out) : LineTx :=
  { (out.drop tx.taken).foldl (fun tx o =>
      match o with
      | .packet l sec ws _ => if 2 * l + (if sec then 1 else 0) = key then { tx with queue := tx.queue ++ [ws.map (·.toNat)] } else tx
      | .pdresp (.wl l sec) seq ta =>
        if 2 * l.val + (if sec then 1 else 0) = key then { tx with resp := tx.resp ++ [pdrespBytes seq ta] } else tx
      | _ => tx) tx with taken := out.length }

/-- YOUR_POS that the engine sends (R331): 0 on a primary feed; on a secondary one the highest POS of an enabled tile of
the link, or 0xFF for none. -/
def yourPos (c : Sparse Word) (key : Nat) : Nat :=
  if key % 2 = 0 then 0 else (((tilesOf c).filter (fun t => t.link == key / 2)).map (·.pos)).foldl (fun m p => if m = 0xFF then p else max m p) 0xFF

/-- 1/7 ns that one training frame (4,096 symbols at 28 GBd), one codeword (1,360 symbols) or the wait between detect
pulses (1 ms) lasts. -/
def unitTime (m : Nat) : Nat := if m = 1 then 7000000 else if m = 2 ∨ m = 6 then 1024 else 340

/-- The next frame or codeword of every lane of a feed, or a detect pulse, which begins `phase` / 7 ns before now. -/
def State.sendUnit (s : State) (key : Nat) (f : Feed) (tx : LineTx) : State × LineTx :=
  if tx.mode = 1 then (s.each f.lanes (fun s l => s.emit (.detectPulse l)), tx)
  else
    (List.range f.width).foldl (fun (st : State × LineTx) i =>
      let l := f.lane + i
      let h := st.2.hist.getD i (0, 0)
      if tx.mode = 2 ∨ tx.mode = 6 then
        let ls := trainingSymbols (st.1.trainControl l) (st.1.trainStatus l) tx.count
        let last := i + 1 == f.width
        (st.1.sendSymbols l h ls, { st.2 with hist := st.2.hist.set i (lastTwo h ls), count := if last then tx.count + 1 else tx.count,
                                              more := if last then tx.more - 1 else tx.more })
      else
        let x := st.2.codeword (st.1.clk.time - tx.phase * 2 ^ 16 / 7) i f.width (1 + key % 2) (yourPos st.1.force key)
        let ls := grayLevels ((x.1.map (msbBits 10)).flatten)
        (st.1.sendSymbols l h ls, { x.2 with hist := x.2.hist.set i (lastTwo h ls) })) (s, tx)

/-- One nanosecond of a Wickline feed's line. -/
def State.lineTick (s : State) (key : Nat) (f : Feed) : State :=
  let r := s.line key
  let tx := (r.tx.absorb key s.out).enter key f.width (f.sends r.tx)
  if tx.mode = 0 then s.setLine key { r with tx := tx }
  else if tx.phase + 7 < unitTime tx.mode then s.setLine key { r with tx := { tx with phase := tx.phase + 7 } }
  else
    let x := s.sendUnit key f { tx with phase := tx.phase + 7 - unitTime tx.mode }
    x.1.setLine key { r with tx := x.2 }

/-! ### Test patterns (R383 to R385) -/

/-- The next bit of a pattern at a position. A PRBS's position is its last bits, newest lowest; of the other patterns it
is the number of bits before. -/
def patternBit (pattern : Nat) (user : Nat) (pam4 : Bool) (p : Nat) : Bool :=
  match prbsTaps pattern with
  | [] =>
    if pattern = 9 then bit user (63 - p % 64)
    else if pattern = 8 then (if pam4 then p / 2 % 16 < 8 && p % 2 == 0 else decide (p % 16 < 8))
    else (levelBits ((if pattern = 6 then Config.qprbs13 (p / 2) else Config.ssprq (p / 2)) % 4)).getD (p % 2) false
  | ts => ts.foldl (fun b t => xor b (bit p (t - 1))) false

/-- The position after a bit. -/
def patternNext (pattern : Nat) (b : Bool) (p : Nat) : Nat :=
  match prbsTaps pattern with
  | [] => p + 1
  | n :: _ => (2 * p + b.toNat) % 2 ^ n

/-- n bits of a pattern from a position, and the position after them. -/
def patternBits (pattern user : Nat) (pam4 : Bool) : Nat → Nat → List Bool × Nat
  | 0, p => ([], p)
  | n + 1, p =>
    let b := patternBit pattern user pam4 p
    let x := patternBits pattern user pam4 n (patternNext pattern b p)
    (b :: x.1, x.2)

/-- The position after 64 received bits that match a pattern, none where they do not (R385). -/
def matchBits (pattern user : Nat) (pam4 : Bool) (bits : Nat) : Option Nat :=
  let bs := msbBits 64 bits
  match prbsTaps pattern with
  | [] =>
    let span := if pattern = 9 then 64 else if pattern = 8 then 32 else 2 ^ 17
    ((List.range span).find? (fun p => (patternBits pattern user pam4 64 p).1 == bs)).map (· + 64)
  | n :: _ =>
    let p := ofMsb (bs.take n)
    if p ≠ 0 ∧ (patternBits pattern user pam4 (64 - n) p).1 = bs.drop n then some (bits % 2 ^ n) else none

/-- What a checker did with some bits: its state, SYNC, bit errors counted, units of 2^16 bits. -/
structure Checked where
  rt : TestRt
  sync : Bool
  errors : Nat
  units : Nat
  deriving DecidableEq, Repr

/-- One received bit (R385): a synchronised checker counts; 32 errors among 64 bits lose SYNC. -/
def Checked.feed (pattern user : Nat) (pam4 : Bool) (c : Checked) (b : Bool) : Checked :=
  let r := { c.rt with bits := (2 * c.rt.bits + b.toNat) % 2 ^ 64, got := min (c.rt.got + 1) 64 }
  if c.sync then
    let want := patternBit pattern user pam4 r.expect
    let errs := (2 * r.errs + (xor want b).toNat) % 2 ^ 64
    let r := { r with expect := patternNext pattern want r.expect, errs := errs, part := (r.part + 1) % 2 ^ 16 }
    let c := { c with rt := r, errors := c.errors + (xor want b).toNat, units := c.units + (if r.part = 0 then 1 else 0) }
    if 32 ≤ ones errs 64 then { c with sync := false, rt := { r with got := 0, errs := 0 } } else c
  else
    match (if r.got = 64 then matchBits pattern user pam4 r.bits else none) with
    | some p => { c with rt := { r with expect := p, errs := 0 }, sync := true }
    | none => { c with rt := r }

/-- The lane's RATE is a PAM4 rate (R351). -/
def State.testPam4 (s : State) (l : Nat) : Bool := decide (s.ln l F.LN_TEST_RATE ≤ 2)
/-- The user pattern. -/
def State.testUser (s : State) (l : Nat) : Nat := s.ln l F.LN_TEST_USER_LO_USER + s.ln l F.LN_TEST_USER_HI_USER * 2 ^ 32
/-- Bits of received symbols after Gray decoding. -/
def symbolBits (pam4 : Bool) (ls : List Nat) : List Bool := if pam4 then (ls.map levelBits).flatten else ls.map (fun l => decide (2 ≤ l))
/-- Symbols of bits. -/
def bitSymbols (pam4 : Bool) (bs : List Bool) : List Nat := if pam4 then grayLevels bs else bs.map (fun b => if b then 3 else 0)

/-- The checker of a test lane receives symbols (R385, R392). -/
def State.check (s : State) (l : Nat) (levels : List Nat) : State :=
  if s.inTest l && s.ln l F.LN_TEST_CHECK_EN == 1 then
    let r := s.lane l
    let c := (symbolBits (s.testPam4 l) levels).foldl
      (Checked.feed (s.ln l F.LN_TEST_PATTERN) (s.testUser l) (s.testPam4 l)) ⟨r.test, s.ln l F.LN_TEST_STAT_SYNC == 1, 0, 0⟩
    let s := (s.setLane l { r with test := c.rt }).setLn l F.LN_TEST_STAT_SYNC c.sync.toNat
    let s := (s.incLn l F.LN_TEST_ERR_CNT_ERR_CNT c.errors).incLn l F.LN_TEST_BITS_CNT_BITS_CNT c.units
    s.when (decide (0 < c.errors)) (·.raise (pSer (l / 8)) 6)
  else s

/-- Polarity of a test lane's transmitter and receiver (R354). -/
def inverted (b : Nat) (ls : List Nat) : List Nat := if b = 1 then ls.map (3 - ·) else ls

/-- Symbols recovered from the receive balls of a test lane (R383): they go to the checker, and with LOOP 0x2 out again;
with LOOP 0x1 and 0x3 the checker has its own lane's generator. -/
def State.testReceive (s : State) (l : Nat) (ls : List Nat) : State :=
  let loop := s.ln l F.LN_TEST_LOOP
  if s.inTest l = false ∨ s.ln l F.LN_STAT_STAGE ≠ 9 ∨ loop = 1 ∨ loop = 3 then s
  else
    let r := s.lane l
    let s := s.when (loop == 2) (fun s => (s.sendSymbols l r.test.hist ls).setLane l
      { r with test := { r.test with hist := lastTwo r.test.hist ls } })
    s.check l (inverted (s.ln l F.LN_CFG_RX_INV) ls)

/-- CHECKER_SYNC_GAIN (R385): the symbols with which the checker finds its pattern. -/
def execCheckerSyncGain (lane : LaneNo) (symbols : List (Fin 4)) (s : State) : Host.Outcome State Fault Refusal :=
  .next (s.testReceive lane (symbols.map (·.val)))

/-- CHECKER_SYNC_LOSS (R385): the symbols in which it finds 32 errors among 64 bits. -/
def execCheckerSyncLoss (lane : LaneNo) (symbols : List (Fin 4)) (s : State) : Host.Outcome State Fault Refusal :=
  .next (s.testReceive lane (symbols.map (·.val)))

/-- Symbols of a rate in 32 ns (R351). -/
def rateSymbols (rate : Nat) : Nat := [0, 896, 850, 896, 825, 330].getD rate 0

/-- One nanosecond of a test lane's generator (R383, R384): LOOP 0x0 and 0x1 send to the balls, 0x1 and 0x3 to the lane's own
checker. -/
def State.testTick (s : State) (l : Nat) : State :=
  let r := s.lane l
  let loop := s.ln l F.LN_TEST_LOOP
  let due := r.test.clock + rateSymbols (s.ln l F.LN_TEST_RATE)
  let pam4 := s.testPam4 l
  let x := patternBits (s.ln l F.LN_TEST_PATTERN) (s.testUser l) pam4 (due / 32 * (if pam4 then 2 else 1)) r.test.gen
  let ls := bitSymbols pam4 x.1
  let tx := inverted (s.ln l F.LN_CFG_TX_INV) ls
  let h := if loop ≤ 1 then lastTwo r.test.hist tx else r.test.hist
  let s := s.when (decide (loop ≤ 1)) (·.sendSymbols l r.test.hist tx)
  let s := s.setLane l { r with test := { r.test with gen := x.2, clock := due % 32, hist := h } }
  if loop = 1 then s.check l (inverted (s.ln l F.LN_CFG_RX_INV) tx) else if loop = 3 then s.check l ls else s

/-- Lanes whose test generator runs. -/
def State.runningTests (s : State) : List Nat :=
  (List.range 64).foldl (fun l n => l ++ (s.testLanes n).filter (fun l => s.ln l F.LN_STAT_STAGE == 9)) []

/-- One cycle of the 1.0 GHz clock (R393): the free counter counts while the main domains run, the feeds' lines and the test
lanes go on. -/
def State.tick (s : State) : State :=
  if s.pow.up then
    let s := { s with clk := { s.clk with free := (s.clk.free + 1) % 2 ^ 64 } }
    let s := s.each (s.feeds.filter (fun e => !isEth e.1)) (fun s e => s.lineTick e.1 e.2)
    s.each s.runningTests (fun s l => s.testTick l)
  else s

end Sys2Proof.Machine
end

