-- ==== Sys2Proof/Machine/Memory.lean ====
section
/-!
DEFINITION. The GDDR6 subsystem (R447 to R476): training, tracking, refresh, EDC, panic and the
change of pin rate.
-/
namespace Sys2Proof.Machine

/-! ### Channels -/

/-- A channel with nothing in progress. -/
def ChanRt.idle : ChanRt := ⟨[], [], [], false, false, [], 0, [], none, false⟩
/-- A channel. -/
def State.chan (s : State) (c : Nat) : ChanRt := look ChanRt.idle s.chans c
/-- Replace it; GATHERING shows a running re-gather (R475). -/
def State.setChan (s : State) (c : Nat) (r : ChanRt) : State :=
  ({ s with chans := ins ChanRt.idle c r s.chans } : State).setFld (pMc c) F.MC_STAT_GATHERING
    (if r.gathering || r.moving then 1 else 0)

/-- Reading of a channel's die sensor (R460). -/
def State.chanTemp (s : State) (c : Nat) : Int :=
  s.sfld pTherm F.THERM_SENS_T (6 * (if c < 16 then 0 else 3) + (c % 16) * 6 / 16)

/-- Some channel trains or re-gathers (R468). -/
def State.anyGathering (s : State) : Bool := (List.range 32).any (fun c => s.fld (pMc c) F.MC_STAT_GATHERING == 1)

/-- MEM_STAT STATE. -/
def State.memState (s : State) : Nat := s.fld pMem F.MEM_STAT_STATE
/-- A pin-rate change is in progress. -/
def State.rateChanging (s : State) : Bool := s.memState == 4

/-- ACT and PROVISIONAL of a channel's record; condition 1 below 25 (R464). -/
def State.markChan (s : State) (c act : Nat) : State :=
  let s := (s.setFld (pMc c) F.MC_META_ACT act).setFld (pMc c) F.MC_META_PROVISIONAL (if act < 25 then 1 else 0)
  s.when (decide (act < 25)) (·.setCond (pMc c) 1)

/-! ### Training (R457 to R459) -/

/-- BOOT_ERR keeps the first error of the boot; condition 1 when it becomes set (R97, R98). -/
def State.bootErr (s : State) (e : Nat) : State :=
  if s.fld pSys F.SYS_BOOT_STAT_BOOT_ERR = 0 then (s.setFld pSys F.SYS_BOOT_STAT_BOOT_ERR e).setCond pSys 1 else s

/-! ### BAR2 requests (R167, R469, R472) -/

/-- A write to BAR2: inside seat 0's window, installed GDDR6 and with GDDR6 in use, or dropped and counted. -/
def State.bar2Write (s : State) (a : Nat) (bs : List Byte) : State :=
  if s.memOff = false ∧ s.inWindow 0 a bs.length = true ∧ s.inGddr a bs.length = true then s.poke a bs
  else s.inc pPcie F.PCIE_BAR2_DROP_CNT_DROP_CNT

/-- A read of BAR2. -/
def State.bar2Read (s : State) (a n : Nat) : State :=
  if s.memOff then s.emit .completerAbort
  else if s.inGddr a n = false then (s.inc pPcie F.PCIE_BAR2_UR_CNT_UR_CNT).emit .unsupported
  else s.emit (.completion (s.mem.bytes a n))

/-- A request is carried out. -/
def State.bar2Do (s : State) (q : Bar2Req) : State :=
  if q.write then s.bar2Write q.addr q.bytes else s.bar2Read q.addr q.len

/-- A request arrives: during a change of pin rate the endpoint holds it (R469). -/
def State.bar2Take (s : State) (q : Bar2Req) : State :=
  if s.rateChanging then { s with bar2Held := s.bar2Held ++ [q] } else s.bar2Do q

/-- The held requests go on, in order. -/
def State.bar2Release (s : State) : State := ({ s with bar2Held := [] } : State).each s.bar2Held State.bar2Do

/-- MEM_OFFLINE becomes set: MEM condition 0 and SYS condition 5 (R86, R98, R476). -/
def State.memFail (s : State) : State :=
  let s := if s.memOff then s else ((s.setFld pSys F.SYS_STAT_MEM_OFFLINE 1).setCond pMem 0).setCond pSys 5
  (s.setFld pMem F.MEM_STAT_STATE 3).bar2Release

/-- The words of MC_TRIM_B0, MC_TRIM_B1 that carry fields. -/
def trimBits : Word := 0xFFFFF07F

/-- A channel with nothing in progress; a re-gather that waits goes on waiting, and BUSY_RUN_MS starts again (R473). -/
def State.restChan (s : State) (c : Nat) : State :=
  let s := s.setChan c { ChanRt.idle with waits := (s.chan c).waits }
  ({ s with busy := ins (0, 0) (64 + c) (0, 0) s.busy } : State).setFld (pMc c) F.MC_ACT_BUSY_RUN_MS 0

/-- One channel's training ends (R458, R459). -/
def State.trainChannel (s : State) (c : Nat) (failed : Bool) (t : ChanTrim) : State :=
  let s := (s.restChan c).setFld (pMc c) F.MC_STAT_CH_FAIL (if failed then 1 else 0)
  if failed then s.setCond (pMc c) 4
  else
    let s := (s.setReg (pMc c + 0x108) (t.b0 &&& trimBits)).setReg (pMc c + 0x10C) (t.b1 &&& trimBits)
    let s := (s.setFld (pMc c) F.MC_META_SOURCE 1).setS (pMc c) F.MC_META_TEMP (s.chanTemp c)
    s.markChan c 0

/-- Step 6 of R457 overwrites the last 8 MiB: what they hold is open. -/
def State.loseTop (s : State) : State :=
  { s with mem := s.mem.lose (s.capacity - 0x800000) s.capacity s.free, free := s.free + 1 }

/-- The pin rate of a training: that of the change it belongs to, else the one in force, and from reset the boot
record's (R457, R458, R473). -/
def State.trainedRate (s : State) : Nat :=
  if s.rateTo ≠ 0 then s.rateTo
  else if s.fld pMem F.MEM_STAT_RATE ≠ 0 then s.fld pMem F.MEM_STAT_RATE else s.ff pMem F.MEM_CFG_RATE

/-- A training of all channels ends with the channels of `fail` failed (R457 to R459). -/
def State.trainingEnds (s : State) (fail : BitVec 32) (trims : List ChanTrim) : State :=
  let was := s.memOff
  let s := s.each (List.range 32) (fun s c => s.trainChannel c (fail.getLsbD c) (trims.getD c ⟨0, 0, 0⟩))
  let s := (s.setFld pMem F.MEM_STAT_CH_FAIL_N (ones fail.toNat 32)).loseTop
  let s := ({ s with rateTo := 0 } : State).setFld pMem F.MEM_STAT_RATE s.trainedRate
  if fail = 0 then
    let s := ((s.setFld pMem F.MEM_STAT_STATE 2).setFld pSys F.SYS_STAT_MEM_OFFLINE 0).bar2Release
    s.when was (·.setCond pMem 1)
  else s.memFail.bootErr 7

/-- Training of all channels starts. -/
def State.trainingStarts (s : State) : State :=
  (s.each (List.range 32) (fun s c => (s.restChan c).setFld (pMc c) F.MC_STAT_GATHERING 1)).setFld pMem
    F.MEM_STAT_STATE 1

/-- A retraining starts while MEM_OFFLINE is set (R458, R473). -/
def State.retrainMem (s : State) : State := if s.memOff = true ∧ s.memState = 3 then s.trainingStarts else s

/-- MEM_RETRAIN_TIMER (R458). -/
def execMemRetrainTimer (s : State) : Host.Outcome State Fault Refusal := .next s.retrainMem

/-- MEM_RETRAIN_DONE (R458). -/
def execMemRetrainDone (fail : BitVec 32) (trims : List ChanTrim) (s : State) : Host.Outcome State Fault Refusal :=
  .next (if s.memOff = true ∧ s.memState = 1 then (s.trainingEnds fail trims).settle else s)

/-! ### Refresh (R454 to R456) and EDC (R466) -/

/-- REFRESH_DUE (R454 to R456): a bank at a burst boundary refreshes at once, all it holds with it; another holds.
Outside service the devices are reset, in training or in self-refresh. -/
def execRefreshDue (ch : ChanNo) (bank : Fin 16) (busy : Bool) (s : State) : Host.Outcome State Fault Refusal :=
  let r := s.chan ch
  let n := if busy then min 9 (look 0 r.due bank + 1) else 0
  .next (if s.memState = 2 then
      (s.setChan ch { r with due := ins 0 bank.val n r.due }).setFld (pMc ch) F.MC_STAT_HELD_MAX
        (max (s.fld (pMc ch) F.MC_STAT_HELD_MAX) (min 8 n))
    else s)

/-- The all-bank refresh at entry into self-refresh (R454, R470): no bank holds a due one. -/
def State.refreshAll (s : State) : State := s.each (List.range 32) (fun s c => s.setChan c { s.chan c with due := [] })

/-- FORCED_REFRESH (R456): the ninth due refresh is issued. -/
def execForcedRefresh (ch : ChanNo) (bank : Fin 16) (s : State) : Host.Outcome State Fault Refusal :=
  let r := s.chan ch
  .next (if look 0 r.due bank = 9 then
      ((s.setChan ch { r with due := ins 0 bank.val 8 r.due }).inc pMem F.MEM_FORCED_REF_CNT_FORCED_REF_CNT).raise pMem 4
    else s)

/-- EDC_MISMATCH (R466): a transfer that mismatched, and `again` of its repeats. -/
def execEdcMismatch (ch : ChanNo) (write : Bool) (again : Fin 4) (s : State) : Host.Outcome State Fault Refusal :=
  let s := s.inc (pMc ch) (if write then F.MC_EDC_WR_CNT_WR_CNT else F.MC_EDC_RD_CNT_RD_CNT) 0 (again.val + 1)
  .next (if again = 3 then (s.inc (pMc ch) F.MC_RETRY_FAIL_CNT_RETRY_FAIL_CNT).raise (pMc ch) 0 else s)

/-- MEM_UNDERRUN (R453). The packets that a full ING port drops do not arrive, so their frame stays short. -/
def execMemUnderrun (_group : Fin 7) (_flow : Option FlowNo) (s : State) : Host.Outcome State Fault Refusal :=
  .next ((s.inc pMem F.MEM_UNDERRUN_CNT_UNDERRUN_CNT).raise pMem 3)

/-- Group of a real-time port: 9 ING, 16 LYR, then COR, WB, PV, LH, SYS (R450). -/
def portGroup (p : Nat) : Nat := if p < 9 then 0 else if p < 25 then 1 else p - 23
/-- Bytes of a port's buffer (R450). -/
def portBytes (p : Nat) : Nat := 1024 * [256, 128, 512, 128, 64, 32, 32].getD (portGroup p) 0

/-- PANIC_ENTRY (R451): the starvation level has reached ON sixteenths of the buffer. -/
def execPanicEntry (port : Fin 30) (level : Nat) (s : State) : Host.Outcome State Fault Refusal :=
  .next (if s.panic.contains port.val = false ∧
        s.fld pMem F.MEM_PANIC_ON (portGroup port) * portBytes port ≤ 16 * level then
      ({ s with panic := port.val :: s.panic } : State).inc pMem F.MEM_PANIC_CNT_PANIC_CNT
    else s)

/-- PANIC_EXIT (R451): the starvation level is down to OFF sixteenths of the buffer. -/
def execPanicExit (port : Fin 30) (level : Nat) (s : State) : Host.Outcome State Fault Refusal :=
  .next (if 16 * level ≤ s.fld pMem F.MEM_PANIC_OFF (portGroup port) * portBytes port then
      { s with panic := s.panic.erase port.val }
    else s)

/-! ### Tracking (R460 to R465) -/

/-- The trim fields of a byte lane (R460, R475): low bit, width. -/
def memFields : List (Nat × Nat) := [(0, 7), (12, 6), (18, 7), (25, 7)]
/-- The step names a field. -/
def memValid (t : MemStep) : Bool := memFields.contains (t.lo.val, t.width.val)
/-- Two steps of one field. -/
def memSame (t u : MemStep) : Bool := t.byteLane == u.byteLane && t.lo == u.lo
/-- Register of a byte lane's trims in force. -/
def mcTrim (c : Nat) (t : MemStep) : Nat := pMc c + 0x108 + 4 * t.byteLane.val
/-- Code in force. -/
def State.memCode (s : State) (c : Nat) (t : MemStep) : Nat := bitsOf (s.reg (mcTrim c t)).toNat t.lo t.width
/-- Set a code. -/
def State.setMemCode (s : State) (c : Nat) (t : MemStep) (v : Nat) : State :=
  s.setReg (mcTrim c t) (BitVec.ofNat 32 (setBits (s.reg (mcTrim c t)).toNat t.lo t.width v))
/-- Steps that no freeze holds (R465). -/
def State.memThawed (s : State) (c : Nat) (ts : List MemStep) : List MemStep :=
  ts.filter (fun t => memValid t && !(s.chan c).frozen.any (fun z => memSame z.1 t && decide (s.clk.free < z.2)))
/-- The field is at its target. -/
def State.memThere (s : State) (c : Nat) (t : MemStep) : Bool := s.memCode c t == t.code % 2 ^ t.width.val

/-- Move fields one step each; the old codes stay for a revert (R462, R464, R465). -/
def State.moveMem (s : State) (c : Nat) (ts : List MemStep) : State :=
  let ts := ts.filter (fun t => !s.memThere c t)
  let old := ts.map (fun t => { t with code := s.memCode c t })
  (s.each ts (fun s t => s.setMemCode c t (towards (s.memCode c t) (t.code % 2 ^ t.width.val : Nat)).toNat)).setChan c
    { s.chan c with last := old, changed := some s.clk.free }

/-- Activity over windows, in percent: pairs of data clocks and clocks (R461). -/
def meanAct (ws : List (Nat × Nat)) : Nat := activity ((ws.map (·.2)).sum) ((ws.map (·.1)).sum)

/-- BUSY_RUN_MS and ACT after a round of windows (R461, R464). -/
def State.chanWindows (s : State) (c : Nat) (ws : List (Nat × Nat)) : State :=
  let b := if s.fld (pMc c) F.MC_META_PROVISIONAL = 1 ∧ s.rateChanging = false then
      ws.foldl (fun b w => busyNext s.cyc.period b (decide (60 * w.2 < 100 * w.1))) (look (0, 0) s.busy (64 + c)) else (0, 0)
  let s := { s with busy := ins (0, 0) (64 + c) b s.busy }
  let s := s.setFld (pMc c) F.MC_ACT_BUSY_RUN_MS (min (b.2 / 10) 65535)
  match ws.getLast? with
  | some w => s.setFld (pMc c) F.MC_ACT_ACT (activity w.2 w.1)
  | none => s

/-- The record after a tracking step (R459, R464): one that is not provisional has a new TEMP only. -/
def State.memTrackMeta (s : State) (c act : Nat) : State :=
  let s := s.setS (pMc c) F.MC_META_TEMP (s.chanTemp c)
  if s.fld (pMc c) F.MC_META_PROVISIONAL = 1 then (s.setFld (pMc c) F.MC_META_SOURCE 2).markChan c act else s

/-- MEM_TRACK (R461, R462, R464): the channel's windows of the last 10 ms and the targets found. -/
def State.memTrackStep (s : State) (c : Nat) (steps : List MemStep) (ws : List (Nat × Nat)) : State :=
  let s := s.chanWindows c ws
  let ok := if s.fld (pMc c) F.MC_META_PROVISIONAL = 1 then ws else ws.filter (fun w => decide (25 * w.2 ≤ 100 * w.1))
  let r := s.chan c
  if ok.isEmpty || r.gathering || r.moving then s
  else
    let ts := (s.memThawed c steps).filter (fun t => !s.memThere c t)
    (s.setChan c { r with pend := ts ++ r.pend.filter (fun t => !ts.any (fun u => memSame u t)) }).memTrackMeta c (meanAct ok)

/-- MEM_TRACK (R462). -/
def execMemTrack (ch : ChanNo) (steps : List MemStep) (windows : List (Nat × Nat)) (s : State) :
    Host.Outcome State Fault Refusal :=
  .next (if s.memState = 2 then (s.memTrackStep ch steps windows).settle else s)

/-- Every target is reached (R464). -/
def State.memRegatherDone (s : State) (c : Nat) : State :=
  let r := s.chan c
  if r.moving && (r.targets.filter memValid).all (s.memThere c) then
    let s := (s.setChan c { r with moving := false, targets := [] }).setFld (pMc c) F.MC_META_SOURCE 3
    ((s.setFld (pMc c) F.MC_META_ACT r.targetAct).setFld (pMc c) F.MC_META_PROVISIONAL 0).setCond (pMc c) 2
  else s

/-- The last trim change of the channel is less than 1 ms ago (R463). -/
def State.memRecent (s : State) (c : Nat) : Bool :=
  match (s.chan c).changed with
  | some t => decide (s.clk.free < t + 10 ^ 6)
  | none => false

/-- MEM_IDLE_WINDOW (R463, R473): held refreshes first; else one change, 1 ms or more after the last. -/
def execMemIdleWindow (ch : ChanNo) (s : State) : Host.Outcome State Fault Refusal :=
  let c := ch.val
  let r := s.chan c
  .next (if s.memState ≠ 2 then s
    else if !r.due.isEmpty then s.setChan c { r with due := [] }
    else if s.memRecent c then s
    else if r.moving then ((s.moveMem c (s.memThawed c r.targets)).memRegatherDone c).settle
    else if r.pend.isEmpty then s
    else (s.moveMem c (s.memThawed c r.pend)).setChan c { (s.moveMem c (s.memThawed c r.pend)).chan c with pend := [] })

/-- MEM_TRIM_DROP (R463): no idle window within 100 ms; a re-gather goes on with its next steps. -/
def execMemTrimDrop (ch : ChanNo) (s : State) : Host.Outcome State Fault Refusal :=
  let r := s.chan ch
  let lost := if r.moving then (s.memThawed ch r.targets).filter (fun t => !s.memThere ch t) else r.pend
  .next ((s.inc (pMc ch) F.MC_TRIM_CNT_NOWIN_CNT 0 lost.length).setChan ch { r with pend := [] })

/-- The changes made last come back; their fields freeze for 1 s (R465). -/
def State.memRevert (s : State) (c : Nat) : State :=
  let r := s.chan c
  let s := s.each r.last (fun s t => s.setMemCode c t t.code)
  let frozen := r.last.map (fun t => (t, s.clk.free + 10 ^ 9)) ++ r.frozen.filter (fun z => decide (s.clk.free < z.2))
  ((s.setChan c { r with last := [], frozen := frozen, changed := some s.clk.free }).inc (pMc c) F.MC_TRIM_CNT_REVERT_CNT 0 r.last.length).setCond (pMc c) 3

/-- MEM_TRIM_REVERT (R465): EDC mismatches over 10 ms before and after the change. -/
def execMemTrimRevert (ch : ChanNo) (before after : Nat) (s : State) : Host.Outcome State Fault Refusal :=
  .next (if (s.chan ch).last ≠ [] ∧ 2 * before < after ∧ before + 16 ≤ after then (s.memRevert ch).settle else s)

/-- MEM_REGATHER_START (R464, R473). -/
def execMemRegatherStart (ch : ChanNo) (s : State) : Host.Outcome State Fault Refusal :=
  let r := s.chan ch
  .next (if s.memState == 2 && !s.rateWait && !r.gathering && !r.moving && s.fld (pMc ch) F.MC_META_PROVISIONAL == 1 &&
        (r.waits || decide (1000 ≤ s.fld (pMc ch) F.MC_ACT_BUSY_RUN_MS)) then
      s.setChan ch { r with gathering := true, pend := [], waits := false }
    else s)

/-- MEM_REGATHER_GATHER_END (R464): the channel's windows of the 100 ms, and the targets of those with A of 60 % or
more. With no such window there are no statistics and the re-gather ends. -/
def execMemRegatherGatherEnd (ch : ChanNo) (targets : List MemStep) (windows : List (Nat × Nat)) (s : State) :
    Host.Outcome State Fault Refusal :=
  let r := s.chan ch
  let ws := windows.filter (fun w => decide (60 * w.2 ≤ 100 * w.1))
  .next (if r.gathering then
      if ws.isEmpty then s.setChan ch { r with gathering := false }
      else (((s.setChan ch { r with gathering := false, moving := true, targets := targets, targetAct := meanAct ws }).setS
        (pMc ch) F.MC_META_TEMP (s.chanTemp ch)).memRegatherDone ch).settle
    else s)

/-! ### Pin rate (R467 to R469) -/

/-- At a compose start: a RATE in force that the memory does not run yet waits for every gathering to end
(R468); answers whether the change is due now. -/
def State.rateAtCompose (s : State) : State × Bool :=
  if s.rateWait then
    if s.anyGathering || s.rateChanging then (s.setFld pMem F.MEM_STAT_RATE_LATCHED 1, false)
    else (s.setFld pMem F.MEM_STAT_RATE_LATCHED 0, true)
  else (s.setFld pMem F.MEM_STAT_RATE_LATCHED 0, false)

/-- A re-gather of the channel has fallen due (R464, R473). -/
def State.regatherDue (s : State) (c : Nat) : Bool :=
  (s.chan c).waits || (s.fld (pMc c) F.MC_META_PROVISIONAL == 1 && decide (1000 ≤ s.fld (pMc c) F.MC_ACT_BUSY_RUN_MS))

/-- The channel leaves service for a change of pin rate: its statistics and waiting steps are discarded, and it
gathers until it has trained (R468, R473, R475). -/
def State.pauseChan (s : State) (c : Nat) : State :=
  ((s.setChan c { s.chan c with waits := s.regatherDue c }).restChan c).setFld (pMc c) F.MC_STAT_GATHERING 1

/-- RATE_CHANGE_BEGIN (R468, R469): at the first compose start at which nothing gathers. -/
def execRateChangeBegin (s : State) : Host.Outcome State Fault Refusal :=
  .next (if s.rateWait = true ∧ s.anyGathering = false ∧ s.rateChanging = false then
      let s := s.each (List.range 32) State.pauseChan
      let s := { s with rateWait := false, rateTo := s.ff pMem F.MEM_CFG_RATE }
      (s.setFld pMem F.MEM_STAT_RATE_LATCHED 0).setFld pMem F.MEM_STAT_STATE 4
    else s)

/-- RATE_CHANGE_END (R469): the channels have trained at the new rate. -/
def execRateChangeEnd (us : Word) (fail : BitVec 32) (trims : List ChanTrim) (s : State) : Host.Outcome State Fault Refusal :=
  .next (if s.rateChanging then
      let s := (s.trainingEnds fail trims).setFld pMem F.MEM_PAUSE_PAUSE_US us.toNat
      ((s.inc pMem F.MEM_RATE_CHG_CNT_RATE_CHG_CNT).setCond pMem 2).settle
    else s)

end Sys2Proof.Machine
end

