-- ==== Sys2Proof/Machine/Tiles.lean ====
section
/-!
DEFINITION. The Glim round, tile records, die sensors, throttling, thermal shutdown, lamp health,
diagnostic pulses and Snuffer (R477 to R505).
-/
namespace Sys2Proof.Machine

/-! ### Die sensors (R483, R484, R487, R490) -/

/-- The sensors directly above, below, left and right of sensor k in the 4 by 6 grid (R483). -/
def neighbours (k : Nat) : List Nat :=
  (if 6 ≤ k then [k - 6] else []) ++ (if k < 18 then [k + 6] else []) ++
    (if k % 6 = 0 then [] else [k - 1]) ++ (if k % 6 = 5 then [] else [k + 1])

/-- Reading, failure and deviation count of a die sensor. -/
def State.dieRaw (s : State) (k : Nat) : Int × Bool × Nat := look (0, false, 0) s.house.die k
/-- A sensor is valid. -/
def State.dieOk (s : State) (k : Nat) : Bool := !(s.dieRaw k).2.1

/-- Greatest of a list of readings. -/
def maxI : List Int → Option Int
  | [] => none
  | x :: t => match maxI t with
    | none => some x
    | some y => some (max x y)

/-- A sensor's reading in use (R484); none when no sensor is valid. -/
def State.dieUse (s : State) (k : Nat) : Option Int :=
  if s.dieOk k then some (s.dieRaw k).1
  else
    let nb := (neighbours k).filter s.dieOk
    let src := if nb.isEmpty then (List.range 24).filter s.dieOk else nb
    (maxI (src.map (fun j => (s.dieRaw j).1))).map (· + 8 * (s.fld pTherm F.THERM_CHECK_MARGIN : Int))

/-- The 24 readings in use and failure states; a sensor with no reading in use keeps the last. -/
def State.dieReadings (s : State) : List (Int × Bool) :=
  (List.range 24).map (fun k => ((s.dieUse k).getD (s.sfld pTherm F.THERM_SENS_T k), !s.dieOk k))

/-- The first sensor with the greatest reading, and that reading. -/
def hottest (l : List (Int × Bool)) : Nat × Int :=
  (l.zipIdx).foldl (fun b e => if b.2 < e.1.1 then (e.2, e.1.1) else b) (0, (l.headD (0, false)).1)

/-- THERM_SENS, H and HOT_SENSOR follow the readings. -/
def State.showDie (s : State) : State :=
  let l := s.dieReadings
  let s := s.each l.zipIdx (fun s e => (s.setS pTherm F.THERM_SENS_T e.1.1 e.2).setFld pTherm F.THERM_SENS_FAILED
    (if e.1.2 then 1 else 0) e.2)
  (s.setS pTherm F.THERM_STAT_H (hottest l).2).setFld pTherm F.THERM_STAT_HOT_SENSOR (hottest l).1

/-- SHUT_T, clamped to 110 to 135 degrees, in 0.0625 degrees (R504). -/
def State.shutT (s : State) : Int := clampI (s.fld pTherm F.THERM_CFG_SHUT_T) 110 135 * 16

/-- A reading differs from the mean of its valid neighbours by more than NBR_DEV. -/
def State.deviates (s : State) (k : Nat) (r : Int) : Bool :=
  let nb := ((neighbours k).filter s.dieOk).map (fun j => (s.dieRaw j).1)
  !nb.isEmpty && decide (16 * (s.fld pTherm F.THERM_CHECK_NBR_DEV : Int) * nb.length < (r * nb.length - sumI nb).natAbs)

/-- One conversion of a sensor that has not failed (R484). -/
def State.convert (s : State) (k : Nat) (error : Bool) (r : Int) : State :=
  if s.dieOk k then
    let n := if s.deviates k r then (s.dieRaw k).2.2 + 1 else 0
    let bad := error || decide (r < -960 ∨ 2400 < r) || decide (3 ≤ n)
    let s := s.setHouse { s.house with die := ins (0, false, 0) k (r, bad, if bad then 0 else n) s.house.die }
    s.showDie.when bad (·.setCond pTherm 0)
  else s

/-- Shutdown starts at the first conversion at which a reading in use reaches SHUT_T (R490, R90). -/
def State.checkShut (s : State) : State :=
  if s.pow.shutting = false ∧ s.shutT ≤ s.sfld pTherm F.THERM_STAT_H then
    { s with pow := { s.pow with shutting := true, shutAlert := true, shutAt := (s.fld pTherm F.THERM_STAT_HOT_SENSOR, s.sfld pTherm F.THERM_STAT_H) } }
  else s

/-- DIE_SENSOR_CONVERSION (R484, R490). -/
def execDieSensorConversion (k : Fin 24) (error : Bool) (reading : BitVec 16) (s : State) : Host.Outcome State Fault Refusal :=
  .next (if s.pow.up then (s.convert k error reading.toInt).checkShut.settle else s)

/-- A round is a die violation (R487). -/
def State.dieViolation (s : State) (now : List (Int × Bool)) : Bool :=
  decide (16 * (s.fld pTherm F.THERM_CFG_DIE_LIMIT : Int) ≤ (hottest now).2) ||
  decide ((now.filter (fun e => !e.2)).length < 12) ||
  (match s.house.rounds[124]? with
    | none => false
    | some old => (now.zip old).any (fun p => p.1.2 == p.2.2 &&
        decide ((s.fld pTherm F.THERM_CFG_DIE_RISE : Int) * 1000 < (p.1.1 - p.2.1) * 625)))

/-- The sensor that supplied H in the previous round has failed since (R489). -/
def State.dieHoldStarts (s : State) (now : List (Int × Bool)) : Bool :=
  decide (s.fld pTherm F.THERM_STAT_DL < 64) &&
  (match s.house.hotPrev, s.house.rounds.head? with
    | some k, some old => (now.getD k (0, false)).2 && !(old.getD k (0, false)).2
    | _, _ => false)

/-- The hold of zone z, or of the die at 256, lasts HOLD_S from now; one that runs starts its time again (R489). -/
def State.holdFor (s : State) (z : Nat) : State :=
  s.setHouse { s.house with holdEnds := ins 0 z (s.clk.free + s.fld pTherm F.THERM_CHECK_HOLD_S * 10 ^ 9) s.house.holdEnds }

/-- The time of a hold has run out. -/
def State.holdOver (s : State) (z : Nat) : Bool := decide (look 0 s.house.holdEnds z ≤ s.clk.free)

/-- The die's part of a round (R487, R489). -/
def State.dieRound (s : State) : State :=
  let now := s.dieReadings
  let viol := s.dieViolation now
  let hold := s.dieHoldStarts now
  let few := decide ((now.filter (fun e => !e.2)).length < 12)
  let h := s.house
  let s := s.setHouse { h with rounds := (now :: h.rounds).take 125, hotPrev := some (hottest now).1,
                               dieViol := (if viol then 0 else h.dieViol), dieHold := h.dieHold || hold }
  (s.when few (·.setCond pTherm 5)).when hold (fun s => (s.holdFor 256).setCond pTherm 3)

/-! ### Rounds (R477, R478, R482, R491) -/

/-- The enabled tiles in force that hold their number (R332, R477). -/
def State.pollable (s : State) : List Nat :=
  (tilesOn s.force).filter (fun t =>
    let l := s.ff (pTile t) F.TL_LINK_LINK
    let p := s.ff (pTile t) F.TL_LINK_POS
    s.fld (pWl l) F.POS_STAT_ASSIGNED p == 1 && s.fld (pWl l) F.POS_STAT_TILE p == t)

/-- The tile's bit of HK_TILE_ALERT. -/
def State.tileAlert (s : State) (t : Nat) : State :=
  s.setFld pHk F.HK_TILE_ALERT_TILE (setBits (s.fld pHk F.HK_TILE_ALERT_TILE (t / 32)) (t % 32) 1 1) (t / 32)

/-- A missed poll; the third in succession stops the tile's telemetry (R482). -/
def State.missPoll (s : State) (t : Nat) : State :=
  let r := s.tele t
  let stop := decide (3 ≤ r.misses + 1) && !r.stopped
  let s := (s.inc pHk F.HK_MISS_CNT_MISS_CNT).setTele t { r with misses := r.misses + 1, stopped := r.stopped || stop, answered := true }
  s.when stop (fun s => (s.tileAlert t).setCond pHk 5)

/-- One tile's turn: the last POLL is missed when unanswered; the next goes out when there is credit (R478). -/
def State.pollTile (s : State) (t : Nat) : State :=
  let s := if (s.tele t).answered then s else s.missPoll t
  let r := s.tele t
  if s.canSys t 0 then
    let q := (r.pseq + 1) % 256
    ((s.setTele t { r with pseq := q, polled := true, answered := false }).sendSys t 0x10
      ((r.fseq.getD 0) * 2 ^ 16 + q * 2 ^ 8) []).inc pHk F.HK_POLL_CNT_POLL_CNT
  else s.missPoll t

/-- The next 64 tiles in poll order (R477). -/
def State.pollRound (s : State) : State :=
  let l := s.pollable
  let order := (l.filter (fun t => decide (s.house.lastPolled < t))) ++ l.filter (fun t => decide (t ≤ s.house.lastPolled))
  let ts := order.take 64
  match ts.getLast? with
  | none => s
  | some z => (s.each ts State.pollTile).setHouse { (s.each ts State.pollTile).house with lastPolled := z }

/-- A power of num / den watts in whole watts; where the quotient is not whole the spec states no rounding. -/
def wholeWatts (num den : Nat) : Nat := if num % den = 0 then num / den else Config.watts num den

/-- MEAS_W and its judgement (R491): 250 rounds are 2 s. -/
def State.measure (s : State) : State :=
  let p := (((tilesOn s.force).filter (fun t => !(s.tele t).stopped)).map (fun t => (s.tele t).power)).sum
  let s := s.setFld pHk F.HK_MEAS_W_MEAS_W (wholeWatts p 10)
  let cap := s.ff pCor F.COR_PCAP_CAP_W
  let n := if cap ≠ 0 ∧ cap + cap / 10 < s.fld pHk F.HK_MEAS_W_MEAS_W then s.house.overCap + 1 else 0
  (s.setHouse { s.house with overCap := n }).when (n == 250) (·.setCond pHk 8)

/-- The rails' monitors (R504); condition 4 when an OUT rises. -/
def State.rails (s : State) (mv : List (BitVec 16)) (out : BitVec 9) : State :=
  s.each (List.range 9) (fun s k =>
    let was := s.fld pTherm F.THERM_RAIL_OUT k
    let s := s.setFld pTherm F.THERM_RAIL_MV (mv.getD k 0).toNat k
    let s := s.setFld pTherm F.THERM_RAIL_OUT (if out.getLsbD k then 1 else 0) k
    s.when (out.getLsbD k && was == 0) (·.setCond pTherm 4))

/-- GLIM_ROUND (R477): in Active or Standby; POLLs in Active. -/
def execGlimRound (railMv : List (BitVec 16)) (railOut : BitVec 9) (s : State) : Host.Outcome State Fault Refusal :=
  .next (if s.pow.up && !s.pow.sleeping then
      let s := s.setPair pHk F.HK_ROUND_LO_ROUND F.HK_ROUND_HI_ROUND (s.pair pHk F.HK_ROUND_LO_ROUND F.HK_ROUND_HI_ROUND + 1)
      let s := (s.dieRound.rails railMv railOut).measure
      (if s.active then s.pollRound else s).settle
    else s)

/-! ### STATE records (R481, R482, R485, R486, R489) -/

/-- The record's sensors that are candidates (R485): number and value. -/
def candidates (ts : List (BitVec 16)) : List (Nat × Int) :=
  (ts.take 4).zipIdx.filterMap (fun e =>
    let v := e.1.toInt
    if e.1 ≠ 0x8000#16 ∧ -640 ≤ v ∧ v ≤ 2400 then some (e.2, v) else none)

/-- Insert into an ascending list. -/
def insertI (x : Int) : List Int → List Int
  | [] => [x]
  | y :: t => if x ≤ y then x :: y :: t else y :: insertI x t

/-- Twice the median (R485). -/
def median2 (l : List Int) : Int :=
  let v := l.foldr insertI []
  if v.length % 2 = 1 then 2 * v.getD (v.length / 2) 0 else v.getD (v.length / 2 - 1) 0 + v.getD (v.length / 2) 0

/-- Sensors that fail in a record, as a bitmap (R485). -/
def failedSensors (dev : Nat) (ever : Nat) (c : List (Nat × Int)) : Nat :=
  mapOf ((List.range 4).filter (fun k =>
    match c.find? (fun e => e.1 == k) with
    | none => bit ever k
    | some e => decide (3 ≤ c.length) && decide (2 * 16 * dev < (2 * e.2 - median2 (c.map (·.2))).natAbs)))

/-- Readings in use of a record: number and value (R485). -/
def sensorUse (margin : Nat) (failed : Nat) (c : List (Nat × Int)) : List (Nat × Int) :=
  let good := c.filter (fun e => !bit failed e.1)
  match maxI (good.map (·.2)) with
  | none => []
  | some m => (List.range 4).filterMap (fun k =>
      if bit failed k then some (k, m + 8 * (margin : Int)) else (good.find? (fun e => e.1 == k)))

/-- The first sensor with the greatest reading in use. -/
def supplierOf (u : List (Nat × Int)) : Option (Nat × Int) :=
  u.foldl (fun b e => match b with
    | none => some e
    | some x => if x.2 < e.2 then some e else some x) none

/-- An accepted temperature is a violation (R486). -/
def State.tempViolation (s : State) (zone : Nat) (r : TileRt) (t : Int) (failed : Nat) : Bool :=
  let rise := if s.ff (pZn zone) F.ZN_CFG_RISE = 0 then 20 else s.ff (pZn zone) F.ZN_CFG_RISE
  decide (16 * (s.fld pHk F.HK_CFG_TILE_LIMIT : Int) ≤ t) ||
  (match r.temps.find? (fun e => e.2.2 == failed && decide (e.1 + 10 ^ 9 ≤ s.clk.free)) with
    | none => false
    | some e =>
      let d := s.clk.free - e.1
      decide (d ≤ 3 * 10 ^ 9 ∧ (rise : Int) * d < (t - e.2.1) * 625000000))

/-- The temperatures of an accepted record. -/
def State.judgeTemps (s : State) (t : Nat) (ts : List (BitVec 16)) : State :=
  let r := s.tele t
  let zone := s.ff (pTile t) F.TL_CFG_ZONE
  let c := candidates ts
  let failed := failedSensors (s.fld pTherm F.THERM_CHECK_NBR_DEV) r.everValid c
  let use := sensorUse (s.fld pTherm F.THERM_CHECK_MARGIN) failed c
  let fresh := (List.range 4).any (fun k => bit failed k && !bit r.failed k)
  let hold := (match r.supplier with
    | some k => bit failed k && !bit r.failed k && decide (s.fld (pZn zone) F.ZN_STAT_THROTTLE < 64)
    | none => false)
  let s := s.when (fresh || use.isEmpty) (fun s => (s.tileAlert t).setCond pHk 6)
  let s := s.when hold (fun s =>
    ((s.setHouse { s.house with holds := insertNat zone s.house.holds }).holdFor zone).setCond pHk 9)
  let r := { r with everValid := r.everValid ||| mapOf (c.map (·.1)), failed := failed }
  match supplierOf use with
  | none => s.setTele t { r with supplier := none }
  | some (k, v) =>
    let viol := s.tempViolation zone r v failed
    let temps := (s.clk.free, v, failed) :: r.temps.filter (fun e => decide (s.clk.free ≤ e.1 + 4 * 10 ^ 9))
    let s := s.setTele t { r with supplier := some k, temps := temps }
    let s := (s.setS (pTile t) F.TL_TEMP_T v).setFld (pTile t) F.TL_STAT_TEMP_VALID 1
    s.when viol (fun s => s.setHouse { s.house with zoneViol := ins 8 zone 0 s.house.zoneViol })

/-- The tile holds the number of the position it reports (R332, R481); 0x1FFF is no tile's number. -/
def State.holdsNumber (s : State) (link pos t : Nat) : Bool :=
  decide (t < 4096) && s.fld (pWl link) F.POS_STAT_ASSIGNED pos == 1 && s.fld (pWl link) F.POS_STAT_TILE pos == t

/-- A STATE record with a correct trailer. -/
def State.stateRecord (s : State) (link t pos pseq : Nat) (temps : List (BitVec 16)) (power : Nat) : State :=
  let r := s.tele t
  if s.holdsNumber link pos t && r.polled && r.pseq == pseq then
    (s.setTele t { r with answered := true, misses := 0, stopped := false, power := power }).judgeTemps t temps
  else s.inc pHk F.HK_LATE_CNT_LATE_CNT

/-- STATE_RECORD_RX (R479, R481). The engine keeps no register of FAULT_PEND. -/
def execStateRecordRx (link : LinkNo) (sec crcOk : Bool) (tile : TileNo) (pos : PosNo) (pseq : Byte)
    (temps : List (BitVec 16)) (power : BitVec 20) (_faultPend : BitVec 16) (s : State) : Host.Outcome State Fault Refusal :=
  .next (s.upstream link sec crcOk (fun s => s.stateRecord link tile pos pseq.toNat temps power.toNat))

/-! ### Levels (R488, R489) -/

/-- One level at a 500 ms boundary: down on a violation, up at a 4 s boundary when clear. -/
def levelStep (floor l age : Nat) (rise : Bool) : Nat :=
  if age = 0 then (if l < floor then l else max floor (l - 2)) else if rise && decide (8 ≤ age) then min 64 (l + 1) else l

/-- Conditions of a level that left or reached 64. -/
def State.levelCond (s : State) (p old new fell back : Nat) : State :=
  (s.when (decide (old = 64 ∧ new < 64)) (·.setCond p fell)).when (decide (old < 64 ∧ new = 64)) (·.setCond p back)

/-- A zone at a boundary. -/
def State.zoneStep (s : State) (four : Bool) (z : Nat) : State :=
  let h := s.house
  let old := look 64 h.zoneLevel z
  let age := look 8 h.zoneViol z
  let quiet := (tilesOn s.force).all (fun t => s.ff (pTile t) F.TL_CFG_ZONE != z || !(s.tele t).stopped)
  let new := levelStep (s.fld pHk F.HK_CFG_THR_FLOOR) old age (four && quiet && !h.holds.contains z)
  (s.setHouse { h with zoneLevel := ins 64 z new h.zoneLevel, zoneViol := ins 8 z (min 8 (age + 1)) h.zoneViol }).levelCond pHk
    old new 0 1

/-- The die at a boundary. -/
def State.dieStep (s : State) (four : Bool) : State :=
  let h := s.house
  let old := s.fld pTherm F.THERM_STAT_DL
  let new := levelStep (s.fld pHk F.HK_CFG_THR_FLOOR) old h.dieViol (four && !h.dieHold)
  ((s.setHouse { h with dieViol := min 8 (h.dieViol + 1) }).setFld pTherm F.THERM_STAT_DL new).levelCond pTherm old new 1 2

/-- THROTTLE_STEP (R488): the boundary is the latest multiple of 500 ms. -/
def execThrottleStep (s : State) : Host.Outcome State Fault Refusal :=
  let four := s.now / 500000000 % 8 == 0
  let zones := ((s.house.zoneLevel.map (·.1)) ++ s.house.zoneViol.map (·.1)).foldl (fun l z => insertNat z l) []
  .next (if s.pow.up then ((s.each zones (fun s z => s.zoneStep four z)).dieStep four).settle else s)

/-- HOLD_END (R489): a zone's or the die's hold runs out. -/
def execHoldEnd (zone : Option ZoneNo) (s : State) : Host.Outcome State Fault Refusal :=
  .next (match zone with
    | some z => if s.holdOver z then s.setHouse { s.house with holds := s.house.holds.filter (· ≠ z.val) } else s
    | none => if s.holdOver 256 then s.setHouse { s.house with dieHold := false } else s)

/-- A zone's THROTTLE by the levels, min(ZL, DL). -/
def State.throttleOf (s : State) (z : Nat) : Nat := min (look 64 s.house.zoneLevel z) (s.fld pTherm F.THERM_STAT_DL)

/-- At a compose start the levels and blankings come into force (R246, R502, R503); a change ends every hold of
a static picture (R252). -/
def State.latchZones (s : State) : State :=
  let h := s.house
  let s := s.each (List.range 256) (fun s z =>
    let b := s.fld (pZn z) F.ZN_STAT_BLANKED
    let b' := if h.blankReq.contains z then 1 else if h.unblankReq.contains z then 0 else b
    let t := s.throttleOf z
    if b = b' ∧ s.fld (pZn z) F.ZN_STAT_THROTTLE = t then s
    else { ((s.setFld (pZn z) F.ZN_STAT_BLANKED b').setFld (pZn z) F.ZN_STAT_THROTTLE t) with corrTouched := true })
  s.setHouse { s.house with blankReq := [], unblankReq := [] }

/-- G[k] of a tile from its temperature (R241). -/
def gainOf (tc tref t : Int) : Nat := (clampI (16384 + rshr (tc * (t - tref)) 10) 0 65535).toNat

/-- The tiles' gains at a compose start (R241, R242). -/
def State.latchGains (s : State) : State :=
  s.each ((tilesOn s.force).filter (fun t => s.fld (pTile t) F.TL_STAT_TEMP_VALID == 1)) (fun s t =>
    let p := pTile t
    let g (f : Fld) := gainOf (toS 16 (s.ff p f)) (toS 16 (s.ff p F.TL_TREF_TREF)) (s.sfld p F.TL_TEMP_T)
    let s' := ((s.setFld p F.TL_GAIN01_G0 (g F.TL_TC01_TC0)).setFld p F.TL_GAIN01_G1 (g F.TL_TC01_TC1))
    let s' := (s'.setFld p F.TL_GAIN23_G2 (g F.TL_TC23_TC2)).setFld p F.TL_GAIN23_G3 (g F.TL_TC23_TC3)
    if s'.reg (p + 0x34) = s.reg (p + 0x34) ∧ s'.reg (p + 0x38) = s.reg (p + 0x38) then s else { s' with corrTouched := true })

/-! ### Thermal shutdown (R490) -/

/-- Throttling is active (R90, R488). -/
def State.throttling (s : State) : Bool := (List.range 256).any (fun z => decide (s.fld (pZn z) F.ZN_STAT_THROTTLE < 64))

/-! ### Lamp health (R492 to R497, R502) -/

/-- Address of the map in force. -/
def State.lhBase (s : State) : Nat := cpair s.force pHk F.HK_LH_BASE_LO_BASE F.HK_LH_BASE_HI_BASE
/-- Lamp health is in use and its map can be reached. -/
def State.lhOn (s : State) : Bool := s.ff pHk F.HK_CFG_LH_EN == 1 && !s.memOff
/-- Record index of a tile's pixel. -/
def State.recOf (s : State) (t pixel : Nat) : Nat := s.ff (pTile t) F.TL_REC_REC_IDX + pixel
/-- A lamp's state (R492). -/
def State.lampState (s : State) (t pixel lamp : Nat) : Nat := bitsOf (s.mem.byte (s.lhBase + s.recOf t pixel)).toNat (2 * lamp) 2

/-- Queue a lamp for diagnosis (R497); one that waits already keeps its place. -/
def State.queueLamp (s : State) (t pixel lamp : Nat) : State :=
  if s.house.queue.contains (t, pixel, lamp) then s
  else if 4096 ≤ s.house.queue.length then (s.inc pHk F.HK_DIAG_DROP_CNT_DROP_CNT).setCond pHk 10
  else s.setHouse { s.house with queue := s.house.queue ++ [(t, pixel, lamp)] }

/-- The lamps that the lamp-health map switches off under a configuration: none while LH_EN is 0 (R249, R252). -/
def House.off (h : House) (c : Sparse Word) : List (Nat × Nat) := if cfld c pHk F.HK_CFG_LH_EN = 1 then h.offList else []
/-- Those of the configuration in force. -/
def State.lampsOff (s : State) : List (Nat × Nat) := s.house.off s.force

/-- A lamp takes or gives back its entry of the off list (R493, R252). -/
def State.offEntry (s : State) (r lamp : Nat) (off : Bool) : State :=
  let l := s.house.offList
  let on := s.ff pHk F.HK_CFG_LH_EN == 1
  if off then
    if l.contains (r, lamp) then s
    else if 32768 ≤ l.length then (s.setFld pHk F.HK_STAT_OFFLIST_FULL 1).setCond pHk 7
    else { (s.setHouse { s.house with offList := (r, lamp) :: l }) with corrTouched := s.corrTouched || on }
  else if l.contains (r, lamp) then
    { (s.setHouse { s.house with offList := l.erase (r, lamp) }) with corrTouched := s.corrTouched || on }
  else s

/-- A lamp's state becomes `new` (R492, R493, R495). -/
def State.setLamp (s : State) (t pixel lamp new : Nat) : State :=
  let old := s.lampState t pixel lamp
  let r := s.recOf t pixel
  let b := (s.mem.byte (s.lhBase + r)).toNat
  let s := s.poke (s.lhBase + r) [BitVec.ofNat 8 (setBits b (2 * lamp) 2 new)]
  let n := s.fld pHk F.HK_UNVER_N_UNVER_N
  let s := s.setFld pHk F.HK_UNVER_N_UNVER_N (n + (if new = 1 then 1 else 0) - (if old = 1 then 1 else 0))
  let s := if new = 3 ∧ old ≠ 3 then s.offEntry r lamp true else if old = 3 ∧ new ≠ 3 then s.offEntry r lamp false else s
  if new = 1 then s.queueLamp t pixel lamp else s

/-- A lamp fault (R495, R502): counted; a zone with SNUFFER blanks from the next compose start. -/
def State.lampFault (s : State) (t : Nat) : State :=
  let s := (s.inc pHk F.HK_FAULT_CNT_FAULT_CNT).setCond pHk 3
  let z := s.ff (pTile t) F.TL_CFG_ZONE
  if s.ff (pZn z) F.ZN_CFG_SNUFFER = 1 then
    ((s.setHouse { s.house with blankReq := insertNat z s.house.blankReq }).inc pHk F.HK_SNUFF_CNT_SNUFF_CNT).setCond pHk 2
  else s

/-- A change that a tile record or a diagnostic result causes. -/
def State.lampMoves (s : State) (t pixel lamp new : Nat) : State :=
  let s := s.setLamp t pixel lamp new
  if 2 ≤ new then s.lampFault t else s

/-- The pixel and the lamp lie in the tile (R495). -/
def State.lampIn (s : State) (t pixel lamp : Nat) : Bool :=
  let x := tileOf s.force t
  decide (pixel < x.tw * x.th ∧ lamp < x.lamps)

/-- One entry of a FAULT record (R495). -/
def State.faultEntry (s : State) (t : Nat) (e : FaultEntry) : State :=
  let px := e.pixel.toNat
  let l := e.lamp.toNat
  if !s.lampIn t px l then s.inc pHk F.HK_BAD_CNT_BAD_CNT
  else if !s.lhOn then s
  else
    let old := s.lampState t px l
    if e.kind = 1#3 ∧ old ≤ 1 then s.lampMoves t px l 2
    else if (e.kind = 2#3 ∨ e.kind = 3#3) ∧ old ≤ 2 then s.lampMoves t px l 3
    else if e.kind = 4#3 ∧ old = 0 then s.lampMoves t px l 1
    else s

/-- A FAULT record with a correct trailer (R481, R495). -/
def State.faultRecord (s : State) (link t pos fseq : Nat) (es : List FaultEntry) : State :=
  let r := s.tele t
  if s.holdsNumber link pos t = false ∨ r.fseq = some fseq then s
  else
    (s.setTele t { r with fseq := some fseq }).each es (fun s e => s.faultEntry t e)

/-- FAULT_RECORD_RX (R481). -/
def execFaultRecordRx (link : LinkNo) (sec crcOk : Bool) (tile : TileNo) (pos : PosNo) (fseq : Byte) (entries : List FaultEntry)
    (s : State) : Host.Outcome State Fault Refusal :=
  .next (s.upstream link sec crcOk (fun s => s.faultRecord link tile pos fseq.toNat (entries.take 16)))

/-! ### Scans (R494) -/

/-- A scan starts; lamps it has not reached are driven. -/
def State.scanStarts (s : State) : State :=
  let s := { (s.setHouse { s.house with offList := [] }) with corrTouched := s.corrTouched || !s.lampsOff.isEmpty }
  (s.setFld pHk F.HK_STAT_LH_SCAN 1).setFld pHk F.HK_STAT_OFFLIST_FULL 0

/-- The tile whose records hold an index, in the configuration in force, with the pixel. -/
def State.tileOfRec (s : State) (r : Nat) : Option (Nat × Nat) :=
  ((tilesOf s.force).find? (fun x => decide (x.recIdx ≤ r ∧ r < x.recIdx + x.tw * x.th))).map (fun x => (x.num, r - x.recIdx))

/-- One lamp of the scan. -/
def State.scanLamp (s : State) (r lamp : Nat) : State :=
  let st := bitsOf (s.mem.byte (s.lhBase + r)).toNat (2 * lamp) 2
  if st = 3 then s.offEntry r lamp true
  else if st = 1 then
    let s := s.inc pHk F.HK_UNVER_N_UNVER_N
    match s.tileOfRec r with
    | some (t, px) => s.queueLamp t px lamp
    | none => s
  else s

/-- LH_SCAN_END (R494). -/
def execLhScanEnd (s : State) : Host.Outcome State Fault Refusal :=
  .next (if s.fld pHk F.HK_STAT_LH_SCAN = 1 then
      let n := if s.memOff then 0 else s.ff pCor F.COR_REC_COUNT_COUNT
      let s := s.setFld pHk F.HK_UNVER_N_UNVER_N 0
      let s := s.each (List.range n) (fun s r => s.each (List.range 4) (fun s l => s.scanLamp r l))
      ((s.setFld pHk F.HK_STAT_LH_SCAN 0).setCond pHk 11).settle
    else s)

/-- HK_LAMP_CMD (R495, R505): OP 0x1 reads, OP 0x2 writes; it has ended when the write completes. -/
def State.lampCmd (s : State) (w : Nat) : State :=
  let t := s.fld pHk F.HK_LAMP_TILE_TILE
  let l := s.fld pHk F.HK_LAMP_TILE_LAMP
  let px := bitsOf w 0 16
  let op := bitsOf w 30 2
  if op = 0 ∨ op = 3 then s
  else if (tilesOn s.force).contains t && s.lampIn t px l && s.ff pHk F.HK_CFG_LH_EN == 1 then
    let s := if op = 2 ∧ s.memOff = false then s.setLamp t px l (bitsOf w 28 2) else s
    (s.setReg (pHk + 0x11C) 0).setFld pHk F.HK_LAMP_RES_STATE (s.lampState t px l)
  else (s.setReg (pHk + 0x11C) 0).setFld pHk F.HK_LAMP_RES_ERR 1

/-! ### Diagnostic pulses (R497 to R501) -/

/-- MIN_ON of a tile's position, 160 ns when it declared 0 (R496). -/
def State.minOn (s : State) (t : Nat) : Nat :=
  let m := s.fld (pWl (s.ff (pTile t) F.TL_LINK_LINK)) F.POS_GEOM_MIN_ON (s.ff (pTile t) F.TL_LINK_POS)
  if m = 0 then 160 else m

/-- w and n_max of R498. -/
def State.diagPlan (s : State) (t dur : Nat) : Nat × Nat :=
  let w := max (s.fld pHk F.HK_DIAG_DIAG_W) (s.minOn t)
  (w, if dur < 100 then 0 else min 16 ((dur - 100) / (w + 100)))

/-- One tile's DIAG message of a cycle (R498, R499); what does not go returns to the tail. -/
def State.diagTile (s : State) (cycle launch slot dur t : Nat) (lamps : List (Nat × Nat)) : State :=
  let wn := s.diagPlan t dur
  let go := if s.canSys t (min wn.2 lamps.length + 1) then lamps.take wn.2 else []
  let back := lamps.drop go.length
  let s := s.setHouse { s.house with queue := s.house.queue ++ back.map (fun e => (t, e.1, e.2)) }
  if go.isEmpty then s
  else
    let d := s.house.dseq
    let s := s.setHouse { s.house with dseq := (d + 1) % 256, outs := s.house.outs ++ [⟨t, d, go, cycle⟩] }
    s.sendSys t 0x11 (d * 2 ^ 16 + go.length)
      ((launch % 2 ^ 40 * 2 ^ 24 + slot * 2 ^ 16 + wn.1 % 2 ^ 16) ::
        go.zipIdx.map (fun e => e.1.2 * 2 ^ 56 + e.1.1 * 2 ^ 40 + (100 + e.2 * (wn.1 + 100))))

/-- DIAG messages of a cycle whose schedule holds a diagnostic slot (R271, R498). -/
def State.diagDispatch (s : State) (cycle launch : Nat) : State :=
  match ((slotsOf s.force).zipIdx).find? (fun e => e.1.role == 3) with
  | none => s
  | some (k, n) =>
    let head := s.house.queue.take 64
    let s := s.setHouse { s.house with queue := s.house.queue.drop 64 }
    s.each (head.map (·.1)).eraseDups (fun s t =>
      s.diagTile cycle launch n k.dur t ((head.filter (fun e => e.1 == t)).map (fun e => (e.2.1, e.2.2))))

/-- One entry of a DIAG result (R495, R500, R501). -/
def State.diagEntry (s : State) (t : Nat) (sent : List (Nat × Nat)) (e : DiagEntry) : State :=
  let px := e.pixel.toNat
  let l := e.lamp.toNat
  if !s.lampIn t px l then s.inc pHk F.HK_BAD_CNT_BAD_CNT
  else if !sent.contains (px, l) || !s.lhOn || s.lampState t px l != 1 then s
  else if e.result = 0#2 then (s.inc pHk F.HK_DIAG_RETRY_CNT_RETRY_CNT).queueLamp t px l
  else if e.result = 1#2 then (s.inc pHk F.HK_DIAG_PASS_CNT_PASS_CNT).lampMoves t px l 0
  else ((s.inc pHk F.HK_DIAG_FAIL_CNT_FAIL_CNT).setCond pHk 4).lampMoves t px l (if e.result = 2#2 then 2 else 3)

/-- The message out with a number. -/
def State.diagOut (s : State) (t d : Nat) : Option DiagOut := s.house.outs.find? (fun o => o.tile == t && o.dseq == d)

/-- The message is no longer out, but for the lamps still to be answered. -/
def State.diagClose (s : State) (t d : Nat) (left : List (Nat × Nat)) : State :=
  s.setHouse { s.house with outs := s.house.outs.filterMap (fun o =>
    if o.tile = t ∧ o.dseq = d then (if left.isEmpty then none else some { o with lamps := left }) else some o) }

/-- A DIAG result record of a tile (R500, R501). -/
def State.diagResult (s : State) (t dseq : Nat) (entries : List DiagEntry) : State :=
  match s.diagOut t dseq with
  | none => s
  | some o =>
    let left := o.lamps.filter (fun p => !entries.any (fun e => e.pixel.toNat == p.1 && e.lamp.toNat == p.2))
    (s.diagClose t dseq left).each (entries.take 16) (fun s e => s.diagEntry t o.lamps e)

/-- DIAG_RESULT_RX (R501). -/
def execDiagResultRx (link : LinkNo) (sec crcOk : Bool) (tile : TileNo) (dseq : Byte) (entries : List DiagEntry) (s : State) :
    Host.Outcome State Fault Refusal :=
  .next (s.upstream link sec crcOk (fun s =>
    if s.tileLink tile = some link.val then s.diagResult tile dseq.toNat entries else s))

/-- DIAG_RESULT_TIMEOUT (R501): four cycles have started since the one of the slot. -/
def execDiagResultTimeout (tile : TileNo) (dseq : Byte) (s : State) : Host.Outcome State Fault Refusal :=
  let t := tile.val
  .next (match s.diagOut t dseq.toNat with
    | none => s
    | some o =>
      if s.cyc.next < o.cycle + 5 then s else ((s.diagClose t dseq.toNat []).each o.lamps (fun s p =>
        (s.inc pHk F.HK_DIAG_RETRY_CNT_RETRY_CNT).queueLamp t p.1 p.2)).settle)

end Sys2Proof.Machine
end

