-- ==== Sys2Proof/Machine/Receive.lean ====
section
/-!
DEFINITION. What a Wickline feed's receive lanes take in: codewords, blocks, packets (R299, R302, R303, R305, R308 to
R310, R323, R326), and which record a packet is.
-/
namespace Sys2Proof.Machine

/-! ### Packets -/

/-- A tile's TELEM record by its RTYPE (R323, R324, R325, R479, R500, R558); a reserved RTYPE is dropped and counted. -/
def State.telemetry (s : State) (link : Nat) (sec : Bool) (tile lo : Nat) (ws : List Nat) : State :=
  let pos := bitsOf lo 18 6
  let seq := bitsOf lo 8 8
  let w (k : Nat) : Nat := ws.getD k 0
  let here := s.tileLink tile == some link
  match bitsOf lo 24 8 with
  | 0x01 => s.upstream link sec true (fun s => s.linkReport link pos sec (bitsOf (w 0) 56 8) (bitsOf (w 1) 32 32) (bitsOf (w 1) 0 32))
  | 0x02 => s.upstream link sec true (fun s => (s.capability link pos sec (bit lo 17) (w 0) (w 1) (w 3)).jobReport link pos)
  | 0x10 => s.upstream link sec true (fun s => s.stateRecord link tile pos seq
      ([48, 32, 16, 0].map (fun i => BitVec.ofNat 16 (bitsOf (w 0) i 16))) (bitsOf (w 1) 44 20))
  | 0x11 => s.upstream link sec true (fun s => s.faultRecord link tile pos seq ((ws.take (min 16 (bitsOf lo 0 5))).map (fun x =>
      ⟨BitVec.ofNat 3 (bitsOf x 61 3), BitVec.ofNat 2 (bitsOf x 56 2), BitVec.ofNat 16 (bitsOf x 40 16)⟩)))
  | 0x12 => s.upstream link sec true (fun s => s.when here (fun s => s.diagResult tile seq ((ws.take (min 16 (bitsOf lo 0 5))).map (fun x =>
      ⟨BitVec.ofNat 2 (bitsOf x 62 2), BitVec.ofNat 2 (bitsOf x 56 2), BitVec.ofNat 16 (bitsOf x 40 16)⟩))))
  | 0x20 => s.upstream link sec true (fun s => s.jobRecord link pos seq (bitsOf lo 0 4))
  | _ => s.inc (pWl link) F.WL_CRC_ERR_CNT_CRC_CNT

/-- A packet on a feed (R308, R310, R329, R367): discarded unless the feed is active; a failing one is dropped and counted;
a downstream type has returned; a reserved TYPE or TILE is ignored. -/
def State.packetIn (s : State) (link : Nat) (sec : Bool) (p : List Nat × Bool) : State :=
  let h := p.1.headD 0
  let ws := p.1.drop 1
  let tile := bitsOf h 47 13
  let lo := bitsOf h 0 32
  if s.feedActive link sec = false then s
  else if p.2 = false then s.inc (pWl link) F.WL_CRC_ERR_CNT_CRC_CNT
  else if tile ≠ 0x1FFF ∧ 4096 ≤ tile then s
  else
    match bitsOf h 60 4 with
    | 1 | 2 | 3 => s.inc (pWl link) F.WL_LOOP_CNT_LOOP_CNT
    | 4 => s.messageIn link sec true tile lo ws
    | 5 => s.telemetry link sec tile lo ws
    | 6 =>
      if bit lo 31 = false then s.inc (pWl link) F.WL_LOOP_CNT_LOOP_CNT
      else s.upstream link sec true (fun s =>
        s.when (s.tileLink tile == some link) (fun s => s.creditIn tile (bitsOf lo 29 2) (bitsOf lo 0 24)))
    | _ => s

/-! ### Blocks (R302, R303, R305, R309) -/

/-- A number of bytes, most significant first. -/
def msbNat (bs : List Byte) : Nat := bs.foldl (fun n b => 256 * n + b.toNat) 0

/-- The whole packets at the front of bytes, with the judgement of their trailers, and the bytes of one in progress. 0x00
where a header would start ends the block. -/
def takePackets : Nat → List Byte → List (List Nat × Bool) × List Byte
  | 0, _ => ([], [])
  | n + 1, bs =>
    if bs.headD 0 = 0 then ([], [])
    else if bs.length < 8 then ([], bs)
    else
      let len := bitsOf (msbNat (bs.take 8)) 32 15
      if bs.length < 12 + 8 * len then ([], bs)
      else
        let ws := (cutInto 8 (len + 1) bs).map msbNat
        let x := takePackets n (bs.drop (12 + 8 * len))
        ((ws, leNat ((bs.drop (8 + 8 * len)).take 4) == packetCrc ws) :: x.1, x.2)

/-- Abandon the packet in progress (R305). -/
def LineRx.abandon (rx : LineRx) : LineRx := { rx with part := [], skip := true }

/-- A CAP block (R366): YOUR_POS is applied after three identical ones. -/
def LineRx.capIn (rx : LineRx) (bs : List Byte) : LineRx :=
  let n := if rx.cap = bs then min (rx.caps + 1) 3 else 1
  { rx with cap := bs, caps := n, pos := if n = 3 then (bs.getD 2 0).toNat else rx.pos }

/-- Packet bytes: what has become whole leaves. -/
def LineRx.bytesIn (rx : LineRx) (bs : List Byte) : LineRx × List (List Nat × Bool) :=
  let x := takePackets bs.length bs
  ({ rx with part := x.2, skip := false }, x.1)

/-- One block after decoding and descrambling: hop-scope blocks leave the packet in progress as it is; ERROR and reserved
codes abandon it. PDREQ is answered by PDREQ_RX. -/
def LineRx.blockIn (rx : LineRx) (b : Block) : LineRx × List (List Nat × Bool) :=
  let c := (b.bytes.headD 0).toNat
  if b.start = false then (if rx.skip then (rx, []) else rx.bytesIn (rx.part ++ b.bytes))
  else if 0x70 ≤ c then
    if c = 0xC1 then (rx.capIn b.bytes, []) else if [0xF1, 0xA1, 0xD1, 0xD2].contains c then (rx, []) else (rx.abandon, [])
  else if 0x10 ≤ c then rx.bytesIn b.bytes
  else (rx.abandon, [])

/-- A block on a Wickline feed; an ERROR block is counted, with condition 5 (R305, R347, R350). -/
def State.blockIn (link : Nat) (sec : Bool) (s : State) (b : Block) : State :=
  let k := 2 * link + if sec then 1 else 0
  let l := s.line k
  let x := l.rx.blockIn b
  let s := s.setLine k { l with rx := x.1 }
  let s := s.when (b.start && b.bytes.headD 0 == 0xEE) (fun s =>
    (s.inc (pWl link) F.WL_FEC_UNCORR_CNT_UNCORR_CNT).raise (pWl link) 5)
  s.each x.2 (fun s p => s.packetIn link sec p)

/-! ### Codewords (R299, R300, R305) -/

/-- An uncorrectable codeword on a Wickline feed. -/
def State.badCodeword (s : State) (link : Nat) (sec : Bool) : State :=
  let k := 2 * link + if sec then 1 else 0
  let l := s.line k
  ((s.setLine k { l with rx := l.rx.abandon }).inc (pWl link) F.WL_FEC_UNCORR_CNT_UNCORR_CNT).raise (pWl link) 5

/-- A codeword on lane i of a Wickline feed: corrected symbols and codewords are counted (R347, R391), its blocks are taken
in order. -/
def State.codewordIn (s : State) (link : Nat) (sec : Bool) (i : Nat) (symbols : List Nat) : State :=
  let k := 2 * link + if sec then 1 else 0
  let l := s.line k
  let msg := rsDecode symbols
  let x := decodeBlocks (l.rx.scram.getD i 0) ((msg.map (·.1)).getD (symbols.take 257))
  let scram := ((List.range 4).map (fun j => l.rx.scram.getD j 0)).set i x.1
  let s := s.setLine k { l with rx := { l.rx with scram := scram } }
  match msg with
  | none => s.badCodeword link sec
  | some (_, n) =>
    let lane := (s.feed k).lane + i
    let s := s.when (n != 0) (fun s => (s.inc (pWl link) F.WL_FEC_CORR_CNT_CORR_CNT).incLn lane F.LN_CORR_CNT_CORR_CNT n)
    s.each x.2 (State.blockIn link sec)

/-- What arrives on a feed or a port. The code of a port's lanes is that of IEEE 802.3 (R137): of it only uncorrectable
codewords are events (R178). -/
def State.lineIn (s : State) (f : FeedId) (what : LineIn) : State :=
  match f, what with
  | .wl l sec, .codeword i symbols =>
    if i.val < (s.feed (feedKey f)).width then s.codewordIn l.val sec i.val (symbols.map (·.toNat)) else s
  | .wl l sec, .block start bytes => State.blockIn l.val sec s ⟨start, bytes⟩
  | .eth p, .codeword _ _ => (s.inc (pEth p.val) F.ETH_FEC_UNCORR_CNT_UNCORR_CNT).raise (pEth p.val) 2
  | .eth _, .block _ _ => s

/-- UNCORRECTABLE_CODEWORD (R305): from stage 3 of the receiver's bring-up on, a receiver judges what its lanes bring; a
codeword that can be corrected is corrected, and its packets count as received. -/
def execUncorrectableCodeword (feed : FeedId) (what : LineIn) (s : State) : Host.Outcome State Fault Refusal :=
  .next (if s.pow.up = true ∧ 3 ≤ (s.feed (feedKey feed)).stage ∧ (s.feed (feedKey feed)).stage ≤ 5 then
    s.lineIn feed what else s)

end Sys2Proof.Machine
end

