-- ==== Sys2Proof/Machine/Pixels.lean ====
section
/-!
DEFINITION. Pixel arithmetic: the transfer tables (R160, R211) by exact comparison or 96-bit fixed point,
conversion to linear light (R158, R159), the stored forms (R161, R188) and their unpacking (R189, R190).
-/
namespace Sys2Proof.Machine

/-! ### Transfer tables -/

/-- The greatest n below 2^k for which a monotone test holds; 0 passes. -/
def searchUp (p : Nat → Bool) : Nat → Nat → Nat
  | 0, n => n
  | k + 1, n => if p (n + 2 ^ k) then searchUp p k (n + 2 ^ k) else searchUp p k n

/-- 1 in 96-bit fixed point. -/
def fx1 : Nat := 2 ^ 96

/-- The series of artanh: z + z^3/3 + z^5/5 + …, `t` holding the odd power. -/
def artanhSum (z2 : Nat) : Nat → Nat → Nat → Nat
  | 0, _, _ => 0
  | n + 1, k, t => t / (2 * k + 1) + artanhSum z2 n (k + 1) (t * z2 / fx1)

/-- 2 artanh z for z at most 1/3. -/
def artanh2 (z : Nat) : Nat := 2 * artanhSum (z * z / fx1) 34 0 z

/-- Natural logarithm of a positive number. -/
def lnFx (y : Nat) : Int :=
  let e : Int := (Nat.log2 y : Int) - 96
  let m := if 0 ≤ e then y / 2 ^ e.toNat else y * 2 ^ (-e).toNat
  (artanh2 ((m - fx1) * fx1 / (m + fx1)) : Int) + e * (artanh2 (fx1 / 3) : Int)

/-- The series of exp: 1 + x + x^2/2 + …, `t` holding the term. -/
def expSum (x : Nat) : Nat → Nat → Nat → Nat
  | 0, _, t => t
  | n + 1, k, t => t + expSum x n (k + 1) (t * x / (k * fx1))

/-- exp of a number that is not negative: of its 64th part, squared six times. -/
def expPos (x : Nat) : Nat := iter (fun y => y * y / fx1) 6 (expSum (x / 64) 40 1 fx1)

/-- exp. -/
def expFx (x : Int) : Nat := if 0 ≤ x then expPos x.toNat else fx1 * fx1 / expPos (-x).toNat

/-- y to the power num / den. -/
def powFx (y : Nat) (num den : Int) : Nat := if y = 0 then 0 else expFx (lnFx y * num / den)

/-- round(x · scale), halves up. -/
def roundFx (x scale : Nat) : Nat := (2 * x * scale + fx1) / (2 * fx1)

/-- SDR: round((i / 4096)^2.4 · 2^24), the greatest n with (n − 1/2)^5 ≤ (i / 4096)^12 · 2^120. -/
def sdrTable (i : Nat) : Nat := searchUp (fun n => decide ((2 * n - 1) ^ 5 * 2 ^ 19 ≤ i ^ 12)) 25 0

/-- HLG: the BT.2100 inverse OETF. -/
def hlgTable (i : Nat) : Nat :=
  if i ≤ 2048 then (2 * i * i + 3) / 6
  else
    let x : Int := ((i * 100000000 : Nat) - 55991073 * 4096) * (fx1 : Int) / (17883277 * 4096)
    roundFx ((expFx x + 28466892 * fx1 / 100000000) / 12) (2 ^ 24)

/-- The PQ constants c1, c2 and c3 in 1/65536 (ST 2084). -/
def pqC1 : Nat := 54784 * fx1 / 65536
/-- c2. -/
def pqC2 : Nat := 1235456 * fx1 / 65536
/-- c3. -/
def pqC3 : Nat := 1224704 * fx1 / 65536

/-- PQ: the ST 2084 EOTF over 10,000 cd/m². -/
def pqTable (i : Nat) : Nat :=
  let p := powFx (i * fx1 / 4096) 32 2523
  roundFx (powFx ((p - pqC1) * fx1 / (pqC2 - pqC3 * p / fx1)) 8192 1305) (2 ^ 24)

/-- t[i] by characteristic: 0 SDR, 1 PQ, 2 HLG (R160). -/
def transfer (k i : Nat) : Nat := if k = 0 then sdrTable i else if k = 1 then pqTable i else hlgTable i

/-- The decode of a u17 value by its table, with interpolation (R158). -/
def decodeLin (k n : Nat) : Nat :=
  let i := n / 16
  let a : Int := transfer k i
  let b : Int := transfer k (i + 1)
  if n % 16 = 0 then a.toNat else (a + rshr ((b - a) * (n % 16 : Nat)) 4).toNat

/-- u[i] of R211: ENC 0 SDR, the greatest n with (n − 1/2)^12 ≤ 65,472^12 (i / 1024)^5; 1 linear; 2 PQ. -/
def encodeTable (enc i : Nat) : Nat :=
  if enc = 0 then searchUp (fun n => decide ((2 * n - 1) ^ 12 * 1024 ^ 5 ≤ 130944 ^ 12 * i ^ 5)) 17 0
  else if enc = 1 then (2 * i * 65472 + 1024) / 2048
  else
    let y := powFx (i * fx1 / 1024) 1305 8192
    roundFx (powFx ((pqC1 + pqC2 * y / fx1) * fx1 / (fx1 + pqC3 * y / fx1)) 2523 32) 65472

/-- The encoded component of a written-back pixel (R211). -/
def encodeWb (enc gain v : Nat) : Nat :=
  let vg := satU (rshr (v * gain : Nat) 12) 20
  let fr := vg % 1024
  (rshr (encodeTable enc (vg / 1024) * (1024 - fr) + encodeTable enc (vg / 1024 + 1) * fr : Nat) 16).toNat

/-! ### Conversion (R158, R159) -/

/-- Three components. -/
abbrev Rgb := Nat × Nat × Nat

/-- x[j] of the primaries matrix: BT.709 into BT.2020, or the identity (R159). -/
def primaries (is709 : Bool) (l : Rgb) : Rgb :=
  let (r, g, b) := l
  let row (x y z : Nat) : Nat := min (rshr (x * r + y * g + z * b : Nat) 14).toNat (2 ^ 24)
  if is709 then (row 10280 5395 709, row 1132 15065 187, row 269 1442 14673)
  else (row 16384 0 0, row 0 16384 0, row 0 0 16384)

/-- The format of a network flow that conversion reads (R149). -/
structure PixFmt where
  sampling : Nat
  depth : Nat
  range : Nat
  color : Nat
  tcs : Nat
  scale : Nat
  deriving DecidableEq, Repr

/-- Normalise a sample against black and span (R158). -/
def normY (code black span : Int) : Int := clampI (divRound ((code - black) * 65536) span) 0 65536
/-- Normalise a colour difference sample. -/
def normC (code zero span : Int) : Int := clampI (divRound ((code - zero) * 65536) span) (-32768) 32768

/-- r', g', b' of the code values (R158): (Y, Cb, Cr) by the matrix, or (R, G, B). -/
def PixFmt.nonlinear (f : PixFmt) (code : Rgb) : Rgb :=
  let k : Int := 2 ^ (f.depth - 8)
  let black : Int := if f.range = 0 then 16 * k else 0
  let span : Int := if f.range = 0 then 219 * k else 2 ^ f.depth - 1
  let zero : Int := if f.range = 0 then 128 * k else 2 ^ (f.depth - 1)
  let spanC : Int := if f.range = 0 then 224 * k else 2 ^ f.depth - 1
  if f.sampling = 2 then
    ((normY code.1 black span).toNat, (normY code.2.1 black span).toNat, (normY code.2.2 black span).toNat)
  else
    let y := normY code.1 black span
    let cb := normC code.2.1 zero spanC
    let cr := normC code.2.2 zero spanC
    let m : Int × Int × Int × Int := if f.color = 0 then (25802, 3069, 7670, 30401) else (24160, 2696, 9361, 30825)
    ((clampI (y + rshr (m.1 * cr) 14) 0 65536).toNat,
     (clampI (y - rshr (m.2.1 * cb + m.2.2.1 * cr) 14) 0 65536).toNat,
     (clampI (y + rshr (m.2.2.2 * cb) 14) 0 65536).toNat)

/-- v[j] of a pixel of a network flow (R158). -/
def PixFmt.convert (f : PixFmt) (code : Rgb) : Rgb :=
  let c := f.nonlinear code
  let x := primaries (f.color == 0) (decodeLin f.tcs c.1, decodeLin f.tcs c.2.1, decodeLin f.tcs c.2.2)
  let g (v : Nat) : Nat := satU (rshr (v * f.scale : Nat) 16) 20
  (g x.1, g x.2.1, g x.2.2)

/-- The stored word of a pixel of a network flow (R161). -/
def packFlow (v : Rgb) : Nat :=
  let m := max v.1 (max v.2.1 v.2.2)
  let fits (e : Nat) : Bool := decide (rshr m (3 * e + 1) ≤ 1023)
  let e := if fits 0 then 0 else if fits 1 then 1 else if fits 2 then 2 else 3
  let q (x : Nat) : Nat := min 1023 (rshr x (3 * e + 1)).toNat
  e * 2 ^ 30 + q v.1 * 2 ^ 20 + q v.2.1 * 2 ^ 10 + q v.2.2

/-! ### Samples of packets -/

/-- Pixels and bytes of a pixel group by SAMPLING and DEPTH (ST 2110-20). PRESUMED (log entry 17). -/
def groupOf (sampling depth : Nat) : Nat × Nat :=
  if sampling = 0 then (2, if depth = 8 then 4 else if depth = 10 then 5 else 6)
  else if depth = 8 then (1, 3) else if depth = 10 then (4, 15) else (2, 9)

/-- Big-endian number of bytes. -/
def beNat (bs : List Byte) : Nat := leNat bs.reverse

/-- The `n` samples of `d` bits that bytes hold, most significant bit first. -/
def samples (bs : List Byte) (d n : Nat) : List Nat :=
  let v := beNat bs
  let w := 8 * bs.length
  (List.range n).map (fun k => bitsOf v (w - (k + 1) * d) d)

/-- Cut a list into pieces of `n`, at most `k` of them. -/
def pieces {α : Type} (n : Nat) : Nat → List α → List (List α)
  | 0, _ => []
  | k + 1, l => l.take n :: pieces n k (l.drop n)

/-! ### Stored formats (R188 to R190) -/

/-- Bytes per pixel of a store format (R182). -/
def fmtBytes (f : Nat) : Nat := if f = 1 ∨ f = 2 then 2 else if f = 3 then 3 else 4

/-- Component code values with their widths, and alpha, of a packed pixel (R188, R190). -/
def unpackCode (f w : Nat) : (Rgb × (Nat × Nat × Nat)) × Nat :=
  if f = 1 then (((bitsOf w 11 5, bitsOf w 5 6, bitsOf w 0 5), (5, 6, 5)), 1024)
  else if f = 2 then (((bitsOf w 10 5, bitsOf w 5 5, bitsOf w 0 5), (5, 5, 5)), bitsOf w 15 1 * 1024)
  else if f = 3 then (((bitsOf w 16 8, bitsOf w 8 8, bitsOf w 0 8), (8, 8, 8)), 1024)
  else if f = 4 then
    (((bitsOf w 16 8, bitsOf w 8 8, bitsOf w 0 8), (8, 8, 8)), (divRound (bitsOf w 24 8 * 1024 : Nat) 255).toNat)
  else (((bitsOf w 20 10, bitsOf w 10 10, bitsOf w 0 10), (10, 10, 10)), (divRound (bitsOf w 30 2 * 1024 : Nat) 3).toNat)

/-- Linear value of a packed component by the layer's TRANSFER (R189). -/
def packedLin (tr c w : Nat) : Nat :=
  let n := (divRound (c * 65536 : Nat) (2 ^ w - 1 : Nat)).toNat
  if tr = 0 then n * 256 else decodeLin (tr - 1) n

/-- The three u20 components and the alpha of a source pixel (R189, R190). -/
def unpackPixel (f tr : Nat) (is709 : Bool) (gain w : Nat) : Rgb × Nat :=
  if f = 0 then
    let e := bitsOf w 30 2
    let g (m : Nat) : Nat := satU (rshr (m * 2 ^ (3 * e + 1) * gain : Nat) 12) 20
    ((g (bitsOf w 20 10), g (bitsOf w 10 10), g (bitsOf w 0 10)), 1024)
  else
    let u := unpackCode f w
    let c := u.1.1
    let n := u.1.2
    let x := primaries is709 (packedLin tr c.1 n.1, packedLin tr c.2.1 n.2.1, packedLin tr c.2.2 n.2.2)
    let g (v : Nat) : Nat := satU (rshr (v * gain : Nat) 16) 20
    ((g x.1, g x.2.1, g x.2.2), u.2)

end Sys2Proof.Machine
end

