-- ==== Sys2Proof/Machine/Ingest.lean ====
section
/-!
DEFINITION. Ethernet ports and source ingest (R137 to R182): what a port answers, neighbours and group
membership, packets to frames, ST 2022-7 merging, frame selection, pushed frames.
-/
namespace Sys2Proof.Machine

/-! ### Group membership (R146, R147) -/

/-- A path block of a flow (R182). -/
structure Path where
  on : Bool
  port : Nat
  udp : Nat
  v6 : Bool
  dst : Nat
  src : Nat
  deriving DecidableEq, Repr

/-- Path i of flow f; only a network flow has paths (R148). -/
def pathOf (c : Sparse Word) (f i : Nat) : Path :=
  let p := pFlow f
  let v6 := cfld c p F.FLOW_CFG_IPV6 == 1
  let q := p + 0x30 * i
  ⟨cfld c p F.FLOW_CFG_ENABLE == 1 && cfld c p F.FLOW_CFG_SOURCE == 0 && cfld c q F.PATH_CFG_ENABLE == 1,
   cfld c q F.PATH_CFG_PORT, cfld c q F.PATH_CFG_UDP_DST, v6,
   addr4 v6 (fun k => cfld c q ⟨F.PATH_DST0_ADDR.off + 4 * k, 0, 0, 32⟩),
   addr4 v6 (fun k => cfld c q ⟨F.PATH_SRC0_ADDR.off + 4 * k, 0, 0, 32⟩)⟩

/-- The enabled paths of the flows in force. -/
def pathsOn (c : Sparse Word) : List Path :=
  ((flowsOn c).map (fun f => [pathOf c f 0, pathOf c f 1])).flatten.filter (·.on)

/-- Add a source filter to the groups of a port; different filters of one group make EXCLUDE with no source. -/
def joinGroup (l : List (BitVec 128 × List (BitVec 128))) (g : BitVec 128) (src : List (BitVec 128)) :
    List (BitVec 128 × List (BitVec 128)) :=
  match l with
  | [] => [(g, src)]
  | e :: t => if e.1 = g then (g, if e.2 = src then src else []) :: t else e :: joinGroup t g src

/-- The groups a port joins (R146). -/
def groupsOf (c : Sparse Word) (p : Nat) : List (BitVec 128 × List (BitVec 128)) :=
  ((pathsOn c).filter (fun x => x.port == p && isMulticast x.dst)).foldl (fun l x =>
    joinGroup l (BitVec.ofNat 128 x.dst) (if x.src = 0 then [] else [BitVec.ofNat 128 x.src])) []

/-- A group of IPv4. -/
def groupV4 (g : BitVec 128) : Bool := decide (g.toNat < 2 ^ 32)

/-- The record of a group: the sources that include it, none for EXCLUDE with an empty source list; a group that is
left is INCLUDE with no source (R146). -/
def groupRec (l : List (BitVec 128 × List (BitVec 128))) (g : BitVec 128) : GroupRec :=
  match l.find? (fun e => e.1 == g) with
  | some e => ⟨g, e.2.isEmpty, e.2⟩
  | none => ⟨g, false, []⟩

/-- Send records in a report, the two families in a frame each: to 224.0.0.22 or ff02::16, from the port's IPv4
address, 0.0.0.0 when it has none, or its link-local address (R147). -/
def State.report (s : State) (p : Nat) (rs : List GroupRec) (change : Bool) : State :=
  let a := rs.filter (fun r => groupV4 r.group)
  let b := rs.filter (fun r => !groupV4 r.group)
  let v4 : Nat := 0xE0000016
  let v6 : Nat := 0xFF02 * 2 ^ 112 + 0x16
  if s.portUp p then
    let s := s.when (!a.isEmpty) (fun s => s.txFrame p (groupMac v4) (.groupReport (s.ip4 p) v4 a change))
    s.when (!b.isEmpty) (fun s => s.txFrame p (groupMac v6) (.groupReport (s.ip6ll p) v6 b change))
  else s

/-- R146: the groups of a port change with the configuration. -/
def State.joinPorts (s : State) (c : Sparse Word) : State :=
  s.each (List.range 8) (fun s p =>
    let r := s.port p
    let new := groupsOf c p
    let changed := ((r.groups ++ new).map (·.1)).eraseDups.filter (fun g =>
      r.groups.find? (fun e => e.1 == g) != new.find? (fun e => e.1 == g))
    if changed = [] then s
    else
      let rs := changed.map (groupRec new)
      (s.setPort p { r with groups := new, changes := r.changes ++ [rs] }).report p rs true)

/-- STATE_CHANGE_REPORT once more (R146): the oldest report that waits. -/
def execStateChangeRepeat (port : PortNo) (s : State) : Host.Outcome State Fault Refusal :=
  .next (let r := s.port port
    match r.changes with
    | rs :: t => (s.setPort port { r with changes := t }).report port rs true
    | [] => s)

/-- CURRENT_STATE_REPORT (R147): the groups that queries asked about and the port has joined. -/
def execCurrentStateReport (port : PortNo) (s : State) : Host.Outcome State Fault Refusal :=
  .next (let r := s.port port
    let gs := r.reports.filter (fun g => r.groups.any (fun e => e.1 == g))
    (s.setPort port { r with reports := [] }).report port (gs.map (groupRec r.groups)) false)

/-! ### Neighbours (R143 to R145) -/

/-- All-hosts MAC addresses: broadcast, and IPv6 all-nodes. -/
def broadcastMac : Nat := 0xFFFFFFFFFFFF
/-- ff02::1. -/
def allNodesMac : Nat := 0x333300000001

/-- One gratuitous ARP request, and one unsolicited advertisement per IPv6 address (R143, R144). -/
def State.announceIp (s : State) (p : Nat) (v4 v6 ll : Bool) : State :=
  if s.portUp p then
    let s := s.when (v4 && s.ip4 p != 0) (fun s => s.txFrame p broadcastMac (.gratuitousArp (BitVec.ofNat 32 (s.ip4 p))))
    let s := s.when (v6 && s.ip6 p != 0) (fun s => s.txFrame p allNodesMac (.advertisement (BitVec.ofNat 128 (s.ip6 p)) false))
    s.when (ll && s.ip6ll p != 0) (fun s => s.txFrame p allNodesMac (.advertisement (BitVec.ofNat 128 (s.ip6ll p)) false))
  else s

/-- After a configuration took effect: `old` is the one before (R143, R144). -/
def State.readdress (s : State) (old : Sparse Word) : State :=
  s.each (List.range 8) (fun s p =>
    let o := { s with force := old }
    s.announceIp p (s.ip4 p != o.ip4 p) (s.ip6 p != o.ip6 p) (s.ip6ll p != o.ip6ll p))

/-- An answer or another frame tells the MAC address of a neighbour: an entry takes it, and the frames that
waited on it leave (R145). -/
def State.learn (s : State) (p : Nat) (ip : BitVec 128) (mac : BitVec 48) : State :=
  let r := s.port p
  match r.misses.find? (fun e => e.1 == ip) with
  | some m =>
    let s := s.setPort p { r with
      cache := ((ip, mac) :: r.cache.filter (fun e => e.1 != ip)).take 32,
      misses := r.misses.filter (fun e => e.1 != ip) }
    s.each m.2.2 (fun s o => s.txFrame p mac.toNat o)
  | none => s.setPort p { r with cache := r.cache.map (fun e => if e.1 = ip then (ip, mac) else e) }

/-- NEIGHBOUR_RETRY (R145): the request goes again, three times in all. -/
def execNeighbourRetry (port : PortNo) (ip : BitVec 128) (s : State) : Host.Outcome State Fault Refusal :=
  .next (let r := s.port port
    match r.misses.find? (fun e => e.1 == ip) with
    | some m =>
      if m.2.1 < 3 then
        (s.setPort port { r with misses := r.misses.map (fun e => if e.1 = ip then (e.1, e.2.1 + 1, e.2.2) else e) }).askNeighbour
          port ip
      else s
    | none => s)

/-- A frame of a view's preview is dropped (R215). -/
def State.dropPreview (s : State) (v : Nat) : State :=
  (s.inc (pView v) F.VIEW_PV_DROP_CNT_DROP_CNT).setCond (pView v) 3

/-- A waiting frame is dropped for want of a neighbour (R145, R215). -/
def State.dropFrame (s : State) (p : Nat) (o : Tx) : State :=
  let s := s.inc (pEth p) F.ETH_NBR_FAIL_CNT_NBR_FAIL_CNT
  match o with
  | .preview v _ _ _ _ _ => s.dropPreview v
  | _ => s

/-- NEIGHBOUR_FAILURE (R145): after three requests. -/
def execNeighbourFailure (port : PortNo) (ip : BitVec 128) (s : State) : Host.Outcome State Fault Refusal :=
  .next (let r := s.port port
    match r.misses.find? (fun e => e.1 == ip) with
    | some m =>
      if 3 ≤ m.2.1 then
        let s := s.setPort port { r with misses := r.misses.filter (fun e => e.1 != ip) }
        ((s.each m.2.2 (fun s o => s.dropFrame port o)).setCond (pEth port) 4).settle
      else s
    | none => s)

/-- NEIGHBOUR_ENTRY_EXPIRE (R145): 300 s without a refresh. -/
def execNeighbourEntryExpire (port : PortNo) (ip : BitVec 128) (s : State) : Host.Outcome State Fault Refusal :=
  .next (s.setPort port { s.port port with cache := (s.port port).cache.filter (fun e => e.1 != ip) })

/-! ### A port's link -/

/-- ETH_LINK_UP (R143, R144, R178, R371): alignment and FEC lock on all lanes; `trims` are what the receivers
adapted to. -/
def execEthLinkUp (port : PortNo) (trims : List LaneTrim) (s : State) : Host.Outcome State Fault Refusal :=
  let k := 1024 + port.val
  let f := s.feed k
  .next (if f.stage = 3 then
      let s := s.each (List.range f.width) (fun s i => s.writeTrims (f.lane + i) 1 ((((trims.getD i ⟨[]⟩).words).drop 1).take 7))
      let s := (s.laneBits f 1 1).reachActive k
      let s := (s.setFld (pEth port) F.ETH_STAT_LINK_UP 1).setFld (pEth port) F.ETH_STAT_LANE_LOCK (2 ^ f.width - 1)
      ((s.setCond (pEth port) 0).announceIp port true true true).settle
    else s)

/-- ETH_LINK_DOWN (R371, R179): the lanes go back to stage 1. -/
def execEthLinkDown (port : PortNo) (s : State) : Host.Outcome State Fault Refusal :=
  let k := 1024 + port.val
  let f := s.feed k
  .next (if f.stage = 5 then ((s.leaveActive k f).toDetect k { f with record := 2 }).settle else s)

/-- ETH_CLR CLEAR (R178). -/
def State.ethClear (s : State) (p : Nat) : State :=
  let s := s.each [F.ETH_RX_CNT_RX_CNT, F.ETH_FCS_CNT_FCS_CNT, F.ETH_FEC_CORR_CNT_CORR_CNT, F.ETH_FEC_UNCORR_CNT_UNCORR_CNT,
    F.ETH_UNMATCHED_CNT_UNMATCHED_CNT, F.ETH_TX_CNT_TX_CNT, F.ETH_NBR_FAIL_CNT_NBR_FAIL_CNT] (fun s f => s.setFld (pEth p) f 0)
  s.setFld (pEth p) F.ETH_STAT_ADDR_CONFLICT 0

/-! ### Frames of a flow (R152 to R166) -/

/-- A flow without a frame. -/
def FlowRt.idle : FlowRt := ⟨none, none, none, none, 0, [], 0, 0, 0, none, none, [], none, none, [], 0, false⟩
/-- What flow f keeps. -/
def State.flow (s : State) (f : Nat) : FlowRt := look FlowRt.idle s.flows f
/-- Replace it. -/
def State.setFlow (s : State) (f : Nat) (r : FlowRt) : State := { s with flows := ins FlowRt.idle f r s.flows }

/-- A flow's frame store (R163). -/
structure Store where
  base : Nat
  width : Nat
  height : Nat
  pitch : Nat
  fmt : Nat
  deriving DecidableEq, Repr

/-- The store of flow f. A network flow uses the flow form (R188). -/
def storeOf (c : Sparse Word) (f : Nat) : Store :=
  let p := pFlow f
  ⟨cpair c p F.FLOW_STORE_LO_STORE F.FLOW_STORE_HI_STORE, cfld c p F.FLOW_SIZE_WIDTH, cfld c p F.FLOW_SIZE_HEIGHT,
   cfld c p F.FLOW_PITCH_PITCH, if cfld c p F.FLOW_CFG_SOURCE = 0 then 0 else cfld c p F.FLOW_FMT_PUSH_FMT⟩

/-- BUF_BYTES (R163). -/
def Store.bufBytes (t : Store) : Nat := ceilDiv (t.pitch * t.height) 4096 * 4096
/-- Address of pixel (x, y) of buffer b (R163). -/
def Store.pixel (t : Store) (b x y : Nat) : Nat := t.base + b * t.bufBytes + y * t.pitch + x * fmtBytes t.fmt

/-- The lowest-numbered buffer that is neither READ nor NEWEST (R164). -/
def FlowRt.freeBuf (r : FlowRt) : Nat :=
  ((List.range 3).find? (fun b => r.readBuf != some b && r.newest != some b)).getD 0

/-- The WRITE buffer (R153, R164, R168). -/
def FlowRt.writeBuf (r : FlowRt) (push : Bool) : Nat :=
  match r.asm with
  | some a => a.buf
  | none => match r.again with
    | some b => b
    | none => if push then r.pushBuf else r.freeBuf

/-- The frame in a buffer. -/
def FlowRt.frame (r : FlowRt) (b : Nat) : Option Frame := look none r.frames b

/-- A condition of a flow: ING_ALERT and the page's condition (R180, R181). -/
def State.ingCond (s : State) (f k : Nat) : State :=
  let fd := if f < 32 then F.ING_ALERT_LO_FLOW else F.ING_ALERT_HI_FLOW
  (s.setFld pIng fd (setBits (s.fld pIng fd) (f % 32) 1 1)).setCond pIng k

/-- A descriptor for the flow's ingest event ring (R173, R174). -/
def State.flowEvent (s : State) (f kind ts path buf time : Nat) (lead : Int) : State :=
  if s.ff (pFlow f) F.FLOW_RING_VALID = 1 then
    s.refPush f (s.ff (pFlow f) F.FLOW_RING_RING)
      [kind * 2 ^ 56 + f, ts % 2 ^ 32 * 2 ^ 32 + path * 4 + buf, time, ofS 32 (satS lead 32) * 2 ^ 32]
  else s

/-- A frame is complete in a buffer, which becomes NEWEST (R152, R164, R168). -/
def State.completeFrame (s : State) (f buf ts : Nat) : State :=
  let r := s.flow f
  let skipped := match r.newest.bind r.frame with
    | some x => !x.chosen
    | none => false
  let s := s.when skipped (·.inc (pFlow f) F.FLOW_SKIPPED_CNT_SKIPPED_CNT)
  let x : Frame := ⟨r.serial + 1, ts, s.now, false⟩
  let s := s.setFlow f { r with frames := ins none buf (some x) r.frames, serial := r.serial + 1, newest := some buf }
  (s.inc (pFlow f) F.FLOW_COMPLETE_CNT_COMPLETE_CNT).flowEvent f 0x30 ts 0 buf s.now 0

/-- The frame in assembly completes. -/
def State.completeAsm (s : State) (f : Nat) (a : Asm) : State :=
  (s.setFlow f { s.flow f with asm := none, lastTs := some a.ts }).completeFrame f a.buf a.ts

/-- The frame in assembly ends: complete when all its pixels were written, else damaged (R153); none completes while
MEM_OFFLINE is set (R177). -/
def State.endAsm (s : State) (f : Nat) : State :=
  match (s.flow f).asm with
  | none => s
  | some a =>
    if a.full && !s.memOff then s.completeAsm f a
    else
      let s := s.setFlow f { s.flow f with asm := none, lastTs := some a.ts, again := some a.buf }
      ((s.inc (pFlow f) F.FLOW_DAMAGED_CNT_DAMAGED_CNT).ingCond f 0).flowEvent f 0x31 a.ts 0 a.buf s.now 0

/-- FRAME_COMPLETE (R152): the last write of the frame in assembly has reached GDDR6. -/
def execFrameComplete (flow : FlowNo) (s : State) : Host.Outcome State Fault Refusal :=
  .next (match (s.flow flow).asm with
    | some a => if a.full = true ∧ s.memOff = false then (s.completeAsm flow a).settle else s
    | none => s)

/-- R157: MERGE_RISK follows SKEW_NS and GAP_NS; condition 4 as it becomes set. -/
def State.judgeRisk (s : State) (f : Nat) : State :=
  let risk := decide (s.fld (pFlow f) F.FLOW_GAP_GAP_NS ≤ (s.sfld (pFlow f) F.FLOW_SKEW_SKEW_NS).natAbs)
  let was := s.fld (pFlow f) F.FLOW_STAT_MERGE_RISK == 1
  let s := s.setFld (pFlow f) F.FLOW_STAT_MERGE_RISK (if risk then 1 else 0)
  s.when (risk && !was) (·.ingCond f 4)

/-- R166: the arrival of a frame's first packet: FRAME_PERIOD, and the sample of class-B slot f. -/
def State.firstPacket (s : State) (f : Nat) : State :=
  let t := s.now
  let r := s.flow f
  let s := match r.firstAt with
    | some l => s.setFld (pFlow f) F.FLOW_FRAME_PERIOD_FRAME_PERIOD_NS ((t + 2 ^ 64 - l) % 2 ^ 64)
    | none => s
  let gaps := match r.lastAt with
    | some l => (((t + 2 ^ 64 - l) % 2 ^ 64) :: r.gaps).take 64
    | none => r.gaps
  let dual := s.ff (pFlow f) F.FLOW_CFG_DUAL == 1
  let s := (s.setFlow f { r with firstAt := some t, gaps := if dual then gaps else r.gaps }).emit (.sample (16 + f) t)
  if dual = true ∧ r.lastAt ≠ none then
    (s.setFld (pFlow f) F.FLOW_GAP_GAP_NS (min (gaps.foldl min (2 ^ 32 - 1)) (2 ^ 32 - 1))).judgeRisk f
  else s

/-- A frame starts (R164). -/
def State.startAsm (s : State) (f ts : Nat) : State :=
  let s := s.firstPacket f
  let r := s.flow f
  let b := match r.again with
    | some b => b
    | none => r.freeBuf
  s.setFlow f { r with asm := some ⟨ts, b, 0, [], [], false⟩, again := none }

/-- The conversion of a network flow in force (R158). -/
def fmtOf (c : Sparse Word) (f : Nat) : PixFmt :=
  let p := pFlow f
  ⟨cfld c p F.FLOW_FMT_SAMPLING, 8 + 2 * cfld c p F.FLOW_FMT_DEPTH, cfld c p F.FLOW_FMT_RANGE,
   cfld c p F.FLOW_FMT_COLORIMETRY, cfld c p F.FLOW_FMT_TCS, cfld c p F.FLOW_SCALE_SCALE⟩

/-- Sample Row Data header of ST 2110-20 (R150). -/
structure Srd where
  row : Nat
  offset : Nat
  field : Bool
  len : Nat
  deriving DecidableEq, Repr

/-- An ST 2110-20 packet by its fields; `data` is what follows its last SRD header, `whole` says that its headers and
its padding lie inside it. -/
structure VideoPacket where
  v6 : Bool
  dst : Nat
  src : Nat
  udpDst : Nat
  pt : Nat
  seq : Nat
  ts : Nat
  srds : List Srd
  data : List Byte
  whole : Bool
  deriving DecidableEq, Repr

/-- Sample Row Data headers, up to the first without the continuation bit, at most `n`; and what follows. -/
def readSrds : Nat → List Byte → List Srd × List Byte
  | 0, bs => ([], bs)
  | n + 1, bs =>
    let l := beNat (bs.take 2)
    let r := beNat ((bs.drop 2).take 2)
    let o := beNat ((bs.drop 4).take 2)
    let d : Srd := ⟨r % 2 ^ 15, o % 2 ^ 15, bit r 15, l⟩
    if bit o 15 then let t := readSrds n (bs.drop 6); (d :: t.1, t.2) else ([d], bs.drop 6)

/-- The RTP packet in a UDP payload (R150, R151): version 2, CSRC list and header extension skipped, the extended
sequence number of the two headers, one more SRD than the three allowed, padding removed. -/
def readRtp (h : IpRx) (udpDst : Nat) (bs : List Byte) : VideoPacket :=
  let b0 := beNat (bs.take 1)
  let b1 := beNat ((bs.drop 1).take 1)
  let ext := 12 + 4 * (b0 % 16)
  let hdr := ext + (if bit b0 4 then 4 + 4 * beNat ((bs.drop (ext + 2)).take 2) else 0)
  let r := readSrds 4 (bs.drop (hdr + 2))
  let pad := if bit b0 5 then beNat (bs.drop (bs.length - 1)) else 0
  ⟨h.v6, h.dst.toNat, h.src.toNat, udpDst, b1 % 128, beNat ((bs.drop hdr).take 2) * 2 ^ 16 + beNat ((bs.drop 2).take 2),
   beNat ((bs.drop 4).take 4), r.1, r.2.take (r.2.length - pad),
   decide (hdr + 2 + 6 * r.1.length + pad ≤ bs.length)⟩

/-- Write one pixel of a frame and count it; nothing is written while MEM_OFFLINE is set (R177). -/
def State.putPixel (s : State) (f : Nat) (a : Asm) (x y : Nat) (code : Rgb) : State × Asm :=
  if s.memOff then (s, a)
  else
    (s.poke ((storeOf s.force f).pixel a.buf x y) (leBytes 4 (packFlow ((fmtOf s.force f).convert code))),
     { a with count := a.count + 1 })

/-- Key of a pixel. -/
def pixKey (x y : Nat) : Nat := y * 65536 + x

/-- Two pixels of 4:2:2 from an even column x (R158): the odd one waits for the sample at its right, and the
one before x waited for this. -/
def State.put422 (s : State) (f : Nat) (a : Asm) (x y cb y0 cr y1 : Nat) : State × Asm :=
  let w := (storeOf s.force f).width
  let a := { a with chroma := ins none (pixKey x y) (some (cb, cr)) a.chroma }
  let r := s.putPixel f a x y (y0, cb, cr)
  let s := r.1
  let a := r.2
  let mean (p q : Nat) : Nat := (rshr ((p : Int) + q) 1).toNat
  let r := if w ≤ x + 2 then s.putPixel f a (x + 1) y (y1, cb, cr)
    else match look none a.chroma (pixKey (x + 2) y) with
      | some c => s.putPixel f a (x + 1) y (y1, mean cb c.1, mean cr c.2)
      | none => (s, { a with wait := ins none (pixKey (x + 1) y) (some y1) a.wait })
  let s := r.1
  let a := r.2
  if x = 0 then (s, a)
  else match look none a.wait (pixKey (x - 1) y), look none a.chroma (pixKey (x - 2) y) with
    | some l, some c =>
      s.putPixel f { a with wait := ins none (pixKey (x - 1) y) none a.wait } (x - 1) y (l, mean c.1 cb, mean c.2 cr)
    | _, _ => (s, a)

/-- One pixel group at pixel offset x (R158; sample order of ST 2110-20, log entry 17). -/
def State.putGroup (s : State) (f : Nat) (a : Asm) (x y : Nat) (g : List Byte) : State × Asm :=
  let m := fmtOf s.force f
  if m.sampling = 0 then
    let v := samples g m.depth 4
    s.put422 f a x y (v.getD 0 0) (v.getD 1 0) (v.getD 2 0) (v.getD 3 0)
  else
    let n := (groupOf m.sampling m.depth).1
    let v := samples g m.depth (3 * n)
    (List.range n).foldl (fun st k =>
      let c0 := v.getD (3 * k) 0
      let c1 := v.getD (3 * k + 1) 0
      let c2 := v.getD (3 * k + 2) 0
      st.1.putPixel f st.2 (x + k) y (if m.sampling = 2 then (c0, c1, c2) else (c1, c0, c2))) (s, a)

/-- The pixels of one SRD: its row, offset and data (R150). -/
def State.putSrd (s : State) (f : Nat) (a : Asm) (d : Srd) (bs : List Byte) : State × Asm :=
  let m := fmtOf s.force f
  let g := groupOf m.sampling m.depth
  ((pieces g.2 (d.len / g.2) bs).zipIdx).foldl (fun st e => st.1.putGroup f st.2 (d.offset + g.1 * e.2) d.row e.1) (s, a)

/-- The pixels of a packet's SRDs, in order. -/
def State.putSrds (s : State) (f : Nat) (a : Asm) : List Srd → List Byte → State × Asm
  | [], _ => (s, a)
  | d :: t, bs => let r := s.putSrd f a d (bs.take d.len); r.1.putSrds f r.2 t (bs.drop d.len)

/-! ### Packets (R148 to R157) -/

/-- The path that a packet matches: flow, path B (R148). -/
def State.matchPath (s : State) (port : Nat) (p : VideoPacket) : Option (Nat × Bool) :=
  let hit (f i : Nat) : Bool :=
    let x := pathOf s.force f i
    let pt := s.ff (pFlow f) F.FLOW_CFG_PT
    x.on && x.port == port && x.v6 == p.v6 && x.dst == p.dst && x.udp == p.udpDst &&
      (x.src == 0 || x.src == p.src) && (pt == 0 || pt == p.pt)
  (flowsOn s.force).findSome? (fun f => if hit f 0 then some (f, false) else if hit f 1 then some (f, true) else none)

/-- R151: the packet is malformed. -/
def State.malformed (s : State) (f : Nat) (p : VideoPacket) : Bool :=
  let m := fmtOf s.force f
  let t := storeOf s.force f
  let g := groupOf m.sampling m.depth
  p.srds.any (fun d => d.field || d.offset % g.1 != 0 || d.len % g.2 != 0 || decide (t.height ≤ d.row) ||
    decide (t.width < d.offset + d.len / g.2 * g.1)) ||
  decide (3 < p.srds.length) || !p.whole || (p.srds.map (·.len)).sum != p.data.length

/-- The outcome of merging (R155). -/
inductive Verdict | accepted | duplicate | late
  deriving DecidableEq, Repr

/-- R155: merge by the extended sequence number; the numbers accepted are recorded. -/
def FlowRt.merge (r : FlowRt) (q : Nat) (b : Bool) (t : Nat) : FlowRt × Verdict :=
  match r.high with
  | none => ({ r with high := some q, seen := [⟨q, b, t⟩] }, .accepted)
  | some h =>
    let d := toS 32 (q + 2 ^ 32 - h)
    if 0 < d then
      ({ r with high := some q, seen := ⟨q, b, t⟩ :: r.seen.filter (fun a => decide (-32768 < toS 32 (a.seq + 2 ^ 32 - q))) },
       .accepted)
    else if d ≤ -32768 then (r, .late)
    else if r.seen.any (fun a => a.seq == q) then (r, .duplicate)
    else ({ r with seen := ⟨q, b, t⟩ :: r.seen }, .accepted)

/-- R154: the timestamp is that of an earlier frame. -/
def FlowRt.late (r : FlowRt) (ts : Nat) : Bool :=
  match r.asm with
  | some a => if a.full then !later 32 ts a.ts else later 32 a.ts ts
  | none => match r.lastTs with
    | some l => !later 32 ts l
    | none => false

/-- The UP bit of a path. -/
def upFld (b : Bool) : Fld := if b then F.FLOW_STAT_PATH_B_UP else F.FLOW_STAT_PATH_A_UP

/-- R157: the skew of a packet whose copy came on the other path. -/
def State.measureSkew (s : State) (f q : Nat) (b : Bool) : State :=
  match (s.flow f).seen.find? (fun a => a.seq == q) with
  | some a =>
    if a.pathB ≠ b ∧ s.ff (pFlow f) F.FLOW_CFG_DUAL = 1 then
      let d := toS 64 (s.now + 2 ^ 64 - a.time)
      (s.setS (pFlow f) F.FLOW_SKEW_SKEW_NS (satS (if b then d else -d) 32)).judgeRisk f
    else s
  | none => s

/-- A usable packet keeps its path up, or restores it (R156). -/
def State.keepPath (s : State) (f : Nat) (b : Bool) : State :=
  if s.fld (pFlow f) (upFld b) = 1 then s
  else ((s.setFld (pFlow f) (upFld b) 1).ingCond f 2).flowEvent f 0x34 0 (if b then 1 else 0) 0 s.now 0

/-- An accepted packet: its frame, and its pixels (R152, R153). -/
def State.acceptPacket (s : State) (f : Nat) (p : VideoPacket) : State :=
  let ts := p.ts
  let s := match (s.flow f).asm with
    | none => s.startAsm f ts
    | some a => if later 32 ts a.ts then (s.endAsm f).startAsm f ts else s
  match (s.flow f).asm with
  | none => s
  | some a =>
    let r := s.putSrds f a p.srds p.data
    let st := storeOf s.force f
    let a := { r.2 with full := r.2.full || decide (st.width * st.height ≤ r.2.count) }
    r.1.setFlow f { r.1.flow f with asm := some a, lastAt := some s.now }

/-- A packet that matches a path of flow f (R150 to R157); during a change of pin rate the ING ports drop it (R469). -/
def State.flowPacket (s : State) (f : Nat) (b : Bool) (p : VideoPacket) : State :=
  if s.rateChanging then s else
  let s := s.inc (pFlow f) (if b then F.FLOW_PATH_B_CNT_PKT_CNT else F.FLOW_PATH_A_CNT_PKT_CNT)
  if s.malformed f p then (s.inc (pFlow f) F.FLOW_MALFORMED_CNT_MALFORMED_CNT).ingCond f 5
  else
    let m := (s.flow f).merge p.seq b s.now
    let s := s.setFlow f m.1
    match m.2 with
    | .late => s.inc (pFlow f) F.FLOW_LATE_CNT_LATE_CNT
    | .duplicate => ((s.inc (pFlow f) F.FLOW_DUP_CNT_DUP_CNT).measureSkew f p.seq b).keepPath f b
    | .accepted =>
      if (s.flow f).late p.ts then s.inc (pFlow f) F.FLOW_LATE_CNT_LATE_CNT
      else (s.keepPath f b).acceptPacket f p

/-- Every enabled path of the flow is lost. -/
def State.allLost (s : State) (f : Nat) : Bool :=
  [false, true].all (fun b => !(pathOf s.force f (if b then 1 else 0)).on || s.fld (pFlow f) (upFld b) == 0)

/-- All enabled paths of the flow are lost: the frame in assembly ends (R153), the record is emptied (R155) and earlier
frames are out of account (R154). -/
def State.loseFlow (s : State) (f : Nat) : State :=
  let s := s.endAsm f
  s.setFlow f { s.flow f with high := none, seen := [], lastTs := none }

/-- PATH_LOST (R156): PATH_TIMEOUT without a usable packet. -/
def execPathLost (flow : FlowNo) (pathB : Bool) (s : State) : Host.Outcome State Fault Refusal :=
  let f := flow.val
  .next (if (pathOf s.force f (if pathB then 1 else 0)).on = true ∧ s.fld (pFlow f) (upFld pathB) = 1 then
      let s := ((s.setFld (pFlow f) (upFld pathB) 0).ingCond f 1).flowEvent f 0x33 0 (if pathB then 1 else 0) 0 s.now 0
      (if s.allLost f then s.loseFlow f else s).settle
    else s)

/-- FLOW_CLR CLEAR (R182). -/
def State.flowClear (s : State) (f : Nat) : State :=
  let s := s.each [F.FLOW_COMPLETE_CNT_COMPLETE_CNT, F.FLOW_DAMAGED_CNT_DAMAGED_CNT, F.FLOW_SKIPPED_CNT_SKIPPED_CNT,
    F.FLOW_REPEAT_CNT_REPEAT_CNT, F.FLOW_DUP_CNT_DUP_CNT, F.FLOW_LATE_CNT_LATE_CNT, F.FLOW_MALFORMED_CNT_MALFORMED_CNT,
    F.FLOW_PATH_A_CNT_PKT_CNT, F.FLOW_PATH_B_CNT_PKT_CNT] (fun s x => s.setFld (pFlow f) x 0)
  let s := (s.setFld (pFlow f) F.FLOW_LEAD_MIN_LEAD_MIN 0x7FFFFFFF).setFld (pFlow f) F.FLOW_LEAD_MAX_LEAD_MAX 0x80000000
  let s := s.setFld (pFlow f) F.FLOW_GAP_GAP_NS 0xFFFFFFFF
  (s.setFlow f { s.flow f with gaps := [] }).judgeRisk f

/-! ### Pushed frames (R168 to R171) -/

/-- ING_PUSH (R168, R170): a write by `seat` that names a flow. -/
def State.ingPush (s : State) (seat f : Nat) : State :=
  let err := if seat ≠ 0 then 1
    else if s.ff (pFlow f) F.FLOW_CFG_ENABLE = 0 ∨ s.ff (pFlow f) F.FLOW_CFG_SOURCE = 0 then 2
    else if s.memOff then 3 else 0
  if err = 0 then s.setFlow f { s.flow f with waiting := (s.flow f).waiting + 1 }
  else (((s.setFld pIng F.ING_PUSH_ERR_LAST_ERR err).inc pIng F.ING_PUSH_ERR_ERR_CNT).setCond pIng 6).settle

/-- PUSH_COMPLETE (R168): the BAR2 writes before an ING_PUSH have reached GDDR6; the instant is a sample of the flow's
tracker (R427). -/
def execPushComplete (flow : FlowNo) (s : State) : Host.Outcome State Fault Refusal :=
  let f := flow.val
  let r := s.flow f
  .next (if 0 < r.waiting ∧ s.memOff = false ∧ s.bar2Held = [] then
      let n := (r.pushes + 1) % 2 ^ 32
      let s := (s.setFlow f { r with waiting := r.waiting - 1, pushes := n }).completeFrame f r.pushBuf n
      let s := s.setFlow f { s.flow f with pushBuf := (s.flow f).freeBuf }
      (s.emit (.sample (16 + f) s.now)).settle
    else s)

/-! ### Selection and changes of the flow table (R165, R176) -/

/-- The selection of flow f at compose start `t` (R37, R52, R165, R181); a frame selected for the first time is a sample
of the phase loops on the flow (R427). -/
def State.selectFlow (s : State) (t f : Nat) : State :=
  let r := s.flow f
  let fresh := match r.newest.bind r.frame with
    | some x => later 64 t x.time
    | none => false
  let isNew := match r.newest.bind r.frame with
    | some x => fresh && !x.chosen
    | none => false
  let stall := if isNew then 0 else r.stall + 1
  let lim := s.ff (pFlow f) F.FLOW_CFG_STALL_CYCLES
  let stuck := lim != 0 && decide (lim ≤ stall)
  let s := s.setFlow f { r with stall := stall, stalled := if isNew then false else r.stalled || stuck, readBuf := if fresh then r.newest else r.readBuf }
  let s := s.when (stuck && !r.stalled) (·.ingCond f 3)
  let r := s.flow f
  match r.readBuf, r.readBuf.bind r.frame with
  | some b, some x =>
    let lead := satS ((t : Int) - x.time) 32
    let s := s.setS (pFlow f) F.FLOW_LEAD_LEAD lead
    let s := s.setS (pFlow f) F.FLOW_LEAD_MIN_LEAD_MIN (min lead (s.sfld (pFlow f) F.FLOW_LEAD_MIN_LEAD_MIN))
    let s := s.setS (pFlow f) F.FLOW_LEAD_MAX_LEAD_MAX (max lead (s.sfld (pFlow f) F.FLOW_LEAD_MAX_LEAD_MAX))
    let s := s.setFld (pFlow f) F.FLOW_SEL_RTP_TS_TS x.ts
    if x.chosen then s.inc (pFlow f) F.FLOW_REPEAT_CNT_REPEAT_CNT
    else
      let s := (s.setFlow f { r with frames := ins none b (some { x with chosen := true }) r.frames }).flowEvent f 0x32 x.ts 0 b t lead
      s.each ((s.loopsOn 1).filter (fun j => s.sa j F.SA_CFG_FLOW == f)) (fun s j => s.emit (.sample j lead))
  | _, _ => s

/-- Selection for every enabled flow in force. -/
def State.selectFlows (s : State) (t : Nat) : State := s.each (flowsOn s.force) (fun s f => s.selectFlow t f)

/-- What restarts a flow when it changes (R176). -/
def restartKey (c : Sparse Word) (f : Nat) : List Nat :=
  let p := pFlow f
  [cfld c p F.FLOW_CFG_ENABLE, cfld c p F.FLOW_CFG_SOURCE, (inForce c (p + 4)).toNat, (inForce c (p + 8)).toNat,
   (inForce c (p + 0x10)).toNat, (inForce c (p + 0x14)).toNat, (inForce c (p + 0x18)).toNat]

/-- R156, R176: flow f after the flow table changed from `old`. A flow left with lost paths only ends its frame (R153,
R155). -/
def State.reflow (s : State) (old : Sparse Word) (f : Nat) : State :=
  let restart := restartKey old f != restartKey s.force f
  let r := s.flow f
  let s := if restart then (s.setFlow f { FlowRt.idle with firstAt := r.firstAt, lastAt := r.lastAt, gaps := r.gaps }).restartTracker f else s
  let s := s.each [false, true] (fun s b =>
    let i := if b then 1 else 0
    if (pathOf s.force f i).on then
      s.when (restart || !(pathOf old f i).on) (·.setFld (pFlow f) (upFld b) 1)
    else s.setFld (pFlow f) (upFld b) 0)
  s.when (!restart && s.ff (pFlow f) F.FLOW_CFG_SOURCE == 0 && s.allLost f) (·.loseFlow f)

/-- The flow table, the groups and the ports' addresses after a configuration took effect. -/
def State.applyIngest (s : State) (old : Sparse Word) : State :=
  let s := s.each ((flowsOn old ++ flowsOn s.force).eraseDups) (fun s f => s.reflow old f)
  (s.joinPorts s.force).readdress old

end Sys2Proof.Machine
end

