-- ==== Sys2Proof/Machine/Wall.lean ====
section
/-!
DEFINITION. What a configuration lays on the canvas: populated blocks (R200), layers, their visibility by
block (R201) and their costs (R196, R197, R204, R289). All are functions of a configuration, in force or
captured. The blocks of a block row are a bitmap, bit x for block column x.
-/
namespace Sys2Proof.Machine

/-! ### Canvas and blocks -/

/-- Canvas width (R223). -/
def canvasW (c : Sparse Word) : Nat := cfld c pMap F.MAP_CANVAS_WIDTH_M1 + 1
/-- Canvas height. -/
def canvasH (c : Sparse Word) : Nat := cfld c pMap F.MAP_CANVAS_HEIGHT_M1 + 1

/-- N (R227). -/
def populated (c : Sparse Word) : Nat := ((tilesOf c).map (fun t => t.tw * t.th)).sum

/-- Bits a to b of a bitmap. -/
def span (a b : Nat) : Nat := if a ≤ b then 2 ^ (b + 1) - 2 ^ a else 0

/-- Bits set among the low k. -/
def popBits : Nat → Nat → Nat
  | 0, _ => 0
  | k + 1, n => n % 2 + popBits k (n / 2)
/-- Bits set. -/
def pop (n : Nat) : Nat := popBits (Nat.log2 n + 1) n

/-- The composed blocks of block row y (R200). -/
def rowBlocks (ts : List Tile) (y : Nat) : Nat :=
  ts.foldl (fun m t =>
    if t.tw ≠ 0 ∧ t.th ≠ 0 ∧ t.y0 ≤ 32 * y + 31 ∧ 32 * y < t.y0 + t.fh
    then m ||| span (t.x0 / 32) ((t.x0 + t.fw - 1) / 32) else m) 0

/-- The block rows with composed blocks: row, bitmap. -/
def wallBlocks (c : Sparse Word) : List (Nat × Nat) :=
  let ts := tilesOf c
  ((List.range (ceilDiv (canvasH c) 32)).map (fun y => (y, rowBlocks ts y))).filter (fun r => r.2 != 0)

/-- Number of composed blocks. -/
def blockCount (c : Sparse Word) : Nat := ((wallBlocks c).map (fun r => pop r.2)).sum

/-- Cut [a, a + n) at multiples of 32: start and length of each piece. -/
def cut32 : Nat → Nat → Nat → List (Nat × Nat)
  | 0, _, _ => []
  | k + 1, a, n =>
    if n = 0 then [] else let d := min n (32 - a % 32); (a, d) :: cut32 k (a + d) (n - d)

/-- The parts of compose blocks on a tile (R50): canvas x, y, width, height. -/
def Tile.parts (t : Tile) : List (Nat × Nat × Nat × Nat) :=
  ((cut32 34 t.y0 t.fh).map (fun r => (cut32 34 t.x0 t.fw).map (fun k => (k.1, r.1, k.2, r.2)))).flatten

/-- The tile-local pixel of a canvas pixel (R226). -/
def Tile.localOf (t : Tile) (x y : Nat) : Nat × Nat :=
  let dx := x - t.x0
  let dy := y - t.y0
  let uv : Nat × Nat := if t.rot = 0 then (dx, dy) else if t.rot = 1 then (dy, t.th - 1 - dx)
    else if t.rot = 2 then (t.tw - 1 - dx, t.th - 1 - dy) else (t.tw - 1 - dy, dx)
  (if t.mirror then t.tw - 1 - uv.1 else uv.1, uv.2)

/-- The canvas pixel of a tile-local pixel. -/
def Tile.canvasOf (t : Tile) (u v : Nat) : Nat × Nat :=
  let u := if t.mirror then t.tw - 1 - u else u
  if t.rot = 0 then (t.x0 + u, t.y0 + v) else if t.rot = 1 then (t.x0 + (t.th - 1 - v), t.y0 + u)
  else if t.rot = 2 then (t.x0 + (t.tw - 1 - u), t.y0 + (t.th - 1 - v)) else (t.x0 + v, t.y0 + (t.tw - 1 - u))

/-- The tile covers the canvas pixel. -/
def Tile.covers (t : Tile) (x y : Nat) : Bool :=
  decide (t.x0 ≤ x ∧ x < t.x0 + t.fw ∧ t.y0 ≤ y ∧ y < t.y0 + t.fh)

/-! ### Layers -/

/-- A layer's page (R221). -/
structure Layer where
  num : Nat
  graphic : Bool
  view : Nat
  depth : Nat
  solid : Bool
  premult : Bool
  transfer : Nat
  is709 : Bool
  vtaps : Nat
  bank : Nat
  flow : Nat
  sx : Nat
  sy : Nat
  sw : Nat
  sh : Nat
  dx : Int
  dy : Int
  dw : Nat
  dh : Nat
  galpha : Nat
  gain : Nat
  deriving DecidableEq, Repr

/-- Layer k of a configuration; a graphic layer's destination has its source's size (R186). -/
def layerOf (c : Sparse Word) (k : Nat) : Layer :=
  let p := pLyr k
  let g := cfld c p F.LYR_CFG_KIND == 1
  let sw := cfld c p F.LYR_SRC_SIZE_SRC_W
  let sh := cfld c p F.LYR_SRC_SIZE_SRC_H
  { num := k, graphic := g, view := cfld c p F.LYR_CFG_VIEW, depth := cfld c p F.LYR_CFG_DEPTH,
    solid := cfld c p F.LYR_CFG_OPAQUE == 1, premult := cfld c p F.LYR_CFG_PREMULT == 1,
    transfer := cfld c p F.LYR_CFG_TRANSFER, is709 := cfld c p F.LYR_CFG_PRIMARIES == 1,
    vtaps := cfld c p F.LYR_CFG_VTAPS, bank := cfld c p F.LYR_CFG_COEF_BANK, flow := cfld c p F.LYR_CFG_FLOW,
    sx := cfld c p F.LYR_SRC_POS_SRC_X, sy := cfld c p F.LYR_SRC_POS_SRC_Y, sw := sw, sh := sh,
    dx := toS 18 (cfld c p F.LYR_DST_X_DST_X), dy := toS 18 (cfld c p F.LYR_DST_Y_DST_Y),
    dw := if g then sw else cfld c p F.LYR_DST_W_DST_W, dh := if g then sh else cfld c p F.LYR_DST_H_DST_H,
    galpha := cfld c p F.LYR_ALPHA_GALPHA, gain := cfld c p F.LYR_GAIN_GAIN }

/-- T: 6, 4 or 2 vertical taps. -/
def Layer.taps (l : Layer) : Nat := 6 - 2 * l.vtaps
/-- STEP of an axis (R193). -/
def stepOf (src dst : Nat) : Nat := if dst = 0 then 0 else (divRound (src * 2 ^ 20 : Nat) dst).toNat % 2 ^ 24

/-- The enabled layers. -/
def layersOf (c : Sparse Word) : List Layer := (layersOn c).map (layerOf c)

/-- Insert a layer by DEPTH. -/
def insertLayer (l : Layer) : List Layer → List Layer
  | [] => [l]
  | m :: t => if l.depth ≤ m.depth then l :: m :: t else m :: insertLayer l t

/-- A view's enabled layers in ascending DEPTH. -/
def viewLayers (c : Sparse Word) (v : Nat) : List Layer :=
  ((layersOf c).filter (fun l => l.view == v)).foldr insertLayer []

/-- Blocks of block row y that a layer touches (R201). -/
def Layer.touch (l : Layer) (w h y : Nat) : Nat :=
  let x0 := max l.dx 0
  let x1 := min (l.dx + l.dw) w
  if x0 < x1 ∧ max l.dy (32 * y : Nat) < min (l.dy + l.dh) (min h (32 * y + 32) : Nat) then
    span (x0.toNat / 32) ((x1.toNat - 1) / 32) else 0

/-- Blocks of block row y that a layer occludes (R201). -/
def Layer.occlude (l : Layer) (w h y : Nat) : Nat :=
  let x1 := l.dx + l.dw
  if l.solid = true ∧ l.galpha = 1024 ∧ l.dy ≤ (32 * y : Nat) ∧ ((min h (32 * y + 32) : Nat) : Int) ≤ l.dy + l.dh ∧ 0 < x1 then
    let lo := ceilDiv (max l.dx 0).toNat 32
    let hi := if (w : Int) ≤ x1 then ceilDiv w 32 else x1.toNat / 32
    if lo < hi then span lo (hi - 1) else 0
  else 0

/-- Visible blocks of a row, layer by layer from the top, and what they leave uncovered of `blocks`. -/
def visibleRow (w h y blocks : Nat) : List Layer → Nat → List (Layer × Nat)
  | [], _ => []
  | l :: t, hid =>
    let free := blocks ^^^ (blocks &&& hid)
    (l, l.touch w h y &&& free) :: visibleRow w h y blocks t (hid ||| l.occlude w h y)

/-- The layers of a view with their visible blocks in row y, in ascending DEPTH. -/
def rowLayers (c : Sparse Word) (v y blocks : Nat) : List (Layer × Nat) :=
  (visibleRow (canvasW c) (canvasH c) y blocks (viewLayers c v).reverse 0).reverse

/-- A view's use of blocks: block-layers, and visible blocks by layer (R196, R219). -/
structure ViewUse where
  blu : Nat
  counts : List (Nat × Nat)
  deriving DecidableEq, Repr

/-- The use of an enabled view. -/
def viewUse (c : Sparse Word) (v : Nat) : ViewUse :=
  let rows := (wallBlocks c).map (fun r => (r.2, rowLayers c v r.1 r.2))
  let blu := (rows.map (fun r =>
    (r.2.map (fun e => pop e.2)).sum + (pop r.1 - pop (r.2.foldl (fun m e => m ||| e.2) 0)))).sum
  ⟨blu, (viewLayers c v).map (fun l =>
    (l.num, (rows.map (fun r => ((r.2.filter (fun e => e.1.num == l.num)).map (fun e => pop e.2)).sum)).sum))⟩

/-- The use of every enabled view. -/
def viewUses (c : Sparse Word) : List (Nat × ViewUse) := (viewsOn c).map (fun v => (v, viewUse c v))

/-- Visible blocks of a layer; a layer of a disabled view has none (R183). -/
def visBlocks (us : List (Nat × ViewUse)) (k : Nat) : Nat :=
  (us.map (fun u => ((u.2.counts.filter (fun e => e.1 == k)).map (·.2)).sum)).sum

/-! ### Costs (R51, R196 to R204, R289) -/

/-- x · NUM / DEN rounded up: a figure per cycle as one per second. -/
def perSec (g : Grid) (x : Nat) : Nat := ceilDiv (x * g.num) g.den

/-- A video layer's scaler engines (R196, R289). -/
def Layer.engines (l : Layer) (g : Grid) (blocks : Nat) : Nat :=
  if l.graphic then 0 else ceilDiv (1024 * blocks * g.num) (8 * 10 ^ 9 * g.den)

/-- A layer's line-buffer share (R197). -/
def Layer.lbuf (l : Layer) : Nat := if l.graphic then 0 else l.sw * l.taps * 32

/-- A layer's fetch per cycle (R204). -/
def Layer.fetch (l : Layer) (c : Sparse Word) (blocks : Nat) : Nat :=
  let b := fmtBytes (storeOf c l.flow).fmt
  if l.graphic then 1024 * blocks * b else ceilDiv (1024 * blocks * b * l.sw * l.sh) (l.dw * l.dh)

/-- A flow's reservation (R175); a loop track's, at the cycle rate (R553). -/
def flowRsv (c : Sparse Word) (tracks : List Nat) (f : Nat) : Nat :=
  if tracks.contains f then 2 * perSec (gridOf c) (storeOf c f).bufBytes
  else ceilDiv (cfld c (pFlow f) F.FLOW_SIZE_WIDTH * cfld c (pFlow f) F.FLOW_SIZE_HEIGHT * 4 * cfld c (pFlow f) F.FLOW_RATE_NUM)
    (cfld c (pFlow f) F.FLOW_RATE_DEN)

/-- Σ of flow reservations; `tracks` are the flows that a standby loop plays. -/
def flowsRsv (c : Sparse Word) (tracks : List Nat) : Nat := ((flowsOn c).map (flowRsv c tracks)).sum

/-- Writeback and preview reservations of a view (R215). -/
def wbRsv (c : Sparse Word) (v : Nat) : Nat :=
  let p := pView v
  let one := ceilDiv (cfld c p F.VIEW_WB_SIZE_WIDTH * cfld c p F.VIEW_WB_SIZE_HEIGHT * 4 * (gridOf c).num)
    ((gridOf c).den * 2 ^ cfld c p F.VIEW_WB_CFG_WB_DIV)
  (if cfld c p F.VIEW_WB_CFG_ENABLE = 1 then one else 0) + (if cfld c p F.VIEW_PV_CFG_ENABLE = 1 then one else 0)

/-- Σ of writeback and preview reservations. -/
def wbsRsv (c : Sparse Word) : Nat := ((viewsOn c).map (wbRsv c)).sum

/-- Σ of layer fetch reservations. -/
def fetchRsv (c : Sparse Word) (us : List (Nat × ViewUse)) : Nat :=
  ((layersOf c).map (fun l => perSec (gridOf c) (l.fetch c (visBlocks us l.num)))).sum

/-- The memory reservation (R51, R289). -/
def memRsv (c : Sparse Word) (tracks : List Nat) : Nat :=
  flowsRsv c tracks + fetchRsv c (viewUses c) + perSec (gridOf c) (16 * populated c) + wbsRsv c + 4000000000

/-- The reservable limit at a pin rate in Gbit/s (R289). -/
def memLimit (rate : Nat) : Nat := 51200000000 * rate

/-- Bits per cycle of the LAMP packets of a tile for one view (R50). -/
def Tile.lampBits (t : Tile) : Nat :=
  (t.parts.map (fun p => 64 * ceilDiv (p.2.2.1 * p.2.2.2 * t.lamps * 20) 64 + 96)).sum

/-- Bits per cycle of a link (R49). -/
def linkBits (c : Sparse Word) (n : Nat) : Nat :=
  (((tilesOf c).filter (fun t => t.link == n)).map (fun t => t.lampBits * (viewsOn c).length)).sum + 2048

end Sys2Proof.Machine
end

