-- ==== Sys2Proof/Machine/Compose.lean ====
section
/-!
DEFINITION. Composition (R183 to R209): what layers show, sources and scaling, blending, static-picture
hold, and writeback with preview egress (R210 to R215).
-/
namespace Sys2Proof.Machine

/-! ### Views and layers at a compose start -/

/-- A view with nothing judged. -/
def ViewRt.idle : ViewRt := ⟨false, [], false, [], 0, [], none, none, 0⟩
/-- What view v keeps. -/
def State.view (s : State) (v : Nat) : ViewRt := look ViewRt.idle s.views v
/-- Replace it. -/
def State.setView (s : State) (v : Nat) (r : ViewRt) : State := { s with views := ins ViewRt.idle v r s.views }

/-- Why an enabled layer shows nothing (R203, R221): 0 showing, 1 no frame, 2 flow disabled, 3 crop outside. -/
def State.noShow (s : State) (l : Layer) : Nat :=
  let t := storeOf s.force l.flow
  if s.ff (pFlow l.flow) F.FLOW_CFG_ENABLE = 0 then 2
  else if t.width < l.sx + l.sw ∨ t.height < l.sy + l.sh then 3
  else if (s.flow l.flow).readBuf = none then 1 else 0

/-- LYR_STAT of layer k at a compose start, with its conditions (R203, R222). -/
def State.showLayer (s : State) (k : Nat) : State :=
  let p := pLyr k
  let l := layerOf s.force k
  let on := s.ff p F.LYR_CFG_ENABLE == 1
  let cause := if on then s.noShow l else 0
  let show' := on && cause == 0
  let was := s.fld p F.LYR_STAT_SHOWING == 1
  let s := (s.setFld p F.LYR_STAT_SHOWING (if show' then 1 else 0)).setFld p F.LYR_STAT_NOSHOW_CAUSE cause
  let s := s.setFld p F.LYR_STAT_READ_BUF (if show' then (s.flow l.flow).readBuf.getD 0 else 0)
  if show' = was then s
  else
    let s := s.setView l.view { s.view l.view with touched := true }
    if show' then (s.setCond p 1).lyrAlert k else if on then (s.setCond p 0).lyrAlert k else s

/-- Layers that have been showing, or have a cause for not showing. -/
def State.shownLayers (s : State) : List Nat :=
  (List.range 256).filter (fun k => s.fld (pLyr k) F.LYR_STAT_SHOWING == 1 || s.fld (pLyr k) F.LYR_STAT_NOSHOW_CAUSE != 0)

/-- All layers at a compose start. -/
def State.showLayers (s : State) : State :=
  s.each ((layersOn s.force ++ s.shownLayers).eraseDups) (fun s k => s.showLayer k)

/-- The frames that a view's visible layers selected (R207). -/
def State.viewFrames (s : State) (v : Nat) : List (Nat × Option (Nat × Nat)) :=
  ((viewUse s.force v).counts.filter (fun e => e.2 != 0)).map (fun e =>
    let l := layerOf s.force e.1
    (e.1, if s.fld (pLyr e.1) F.LYR_STAT_SHOWING = 1 then
        match (s.flow l.flow).readBuf with
        | some b => some (b, (((s.flow l.flow).frame b).map (·.serial)).getD 0)
        | none => none
      else none))

/-- R207: the accepted commits of this compose start changed the view or a layer of it. -/
def viewChanged (old new : Sparse Word) (v : Nat) : Bool :=
  let diff (a : Nat) : Bool := inForce old a != inForce new a
  let lyr (e : Nat × Word) : Bool :=
    match locate e.1 with
    | some l => l.blk == .lyr && (cfld old (pLyr l.inst) F.LYR_CFG_VIEW == v || cfld new (pLyr l.inst) F.LYR_CFG_VIEW == v) &&
        diff e.1
    | none => false
  let own (e : Nat × Word) : Bool := decide (pView v ≤ e.1 ∧ e.1 < pView v + 0x1000) && diff e.1
  (old ++ new).any (fun e => lyr e || own e)

/-- R252: the commits changed a correction input. -/
def corrChanged (old new : Sparse Word) : Bool :=
  (old ++ new).any (fun e =>
    match locate e.1 with
    | some l => (l.blk == .map || l.blk == .cor || l.blk == .zone || l.blk == .tile || l.blk == .zn) &&
        inForce old e.1 != inForce new e.1
    | none => false)

/-- Hold of view v at the compose start of cycle n (R207 to R209, R220). -/
def State.judgeView (s : State) (n v : Nat) : State :=
  let p := pView v
  let r := s.view v
  let on := s.ff p F.VIEW_CFG_ENABLE == 1
  let now := s.viewFrames v
  let same := r.judged && !r.touched && !s.corrTouched && r.seen == now
  let count := if same then min 255 (s.fld p F.VIEW_STAT_UNCHANGED + 1) else 0
  let lim := s.ff p F.VIEW_CFG_STATIC_CYCLES
  let hold := on && same && lim != 0 && decide (lim ≤ count)
  let was := s.fld p F.VIEW_STAT_HELD == 1
  let s := s.setView v { r with judged := true, touched := false, seen := now }
  let s := (s.setFld p F.VIEW_STAT_UNCHANGED count).setFld p F.VIEW_STAT_HELD (if hold then 1 else 0)
  let s := s.when (hold && !was) (·.setCond p 0)
  let s := s.when (was && !hold) (·.setCond p 1)
  let div := 2 + 2 * s.ff p F.VIEW_CFG_STATIC_DIV
  s.when (hold && n % div != 0) (·.inc p F.VIEW_HELD_CNT_HELD_CNT)

/-- View v is held in cycle n: neither composed nor sent (R208). -/
def State.heldIn (s : State) (n v : Nat) : Bool :=
  s.fld (pView v) F.VIEW_STAT_HELD == 1 && n % (2 + 2 * s.ff (pView v) F.VIEW_CFG_STATIC_DIV) != 0

/-! ### Pixels (R185 to R199) -/

/-- Components and alpha. -/
structure Pix where
  r : Int
  g : Int
  b : Int
  a : Int
  deriving DecidableEq, Repr

/-- The source pixel (x, y) of a layer, unpacked (R185, R188 to R191). -/
def State.source (s : State) (l : Layer) (x y : Nat) : Pix :=
  let t := storeOf s.force l.flow
  let w := s.peek (t.pixel ((s.flow l.flow).readBuf.getD 0) x y) (fmtBytes t.fmt)
  let u := unpackPixel t.fmt l.transfer l.is709 l.gain w
  ⟨u.1.1, u.1.2.1, u.1.2.2, if l.solid then 1024 else u.2⟩

/-- src(c, r): the nearest pixel inside the crop rectangle (R194). -/
def State.srcAt (s : State) (l : Layer) (c r : Int) : Pix :=
  s.source l (l.sx + (clampI c 0 (l.sw - 1 : Int)).toNat) (l.sy + (clampI r 0 (l.sh - 1 : Int)).toNat)

/-- pos(i, step): centre source pixel and phase (R193). -/
def scalePos (i step : Nat) : Int × Nat :=
  let p : Int := (i * step + step / 2 : Nat) - 2 ^ 19
  let q := rshr p 14
  (q / 64, (q % 64).toNat)

/-- Coefficient k of a row in force (R195, R217). -/
def coefOf (c : Sparse Word) (bank axis phase k : Nat) : Int :=
  let w := (inForce c (coefKey bank axis phase (k / 2))).toNat
  toS 12 (if k % 2 = 0 then bitsOf w 0 12 else bitsOf w 16 12)

/-- Weighted sums of pixels, component by component. -/
def weigh (l : List (Int × Pix)) : Pix :=
  l.foldl (fun s e => ⟨s.r + e.1 * e.2.r, s.g + e.1 * e.2.g, s.b + e.1 * e.2.b, s.a + e.1 * e.2.a⟩) ⟨0, 0, 0, 0⟩

/-- One column of the vertical filter (R194). -/
def State.column (s : State) (l : Layer) (py : Nat) (c ny : Int) : Pix :=
  let x := weigh ((List.range l.taps).map (fun i =>
    let k := 3 - l.taps / 2 + i
    (coefOf s.force l.bank 1 py k, s.srcAt l c (ny - 2 + (k : Int)))))
  let f (v : Int) : Int := clampI (rshr v 10) (-2 ^ 21) (2 ^ 21 - 1)
  ⟨f x.r, f x.g, f x.b, f x.a⟩

/-- A video layer's output pixel (R194). -/
def State.scaled (s : State) (l : Layer) (i j : Nat) : Pix :=
  let x := scalePos i (stepOf l.sw l.dw)
  let y := scalePos j (stepOf l.sh l.dh)
  let w := weigh ((List.range 8).map (fun (k : Nat) =>
    (coefOf s.force l.bank 0 x.2 k, s.column l y.2 (x.1 - 3 + (k : Int)) y.1)))
  ⟨satU (rshr w.r 10) 20, satU (rshr w.g 10) 20, satU (rshr w.b 10) 20, clampI (rshr w.a 10) 0 1024⟩

/-- A layer's pixel at a canvas pixel of its destination (R194). -/
def State.layerPixel (s : State) (l : Layer) (x y : Nat) : Pix :=
  let i := ((x : Int) - l.dx).toNat
  let j := ((y : Int) - l.dy).toNat
  if l.graphic then s.srcAt l i j else s.scaled l i j

/-- Blend one component (R199). -/
def blend1 (premult : Bool) (s al ga d : Int) : Int :=
  if premult then min (rshr (s * ga) 10 + rshr (d * (1024 - al)) 10) (2 ^ 20 - 1)
  else rshr (s * al + d * (1024 - al)) 10

/-- Blend a layer's pixel over a pixel (R199). -/
def Layer.blend (l : Layer) (p d : Pix) : Pix :=
  let al := rshr (p.a * l.galpha) 10
  ⟨blend1 l.premult p.r al l.galpha d.r, blend1 l.premult p.g al l.galpha d.g, blend1 l.premult p.b al l.galpha d.b, d.a⟩

/-- The layer lays a pixel at (x, y). -/
def Layer.hits (l : Layer) (x y : Nat) : Bool :=
  decide (l.dx ≤ x ∧ (x : Int) < l.dx + l.dw ∧ l.dy ≤ y ∧ (y : Int) < l.dy + l.dh)

/-- The background of a view (R187). -/
def background (c : Sparse Word) (v : Nat) : Pix :=
  ⟨cfld c (pView v) F.VIEW_BG_LEVEL 0, cfld c (pView v) F.VIEW_BG_LEVEL 1, cfld c (pView v) F.VIEW_BG_LEVEL 2, 1024⟩

/-- The composed pixel (x, y) of view v (R199); `row` are the layers with their visible blocks in its block row. -/
def State.composed (s : State) (v : Nat) (row : List (Layer × Nat)) (x y : Nat) : Pix :=
  row.foldl (fun d e =>
    if bit e.2 (x / 32) = true ∧ e.1.hits x y = true ∧ s.fld (pLyr e.1.num) F.LYR_STAT_SHOWING = 1
    then e.1.blend (s.layerPixel e.1 x y) d else d) (background s.force v)

/-! ### Writeback and preview (R210 to R215) -/

/-- Bytes of a writeback buffer (R212). -/
def wbBytes (c : Sparse Word) (v : Nat) : Nat :=
  ceilDiv (cfld c (pView v) F.VIEW_WB_PITCH_PITCH * cfld c (pView v) F.VIEW_WB_SIZE_HEIGHT) 4096 * 4096
/-- Address of a writeback pixel (R212). -/
def wbPixel (c : Sparse Word) (v b x y : Nat) : Nat :=
  cpair c (pView v) F.VIEW_WB_BASE_LO_BASE F.VIEW_WB_BASE_HI_BASE + b * wbBytes c v + y * cfld c (pView v) F.VIEW_WB_PITCH_PITCH + 4 * x

/-- The A2RGB10 word of a composed pixel (R211). -/
def wbWord (c : Sparse Word) (v : Nat) (p : Pix) : Nat :=
  let e := cfld c (pView v) F.VIEW_WB_CFG_ENC
  let g := cfld c (pView v) F.VIEW_WB_CFG_WB_GAIN
  3 * 2 ^ 30 + encodeWb e g p.r.toNat * 2 ^ 20 + encodeWb e g p.g.toNat * 2 ^ 10 + encodeWb e g p.b.toNat

/-- One row of the writeback rectangle, in composed blocks. -/
def State.writeRow (s : State) (v b j : Nat) : State :=
  let c := s.force
  let y := cfld c (pView v) F.VIEW_WB_POS_Y + j
  let x0 := cfld c (pView v) F.VIEW_WB_POS_X
  let m := rowBlocks (tilesOf c) (y / 32)
  let row := rowLayers c v (y / 32) m
  s.each (List.range (cfld c (pView v) F.VIEW_WB_SIZE_WIDTH)) (fun s i =>
    if bit m ((x0 + i) / 32) = true then s.poke (wbPixel c v b i j) (leBytes 4 (wbWord c v (s.composed v row (x0 + i) y)))
    else s)

/-- A descriptor for the view's writeback ring (R213). -/
def State.wbEvent (s : State) (v kind cycle buf launch done : Nat) : State :=
  if s.ff (pView v) F.VIEW_WB_RING_VALID = 1 then
    s.refPush (64 + v) (s.ff (pView v) F.VIEW_WB_RING_RING)
      [kind * 2 ^ 56 + cycle % 2 ^ 32, buf * 8 + v, launch, done]
  else s

/-- The last complete writeback goes out as a preview frame (R214). -/
def State.startPreview (s : State) (v : Nat) : State :=
  let r := s.view v
  if s.ff (pView v) F.VIEW_PV_CFG_ENABLE = 1 then
    match r.wbLast with
    | some x => s.setView v { r with pv := some (x, 0) }
    | none => s
  else s

/-- Writeback of view v in cycle n with launch time t (R210, R212, R213). -/
def State.writeback (s : State) (n t v : Nat) : State :=
  let p := pView v
  if s.ff p F.VIEW_CFG_ENABLE = 0 ∨ s.ff p F.VIEW_WB_CFG_ENABLE = 0 ∨ n % 2 ^ s.ff p F.VIEW_WB_CFG_WB_DIV ≠ 0 then s
  else if s.heldIn n v then
    let s := ((s.inc p F.VIEW_WB_SKIP_CNT_SKIP_CNT).setCond p 3).wbEvent v 0x51 n (s.fld p F.VIEW_WB_STAT_LAST_BUF) t 0
    s.startPreview v
  else
    let b := (s.view v).wbNext
    let s := s.each (List.range (s.ff p F.VIEW_WB_SIZE_HEIGHT)) (fun s j => s.writeRow v b j)
    s.setView v { s.view v with wb := (s.view v).wb ++ [⟨n, t, b⟩], wbNext := 1 - b }

/-- WRITEBACK_COMPLETE (R212 to R214, R220): the last write of the buffer has reached GDDR6. -/
def execWritebackComplete (view : ViewNo) (s : State) : Host.Outcome State Fault Refusal :=
  let v := view.val
  let p := pView v
  .next (match (s.view v).wb with
    | x :: t =>
      let s := s.setView v { s.view v with wb := t, wbLast := some x }
      let s := (s.setFld p F.VIEW_WB_STAT_HAS_BUF 1).setFld p F.VIEW_WB_STAT_LAST_BUF x.buf
      let s := ((s.inc p F.VIEW_WB_DONE_CNT_DONE_CNT).setCond p 2).wbEvent v 0x50 x.cycle x.buf x.launch s.now
      (s.startPreview v).settle
    | [] => s)

/-- Packets of a preview frame: per row, and in all (R214). -/
def pvPackets (c : Sparse Word) (v : Nat) : Nat × Nat :=
  let n := ceilDiv (cfld c (pView v) F.VIEW_WB_SIZE_WIDTH) 320
  (n, n * cfld c (pView v) F.VIEW_WB_SIZE_HEIGHT)

/-- Fifteen bytes of four 10-bit RGB pixels, most significant bit first (log entry 17). -/
def pvGroup (ws : List Nat) : List Byte :=
  beBytes 15 ((List.range 4).foldl (fun m i => m * 2 ^ 30 + bitsOf (ws.getD i 0) 0 30) 0)

/-- Payload of packet k of a preview frame: row, column, pixels. -/
def State.pvData (s : State) (v : Nat) (x : Shot) (row col n : Nat) : List Byte :=
  let ws := (List.range n).map (fun i => s.peek (wbPixel s.force v x.buf (col + i) row) 4)
  ((pieces 4 (ceilDiv n 4) ws).map pvGroup).flatten

/-- RTP and payload headers of a preview packet (R214). -/
def State.pvHeader (s : State) (v : Nat) (x : Shot) (seq row col len : Nat) (last : Bool) : List Word :=
  let p := pView v
  [BitVec.ofNat 32 (2 ^ 31 + (if last then 2 ^ 23 else 0) + s.ff p F.VIEW_PV_CFG_PT * 2 ^ 16 + seq % 2 ^ 16),
   BitVec.ofNat 32 (x.launch * 9 / 100000), BitVec.ofNat 32 (s.ff p F.VIEW_PV_SSRC_SSRC),
   BitVec.ofNat 32 (seq / 2 ^ 16 * 2 ^ 16 + len), BitVec.ofNat 32 (row % 2 ^ 15 * 2 ^ 16 + col % 2 ^ 15)]

/-- Send a preview packet, or drop and count it (R145, R215). -/
def State.sendPreview (s : State) (v q dst : Nat) (o : Tx) : State :=
  if s.portUp q = false then s.dropPreview v
  else if isMulticast dst = false ∧ s.nextHop q dst = none then (s.sendVia q dst o).dropPreview v
  else s.sendVia q dst o

/-- PREVIEW_PACKET (R214, R215): the next packet of the view's preview frame. -/
def execPreviewPacket (view : ViewNo) (s : State) : Host.Outcome State Fault Refusal :=
  let v := view.val
  .next (match (s.view v).pv with
    | some (x, k) =>
      let n := pvPackets s.force v
      let w := s.ff (pView v) F.VIEW_WB_SIZE_WIDTH
      if s.ff (pView v) F.VIEW_CFG_ENABLE = 1 ∧ s.ff (pView v) F.VIEW_PV_CFG_ENABLE = 1 ∧ k < n.2 then
        let r := s.view v
        let row := k / n.1
        let col := k % n.1 * 320
        let data := s.pvData v x row col (min 320 (w - col))
        let last := k + 1 == n.2
        let q := s.ff (pView v) F.VIEW_PV_CFG_PORT
        let dst := addr4 (s.ff (pView v) F.VIEW_PV_CFG_IPV6 == 1) (fun k => s.ff (pView v) F.VIEW_PV_DST_ADDR k)
        let udp : UdpTx := ⟨s.sourceIp q dst, dst, s.ff (pView v) F.VIEW_PV_UDP_SRC, s.ff (pView v) F.VIEW_PV_UDP_DST⟩
        let o := Tx.preview v udp (s.ff (pView v) F.VIEW_PV_CFG_DSCP) 64 (s.pvHeader v x r.pvSeq row col data.length last) data
        let s := s.setView v { r with pv := if last then none else some (x, k + 1), pvSeq := (r.pvSeq + 1) % 2 ^ 32 }
        (s.sendPreview v q dst o).settle
      else s
    | none => s)

end Sys2Proof.Machine
end

