-- ==== Sys2Proof/Machine/Correct.lean ====
section
/-!
DEFINITION. Correction (R232 to R249), LAMP packets (R313 to R316), the power estimate and cap (R247,
R248), response loads (R239, R240) and the map probe (R257).
-/
namespace Sys2Proof.Machine

/-! ### Response sets (R237 to R240) -/

/-- Key of entry i of table k of a set of a bank. -/
def respKey (bank set k i : Nat) : Nat := (bank * 256 + set) * 4100 + k * 1025 + i
/-- Entry i of table k; the identity until loaded (R238). -/
def State.respEntry (s : State) (bank set k i : Nat) : Nat :=
  look (1024 * (respKey bank set k i % 1025)) s.resp (respKey bank set k i)

/-- The value of a table entry as loaded (R239). -/
def respLoaded (w : Nat) : Nat := min (w % 2 ^ 21) 0x100000

/-- A GO to COR_RESP_LOAD (R239, R240). -/
def State.respGo (s : State) (countM1 first : Nat) : State :=
  let src := s.pair pCor F.COR_RESP_SRC_LO_SRC F.COR_RESP_SRC_HI_SRC
  let len := (countM1 + 1) * 16400
  if s.respLoad ≠ none ∨ 255 < first + countM1 ∨ s.inGddr src len = false ∨ s.memOff = true then
    s.setFld pCor F.COR_STAT_LOAD_ERR 1
  else
    let s := { s with respLoad := some (1 - s.ff pCor F.COR_RESP_CFG_BANK, first, countM1 + 1, src) }
    (s.setFld pCor F.COR_STAT_LOAD_ERR 0).setFld pCor F.COR_STAT_LOAD_BUSY 1

/-- The entries of the sets, in the order they lie in memory. -/
def State.respCopy (s : State) (bank first n src : Nat) : State :=
  s.each (List.range (n * 4100)) (fun s j =>
    let key := respKey bank first 0 0 + j
    { s with resp := ins (1024 * (key % 1025)) key (respLoaded (s.peek (src + 4 * j) 4)) s.resp })

/-- RESPONSE_LOAD_DONE (R239): the copy into the spare bank has ended. -/
def execResponseLoadDone (s : State) : Host.Outcome State Fault Refusal :=
  .next (match s.respLoad with
    | some (bank, first, n, src) =>
      (({ s with respLoad := none }).respCopy bank first n src).setFld pCor F.COR_STAT_LOAD_BUSY 0
    | none => s)

/-! ### One pixel (R232 to R249) -/

/-- A correction record (R232): the 128-bit number of tile-local pixel (u, v). -/
def State.record (s : State) (t : Tile) (u v : Nat) : Nat :=
  s.peek (cpair s.force pCor F.COR_REC_BASE_LO_BASE F.COR_REC_BASE_HI_BASE + 16 * (t.recIdx + v * t.tw + u)) 16

/-- Coefficient m[r][c] of a record (R233). -/
def recCoef (w r c : Nat) : Int := toS 13 (bitsOf w (13 * (3 * r + c)) 13)

/-- Temperature gain of lamp k of a tile, as latched (R241). -/
def State.gain (s : State) (t k : Nat) : Nat :=
  s.fld (pTile t) ([F.TL_GAIN01_G0, F.TL_GAIN01_G1, F.TL_GAIN23_G2, F.TL_GAIN23_G3].getD k F.TL_GAIN01_G0)

/-- Seam gain S[g][k]; group 0 is fixed at 0x4000 (R243). -/
def seamGain (c : Sparse Word) (g k : Nat) : Nat :=
  if g = 0 then 0x4000
  else cfld c pCor ([F.COR_SEAM_01_S0, F.COR_SEAM_01_S1, F.COR_SEAM_23_S2, F.COR_SEAM_23_S3].getD k F.COR_SEAM_01_S0) g

/-- EFF[k] of a zone: its ceiling, and the throttle level in force (R244). -/
def State.effCeil (s : State) (z k : Nat) : Nat :=
  min (s.ff (pZn z) F.ZN_CEIL_CEIL k) (satU (s.fld (pZn z) F.ZN_STAT_THROTTLE * 16384 : Nat) 20)

/-- What one pixel of one view gives: drive values, sum_pre, saturations. -/
structure Lit where
  values : List Nat
  pre : List Nat
  sat : Nat
  deriving DecidableEq, Repr

/-- The matrix outputs of the first three lamps (R234, R235). -/
def matrixOut (w lamps : Nat) (p : Pix) : List Nat × Nat :=
  let sums := (List.range (min lamps 3)).map (fun r =>
    rshr (recCoef w r 0 * p.r + recCoef w r 1 * p.g + recCoef w r 2 * p.b) 11)
  (sums.map (fun x => satU x 20), (sums.filter (fun x => decide (x < 0 ∨ 2 ^ 20 - 1 < x))).length)

/-- The fourth lamp (R236). -/
def fourthLamp (src gain : Nat) (d : List Nat) : List Nat :=
  if src < 3 then d ++ [d.getD src 0]
  else
    let w := min (d.getD 0 0) (min (d.getD 1 0) (d.getD 2 0))
    d.map (fun x => x - w) ++ [satU (rshr (w * gain : Nat) 12) 20]

/-- Lamp k after response, gains, ceiling and blanking: sum_pre (R234). -/
def State.lampPre (s : State) (t : Tile) (seam k d : Nat) : Nat :=
  let bank := s.ff pCor F.COR_RESP_CFG_BANK
  let set := s.ff (pTile t.num) F.TL_LINK_RESP_SET
  let a : Int := s.respEntry bank set k (d / 1024)
  let b : Int := s.respEntry bank set k (d / 1024 + 1)
  let d1 := satU (a + rshr ((b - a) * (d % 1024 : Nat)) 10) 20
  let d2 := satU (rshr (d1 * s.gain t.num k : Nat) 14) 20
  let d3 := satU (rshr (d2 * seamGain s.force seam k : Nat) 14) 20
  if s.fld (pZn t.zone) F.ZN_STAT_BLANKED = 1 then 0 else min d3 (s.effCeil t.zone k)

/-- Lamp k of a record is off by its record or by the lamp-health map (R249). -/
def State.lampOff (s : State) (t : Tile) (w pixel k : Nat) : Bool :=
  bit w (117 + k) || s.lampsOff.contains (t.recIdx + pixel, k)

/-- The drive values of one pixel of one view (R234). -/
def State.correct (s : State) (t : Tile) (u v : Nat) (p : Pix) : Lit :=
  let w := s.record t u v
  let m := matrixOut w t.lamps p
  let d := if t.lamps = 4 then
      fourthLamp (s.ff (pTile t.num) F.TL_CFG_L4_SRC) (s.ff (pTile t.num) F.TL_TREF_W_GAIN) m.1 else m.1
  let pre := d.zipIdx.map (fun e => s.lampPre t (bitsOf w 121 7) e.2 e.1)
  let k := s.fld pCor F.COR_PCAP_STAT_K
  let out := pre.zipIdx.map (fun e =>
    if s.lampOff t w (v * t.tw + u) e.2 then 0
    else min (rshr (e.1 * k : Nat) 15).toNat (s.ff (pTile t.num) F.TL_DMAX_DMAX))
  ⟨out, pre, m.2⟩

/-! ### LAMP packets (R231, R313 to R316) -/

/-- A part of a compose block in tile-local coordinates (R231). -/
structure Part where
  start : Nat
  u0 : Nat
  v0 : Nat
  w : Nat
  h : Nat
  deriving DecidableEq, Repr

/-- The tile-local rectangle of a part. -/
def Tile.partOf (t : Tile) (p : Nat × Nat × Nat × Nat) : Part :=
  let a := t.localOf p.1 p.2.1
  let b := t.localOf (p.1 + p.2.2.1 - 1) (p.2.1 + p.2.2.2 - 1)
  let u0 := min a.1 b.1
  let v0 := min a.2 b.2
  ⟨v0 * t.tw + u0, u0, v0, max a.1 b.1 - u0 + 1, max a.2 b.2 - v0 + 1⟩

/-- Insert a part by START. -/
def insertPart (p : Part) : List Part → List Part
  | [] => [p]
  | q :: t => if p.start ≤ q.start then p :: q :: t else q :: insertPart p t

/-- A tile's parts in ascending START (R316). -/
def Tile.partList (t : Tile) : List Part := (t.parts.map t.partOf).foldr insertPart []

/-- The pixels of a part in the order sent (R231). -/
def Tile.order (t : Tile) (p : Part) : List (Nat × Nat) :=
  if t.scan then ((List.range p.w).map (fun i => (List.range p.h).map (fun j => (p.u0 + i, p.v0 + j)))).flatten
  else ((List.range p.h).map (fun j => (List.range p.w).map (fun i => (p.u0 + i, p.v0 + j)))).flatten

/-- 20-bit values packed into payload words (R314). -/
def packValues (vs : List Nat) : List Nat :=
  let n := vs.foldr (fun v m => v + 2 ^ 20 * m) 0
  (List.range (ceilDiv (vs.length * 20) 64)).map (fun i => bitsOf n (64 * i) 64)

/-- A LAMP packet (R313). -/
def lampPacket (t : Tile) (p : Part) (v cyc : Nat) (vs : List Nat) : List Nat :=
  let ws := packValues vs
  header 2 t.num ws.length (p.start * 2 ^ 16 + (p.w - 1) * 2 ^ 11 + (p.h - 1) * 2 ^ 6 + v * 8 + cyc % 2 * 4) :: ws

/-- Correct a part of a tile for a view (R234). -/
def State.doPart (s : State) (t : Tile) (p : Part) (v : Nat) : Sent :=
  let c := s.force
  let y := (t.canvasOf p.u0 p.v0).2 / 32
  let row := rowLayers c v y (rowBlocks (tilesOf c) y)
  let ds := (t.order p).map (fun q =>
    let xy := t.canvasOf q.1 q.2
    s.correct t q.1 q.2 (s.composed v row xy.1 xy.2))
  ⟨t.num, p.start, (ds.map (·.values)).flatten, (ds.map (·.pre)).flatten, (ds.map (·.sat)).sum⟩

/-- What view v sends for a part: in hold what it sent last, though a record has been rewritten since (R256). -/
def State.partData (s : State) (t : Tile) (p : Part) (v : Nat) : Sent :=
  match (s.view v).sent.find? (fun d => s.fld (pView v) F.VIEW_STAT_HELD == 1 && d.tile == t.num && d.start == p.start) with
  | some d => d
  | none => s.doPart t p v

/-- One part of a tile for one view: packet on the link's active feeds (R313), values and saturations kept. -/
def State.sendPart (s : State) (t : Tile) (p : Part) (cyc v : Nat) : State :=
  let d := s.partData t p v
  let s := s.inc pCor F.COR_SAT_CNT_SAT_CNT 0 d.sat
  let r := s.view v
  let s := s.setView v { r with sent := d :: r.sent.filter (fun x => !(x.tile == t.num && x.start == p.start)) }
  s.sendBoth t.link (lampPacket t p v cyc d.values)

/-- All tiles of a link in ascending position (R38, R316): each part, each view of SENT. -/
def State.sendTile (s : State) (views : List Nat) (cyc : Nat) (t : Tile) : State :=
  s.each t.partList (fun s p => s.each views (fun s v => s.sendPart t p cyc v))

/-- The links with enabled tiles, ascending. -/
def tileLinks (c : Sparse Word) : List Nat := (tilesOf c).foldl (fun l t => insertNat t.link l) []

/-- Compose, correct and send a cycle for the views of SENT (R234, R316). -/
def State.correctCycle (s : State) (views : List Nat) (cyc : Nat) : State :=
  let s := s.each (views.filter (fun v => s.fld (pView v) F.VIEW_STAT_HELD == 0)) (fun s v =>
    s.setView v { s.view v with sent := [] })
  s.each (tileLinks s.force) (fun s n => s.each (linkTiles s.force n) (fun s t => s.sendTile views cyc t))

/-! ### Power (R247, R248) -/

/-- Σ of IDLE of the enabled tiles, in 0.1 W. -/
def idleSum (c : Sparse Word) : Nat := ((tilesOn c).map (fun t => cfld c (pTile t) F.TL_POWER_IDLE)).sum

/-- duty[v] (R269). -/
def dutyOf (c : Sparse Word) (v : Nat) : Nat :=
  let g := gridOf c
  ((viewSlots c v).map (fun k => k.2.dur)).sum * 65536 * g.num / (g.den * 10 ^ 9)

/-- p_var times 2^20 · 10^6 (R247): each lamp's term is rounded. -/
def State.powerVar (s : State) : Nat :=
  ((viewsOn s.force).map (fun v =>
    let duty := dutyOf s.force v
    ((s.view v).sent.map (fun e =>
      if s.ff (pTile e.tile) F.TL_CFG_ENABLE = 1 then
        s.ff (pTile e.tile) F.TL_POWER_WPD * (e.pre.map (fun x => (rshr (duty * x : Nat) 16).toNat)).sum
      else 0)).sum)).sum

/-- The cap gain that the estimate asks for (R248): exact rationals over 2^20 · 10^6 and 0.1 W. -/
def capTarget (cap idle var : Nat) : Nat :=
  if cap = 0 ∨ var = 0 then 32768
  else if 10 * cap ≤ idle then 0
  else min 32768 (32768 * (10 * cap - idle) * (2 ^ 20 * 10 ^ 6) / (10 * var))

/-- The estimate after cycle c, and the gain for cycle c + 2 (R247, R248). -/
def State.estimate (s : State) (c : Nat) : State :=
  let idle := idleSum s.force
  let var := s.powerVar
  let cap := s.ff pCor F.COR_PCAP_CAP_W
  let last := (s.cap.getLast?.map (·.2)).getD (s.fld pCor F.COR_PCAP_STAT_K)
  let t := capTarget cap idle var
  let k := if t < last then t else min t (last + 128)
  let s := { s with cap := s.cap ++ [(c + 2, k)] }
  s.setFld pCor F.COR_PEST_P_EST (wholeWatts (idle * 2 ^ 20 * 10 ^ 5 + var) (2 ^ 20 * 10 ^ 6))

/-- K of cycle c comes into force (R248, R253); K is 32,768 while CAP_W is 0. -/
def State.latchCap (s : State) (c : Nat) : State :=
  let old := s.fld pCor F.COR_PCAP_STAT_K
  let none' := s.ff pCor F.COR_PCAP_CAP_W == 0
  let due := (s.cap.filter (fun e => decide (e.1 ≤ c))).getLast?
  let k := if none' then 32768 else (due.map (·.2)).getD old
  let s := { s with cap := if none' then [] else s.cap.filter (fun e => decide (c < e.1)),
                    corrTouched := s.corrTouched || k != old }
  (s.setFld pCor F.COR_PCAP_STAT_K k).setFld pCor F.COR_PCAP_STAT_LIMITING (if k < 32768 then 1 else 0)

/-! ### The map probe (R257) -/

/-- The tile that covers the probe's pixel, and its tile-local pixel. -/
def State.probe (s : State) : Option (Nat × Nat × Nat) :=
  let x := s.fld pMap F.MAP_PROBE_X
  let y := s.fld pMap F.MAP_PROBE_Y
  ((tilesOf s.force).find? (fun t => t.covers x y)).map (fun t =>
    let uv := t.localOf x y
    (t.num, uv.1, uv.2))

end Sys2Proof.Machine
end

