-- ==== Sys2Proof/Machine/Playout.lean ====
section
/-!
DEFINITION. Standby playout after its extent is loaded (R521, R522, R552 to R554): the result of its
commit, frame copies, its end.
-/
namespace Sys2Proof.Machine

/-- Replace the playout state. -/
def State.setPlay (s : State) (p : Playout) : State := { s with play := p }

/-- A record for every existing seat's host event ring: KIND and word 1 (R518). -/
def State.seatsRecord (s : State) (kind w1 : Nat) : State := s.allSeatsEntry [kind * 2 ^ 56, w1, s.now, 0]

/-- The flows of the loop's tracks. -/
def State.trackFlows (s : State) : List Nat := s.play.tracks.map (·.1)
/-- The same while playout runs (R553). -/
def State.loopFlows (s : State) : List Nat := if s.play.running then s.trackFlows else []

/-- R553: a track's flow is not an enabled push flow with NUM above 0 in the configuration committed. -/
def State.trackBad (s : State) (c : Sparse Word) : Bool :=
  s.trackFlows.any (fun f => cfld c (pFlow f) F.FLOW_CFG_ENABLE == 0 || cfld c (pFlow f) F.FLOW_CFG_SOURCE == 0 ||
    cfld c (pFlow f) F.FLOW_RATE_NUM == 0)

/-- The playout commit is accepted (code 0) or rejected, or its load failed (R521, R553). -/
def State.playoutAdmitted (s : State) (code : Nat) : State :=
  let s := s.setFld pEvt F.EVT_PLAYOUT_STAT_REASON code
  let p := s.play
  if code = 0 then
    ((s.setPlay { p with loading := false, pending := false, running := true }).inc pEvt F.EVT_PLAYOUT_CNT_PLAYOUT_CNT).seatsRecord
      0x61 (s.fld pEvt F.EVT_PLAYOUT_CFG_LOOP_EXTENT)
  else (s.setPlay Playout.idle).seatsRecord 0x62 2

/-- A write of STOP (R522). -/
def State.playoutStop (s : State) : State :=
  if s.play.running then (s.setPlay Playout.idle).seatsRecord 0x62 1 else s

/-- The start is withdrawn when a seat becomes present before the commit's window (R522). -/
def State.playoutWithdraw (s : State) : State :=
  if s.play.pending then
    (s.setPlay Playout.idle).setCyc { s.cyc with pend := s.cyc.pend.filter (fun cm => cm.origin != 2) }
  else if s.play.loading then s.setPlay { s.play with withdrawn := true } else s

/-- Frames whose copies start at the compose start of cycle n (R554): track and frame. -/
def Playout.due (p : Playout) (n : Nat) : List (Nat × Nat) :=
  (p.tracks.zipIdx).filterMap (fun e =>
    let cpf := e.1.2.1
    let k := n - p.start
    if cpf ≠ 0 ∧ k % cpf = 0 then some (e.2, k / cpf % e.1.2.2.1) else none)

/-- The player at the compose start of cycle n; `first` says that its commit takes effect there (R554). -/
def State.playoutCycle (s : State) (n : Nat) (first : Bool) : State :=
  let p := if first then { s.play with start := n } else s.play
  if p.running = true ∧ s.memOff = false then s.setPlay { p with copying := p.copying ++ p.due n } else s.setPlay p

/-- One copy ends: the frame is in the buffer and complete (R168, R554). -/
def State.copyDone (s : State) (track frame : Nat) : State :=
  match s.play.tracks[track]? with
  | none => s
  | some t =>
    let f := t.1
    let st := storeOf s.force f
    let r := s.flow f
    let s := s.poke (st.base + r.pushBuf * st.bufBytes) (s.mem.bytes (t.2.2.2 + frame * st.bufBytes) st.bufBytes)
    let n := (r.pushes + 1) % 2 ^ 32
    let s := (s.setFlow f { r with pushes := n }).completeFrame f r.pushBuf n
    s.setFlow f { s.flow f with pushBuf := (s.flow f).freeBuf }

/-- PLAYOUT_COPY_DONE (R554): the oldest copy of a track ends. -/
def execPlayoutCopyDone (track : Fin 8) (s : State) : Host.Outcome State Fault Refusal :=
  .next (match s.play.copying.find? (fun e => e.1 == track.val) with
    | none => s
    | some e =>
      let s := s.setPlay { s.play with copying := s.play.copying.erase e }
      if s.memOff then s else (s.copyDone e.1 e.2).settle)

end Sys2Proof.Machine
end

