-- ==== Sys2Proof/Machine/Admit.lean ====
section
/-!
DEFINITION. Admission of a commit (R287 to R289, R568): the checks of the twelve steps over the
configuration that would be in force, in the order of objects that R287 gives.
-/
namespace Sys2Proof.Machine

/-- A failed check: step of R287, kind of object in R287's order (0 slot, 1 cycle rate, 2 port, 3 flow, 4 layer,
5 view, 6 link, 7 tile, 8 map, 9 zone, 10 lamp-health map, 11 none), number of the object. -/
structure Fail where
  step : Nat
  ord : Nat
  obj : Nat
  deriving DecidableEq, Repr

/-- The reason code of a step (R287). -/
def Fail.code (f : Fail) : Nat := [0, 0x08, 0x0B, 0x0A, 0x09, 0x07, 0x01, 0x01, 0x05, 0x06, 0x02, 0x03, 0x04].getD f.step 0
/-- OBJ_KIND (R102). -/
def Fail.kind (f : Fail) : Nat := [1, 0, 2, 3, 4, 5, 6, 7].getD f.ord 0

/-- f comes before g. -/
def Fail.before (f g : Fail) : Bool :=
  decide (f.step < g.step ∨ (f.step = g.step ∧ (f.ord < g.ord ∨ (f.ord = g.ord ∧ f.obj < g.obj))))

/-- The first failure of a list. -/
def firstFail (l : List Fail) : Option Fail :=
  l.foldl (fun b f => match b with
    | none => some f
    | some g => if f.before g then some f else b) none

/-- A failure when `b`. -/
def failIf (b : Bool) (step ord obj : Nat) : List Fail := if b then [⟨step, ord, obj⟩] else []

/-- The page that governs an address of RWC fields: its own page, or the governing page of its window. -/
def governs (a : Nat) : Option Nat :=
  if isCoef a then some pCmp
  else match locate a with
    | none => none
    | some l => match l.blk with
      | .flow => some pIng
      | .tile => some pMap
      | .zn => some pZone
      | .rstate => none
      | _ => some (a - a % 0x1000)

/-- What a commit changes: pages and entries by block and number, coefficients, and the pages to own. -/
structure Change where
  objs : List (Blk × Nat)
  coef : Bool
  pages : List Nat
  deriving DecidableEq, Repr

/-- The commit changes page or entry `n` of a block. -/
def Change.has (k : Change) (b : Blk) (n : Nat) : Bool := k.objs.contains (b, n)
/-- The commit changes some page or entry of a block. -/
def Change.any (k : Change) (b : Blk) : Bool := k.objs.any (fun e => e.1 == b)

/-- What captured words change of a configuration (R277). -/
def changeOf (c words : Sparse Word) : Change :=
  let l := words.filter (fun e => inForce c e.1 != e.2)
  ⟨(l.filterMap (fun e => if isCoef e.1 then some (Blk.cmp, 0) else (locate e.1).map (fun x => (x.blk, x.inst)))).eraseDups,
   l.any (fun e => isCoef e.1), (l.filterMap (fun e => governs e.1)).eraseDups⟩

/-! ### Steps 2 to 5 -/

/-- R262: from 24,000/1,001 to 240 Hz. -/
def rateOk (num den : Nat) : Bool := decide (0 < num ∧ 0 < den ∧ 24000 * den ≤ 1001 * num ∧ num ≤ 240 * den)

/-- The cycle rate of a configuration lies inside R262. -/
def cycleOk (c : Sparse Word) : Bool := rateOk (gridOf c).num (gridOf c).den

/-- One slot of the schedule against the ones before it (R266, R267): end of the slot before, whether an unused
one has been seen, failures. -/
def slotFail (c : Sparse Word) (st : Nat × Bool × List Fail) (k : Nat) : Nat × Bool × List Fail :=
  let x := slotOf c k
  let stop := x.start + x.dur
  if x.role = 0 then (st.1, true, st.2.2)
  else (stop, st.2.1,
    failIf (st.2.1 || decide (x.start < st.1) || (k == 0 && x.start != 0) || (cycleOk c && decide ((gridOf c).pMin < stop))) 3 0 k ++
    failIf (cycleOk c && decide (x.dur < 1000 ∨ (gridOf c).pMin < x.dur)) 5 0 k ++ st.2.2)

/-- R23, R217: DATA3 of a vertical row holds a value other than 0, which is reserved. -/
def deadCoef (c : Sparse Word) : Bool :=
  c.any (fun e => isCoef e.1 && bit (e.1 / 1024) 0 && e.1 % 16 == 12 && e.2 != 0)

/-- The slot schedule and the cycle rate (R262, R266, R267, R288, R294). -/
def slotFails (c : Sparse Word) (k : Change) : List Fail :=
  let cmp := k.has .cmp 0
  (if cmp then ((List.range 32).foldl (slotFail c) (0, false, [])).2.2 else []) ++
  ((List.range 32).map (fun n =>
    let x := slotOf c n
    failIf (x.role == 1 && (cmp || k.has .view x.view) && cfld c (pView x.view) F.VIEW_CFG_ENABLE == 0) 4 0 n)).flatten ++
  failIf (!cycleOk c) 5 1 0 ++
  failIf (cmp && cycleOk c && decide ((gridOf c).pMin ≤ (gridOf c).phase)) 5 1 0 ++
  failIf (cmp && cfld c pCmp F.CMP_REPEAT_REPEAT_MAX == 0) 5 1 0 ++ failIf (k.coef && deadCoef c) 5 1 0

/-- Ethernet ports (R178): reserved values. -/
def portFails (c : Sparse Word) (k : Change) : List Fail :=
  ((List.range 8).map (fun n =>
    let p := pEth n
    let vid := cfld c p F.ETH_CFG_VLAN_ID
    failIf (k.has .eth n && (decide (4 < cfld c p F.ETH_CFG_MODE ∨ 32 < cfld c p F.ETH_CFG_IP4_PREFIX ∨
      128 < cfld c p F.ETH_CFG_IP6_PREFIX) || (cfld c p F.ETH_CFG_VLAN_EN == 1 && (vid == 0 || vid == 4095)))) 5 2 n)).flatten

/-- Reserved values of a flow entry (R182). -/
def flowReserved (c : Sparse Word) (f : Nat) : Bool :=
  let p := pFlow f
  decide (2 < cfld c p F.FLOW_FMT_SAMPLING) || cfld c p F.FLOW_FMT_DEPTH == 3 || cfld c p F.FLOW_FMT_RANGE == 3 ||
    cfld c p F.FLOW_FMT_COLORIMETRY == 3 || cfld c p F.FLOW_FMT_TCS == 3 || decide (5 < cfld c p F.FLOW_FMT_PUSH_FMT) ||
    cfld c p F.FLOW_RATE_DEN == 0 || cfld c p F.FLOW_TIMEOUT_PATH_TIMEOUT == 0

/-- PITCH too small or not a multiple of 256 (R175). -/
def badPitch (c : Sparse Word) (f : Nat) : Bool :=
  let t := storeOf c f
  decide (t.pitch % 256 ≠ 0 ∨ t.pitch < t.width * fmtBytes t.fmt)

/-- Format, size and rate of an enabled flow outside R149 or R172 (R175). -/
def flowBad (c : Sparse Word) (f : Nat) : Bool :=
  let p := pFlow f
  let t := storeOf c f
  let num := cfld c p F.FLOW_RATE_NUM
  let den := cfld c p F.FLOW_RATE_DEN
  let push := cfld c p F.FLOW_CFG_SOURCE == 1
  let rate := if push then num != 0 && !decide (den ≤ 4095 * num ∧ num ≤ 240 * den) else !rateOk num den
  let col := cfld c p F.FLOW_FMT_COLORIMETRY
  let net := (decide (cfld c p F.FLOW_FMT_TCS = 0) != decide (col < 2)) || cfld c p F.FLOW_FMT_PUSH_FMT != 0 ||
    decide (t.width < 16 ∨ 8192 < t.width ∨ t.height < 16 ∨ 8192 < t.height ∨ 35389440 < t.width * t.height) ||
    (cfld c p F.FLOW_FMT_SAMPLING == 0 && t.width % 2 == 1)
  rate || (!push && net)

/-- A ring that an object names (R134): unassigned, or of the wrong role. -/
def State.ringFails (s : State) (n role ord obj : Nat) : List Fail :=
  failIf ((s.ring n).role == 0) 4 ord obj ++ failIf ((s.ring n).role != 0 && (s.ring n).role != role) 3 ord obj

/-- Seat 0's window holds the bytes (R175). -/
def State.flowStore (s : State) (c : Sparse Word) (f : Nat) : Bool :=
  let t := storeOf c f
  s.inGddr t.base (3 * t.bufBytes) &&
    (cfld c (pFlow f) F.FLOW_CFG_SOURCE == 0 || s.inWindow 0 t.base (3 * t.bufBytes))

/-- Two paths match the same packets (R148). -/
def Path.clash (a b : Path) (pa pb : Nat) : Bool :=
  a.port == b.port && a.v6 == b.v6 && a.udp == b.udp && a.dst == b.dst &&
    (a.src == 0 || b.src == 0 || a.src == b.src) && (pa == 0 || pb == 0 || pa == pb)

/-- The enabled paths with their flow and payload type. -/
def flowPaths (c : Sparse Word) : List (Nat × Nat × Path) :=
  ((flowsOn c).map (fun f => [(f, cfld c (pFlow f) F.FLOW_CFG_PT, pathOf c f 0), (f, cfld c (pFlow f) F.FLOW_CFG_PT, pathOf c f 1)])).flatten.filter (fun e => e.2.2.on)

/-- Failures of path pairs. -/
def pathFails (k : Change) : List (Nat × Nat × Path) → List Fail
  | [] => []
  | a :: t => (t.map (fun b =>
      failIf (a.2.2.clash b.2.2 a.2.1 b.2.1 && (k.has .flow a.1 || k.has .flow b.1)) 3 3 (min a.1 b.1))).flatten ++ pathFails k t

/-- A flow whose entry the commit changes, enabled or not (R134, R175): PITCH, a store with a size, the ring. -/
def State.entryFail (s : State) (c : Sparse Word) (f : Nat) : List Fail :=
  let p := pFlow f
  let t := storeOf c f
  failIf (badPitch c f) 5 3 f ++ failIf (t.bufBytes != 0 && !s.flowStore c f) 3 3 f ++
  (if cfld c p F.FLOW_RING_VALID = 1 then s.ringFails (cfld c p F.FLOW_RING_RING) 5 3 f else [])

/-- One enabled flow whose entry the commit changes (R175). -/
def State.flowFail (s : State) (c : Sparse Word) (f : Nat) : List Fail :=
  let p := pFlow f
  let t := storeOf c f
  let net := cfld c p F.FLOW_CFG_SOURCE == 0
  failIf (t.width == 0 || t.height == 0) 4 3 f ++ failIf (flowBad c f) 5 3 f ++
  failIf (!s.flowStore c f || (net && cfld c p F.FLOW_CFG_DUAL != cfld c (p + 0x30) F.PATH_CFG_ENABLE)) 3 3 f

/-- Flows (R148, R149, R172, R175). -/
def State.flowFails (s : State) (c : Sparse Word) (k : Change) : List Fail :=
  ((List.range 64).map (fun f => if k.has .flow f then failIf (flowReserved c f) 5 3 f ++ s.entryFail c f else [])).flatten ++
  ((flowsOn c).map (fun f => if k.has .flow f then s.flowFail c f else [])).flatten ++
  ((flowPaths c).map (fun e => failIf ((k.has .flow e.1 || k.has .eth e.2.2.port) &&
    cfld c (pEth e.2.2.port) F.ETH_CFG_MODE == 0) 3 3 e.1)).flatten ++
  pathFails k (flowPaths c)

/-- Coefficient k of a phase of a bank; axis 0 horizontal (R195). -/
def bankCoef (c : Sparse Word) (bank axis phase k : Nat) : Int := coefOf c bank axis phase k

/-- Every phase of a bank sums to 1,024 over the 8 horizontal and the T vertical coefficients used (R195). -/
def bankOk (c : Sparse Word) (bank taps : Nat) : Bool :=
  (List.range 64).all (fun p =>
    sumI ((List.range 8).map (bankCoef c bank 0 p)) == 1024 &&
    sumI ((List.range taps).map (fun i => bankCoef c bank 1 p (3 - taps / 2 + i))) == 1024)

/-- An enabled layer whose page the commit changes (R192, R206). -/
def layerFail (c : Sparse Word) (l : Layer) : List Fail :=
  let on := cfld c (pFlow l.flow) F.FLOW_CFG_ENABLE == 1
  let t := storeOf c l.flow
  let zero := l.sw == 0 || l.sh == 0 || l.dw == 0 || l.dh == 0
  failIf (zero || !on) 4 4 l.num ++
  failIf (!l.graphic && !decide (l.sw ≤ 8 * l.dw ∧ l.dw ≤ 16 * l.sw ∧ l.sh ≤ 8 * l.dh ∧ l.dh ≤ 16 * l.sh)) 5 4 l.num ++
  failIf (on && decide (t.width < l.sx + l.sw ∨ t.height < l.sy + l.sh)) 3 4 l.num

/-- Layers of one view with one DEPTH (R184, R206). -/
def depthFails (ls : List Layer) (k : Change) : List Fail :=
  (ls.map (fun l =>
    let same := ls.filter (fun m => m.view == l.view && m.depth == l.depth)
    failIf (decide (1 < same.length) && same.any (fun m => k.has .lyr m.num)) 3 4 l.num)).flatten

/-- A 17th video or graphic layer of one view (R135, R184). -/
def layerCounts (ls : List Layer) : List Fail :=
  (ls.map (fun l =>
    failIf ((ls.filter (fun m => m.view == l.view && m.graphic == l.graphic && decide (m.num < l.num))).length == 16) 2 4 l.num)).flatten

/-- Layers (R192, R195, R206). -/
def layerFails (c : Sparse Word) (k : Change) : List Fail :=
  let ls := layersOf c
  layerCounts ls ++ depthFails ls k ++
  ((List.range 256).map (fun n => failIf (k.has .lyr n && (cfld c (pLyr n) F.LYR_CFG_VTAPS == 3 ||
    decide (1024 < cfld c (pLyr n) F.LYR_ALPHA_GALPHA))) 5 4 n)).flatten ++
  (ls.map (fun l =>
    (if k.has .lyr l.num then layerFail c l else []) ++
    failIf ((k.has .lyr l.num || k.coef) && !l.graphic && l.vtaps != 3 && !bankOk c l.bank l.taps) 5 4 l.num)).flatten

/-- A view's writeback (R206, R212). -/
def State.wbFail (s : State) (c : Sparse Word) (v : Nat) : List Fail :=
  let p := pView v
  let w := cfld c p F.VIEW_WB_SIZE_WIDTH
  let h := cfld c p F.VIEW_WB_SIZE_HEIGHT
  let pitch := cfld c p F.VIEW_WB_PITCH_PITCH
  let base := cpair c p F.VIEW_WB_BASE_LO_BASE F.VIEW_WB_BASE_HI_BASE
  failIf (w == 0 || h == 0) 4 5 v ++ failIf (decide (pitch % 256 ≠ 0 ∨ pitch < 4 * w)) 5 5 v ++
  failIf (decide (canvasW c < cfld c p F.VIEW_WB_POS_X + w ∨ canvasH c < cfld c p F.VIEW_WB_POS_Y + h) ||
    !s.inGddr base (2 * wbBytes c v)) 3 5 v

/-- Views: writeback and preview (R206). -/
def State.viewFails (s : State) (c : Sparse Word) (k : Change) : List Fail :=
  ((List.range 8).map (fun v =>
    let p := pView v
    let wb := cfld c p F.VIEW_WB_CFG_ENABLE == 1
    let pv := cfld c p F.VIEW_PV_CFG_ENABLE == 1
    let port := cfld c p F.VIEW_PV_CFG_PORT
    failIf (k.has .view v && cfld c p F.VIEW_WB_CFG_ENC == 3) 5 5 v ++
    (if k.has .view v && cfld c p F.VIEW_WB_RING_VALID == 1 then s.ringFails (cfld c p F.VIEW_WB_RING_RING) 8 5 v else []) ++
    failIf (k.has .view v && pv && !wb) 4 5 v ++
    failIf ((k.has .view v || k.has .eth port) && pv && cfld c (pEth port) F.ETH_CFG_MODE == 0) 3 5 v ++
    (if k.has .view v && wb then s.wbFail c v
     else failIf (k.has .map 0 && wb && decide (canvasW c < cfld c p F.VIEW_WB_POS_X + cfld c p F.VIEW_WB_SIZE_WIDTH ∨
       canvasH c < cfld c p F.VIEW_WB_POS_Y + cfld c p F.VIEW_WB_SIZE_HEIGHT)) 3 5 v))).flatten

/-- First lanes of a link's feeds. -/
def firstLanes (c : Sparse Word) (n : Nat) : List Nat :=
  cfld c (pWl n) F.WL_CFG_PRI_LANE :: (if cfld c (pWl n) F.WL_CFG_RING = 1 then [cfld c (pWl n) F.WL_CFG_SEC_LANE] else [])

/-- The lanes that an object claims: link n as n, port p as 1,024 + p; a reserved WIDTH claims none. -/
def laneClaims (c : Sparse Word) : List (Nat × List Nat) :=
  ((linksOn c).filter (fun n => cfld c (pWl n) F.WL_CFG_WIDTH != 3)).map (fun n =>
    (n, ((firstLanes c n).map (fun a => (List.range (linkWidth c n)).map (a + ·))).flatten)) ++
  (List.range 8).filterMap (fun p =>
    let m := cfld c (pEth p) F.ETH_CFG_MODE
    if m = 0 ∨ 4 < m then none else some (1024 + p, (List.range (2 ^ (m - 1))).map (8 * p + ·)))

/-- The page of a claimant changes. -/
def claimChanged (k : Change) (n : Nat) : Bool := if n < 1024 then k.has .wl n else k.has .eth (n - 1024)

/-- Links: lanes and WIDTH (R139, R349). -/
def linkFails (c : Sparse Word) (k : Change) : List Fail :=
  let claims := laneClaims c
  ((List.range 512).map (fun n => failIf (k.has .wl n && cfld c (pWl n) F.WL_CFG_WIDTH == 3) 5 6 n)).flatten ++
  ((claims.filter (fun e => decide (e.1 < 1024))).map (fun e =>
    failIf (k.has .wl e.1 && ((firstLanes c e.1).any (fun a => a % linkWidth c e.1 != 0) ||
      e.2.any (fun l => decide (512 ≤ l)) || e.2.eraseDups.length != e.2.length)) 3 6 e.1 ++
    failIf (claims.any (fun o => o.1 != e.1 && (claimChanged k e.1 || claimChanged k o.1) && e.2.any o.2.contains)) 3 6 e.1)).flatten

/-- Two footprints overlap. -/
def Tile.meets (a b : Tile) : Bool :=
  decide (0 < a.fw ∧ 0 < a.fh ∧ 0 < b.fw ∧ 0 < b.fh ∧ a.x0 < b.x0 + b.fw ∧ b.x0 < a.x0 + a.fw ∧
    a.y0 < b.y0 + b.fh ∧ b.y0 < a.y0 + a.fh)

/-- One enabled tile (R224, R230, R254). -/
def tileFail (c : Sparse Word) (k : Change) (count : Nat) (ts : List Tile) (t : Tile) : List Fail :=
  let me := k.has .tile t.num
  failIf (me && (t.tw == 0 || t.th == 0)) 4 7 t.num ++
  failIf (me && decide (1024 < t.tw ∨ 1024 < t.th ∨ 65536 < t.tw * t.th)) 5 7 t.num ++
  failIf ((me || k.has .map 0) && decide (canvasW c < t.x0 + t.fw ∨ canvasH c < t.y0 + t.fh)) 3 7 t.num ++
  failIf (ts.any (fun o => o.num != t.num && (me || k.has .tile o.num) && (t.meets o || (t.link == o.link && t.pos == o.pos)))) 3 7 t.num ++
  failIf ((me || k.has .wl t.link) && cfld c (pWl t.link) F.WL_CFG_ENABLE == 0) 4 7 t.num ++
  failIf ((me || k.has .cor 0) && decide (0 < count ∧ count < t.recIdx + t.tw * t.th)) 3 7 t.num

/-- R254: the first tile at which the running number of pixels exceeds 2^26. -/
def pixelCount : List Tile → Nat → List Fail
  | [], _ => []
  | t :: r, n => if 2 ^ 26 < n + t.tw * t.th then [⟨2, 7, t.num⟩] else pixelCount r (n + t.tw * t.th)

/-- Tiles, map and record table (R254, R256). -/
def State.mapFails (s : State) (c : Sparse Word) (k : Change) : List Fail :=
  let ts := tilesOf c
  let cor := k.has .cor 0
  let count := cfld c pCor F.COR_REC_COUNT_COUNT
  let base := cpair c pCor F.COR_REC_BASE_LO_BASE F.COR_REC_BASE_HI_BASE
  pixelCount ts 0 ++ (ts.map (tileFail c k count ts)).flatten ++
  failIf (!ts.isEmpty && count == 0 && (cor || k.any .tile)) 4 8 0 ++
  failIf (cor && decide (2 ^ 26 < count)) 5 8 0 ++
  failIf (cor && decide (0 < count) && !s.inGddr base (16 * count)) 3 8 0 ++
  failIf (cor && (match s.respLoad with
    | some r => s.fld pCor F.COR_STAT_LOAD_BUSY == 1 && cfld c pCor F.COR_RESP_CFG_BANK == r.1
    | none => false)) 3 8 0

/-- The lamp-health map (R505) and the pin rate (R474). -/
def State.lastFails (s : State) (c : Sparse Word) (k : Change) : List Fail :=
  failIf ((k.has .hk 0 || k.has .cor 0) &&
    !s.inGddr (cpair c pHk F.HK_LH_BASE_LO_BASE F.HK_LH_BASE_HI_BASE) (cfld c pCor F.COR_REC_COUNT_COUNT)) 3 10 0 ++
  failIf (k.has .mem 0 && decide (cfld c pMem F.MEM_CFG_RATE < 12 ∨ 24 < cfld c pMem F.MEM_CFG_RATE)) 5 11 0

/-! ### Steps 6 to 12 (R289) -/

/-- The first object at which a running sum exceeds a limit (R196, R198). -/
def overAt (lim : Nat) : List (Nat × Nat) → Nat → Option Nat
  | [], _ => none
  | (n, x) :: t, sum => if lim < sum + x then some n else overAt lim t (sum + x)

/-- Failure of a running sum. -/
def overFail (lim step ord : Nat) (l : List (Nat × Nat)) : List Fail :=
  match overAt lim l 0 with
  | some n => [⟨step, ord, n⟩]
  | none => []

/-- Pin rates that the memory check is held to while a change of RATE is on its way (R467): the rate that runs,
the one in force, the ones of commits that wait or are accepted. -/
def State.rates (s : State) : List Nat :=
  let a := pMem + F.MEM_CFG_RATE.off
  let of (k : Commit) : List Nat := (k.words.filter (fun e => e.1 == a)).map (fun e => bitsOf e.2.toNat F.MEM_CFG_RATE.lo F.MEM_CFG_RATE.w)
  let run := s.fld pMem F.MEM_STAT_RATE
  (if run = 0 then [] else [run]) ++ (if s.rateTo = 0 then [] else [s.rateTo]) ++ s.ff pMem F.MEM_CFG_RATE :: ((s.cyc.pend ++ s.cyc.acc).map of).flatten

/-- The reservable limit (R289, R467). -/
def State.memLimitNow (s : State) : Nat := memLimit (s.rates.foldl min (s.ff pMem F.MEM_CFG_RATE))

/-- Reservations without the fixed term (R51, R86). -/
def realRsv (c : Sparse Word) (tracks : List Nat) : Nat := memRsv c tracks - 4000000000

/-- Capacity of a tile's buffer (R255). -/
def State.tileCap (s : State) (c : Sparse Word) (t : Nat) : Nat :=
  if s.fld (pTile t) F.TL_STAT_DECLARED = 1 then s.fld (pTile t) F.TL_DECL_DECL_KIB * 8192
  else cfld c (pTile t) F.TL_BUF_ASSUMED_KIB * 8192

/-- The budgets of R289 over the whole configuration. -/
def State.budgetFails (s : State) (c : Sparse Word) (tracks : List Nat) : List Fail :=
  let g := gridOf c
  let us := viewUses c
  let views := (viewsOn c).length
  let ls := layersOf c
  let lim := min s.memLimitNow (memLimit (cfld c pMem F.MEM_CFG_RATE))
  failIf (decide (128000000000 * g.den < populated c * views * g.num)) 6 11 0 ++
  failIf (decide (128000000000 * g.den < 1024 * (us.map (fun u => u.2.blu)).sum * g.num)) 7 11 0 ++
  overFail 96000000 8 4 (ls.map (fun l => (l.num, l.lbuf))) ++
  overFail 32 9 4 (ls.map (fun l => (l.num, l.engines g (visBlocks us l.num)))) ++
  failIf ((s.memOff && decide (0 < realRsv c tracks)) || decide (lim < memRsv c tracks)) 10 11 0 ++
  ((linksOn c).map (fun n => failIf (decide (linkWidth c n * 51646000000 * g.den < linkBits c n * g.num)) 11 6 n)).flatten ++
  ((tilesOn c).map (fun t => failIf (decide (s.tileCap c t < bufNeed c t)) 12 7 t)).flatten

/-- Steps 1 to 5: ownership by the committing seat, the named target (R280), then the checks of the blocks. -/
def State.earlyFails (s : State) (c : Sparse Word) (k : Change) (cm : Commit) : List Fail :=
  failIf (cm.origin == 0 && k.pages.any (fun p => !s.owns cm.seat p)) 1 11 0 ++
  failIf cm.badTarget 3 11 0 ++ failIf (cm.origin == 2 && s.trackBad c) 4 11 0 ++ slotFails c k ++ portFails c k ++ s.flowFails c k ++ layerFails c k ++
  s.viewFails c k ++ linkFails c k ++ s.mapFails c k ++ s.lastFails c k

/-- R287: the first check that a commit fails, over the configuration `base` of the commits accepted before it. -/
def State.verdict (s : State) (base : Sparse Word) (cm : Commit) : Option Fail :=
  let c := overlay base cm.words
  let k := changeOf base cm.words
  match firstFail (s.earlyFails c k cm) with
  | some f => some f
  | none => firstFail (s.budgetFails c (if cm.origin = 2 then s.trackFlows else s.loopFlows))

end Sys2Proof.Machine
end

