-- ==== Sys2Proof/Machine/Commit.lean ====
section
/-!
DEFINITION. Commits (R277 to R286, R292 to R294): GO and its target, cancel, admission at a window,
bridges.
-/
namespace Sys2Proof.Machine

/-! ### Groups -/

/-- Every page of the page map. -/
def allPages : List Nat :=
  (pageMap.map (fun e => (List.range e.2.1).map (fun i => e.1 + 0x1000 * i))).flatten

/-- The commit group of a page (R102). -/
def State.groupOf (s : State) (p : Nat) : Nat := s.fld p F.HDR_COMMIT_GROUP

/-- The pages of a commit: those of its group, or every page for an initial or playout commit (R84, R521). -/
def State.commitPages (s : State) (cm : Commit) : List Nat :=
  if cm.origin = 0 then allPages.filter (fun p => s.groupOf p == cm.group) else allPages

/-- The captured word of an address: its RWC shadow over the fixed bits (R277). -/
def State.shadow (s : State) (a : Nat) : Word :=
  let m := BitVec.ofNat 32 (accMask .rwc a)
  (s.reg a &&& m) ||| (resetWord a &&& ~~~m)

/-- Capture the RWC shadows of the pages that `p` chooses, and of the windows they govern. An address is listed
when it stands apart from its reset value as shadow or in force, or when a commit that waits or is accepted has it. -/
def State.capture (s : State) (p : Nat → Bool) : Sparse Word :=
  let l := ((s.regs ++ s.force ++ ((s.cyc.pend ++ s.cyc.acc).map (·.words)).flatten).map (·.1)).filter (fun a =>
    (match governs a with
      | some q => p q
      | none => false) && accMask .rwc a != 0)
  l.eraseDups.map (fun a => (a, s.shadow a))

/-! ### Seats' copies (R294) -/

/-- A seat's copy of the CMP page. -/
def pCmpOf (seat : Nat) : Nat := seatKey seat pCmp

/-- The seat's last GO is this group's, and is its own. -/
def State.lastGo (s : State) (cm : Commit) : Bool :=
  cm.origin == 0 && s.fld (pCmpOf cm.seat) F.CMP_CMT_STAT_GROUP == cm.group

/-! ### GO (R277 to R281) -/

/-- The first cycle from n on whose window is open (R279); no cycle of a bridge has one (R286). -/
def Cycles.open' (c : Cycles) (n : Nat) : Nat :=
  let m := max n c.next
  if m = c.next ∧ c.closed = true then m + 1 else m

/-- A named target that is past counts as late when its following cycle's window is open (R280), or when it or its
following cycle belongs to the bridge (R286). -/
def Cycles.justPast (c : Cycles) (t : Int) : Bool :=
  decide (0 ≤ t ∧ (c.bridgeFrom : Int) - 1 ≤ t) && (decide (c.bridgeFrom < c.next) || !c.closed)

/-- A late commit (R279): CMT_LATE of its group, the count, CMP condition 2. -/
def State.markLate (s : State) (cm : Commit) : State :=
  let s := s.each (s.commitPages cm) (fun s p => s.setFld p F.HDR_COMMIT_CMT_LATE 1)
  let s := s.when (s.lastGo cm) (·.setFld (pCmpOf cm.seat) F.CMP_CMT_STAT_LATE 1)
  (s.inc pCmp F.CMP_LATE_CNT_LATE_CNT).setCond pCmp 2

/-- The cycle that a GO asks for, and whether R280 rejects it: it lies more than 65,535 cycles ahead, or too far back
(R278, R280, compared under R16). -/
def State.asked (s : State) (seat : Nat) : Nat × Bool :=
  let base := s.cyc.upcoming
  if s.fld (pCmpOf seat) F.CMP_CMT_CTL_NAMED = 1 then
    let d := toS 32 (s.fld (pCmpOf seat) F.CMP_CMT_TARGET_CYCLE + 2 ^ 32 - base % 2 ^ 32)
    let t : Int := base + d
    if 65535 < d ∨ (d < 0 ∧ s.cyc.justPast t = false) then (base, true) else (t.toNat, false)
  else (base, false)

/-- A GO of a seat at a page (R277 to R281). -/
def State.commitGo (s : State) (seat page : Nat) : State :=
  if s.fld page F.HDR_COMMIT_GO = 1 then s
  else
    let g := s.groupOf page
    let t := s.asked seat
    let target := s.cyc.open' t.1
    let cm : Commit := ⟨seat, g, 0, target, !t.2 && target != t.1, t.2, s.capture (fun p => s.groupOf p == g)⟩
    let s := s.each (s.commitPages cm) (fun s p => (s.setFld p F.HDR_COMMIT_GO 1).setFld p F.HDR_COMMIT_CMT_LATE 0)
    let q := pCmpOf seat
    let s := ((s.setFld q F.CMP_CMT_STAT_PENDING 1).setFld q F.CMP_CMT_STAT_LATE 0).setFld q F.CMP_CMT_STAT_GROUP g
    let s := s.when cm.late (·.markLate cm)
    (s.setCyc { s.cyc with pend := s.cyc.pend ++ [cm] }).settle

/-- The window of a commit's target is still open. -/
def Cycles.waiting (c : Cycles) (cm : Commit) : Bool := !(cm.target == c.next && c.closed)

/-- GO of a commit ends. -/
def State.endGo (s : State) (cm : Commit) : State :=
  let s := s.each (if cm.origin = 0 then s.commitPages cm else []) (fun s p => s.setFld p F.HDR_COMMIT_GO 0)
  s.when (s.lastGo cm) (·.setFld (pCmpOf cm.seat) F.CMP_CMT_STAT_PENDING 0)

/-- CMP_CMT_CANCEL GO by a seat (R281). -/
def State.cancelGo (s : State) (seat group : Nat) : State :=
  match s.cyc.pend.find? (fun cm => cm.origin == 0 && cm.group == group && cm.seat == seat && s.cyc.waiting cm) with
  | some cm => (s.setCyc { s.cyc with pend := s.cyc.pend.filter (· ≠ cm) }).endGo cm
  | none => s

/-- A commit of every group (R84, R521): origin 1 initial, 2 playout. It waits for the next window to close. -/
def State.queueAll (s : State) (origin : Nat) (words : Sparse Word) : State :=
  let cm : Commit := ⟨0, s.groupOf pCmp, origin, s.cyc.open' s.cyc.upcoming, false, false, words⟩
  s.setCyc { s.cyc with pend := s.cyc.pend ++ [cm] }

/-- The initial commit captures the shadows of every page (R84). -/
def State.queueInitial (s : State) : State :=
  let s := { s with pow := { s.pow with initCommit := false } }
  s.queueAll 1 (s.capture (fun _ => true))

/-! ### Admission at W_c (R282, R284 to R286, R292) -/

/-- _ADM of a result (R102, R104). -/
def admWord (cm : Commit) (f : Option Fail) : Word :=
  let r := match f with
    | some f => f.code * 2 ^ 24 + f.kind * 2 ^ 17 + (if f.kind = 0 then 0 else f.obj)
    | none => 0
  BitVec.ofNat 32 (r + (if cm.origin = 0 then cm.seat else 0) * 2 ^ 20 + 2 ^ 16 + cm.origin * 2 ^ 14)

/-- ING_ADM_FLOW and MAP_ADM_TILE (R175, R254). -/
def State.admObjects (s : State) (pages : List Nat) (f : Option Fail) : State :=
  let of (k : Nat) : Nat × Nat := match f with
    | some f => if f.kind = k then (1, f.obj) else (0, 0)
    | none => (0, 0)
  let s := s.when (pages.contains pIng) (fun s =>
    (s.setFld pIng F.ING_ADM_FLOW_VALID (of 3).1).setFld pIng F.ING_ADM_FLOW_FLOW (of 3).2)
  s.when (pages.contains pMap) (fun s =>
    (s.setFld pMap F.MAP_ADM_TILE_VALID (of 7).1).setFld pMap F.MAP_ADM_TILE_TILE (of 7).2)

/-- The registers of CMP that record an admission (R292, R294). -/
def State.admTotals (s : State) (cm : Commit) (code : Nat) : State :=
  let s := (s.setFld pCmp F.CMP_LAST_ADM_REASON code).setFld pCmp F.CMP_LAST_ADM_SEAT (if cm.origin = 0 then cm.seat else 0)
  let s := (s.setFld pCmp F.CMP_LAST_ADM_GROUP cm.group).setFld pCmp F.CMP_LAST_ADM_ORIGIN cm.origin
  let s := s.setFld pCmp F.CMP_LAST_ADM_CYCLE_CYCLE (cm.target % 2 ^ 32)
  if code = 0 then s.inc pCmp F.CMP_ADM_ACC_CNT_ACC_CNT else s.inc pCmp F.CMP_ADM_REJ_CNT_REJ_CNT

/-- Publish the result of an admission. -/
def State.publish (s : State) (cm : Commit) (f : Option Fail) : State :=
  let pages := s.commitPages cm
  let code := match f with
    | some f => f.code
    | none => 0
  let s := s.each pages (fun s p => s.setReg (p + 0x24) (admWord cm f))
  let s := (s.admObjects pages f).admTotals cm code
  let s := s.when (cm.origin == 0) (·.setFld (pCmpOf cm.seat) F.CMP_CMT_STAT_REASON code)
  let s := (s.when (code != 0 && pages.contains pCmp) (·.setCond pCmp 0)).endGo cm
  s.when (cm.origin == 2) (·.playoutAdmitted code)

/-- The slot schedule of a configuration, as SCHED carries it. -/
def schedOf (c : Sparse Word) : List Slot := usedSlots c

/-- GEN steps on and SCHED leaves on every feed when an accepted commit changes the schedule (R321). -/
def State.schedSend (s : State) (old : Sparse Word) : State :=
  if schedOf old = schedOf s.nextForce then s
  else
    let s := s.setCyc { s.cyc with gen := (s.cyc.gen + 1) % 256, genAge := 1 }
    s.each s.activeLinks (fun s n => (s.askSched n [false, true]).flushBroadcasts n)

/-- A commit's page is among those it covers. -/
def State.covers (s : State) (cm : Commit) (p : Nat) : Bool := cm.origin != 0 || s.groupOf p == cm.group

/-- R134: a stale reference whose page's group commits with a ring of the right role is stale no more. -/
def State.freshRefs (s : State) (cm : Commit) : State :=
  let good (k : Nat) : Bool :=
    s.covers cm (if k < 64 then pIng else pView (k - 64)) &&
      (match refIn s.nextForce k with
        | some n => (s.ring n).role == (if k < 64 then 5 else 8)
        | none => false)
  { s with stale := s.stale.filter (fun e => !((List.range 72).any (fun k =>
      good k && (refIn s.nextForce k).map (staleKey k) == some e))) }

/-- Admit one commit (R47, R287). -/
def State.admitOne (s : State) (cm : Commit) : State :=
  let base := s.nextForce
  match s.verdict base cm with
  | none => (((s.setCyc { s.cyc with acc := s.cyc.acc ++ [cm] }).freshRefs cm).publish cm none).schedSend base
  | some f => s.publish cm (some f)

/-- The commits that a bridge has overtaken target its landing cycle (R286). -/
def State.overtaken (s : State) (lo land : Nat) : State :=
  let hit (cm : Commit) : Bool := decide (lo < cm.target ∧ cm.target < land)
  let old := s.cyc.pend
  let s := s.setCyc { s.cyc with pend := old.map (fun cm => if hit cm then { cm with target := land, late := true } else cm) }
  s.each (old.filter hit) (fun s cm => if cm.origin = 0 then s.markLate cm else s)

/-- A bridge begins (R285, R286): numbered cycles when the grid stays. -/
def State.beginBridge (s : State) (plan : (Nat × Nat) × Nat) (sameGrid : Bool) : State :=
  let c := s.cyc
  let s := (s.inc pCmp F.CMP_BRIDGE_CNT_BRIDGE_CNT).setCond pCmp 3
  if sameGrid then
    let pts := (gridOf s.force).between plan.2 plan.1.1 4096
    let land := c.next + pts.length
    let s := s.setCyc { c with bridge := (List.range pts.length).zipWith (fun i t => (c.next + i, t)) pts, bridgeFrom := c.next,
                               next := land, closed := false }
    s.overtaken c.next land
  else s

/-- The launch time of the cycle whose window closes, when its commits or a step change it (R285, R400). -/
def State.retime (s : State) (gridWas : Grid) (guardWas : Nat) : State :=
  let moved := gridOf s.nextForce != gridWas || s.cyc.newGuard != guardWas
  let step := s.cyc.sched.isSome
  if moved || step then
    let plan := s.planLaunch
    let same := gridOf s.nextForce == gridOf s.force
    let s := s.setCyc { s.cyc with launch := plan.1.1, period := plan.1.2 }
    s.when (!step && plan.1.1 != plan.2) (·.beginBridge plan same)
  else s

/-- G in µs for a measured D in ns (R34). -/
def guardUs (d : Nat) : Nat := ceilDiv (20000 + d) 1000 % 2 ^ 16

/-- The window of the next cycle closes (R282): step requests (R399), commits in the order of their GO, G. -/
def State.closeWindow (s : State) : State :=
  let due := s.cyc.pend.filter (fun cm => decide (cm.target ≤ s.cyc.next))
  let gridWas := gridOf s.nextForce
  let guardWas := s.cyc.newGuard
  let acc := s.cyc.acc.length
  let s := s.setCyc { s.cyc with closed := true, pend := s.cyc.pend.filter (fun cm => decide (s.cyc.next < cm.target)) }
  let s := s.stepAtWindow.each due (fun s cm => s.admitOne cm)
  let d := s.fld pCmp F.CMP_D_MEAS_D_NS
  let s := s.when (decide (acc < s.cyc.acc.length)) (fun s => s.setCyc { s.cyc with newGuard := guardUs d, newD := d })
  (s.retime gridWas guardWas).settle

/-- COMMIT_WINDOW (R282): W of the next cycle. -/
def execCommitWindow (s : State) : Host.Outcome State Fault Refusal :=
  .next (if s.cyc.run = true ∧ s.cyc.closed = false then s.closeWindow else s)

end Sys2Proof.Machine
end

