-- ==== Sys2Proof/Machine/Cycle.lean ====
section
/-!
DEFINITION. The cycle: compose start (R33, R37, R253, R283), what it brings into force, its CYCLE and TIME
packets (R311, R312), bridge cycles (R286), the power estimate (R248).
-/
namespace Sys2Proof.Machine

/-! ### Packets of a cycle -/

/-- GEN of the schedule in force: of the accepted changes that wait, none has come into force (R321). -/
def State.genForce (s : State) : Nat :=
  let n := s.cyc.acc.foldl (fun (st : Sparse Word × Nat) k =>
    let c := overlay st.1 k.words
    (c, if schedOf c = schedOf st.1 then st.2 else st.2 + 1)) (s.force, 0)
  (s.cyc.gen + 256 - n.2 % 256) % 256

/-- The CYCLE packet (R311). -/
def cyclePacket (n launch held sent gen repeatMax : Nat) : List Nat :=
  [header 1 0x1FFF 1 (held * 2 ^ 24 + sent * 2 ^ 16 + gen * 2 ^ 8 + n % 2), launch % 2 ^ 40 * 2 ^ 24 + repeatMax]

/-- The TIME packet (R317). -/
def State.timePacket (s : State) : List Nat := [header 3 0x1FFF 1 0, s.clk.time % 2 ^ 64]

/-- SCHED leaves in this cycle: in the 8 after a change and every 64 after that (R321). -/
def schedDue (age : Nat) : Bool := age != 0 && (decide (age ≤ 8) || (age - 8) % 64 == 0)

/-- What every active feed carries at the start of cycle n (R312, R321, R332, R340, R341). -/
def State.cyclePackets (s : State) (n launch held sent : Nat) : State :=
  let age := s.cyc.genAge
  let g := s.genForce
  let r := s.ff pCmp F.CMP_REPEAT_REPEAT_MAX
  let s := s.each s.activeLinks (fun s l =>
    let s := s.setLink l { s.linkAt l with sent := 0 }
    let s := s.when (schedDue age) (·.askSched l [false, true])
    let s := (s.when (n % 64 == 0) (fun s => s.each (s.presentPos l) (fun s p => s.number l p))).flushBroadcasts l
    (s.sendBoth l (cyclePacket n launch held sent g r)).sendBoth l s.timePacket)
  let s := s.setCyc { s.cyc with genAge := if age = 0 then 0 else age + 1 }
  s.each (tilesOn s.force) (fun s t => s.grantTile t 0)

/-! ### What the accepted commits bring into force -/

/-- Λv of a view (R291): 2^32 - 1 for a view disabled or with no slot. -/
def latency (c : Sparse Word) (guardUs v : Nat) : Nat :=
  match viewSlots c v with
  | e :: _ => if cfld c (pView v) F.VIEW_CFG_ENABLE = 1 then ((gridOf c).pMax + guardUs * 1000 + e.2.start) % 2 ^ 32 else 0xFFFFFFFF
  | [] => 0xFFFFFFFF

/-- The latency registers of a view at cycle n (R296). -/
def State.viewLatency (s : State) (n v : Nat) : State :=
  let c := s.force
  let p := pView v
  let sl := viewSlots c v
  let lat := latency c (s.fld pCmp F.CMP_GUARD_G_US) v
  let s := s.when (lat != s.fld p F.VIEW_LAT_LAT_NS) (fun s =>
    ((s.setPair p F.VIEW_LAT_CYCLE_LO_CYCLE F.VIEW_LAT_CYCLE_HI_CYCLE n).setFld p F.VIEW_LAT_LAT_NS lat).setCond pCmp 4)
  let s := s.setFld p F.VIEW_FIRST_SV ((sl.head?.map (·.2.start)).getD 0)
  (s.setFld p F.VIEW_SLOTS_MASK (mapOf (sl.map (·.1)))).setFld p F.VIEW_DUTY_DUTY (min (dutyOf c v) 0xFFFF)

/-- Writeback starts afresh on a view whose ENABLE comes into force (R212). -/
def State.freshWriteback (s : State) (old : Sparse Word) (v : Nat) : State :=
  if cfld old (pView v) F.VIEW_WB_CFG_ENABLE = 0 ∧ s.ff (pView v) F.VIEW_WB_CFG_ENABLE = 1 then
    (s.setView v { s.view v with wbNext := 0, wb := [], wbLast := none }).setReg (pView v + F.VIEW_WB_STAT_LAST_BUF.off) 0
  else s

/-- Views and correction inputs that the commits changed (R207, R252). -/
def State.touchViews (s : State) (old : Sparse Word) : State :=
  let s := s.each (List.range 8) (fun s v => s.when (viewChanged old s.force v) (fun s => s.setView v { s.view v with touched := true }))
  { s with corrTouched := s.corrTouched || corrChanged old s.force }

/-- Tiles placed anew (R332), and buffers judged against the new need (R255). -/
def State.replaceTiles (s : State) (old : Sparse Word) : State :=
  let at' (c : Sparse Word) (l p : Nat) : Option Tile := (tileAt c l p).map (tileOf c)
  let s := s.each s.activeLinks (fun s l => s.each (s.presentPos l) (fun s p =>
    s.when (at' old l p != at' s.force l p) (·.assign l p)))
  s.each (tilesOn s.force) (fun s t => s.judgeBuffer (s.ff (pTile t) F.TL_LINK_LINK) t)

/-- Switching lamps on or off changes what the frames show (R207). -/
def State.touchLamps (s : State) (was : List (Nat × Nat)) : State := { s with corrTouched := s.corrTouched || was != s.lampsOff }

/-- A new MEM_CFG RATE asks for a change of pin rate (R468). -/
def State.askRate (s : State) (old : Sparse Word) : State :=
  if cfld old pMem F.MEM_CFG_RATE = cfld s.force pMem F.MEM_CFG_RATE then s
  else { s with rateWait := cfld s.force pMem F.MEM_CFG_RATE != s.trainedRate }

/-- Correction tables (R250, R253), the lamp-health map (R494), the pin rate (R468). -/
def State.applyTables (s : State) (old : Sparse Word) (n : Nat) : State :=
  let base (c : Sparse Word) : Nat := cpair c pCor F.COR_REC_BASE_LO_BASE F.COR_REC_BASE_HI_BASE
  let lh (c : Sparse Word) : Nat := cpair c pHk F.HK_LH_BASE_LO_BASE F.HK_LH_BASE_HI_BASE
  let c := s.force
  let s := s.when (base old != base c) (·.setPair pCor F.COR_REC_CYCLE_LO_CYCLE F.COR_REC_CYCLE_HI_CYCLE n)
  let s := s.setFld pCor F.COR_STAT_RESP_BANK (s.ff pCor F.COR_RESP_CFG_BANK)
  let was := s.house.off old
  let s := s.when (lh old != lh c || (cfld old pHk F.HK_CFG_LH_EN == 0 && cfld c pHk F.HK_CFG_LH_EN == 1)) (·.scanStarts)
  (s.touchLamps was).askRate old

/-- What follows from values that came into force at the compose start of cycle n. -/
def State.applied (s : State) (old : Sparse Word) (acc : List Commit) (n : Nat) : State :=
  let s := s.each acc (fun s cm => s.when (cm.origin == 0) (·.setFld (pCmpOf cm.seat) F.CMP_CMT_APPLIED_CYCLE (n % 2 ^ 32)))
  let s := (s.setFld pCmp F.CMP_GUARD_G_US s.cyc.newGuard).setFld pCmp F.CMP_D_FORCE_D_NS s.cyc.newD
  let s := s.each (List.range 8) (fun s v => (s.viewLatency n v).freshWriteback old v)
  let s := ((s.touchViews old).applyIngest old).applyTables old n
  (if s.pstate = 0 then s.syncCommit old s.force else s.syncRest old s.force).replaceTiles old

/-- Cycle n starts: its numbers, and the launch time of the one after it (R262, R263, R265). -/
def State.beginCycle (s : State) (acc : List Commit) : State :=
  let c := s.cyc
  let s := { s with force := s.nextForce }
  let g := gridOf s.force
  let t := (g.point (g.index (c.launch + 1))).toNat
  let s := s.setCyc { c with prevLaunch := c.launch, prevPeriod := c.period, recent := (c.launch :: c.recent).take 3, next := c.next + 1,
                             bridgeFrom := c.next + 1, launch := t,
                             period := t - c.launch, closed := false, acc := [] }
  let s := (s.setPair pCmp F.CMP_CYCLE_LO_CYCLE F.CMP_CYCLE_HI_CYCLE c.next).setPair pCmp F.CMP_LAUNCH_LO_T F.CMP_LAUNCH_HI_T c.launch
  s.quietCycle.playoutCycle c.next (acc.any (fun k => k.origin == 2))

/-! ### Composing -/

/-- Enabled views that the cycle sends (R183, R208). -/
def State.sentViews (s : State) (n : Nat) : List Nat := (viewsOn s.force).filter (fun v => !s.heldIn n v)

/-- Enabled views that the CYCLE packet marks held. -/
def State.heldViews (s : State) (n : Nat) : List Nat := (viewsOn s.force).filter (s.heldIn n)

/-- Select, judge, compose, correct and send cycle n with launch time t, compose start `start` (R32, R38). -/
def State.composeCycle (s : State) (n t start : Nat) : State :=
  let r := s.rateAtCompose
  let paused := r.2 || r.1.rateChanging
  let s := (r.1.selectFlows start).showLayers
  if paused then (s.cyclePackets n t 0xFF 0).diagDispatch n t
  else
    let s := s.each (List.range 8) (fun s v => s.judgeView n v)
    let s := { s with corrTouched := false }
    let sent := if s.memOff then [] else s.sentViews n
    let s := s.cyclePackets n t (mapOf (s.heldViews n)) (mapOf sent)
    let s := s.when (!s.memOff) (fun s => (s.correctCycle sent n).each (List.range 8) (fun s v => s.writeback n t v))
    s.diagDispatch n t

/-- COMPOSE_START of the next cycle (R33). -/
def State.composeStart (s : State) : State :=
  let n := s.cyc.next
  let t := s.cyc.launch
  let start := s.nextStart
  let old := s.force
  let acc := s.cyc.acc
  let s := s.beginCycle acc
  let s := s.when (!acc.isEmpty) (·.applied old acc n)
  let s := ((s.latchZones.latchGains).latchCap n).retrimEdges n start
  let s := s.when (s.pstate == 0 && decide (s.cyc.resume ≤ start)) (·.composeCycle n t start)
  s.settle

/-- COMPOSE_START (R33): its window has closed, no bridge cycle and no step is due before it. -/
def execComposeStart (s : State) : Host.Outcome State Fault Refusal :=
  .next (if s.cyc.run = true ∧ s.cyc.closed = true ∧ s.cyc.bridge = [] ∧ s.cyc.sched = none then s.composeStart else s)

/-- BRIDGE_CYCLE (R286): a numbered cycle starts with every view held. -/
def execBridgeCycle (s : State) : Host.Outcome State Fault Refusal :=
  .next (match s.cyc.bridge with
    | (n, t) :: rest =>
      let c := s.cyc
      let p := t - c.prevLaunch
      let s := s.setCyc { c with bridge := rest, prevLaunch := t, prevPeriod := p, recent := (t :: c.recent).take 3 }
      let s := (s.quietCycle.setPair pCmp F.CMP_CYCLE_LO_CYCLE F.CMP_CYCLE_HI_CYCLE n).retrimEdges n (t - p - s.guardNs)
      s.when (s.pstate == 0) (fun s => (s.cyclePackets n t 0xFF 0).diagDispatch n t)
    | [] => s)

/-- POWER_CAP_UPDATE (R248): once after the correction of a cycle. -/
def execPowerCapUpdate (s : State) : Host.Outcome State Fault Refusal :=
  .next (if s.cyc.run = true ∧ 0 < s.cyc.next ∧ s.memOff = false ∧ s.pstate = 0 ∧
      s.cap.all (fun e => e.1 != s.cyc.next + 1) = true then s.estimate (s.cyc.next - 1) else s)

end Sys2Proof.Machine
end

