-- ==== Sys2Proof/Machine/Flash.lean ====
section
/-!
DEFINITION. The serial flash (R533 to R542, R565): regions and flags, operations and their steps, STAGE,
APPLY, FULL, CONFIRM, REJECT.
-/
namespace Sys2Proof.Machine

/-! ### Contents -/

/-- Where a slot (0, 1) or the staging area (2) starts (R533). -/
def regionAt (k : Nat) : Nat := k * 0x200000
/-- Its state sector. -/
def flagsAt (k : Nat) : Nat := 0x600000 + 0x1000 * k

/-- A byte of the flash; an erased byte reads 0xFF. -/
def State.flashByte (s : State) (a : Nat) : Byte := look 0xFF s.flashMem a
/-- Bytes of the flash. -/
def State.flashBytes (s : State) (a n : Nat) : List Byte := (List.range n).map (fun i => s.flashByte (a + i))
/-- Word i (64 bits) of a region. -/
def State.flashWord (s : State) (k i : Nat) : Nat := leNat (s.flashBytes (regionAt k + 8 * i) 8)
/-- A flag is set (R534): 0 COMMIT, 1 to 3 TRIAL, 4 CONFIRM, 5 INVALID. -/
def State.flag (s : State) (k i : Nat) : Bool := s.flashByte (flagsAt k + i) != 0xFF

/-- Erase bytes. -/
def eraseBytes (m : Sparse Byte) (a n : Nat) : Sparse Byte := m.filter (fun e => !decide (a ≤ e.1 ∧ e.1 < a + n))
/-- Program bytes: a program clears bits and sets none. -/
def programBytes (m : Sparse Byte) (a : Nat) (bs : List Byte) : Sparse Byte :=
  (bs.zipIdx).foldl (fun m b => ins 0xFF (a + b.2) (look 0xFF m (a + b.2) &&& b.1) m) m

/-- What a step leaves. -/
def FlashStep.done : FlashStep → Sparse Byte → Sparse Byte
  | .erase a n, m => eraseBytes m a n
  | .program a bs, m => programBytes m a bs

/-- The range a step writes. -/
def FlashStep.range : FlashStep → Nat × Nat
  | .erase a n => (a, n)
  | .program a bs => (a, bs.length)

/-- A flag's program. -/
def flagStep (k i : Nat) : FlashStep := .program (flagsAt k + i) [0]

/-- A byte that a cut erase leaves: a flag is as before or partly cleared (R542), any other byte open. -/
def cutByte (m : Sparse Byte) (k a : Nat) : Byte :=
  if 0x600000 ≤ a then look 0xFF m a ||| Config.freeByte k a else Config.freeByte k a

/-- A step cut short (R542): a flag reads as set (R534), a state sector is partly cleared, other bytes are open. -/
def State.cutStep (s : State) (f : FlashStep) : State :=
  match f with
  | .program a [0] => { s with flashMem := programBytes s.flashMem a [0] }
  | f =>
    { s with flashMem := (List.range f.range.2).foldl (fun m i =>
        ins 0xFF (f.range.1 + i) (cutByte m s.free (f.range.1 + i)) m) s.flashMem, free := s.free + 1 }

/-- A reset cuts the flash operation short (R77, R542). -/
def State.cutFlash (s : State) : State :=
  match s.flashOp with
  | some o =>
    let s := match o.steps with
      | f :: _ => s.cutStep f
      | [] => s
    { s with flashOp := none }
  | none => s

/-! ### The booted slot -/

/-- BOOTED: the slot booted; 3 for none. -/
def State.booted (s : State) : Nat := s.fld pUpd F.UPD_STAT_BOOTED
/-- The booted slot is confirmed. -/
def State.confirmed (s : State) : Bool := decide (s.booted < 2) && s.flag s.booted 4
/-- TRIAL flags set on the booted slot. -/
def State.trials (s : State) : Nat :=
  if s.booted < 2 then ([1, 2, 3].filter (s.flag s.booted)).length else 0
/-- The spare slot (R536), none when no slot booted. -/
def State.spare (s : State) : Option Nat := if s.booted < 2 then some (1 - s.booted) else none

/-! ### Steps (R538) -/

/-- Page programs of content from an address on. -/
def pagesOf (a : Nat) : Nat → List Byte → List FlashStep
  | 0, _ => []
  | n + 1, bs => .program a (bs.take 256) :: pagesOf (a + 256) n (bs.drop 256)

/-- The steps that write content into a region (R538): state sector, sectors covered, pages, COMMIT. -/
def writeSteps (k : Nat) (bs : List Byte) : List FlashStep :=
  [.erase (flagsAt k) 0x1000] ++
  (List.range (ceilDiv bs.length 0x10000)).map (fun i => .erase (regionAt k + 0x10000 * i) 0x10000) ++
  pagesOf (regionAt k) (ceilDiv bs.length 256) bs ++ [flagStep k 0]

/-- The first step left starts, unless shutdown has begun (R490). -/
def State.flashStart (s : State) (o : FlashOp) : State :=
  match o.steps with
  | [] => s
  | f :: _ => if s.pow.shutting then { s with flashOp := some { o with steps := [] } } else { s with flashOp := some o }.emit (.flash f)

/-- An operation starts. -/
def State.flashBegin (s : State) (op k len : Nat) (steps : List FlashStep) : State :=
  ((s.setFld pUpd F.UPD_STAT_FLASH_OP op).setFld pUpd F.UPD_PROGRESS_BYTES 0).flashStart ⟨op, steps, regionAt k, len⟩

/-- A refusal or failure (R565). -/
def State.flashErr (s : State) (e : Nat) : State := s.setFld pUpd F.UPD_STAT_FLASH_ERR e

/-- The operation ends: condition 0; UPD_RESULT_CRC of the content written (R538). -/
def State.flashEnd (s : State) (o : FlashOp) : State :=
  let s := ({ s with flashOp := none } : State).setFld pUpd F.UPD_STAT_FLASH_OP 0
  let s := s.when (o.len != 0) (fun s => s.setFld pUpd F.UPD_RESULT_CRC_CRC (crc32c (s.flashBytes o.at0 o.len)))
  s.setCond pUpd 0

/-- Content bytes that a step programs. -/
def FlashStep.content : FlashStep → Nat
  | .program a bs => if a < 0x600000 then bs.length else 0
  | .erase _ _ => 0

/-- FLASH_STEP_DONE (R535): the running step has ended. -/
def State.flashStep (s : State) : State :=
  match s.flashOp with
  | none => s
  | some o =>
    match o.steps with
    | [] => s
    | f :: rest =>
      let s := ({ s with flashMem := f.done s.flashMem } : State).inc pUpd F.UPD_PROGRESS_BYTES 0 f.content
      if rest.isEmpty then s.flashEnd o else s.flashStart { o with steps := rest }

/-- FLASH_STEP_TIMEOUT (R535): the operation fails with 0x7. -/
def State.flashFail (s : State) : State :=
  match s.flashOp with
  | none => s
  | some o =>
    match o.steps with
    | [] => s
    | f :: _ =>
      let s := match f with
        | .program a _ => ({ s with flashMem := (List.range f.range.2).foldl (fun m i =>
            ins 0xFF (a + i) (Config.freeByte s.free (a + i)) m) s.flashMem, free := s.free + 1 } : State)
        | .erase _ _ => s.cutStep f
      ((({ s with flashOp := none } : State).setFld pUpd F.UPD_STAT_FLASH_OP 0).flashErr 7).setCond pUpd 1

/-! ### Patches (R539, R540) -/

/-- Bytes of a region's words [i, i + n). -/
def State.regionWords (s : State) (k i n : Nat) : List Byte := s.flashBytes (regionAt k + 8 * i) (8 * n)

/-- Run the ops from word i on, with the END directly before the trailer at `last`: the result's bytes. -/
def State.patchOps (s : State) (base baseWords last : Nat) : Nat → Nat → List Byte → Option (List Byte)
  | 0, _, _ => none
  | fuel + 1, i, acc =>
    if last ≤ i then none
    else
      let w := s.flashWord 2 i
      let op := bitsOf w 60 4
      let n := bitsOf w 0 19
      let src := bitsOf w 32 19
      if op = 1 ∧ 1 ≤ n ∧ n ≤ 262144 ∧ src + n ≤ baseWords then
        s.patchOps base baseWords last fuel (i + 1) (acc ++ s.regionWords base src n)
      else if op = 2 ∧ 1 ≤ n ∧ n ≤ 262144 ∧ i + 1 + n ≤ last then
        s.patchOps base baseWords last fuel (i + 1 + n) (acc ++ s.regionWords 2 (i + 1) n)
      else if op = 0xF ∧ i + 1 = last then some acc
      else none

/-- PATCH_LENGTH. -/
def State.patchLen (s : State) : Nat := bitsOf (s.flashWord 2 1) 0 32

/-- The staged patch is sound but for its base and ops (R540). -/
def State.patchSound (s : State) : Bool :=
  let n := s.patchLen
  s.flag 2 0 && s.flashWord 2 0 / 2 ^ 16 == 0x5A5750540001 && decide (40 ≤ n ∧ n ≤ 0x200000) && n % 8 == 0 &&
    bitsOf (s.flashWord 2 (n / 8 - 1)) 0 32 == crc32c (s.flashBytes (regionAt 2) (n - 8))

/-- The patch is made from the record in a slot. -/
def State.patchBase (s : State) (k : Nat) : Bool :=
  let n := bitsOf (s.flashWord k 1) 32 32
  bitsOf (s.flashWord 2 2) 32 32 == bitsOf (s.flashWord k 2) 32 32 &&
    bitsOf (s.flashWord 2 2) 0 32 == bitsOf (s.flashWord k (n / 8 - 1)) 0 32

/-- The record that the patch builds, when its ops are right and sum to RESULT_LENGTH. -/
def State.patchResult (s : State) (k : Nat) : Option (List Byte) :=
  let n := bitsOf (s.flashWord 2 1) 32 32
  let words := bitsOf (s.flashWord k 1) 32 32 / 8
  match s.patchOps k words (s.patchLen / 8 - 1) (s.patchLen / 8) 3 [] with
  | some bs => if bs.length = n ∧ n % 8 = 0 ∧ 48 ≤ n ∧ n ≤ 0x200000 then some bs else none
  | none => none

/-! ### Commands (R538 to R541, R565) -/

/-- UPD_SRC. -/
def State.updSrc (s : State) : Nat := s.pair pUpd F.UPD_SRC_LO_SRC F.UPD_SRC_HI_SRC
/-- UPD_LEN. -/
def State.updLen (s : State) : Nat := s.fld pUpd F.UPD_LEN_LEN
/-- FLASH_ERR 0x5. -/
def State.updBad (s : State) : Bool :=
  let n := s.updLen
  n == 0 || decide (0x200000 < n) || n % 8 != 0 || s.memOff || !s.inGddr s.updSrc n

/-- STAGE and FULL copy LEN bytes from UPD_SRC into a region. -/
def State.flashCopy (s : State) (op k : Nat) : State :=
  if s.updBad then s.flashErr 5
  else s.flashBegin op k s.updLen (writeSteps k (s.mem.bytes s.updSrc s.updLen))

/-- APPLY (R540). -/
def State.flashApply (s : State) : State :=
  match s.spare with
  | none => s.flashErr 6
  | some k =>
    if s.confirmed = false then s.flashErr 2
    else if s.patchSound = false then s.flashErr 3
    else if s.patchBase s.booted = false then s.flashErr 4
    else
      match s.patchResult s.booted with
      | none => s.flashErr 3
      | some bs => s.flashBegin 2 k bs.length (writeSteps k bs)

/-- FULL: the spare slot, or the slot named on an unconfigured engine. -/
def State.flashFull (s : State) (slot : Nat) : State :=
  match s.spare with
  | some k => if s.confirmed = false then s.flashErr 2 else s.flashCopy 3 k
  | none => if 1 < slot then s else s.flashCopy 3 slot

/-- CONFIRM and REJECT program a flag of the booted slot while it is unconfirmed (R541). -/
def State.flashMark (s : State) (op flag : Nat) : State :=
  if s.booted < 2 ∧ s.confirmed = false then s.flashBegin op s.booted 0 [flagStep s.booted flag] else s.flashErr 9

/-- A write of UPD_CMD. -/
def State.updCmd (s : State) (w : Nat) : State :=
  let op := bitsOf w 0 3
  if bitsOf w 16 16 ≠ 0x5A44 ∨ op = 0 ∨ 5 < op then s
  else if s.flashOp.isSome then s.flashErr 1
  else if op = 1 then s.flashCopy 1 2
  else if op = 2 then s.flashApply
  else if op = 3 then s.flashFull (bitsOf w 8 2)
  else if op = 4 then s.flashMark 4 4
  else s.flashMark 5 5

/-- FLASH_STEP_DONE (R535). -/
def execFlashStepDone (s : State) : Host.Outcome State Fault Refusal := .next s.flashStep.settle

/-- FLASH_STEP_TIMEOUT (R535). -/
def execFlashStepTimeout (s : State) : Host.Outcome State Fault Refusal := .next s.flashFail.settle

end Sys2Proof.Machine
end

