-- ==== Sys2Proof/Machine/Store.lean ====
section
/-!
DEFINITION. The standby store (R543 to R551): drives and their queues, directories, operations of hosts
and of the engine.
-/
namespace Sys2Proof.Machine

/-! ### Drives -/

/-- A drive whose link has not come up. -/
def Drive.away : Drive := ⟨false, 0, 0, false, []⟩
/-- A drive. -/
def State.drive (s : State) (d : Nat) : Drive := look Drive.away s.drives d
/-- Replace it. -/
def State.setDrive (s : State) (d : Nat) (x : Drive) : State := { s with drives := ins Drive.away d x s.drives }

/-- Dd_STATE. -/
def driveFld (d : Nat) : Fld := if d = 0 then F.NVME_STAT_D0_STATE else F.NVME_STAT_D1_STATE
/-- Dd_STATE: 0 absent, 1 initialising, 2 READY, 3 STALE, 4 FAILED. -/
def State.driveState (s : State) (d : Nat) : Nat := s.fld pNvme (driveFld d)
/-- A drive state changes: condition 2. -/
def State.setDriveState (s : State) (d v : Nat) : State :=
  if s.driveState d = v then s else (s.setFld pNvme (driveFld d) v).setCond pNvme 2

/-- Drives that reads go to, ascending: READY (R546). -/
def State.readers (s : State) : List Nat := [0, 1].filter (fun d => s.driveState d == 2)
/-- Drives that writes go to: READY and STALE. -/
def State.writers (s : State) : List Nat := [0, 1].filter (fun d => s.driveState d == 2 || s.driveState d == 3)

/-- Bytes of a drive. -/
def Drive.bytes (x : Drive) (a n : Nat) : List Byte := (List.range n).map (fun i => look 0 x.cells (a + i))
/-- Write bytes on a drive. -/
def Drive.put (x : Drive) (a : Nat) (bs : List Byte) : Drive :=
  { x with cells := (bs.zipIdx).foldl (fun m b => ins 0 (a + b.2) b.1 m) x.cells }
/-- Write bytes on every drive of a list. -/
def State.putDrives (s : State) (ds : List Nat) (a : Nat) (bs : List Byte) : State :=
  s.each ds (fun s d => s.setDrive d ((s.drive d).put a bs))

/-- The PERST_N pins of the root ports (R543). -/
def State.rpReset (s : State) (high : Bool) : State :=
  (s.emit (.pin "PCIE_RP0_PERST_N" high)).emit (.pin "PCIE_RP1_PERST_N" high)

/-! ### Directories (R547, R548) -/

/-- Bytes of a directory copy. -/
def dirBytes : Nat := 257 * 64
/-- Copy i of a drive. -/
def Drive.copy (x : Drive) (i : Nat) : List Byte := x.bytes (i * 2 ^ 20) dirBytes
/-- GEN of a copy. -/
def dirGen (b : List Byte) : Nat := bitsOf (entryWord b 1) 32 32
/-- Entry e of a copy. -/
def dirEntry (b : List Byte) (e : Nat) : List Byte := (b.drop (64 * (e + 1))).take 64
/-- A copy is valid (R547). -/
def dirValid (b : List Byte) : Bool :=
  entryWord b 0 / 2 ^ 16 == 0x5A5753440001 && bitsOf (entryWord b 7) 0 32 == crc32c (b.take 56 ++ b.drop 64)
/-- A directory with its header. -/
def makeDir (gen units : Nat) (entries : List Byte) : List Byte :=
  let h := [0x5A57534400010000, gen * 2 ^ 32, units * 2 ^ 32, 0, 0, 0, 0]
  let hb := (h.map (leBytes 8)).flatten
  hb ++ leBytes 8 (crc32c (hb ++ entries)) ++ entries

/-- The copy in force of a drive: its valid copy with the later GEN. -/
def Drive.inForce (x : Drive) : Option Nat :=
  let v0 := dirValid (x.copy 0)
  let v1 := dirValid (x.copy 1)
  if v0 && v1 then some (if later 32 (dirGen (x.copy 1)) (dirGen (x.copy 0)) then 1 else 0)
  else if v0 then some 0 else if v1 then some 1 else none

/-- The directory in force: of the lower-numbered READY drive, with its copy's number. -/
def State.directory (s : State) : Option (Nat × List Byte) :=
  match s.readers with
  | d :: _ => ((s.drive d).inForce).map (fun i => (i, (s.drive d).copy i))
  | [] => none

/-- The entry of an extent in force, none when it is free. -/
def State.extent (s : State) (e : Nat) : Option (List Byte) :=
  match s.directory with
  | some (_, b) => if entType (dirEntry b e) = 0 then none else some (dirEntry b e)
  | none => none

/-- STORE_VALID, NVME_DIR_GEN and NVME_CAPACITY follow the drives (R546, R547). -/
def State.refreshStore (s : State) : State :=
  let s := s.setFld pNvme F.NVME_STAT_STORE_VALID (if s.directory.isSome then 1 else 0)
  let s := match s.directory with
    | some (_, b) => s.setFld pNvme F.NVME_DIR_GEN_GEN (dirGen b)
    | none => s.setFld pNvme F.NVME_DIR_GEN_GEN 0
  s.setFld pNvme F.NVME_CAPACITY_UNITS
    (match s.writers.map (fun d => (s.drive d).units) with
      | [] => 0
      | u :: l => l.foldl min u)

/-- A drive has finished its initialisation (R547). -/
def State.joinStore (s : State) (d : Nat) : State :=
  let o := 1 - d
  let mine := (s.drive d).inForce.map (fun i => dirGen ((s.drive d).copy i))
  let its := (s.drive o).inForce.map (fun i => dirGen ((s.drive o).copy i))
  let s :=
    if s.driveState o ≠ 2 then s.setDriveState d 2
    else
      match mine, its with
      | none, some _ => s.setDriveState d 3
      | some _, none => (s.setDriveState d 2).setDriveState o 3
      | some g, some h =>
        if later 32 g h then (s.setDriveState d 2).setDriveState o 3
        else if g = h then s.setDriveState d 2 else s.setDriveState d 3
      | none, none => s.setDriveState d 2
  s.refreshStore

/-! ### Queues (R544) -/

/-- The queue area. -/
def State.queueBase (s : State) : Nat := s.pair pNvme F.NVME_QBASE_LO_BASE F.NVME_QBASE_HI_BASE

/-- Entries are written in the queue area: what its 64 KiB hold is open. -/
def State.queueWrite (s : State) : State :=
  { s with mem := s.mem.lose s.queueBase (s.queueBase + 0x10000) s.free, free := s.free + 1 }

/-- The rings of a drive with their sizes; where in the area each lies the spec does not say. -/
def State.queueRings (s : State) (d : Nat) : State :=
  s.each [(0, 6), (1, 4), (2, 9), (3, 7)] (fun s e =>
    let n := 8192 + 4 * d + e.1
    s.setRing n { ringReset n with base := s.queueBase + Config.queueOffset (4 * d + e.1), sizeLog2 := e.2, enable := true })

/-- Commands that the engine issues: 0, 1 Identify of controller and namespace, 2 Set Features, 3, 4 Create
Queue, 5 Read, 6 Write, 7 Flush (R545); 8 is a reset of the controller. -/
def State.submit (s : State) (d op : Nat) : State :=
  let n := 8192 + 4 * d + (if op < 5 then 0 else 2)
  let r := s.ring n
  ((s.setRing n { r with prod := (r.prod + 2) % 2 ^ 32 }).queueWrite).emit (.nvme d op)

/-- A completion entry: half a slot of the completion ring (R119), which moves on at every second one. -/
def State.completed (s : State) (d op : Nat) : State :=
  let n := 8192 + 4 * d + (if op < 5 then 0 else 2)
  let r := s.ring n
  let s := s.setRing n { r with cons := r.prod }
  let q := s.ring (n + 1)
  let k := if r.prod % 4 = 0 then (q.prod + 1) % 2 ^ 32 else q.prod
  (s.setRing (n + 1) { q with prod := k, cons := k }).queueWrite

/-- The command that a drive in a phase of its initialisation has out (R544): both directory reads are Reads. -/
def initOp (phase : Nat) : Nat := min phase 5

/-! ### The running operation -/

/-- Replace the running operation; BUSY shows it. -/
def State.setStoreOp (s : State) (o : Option StoreOp) : State :=
  ({ s with storeOp := o } : State).setFld pNvme F.NVME_STAT_BUSY (if o.isSome then 1 else 0)

/-- The drives that an operation uses. -/
def State.users (s : State) (o : StoreOp) : List Nat := if o.op = 1 then s.readers else s.writers

/-- An operation has no drive left that it needs (R546, R562). -/
def State.lostOp (s : State) (o : StoreOp) : Bool :=
  if o.op = 5 then decide (s.writers.length < 2) || s.readers.isEmpty else (s.users o).isEmpty

/-- After a drive has left: the running operation fails when it has none (an engine's load asks at its end). -/
def State.checkOp (s : State) : State :=
  match s.storeOp with
  | some o => if s.lostOp o ∧ o.purpose = 0 then s.setStoreOp (some { o with failed := true }) else s
  | none => s

/-- The transfers of an operation: bytes in all. -/
def StoreOp.total (o : StoreOp) : Nat := if o.op = 1 ∨ o.op = 2 then entLen o.entry else 0

/-- Move up to n bytes of the running READ or WRITE (R545, R549). -/
def State.move (s : State) (o : StoreOp) (n : Nat) : State :=
  let k := min n (o.total - o.moved)
  let at' := entStart o.entry * 2 ^ 20 + o.moved
  let s := if o.op = 1 then
      (match s.readers with
        | d :: _ => s.poke (o.buf + o.moved) ((s.drive d).bytes at' k)
        | [] => s)
    else s.putDrives s.writers at' (s.mem.bytes (o.buf + o.moved) k)
  let m := o.moved + k
  (s.setPair pNvme F.NVME_PROGRESS_LO_BYTES F.NVME_PROGRESS_HI_BYTES m).setStoreOp (some { o with moved := m })

/-- The operation's next I/O commands leave: a Read, or a Write on every drive it goes to. -/
def State.issue (s : State) (o : StoreOp) : State :=
  if o.op = 1 then s.each (s.readers.take 1) (fun s d => s.submit d 5)
  else if s.pow.shutting then s else s.each s.writers (fun s d => s.submit d 6)

/-- An operation starts. -/
def State.startOp (s : State) (o : StoreOp) : State :=
  ((s.setStoreOp (some o)).setPair pNvme F.NVME_PROGRESS_LO_BYTES F.NVME_PROGRESS_HI_BYTES 0).issue o

/-- An operation of the engine: a READ to DEST; it waits for the one running (R551). -/
def State.engineRead (s : State) (purpose e : Nat) : State :=
  let en := (s.extent e).getD []
  let o : StoreOp := ⟨1, e, entDest en, purpose, en, 0, false⟩
  if s.storeOp.isSome then { s with storeWait := s.storeWait ++ [o] } else s.startOp o

/-- The running operation has ended: the waiting one starts. -/
def State.nextOp (s : State) : State :=
  match s.storeWait with
  | o :: rest => (({ s with storeWait := rest } : State).setStoreOp none).startOp o
  | [] => s.setStoreOp none

/-- A failure: ERR, condition 1. -/
def State.opFails (s : State) (e : Nat) : State := (s.setFld pNvme F.NVME_STAT_ERR e).setCond pNvme 1

/-! ### Commands of hosts (R549 to R551) -/

/-- NVME_BUF. -/
def State.nvmeBuf (s : State) : Nat := s.pair pNvme F.NVME_BUF_LO_BUF F.NVME_BUF_HI_BUF
/-- NVME_ENT. -/
def State.nvmeEnt (s : State) : Nat := s.pair pNvme F.NVME_ENT_LO_ENT F.NVME_ENT_HI_ENT

/-- Two ranges of bytes meet. -/
def meets (a m b n : Nat) : Bool := decide (a < b + n ∧ b < a + m)

/-- R550: a WRITE's range is refused. -/
def State.badExtent (s : State) (t : List Byte) : Bool :=
  let a := entStart t * 2 ^ 20
  let n := entLen t
  decide (entStart t < 2) || n == 0 || decide (s.fld pNvme F.NVME_CAPACITY_UNITS * 2 ^ 20 < a + n) ||
    (List.range 256).any (fun e => match s.extent e with
      | some x => meets a n (entStart x * 2 ^ 20) (entLen x)
      | none => false)

/-- The template of a WRITE. -/
def State.template (s : State) : List Byte := s.mem.bytes s.nvmeEnt 64

/-- Why a command is refused, 0 for none (R550, R564). -/
def State.nvmeReason (s : State) (seat op e buf : Nat) : Nat :=
  let bad (a n : Nat) : Bool := s.memOff || !s.inGddr a n
  if op = 0 ∨ 5 < op then 8
  else if s.readers.isEmpty || (op != 4 && s.directory.isNone) || (op == 5 && s.readers.length == s.writers.length) then 2
  else if op = 1 ∨ op = 3 then
    match s.extent e with
    | none => 3
    | some x => if op = 1 ∧ (bad buf (entLen x) ∨ s.inWindow seat buf (entLen x) = false) then 5 else 0
  else if op = 2 then
    if bad s.nvmeEnt 64 then 5
    else if entType s.template = 0 then 8
    else if s.badExtent s.template then 4
    else if bad s.nvmeBuf (entLen s.template) then 5 else 0
  else 0

/-- A write of NVME_CMD by a seat. -/
def State.nvmeCmd (s : State) (seat w : Nat) : State :=
  let op := bitsOf w 12 3
  let e := bitsOf w 0 8
  let en := if op = 2 then s.template else (s.extent e).getD []
  let buf := if op = 1 ∧ bit w 15 = true then entDest en else s.nvmeBuf
  if bitsOf w 16 16 ≠ 0x5A4E then s
  else if s.storeOp.isSome then s.setFld pNvme F.NVME_STAT_ERR 1
  else if s.nvmeReason seat op e buf ≠ 0 then s.setFld pNvme F.NVME_STAT_ERR (s.nvmeReason seat op e buf)
  else s.startOp ⟨op, e, buf, 0, en, 0, false⟩

/-! ### How operations end (R549) -/

/-- The rest of a READ, its CRC; the error, 0 for none. -/
def State.endRead (s : State) (o : StoreOp) : State × Nat :=
  let s := s.move o o.total
  let c := match s.readers with
    | d :: _ => crc32c ((s.drive d).bytes (entStart o.entry * 2 ^ 20) o.total)
    | [] => 0
  (s.setFld pNvme F.NVME_RESULT_CRC_CRC c, if c = entCrc o.entry then 0 else 6)

/-- Commands that every drive of a write takes and completes, in order. -/
def State.runAll (s : State) (ops : List Nat) : State :=
  s.each ops (fun s op => s.each s.writers (fun s d => (s.submit d op).completed d op))

/-- Write a directory with entry e replaced to the copy not in force, GEN one later; a Flush stands before and after
(R549). -/
def State.writeDir (s : State) (e : Nat) (entry : List Byte) : State :=
  match s.directory with
  | some (i, b) =>
    let es := (b.drop 64).take (64 * e) ++ entry ++ b.drop (64 * (e + 2))
    ((s.putDrives s.writers ((1 - i) * 2 ^ 20) (makeDir ((dirGen b + 1) % 2 ^ 32) (bitsOf (entryWord b 2) 32 32) es)).refreshStore).runAll
      [7, 6, 7]
  | none => s

/-- The rest of a WRITE, then the directory with CRC and WRITTEN filled in. -/
def State.endWrite (s : State) (o : StoreOp) : State :=
  let bs := s.mem.bytes o.buf o.total
  let c := crc32c bs
  let t := o.entry
  let entry := leBytes 8 (entryWord t 0 / 2 ^ 32 * 2 ^ 32 + c) ++ (t.drop 8).take 40 ++ leBytes 8 s.now ++ t.drop 56
  ((s.move o o.total).setFld pNvme F.NVME_RESULT_CRC_CRC c).writeDir o.extent entry

/-- GENs of the valid copies of the drives that hold them. -/
def State.gens (s : State) : List Nat :=
  (s.writers.map (fun d => [0, 1].filterMap (fun i =>
    if dirValid ((s.drive d).copy i) then some (dirGen ((s.drive d).copy i)) else none))).flatten

/-- FORMAT: both copies, no extents. -/
def State.endFormat (s : State) : State :=
  let g := match s.gens with
    | [] => 1
    | g :: l => ((l.foldl (fun m x => if later 32 x m then x else m) g) + 1) % 2 ^ 32
  let b := makeDir g (s.fld pNvme F.NVME_CAPACITY_UNITS) (List.replicate (256 * 64) 0)
  ((s.putDrives s.writers 0 b).putDrives s.writers (2 ^ 20) b).refreshStore

/-- RESYNC: every extent in force and the directory go to the STALE drive. -/
def State.endResync (s : State) : State :=
  match s.readers, s.directory, s.writers.filter (fun d => s.driveState d == 3) with
  | r :: _, some (i, b), d :: _ =>
    let src := s.drive r
    let s := s.each (List.range 256) (fun s e =>
      match s.extent e with
      | some x => s.putDrives [d] (entStart x * 2 ^ 20) (src.bytes (entStart x * 2 ^ 20) (entLen x))
      | none => s)
    ((s.putDrives [d] (i * 2 ^ 20) b).setDriveState d 2).refreshStore
  | _, _, _ => s

/-- A host's operation ends (R549): condition 0, or its error and condition 1. -/
def State.endOp (s : State) (o : StoreOp) : State :=
  if o.failed then (s.opFails 7).nextOp
  else if o.op = 1 then
    let r := s.endRead o
    (if r.2 = 0 then r.1.setCond pNvme 0 else r.1.opFails r.2).nextOp
  else
    let s := if o.op = 2 then s.endWrite o
      else if o.op = 3 then s.writeDir o.extent (List.replicate 64 0)
      else if o.op = 4 then s.endFormat
      else s.endResync
    (s.setCond pNvme 0).nextOp

/-- STORE_OP_DONE (R549): once shutdown has begun no directory is written (R490), and a change of pin rate holds the
drives' requests (R562). -/
def execStoreOpDone (s : State) : Host.Outcome State Fault Refusal :=
  .next (match s.storeOp with
    | some o => if o.purpose = 0 ∧ s.rateChanging = false ∧ (o.op = 1 ∨ s.pow.shutting = false) then (s.endOp o).settle else s
    | none => s)

/-- The engine's load ends: the state, and its entry when the extent is in place with the right CRC. -/
def State.endLoad (s : State) (o : StoreOp) (driveOk : Bool) : State × Option (List Byte) :=
  let en := if o.entry = [] then (s.extent o.extent).getD [] else o.entry
  let o := { o with entry := en, buf := entDest en }
  if driveOk = false then ((s.opFails 7).nextOp, none)
  else if s.directory.isNone then ((s.opFails 2).nextOp, none)
  else if en = [] then ((s.opFails 3).nextOp, none)
  else if s.memOff || !s.inGddr o.buf o.total then ((s.opFails 5).nextOp, none)
  else
    let r := s.endRead o
    if r.2 = 0 then ((r.1.setCond pNvme 0).nextOp, some en) else ((r.1.opFails r.2).nextOp, none)

/-- The running operation when it is a load of the engine with a given purpose. -/
def State.load (s : State) (p : Nat → Bool) : Option StoreOp := s.storeOp.filter (fun o => p o.purpose)

/-! ### Drives come, answer and go -/

/-- PCIE_STAT of a root port. -/
def State.rpStat (s : State) (d up speed width : Nat) : State :=
  let s := (s.setFld pPcie (if d = 0 then F.PCIE_STAT_RP0_UP else F.PCIE_STAT_RP1_UP) up).setFld pPcie
    (if d = 0 then F.PCIE_STAT_RP0_SPEED else F.PCIE_STAT_RP1_SPEED) speed
  (s.setFld pPcie (if d = 0 then F.PCIE_STAT_RP0_WIDTH else F.PCIE_STAT_RP1_WIDTH) width).setCond pPcie 1

/-- A READ is sent to the drive that now reads. -/
def State.rereads (s : State) : State :=
  match s.storeOp with
  | some o => if o.op = 1 ∧ s.readers ≠ [] then s.issue o else s
  | none => s

/-- A drive leaves the store in a state; a read that ran on it goes to the other READY drive (R546). -/
def State.dropDrive (s : State) (d v : Nat) : State :=
  (((s.setDriveState d v).refreshStore).checkOp).when (s.readers.head? == some d) State.rereads

/-- DRIVE_LINK_UP (R543, R544): the drive initialises. -/
def execDriveLinkUp (d : Fin 2) (speed : Fin 6) (width : Fin 5) (s : State) : Host.Outcome State Fault Refusal :=
  .next (if s.pow.up && !s.pow.sleeping && s.pstate != 2 && !(s.drive d).linkUp then
      let s := s.rpStat d 1 speed width
      let s := s.setDrive d { s.drive d with linkUp := true, phase := 0, units := 0, resetOnce := false }
      (((s.setDriveState d 1).queueRings d).submit d 0).settle
    else s)

/-- A root port's link goes down. -/
def State.driveDown (s : State) (d : Nat) : State :=
  if (s.drive d).linkUp then
    let s := (s.rpStat d 0 0 0).setDrive d { s.drive d with linkUp := false, phase := 0, resetOnce := false }
    (s.each [0, 1, 2, 3] (fun s k => s.setRing (8192 + 4 * d + k) (ringReset (8192 + 4 * d + k)))).dropDrive d 0
  else s

/-- DRIVE_LINK_DOWN (R545, R563). -/
def execDriveLinkDown (d : Fin 2) (s : State) : Host.Outcome State Fault Refusal := .next (s.driveDown d).settle

/-- Dd_ERR_CNT. -/
def errFld (d : Nat) : Fld := if d = 0 then F.NVME_D0_ERR_CNT_ERR_CNT else F.NVME_D1_ERR_CNT_ERR_CNT

/-- A drive has become usable, initialises or serves: it has a command out. -/
def State.driveBusy (s : State) (d : Nat) : Bool :=
  (s.drive d).linkUp && s.driveState d != 4 &&
    (decide ((s.drive d).phase < 7) || (match s.storeOp with
      | some o => (s.users o).contains d && (o.op != 1 || s.readers.head? == some d)
      | none => false))

/-- The command that a drive has out. -/
def State.outOp (s : State) (d : Nat) : Nat :=
  if (s.drive d).phase < 7 then initOp (s.drive d).phase
  else match s.storeOp with
    | some o => if o.op = 1 then 5 else 6
    | none => 5

/-- A reset has the controller's queues empty (R545). -/
def State.queueClear (s : State) (d : Nat) : State :=
  s.each [0, 1, 2, 3] (fun s k =>
    s.setRing (8192 + 4 * d + k) { s.ring (8192 + 4 * d + k) with cons := 0, prod := 0 })

/-- A command fails (R545): the first time the controller is reset and the command issued again; the second
time the drive is FAILED. -/
def State.commandFails (s : State) (d : Nat) : State :=
  let s := s.inc pNvme (errFld d)
  if (s.drive d).resetOnce then s.dropDrive d 4
  else
    let op := s.outOp d
    let s := ((s.setDrive d { s.drive d with resetOnce := true }).queueClear d).emit (.nvme d 8)
    if op = 6 ∧ s.pow.shutting = true then s else s.submit d op

/-- An Identify or directory read has ended well: the next step of R544. A drive that is not usable is FAILED. -/
def State.initStep (s : State) (d : Nat) (r : NvmeReply) : State :=
  let x := s.drive d
  if (x.phase = 0 ∧ r.usable = false) ∨
      (x.phase = 1 ∧ (r.usable = false ∨ (r.lbaBytes ≠ 512 ∧ r.lbaBytes ≠ 4096))) then s.dropDrive d 4
  else
    let u := if x.phase = 1 then r.blocks * r.lbaBytes / 2 ^ 20 else x.units
    let s := s.setDrive d { x with phase := x.phase + 1, units := u, resetOnce := false }
    if x.phase + 1 = 7 then s.joinStore d else s.submit d (initOp (x.phase + 1))

/-- A transfer of the running operation has ended well; the first of its drives counts the bytes. -/
def State.transferStep (s : State) (d : Nat) : State :=
  let s := s.setDrive d { s.drive d with resetOnce := false }
  match s.storeOp with
  | some o =>
    if (s.users o).head? = some d ∧ (o.op = 1 ∨ o.op = 2) ∧ o.moved < o.total ∧ (o.op = 1 ∨ s.pow.shutting = false) then
      let s := s.move o 0x20000
      s.issue o
    else s
  | none => s

/-- The root port passes a request to GDDR6: inside the queue area, or inside the buffer of the transfer in progress
(R544). -/
def State.rpPasses (s : State) (q : Nat × Nat) : Bool :=
  let inside (a n : Nat) : Bool := decide (a ≤ q.1 ∧ q.1 + q.2 ≤ a + n)
  inside s.queueBase 0x10000 || (match s.storeOp with
    | some o => inside (o.buf + o.moved) (min 0x20000 (o.total - o.moved))
    | none => false)

/-- The requests that the port refuses are completed with Unsupported Request and counted (R544, R563). -/
def State.rpJudge (s : State) (qs : List (Nat × Nat)) : State :=
  s.each (qs.filter (fun q => !s.rpPasses q)) (fun s _ => (s.inc pPcie F.PCIE_RP_UR_CNT_UR_CNT).emit .unsupported)

/-- NVME_COMPLETION (R545): a change of pin rate holds the drive's requests, and with them its completion (R562). -/
def execNvmeCompletion (d : Fin 2) (r : NvmeReply) (s : State) : Host.Outcome State Fault Refusal :=
  .next (if s.driveBusy d && !s.rateChanging then
      let s := (s.rpJudge r.requests).completed d (s.outOp d)
      (if r.ok = false then s.commandFails d
       else if (s.drive d).phase < 7 then s.initStep d r else s.transferStep d).settle
    else s)

/-- NVME_CMD_TIMEOUT (R545): 8 s. -/
def execNvmeCmdTimeout (d : Fin 2) (s : State) : Host.Outcome State Fault Refusal :=
  .next (if s.driveBusy d then (s.commandFails d).settle else s)

/-- NVME_RESET_TIMEOUT (R545): not ready within 10 s of a reset. -/
def execNvmeResetTimeout (d : Fin 2) (s : State) : Host.Outcome State Fault Refusal :=
  .next (if (s.drive d).resetOnce && s.driveBusy d then ((s.inc pNvme (errFld d)).dropDrive d 4).settle else s)

/-! ### Tile jobs: GO, STOP, the load (R555) -/

/-- GO of UPD_TJ_CTL. -/
def State.jobGo (s : State) (extent : Nat) : State :=
  let s := (s.setFld pUpd F.UPD_TJ_STAT_SEQ (s.fld pUpd F.UPD_TJ_STAT_SEQ + 1)).setFld pUpd F.UPD_TJ_STAT_HALT 0
  let s := ((s.setFld pUpd F.UPD_TJ_STAT_STATE 1).setFld pUpd F.UPD_TJ_CTL_GO 1).setFld pUpd F.UPD_TJ_STAT_TILE
    (s.fld pUpd F.UPD_TJ_RANGE_FIRST)
  (s.setJob (some ⟨[], s.fld pUpd F.UPD_TJ_RANGE_LAST, 0, false⟩)).engineRead 3 extent

/-- A load of a job that has ended goes on without it. -/
def StoreOp.leave (o : StoreOp) : StoreOp := if o.purpose = 3 then { o with purpose := 4 } else o

/-- STOP of UPD_TJ_CTL. -/
def State.jobStop (s : State) : State :=
  if s.job.isSome then
    ({ s.jobHalt 5 with storeOp := s.storeOp.map StoreOp.leave, storeWait := s.storeWait.map StoreOp.leave } : State)
  else s

/-- A write of UPD_TJ_CTL: only one job runs at a time. -/
def State.jobCtl (s : State) (w : Nat) : State :=
  (s.when (bit w 30) (·.jobStop)).when (bit w 31 && s.job.isNone) (·.jobGo (bitsOf w 0 8))

/-- TILE_JOB_LOAD_DONE (R555). -/
def execTileJobLoadDone (driveOk : Bool) (s : State) : Host.Outcome State Fault Refusal :=
  .next (match s.load (fun p => p == 3 || p == 4) with
    | none => s
    | some o =>
      let r := s.endLoad o driveOk
      match (if o.purpose = 3 then r.1.job else none) with
      | none => r.1.settle
      | some j =>
        match r.2 with
        | some en =>
          if entType en = 3 then
            (r.1.jobVisit { j with entry := en } (r.1.fld pUpd F.UPD_TJ_STAT_TILE)
              (j.last + 1 - r.1.fld pUpd F.UPD_TJ_STAT_TILE)).settle
          else (r.1.jobHalt 1).settle
        | none => (r.1.jobHalt 1).settle)

end Sys2Proof.Machine
end

