-- ==== Sys2Proof/Machine/Power.lean ====
section
/-!
DEFINITION. Supplies, resets, reference clocks, the crystal and life hours (R64 to R78, R87 to R96, R396,
R490).
-/
namespace Sys2Proof.Machine

/-- Replace the supplies' state. -/
def State.setPow (s : State) (p : Power) : State := { s with pow := p }

/-! ### Resets (R30, R70) -/

/-- What a reset of the main domains leaves of a register: the fields held in the Ember domain. -/
def retWord (a : Nat) (v : Word) : Word :=
  let m := BitVec.ofNat 32 (retMask a)
  (v &&& m) ||| (resetWord a &&& ~~~m)

/-- The registers after a reset of the main domains. -/
def retRegs (r : Sparse Word) : Sparse Word := r.foldl (fun m e => ins (resetWord e.1) e.1 (retWord e.1 e.2) m) []

/-- A drive whose root port is in reset keeps what it stores. -/
def Drive.off (x : Drive) : Drive := { Drive.away with cells := x.cells }

/-- The supplies' state with the main domains in reset. -/
def Power.down (p : Power) : Power :=
  { p with up := false, shutting := false, loads := [], loadFailed := false, initCommit := false,
           sleeping := false, epWake := false }

/-- The pins that a reset of running main domains drives (R60, R70, R416). -/
def resetPins : List Out :=
  [.pin "READY" false, .pin "PPS_OUT" false, .pin "FLASH_CS_N" true, .pin "PCIE_RP0_PERST_N" false,
      .pin "PCIE_RP1_PERST_N" false] ++
    (List.range 16).map (fun k => .pin ("TOUT" ++ toString k) false)

/-- Every domain but the Ember domain in reset. The flash, the drives, host memory and GDDR6 stand outside it; the
test port has its own reset (R62). -/
def State.mainReset (s : State) : State :=
  let s := s.cutFlash
  { State.reset with
    pending := s.pending, free := s.free, out := s.out ++ (if s.pow.up then resetPins else []), regs := retRegs s.regs, mem := s.mem, hostMem := s.hostMem,
    clk := s.clk, pow := s.pow.down, flashMem := s.flashMem,
    drives := s.drives.foldl (fun m e => ins Drive.away e.1 e.2.off m) [], tap := s.tap }

/-- The contents of GDDR6 after a reset: the spec does not say that the devices keep them. -/
def State.loseGddr (s : State) : State := { s with mem := s.mem.lose 0 (2 ^ 36) s.free, free := s.free + 1 }

/-- A reset that records its cause; IMAGE_VALID clears (R527). -/
def State.resetFor (s : State) (cause : Nat) : State :=
  let s := s.mainReset.loseGddr
  (s.setFld pSys F.SYS_RESET_CAUSE_CAUSE cause).setFld pEmber F.EMBER_STAT_IMAGE_VALID 0

/-- POR_N has pulsed or a rail has failed: after a shutdown the engine now waits for the die to cool (R89). -/
def State.releaseTrip (s : State) : State :=
  s.setPow { s.pow with thermHold := if s.pow.thermHold = 0 then 0 else 2 }

/-! ### Supplies (R69 to R71, R87) -/

/-- RAIL_VALID (R69). -/
def execRailValid (rail : Fin 9) (s : State) : Host.Outcome State Fault Refusal :=
  .next (s.setPow { s.pow with rails := s.pow.rails.set rail true })

/-- Rails that are not valid, as a bitmap: bit 24, which would be VDD_EMBER's, is reserved (R97). -/
def Power.failed (p : Power) : Nat := mapOf ((List.range 8).filter (fun k => !p.rails.getD k true))

/-- RAIL_FAIL (R70): reset, with the cause and the rails in failure. -/
def execRailFail (rail : Fin 8) (s : State) : Host.Outcome State Fault Refusal :=
  let s := s.setPow { s.pow with rails := s.pow.rails.set rail false }
  .next ((s.releaseTrip.resetFor 1).setFld pSys F.SYS_RESET_CAUSE_FAIL_RAIL s.pow.failed)

/-- VDD_EMBER_FAIL (R71, R396): everything resets; engine time starts at 0. -/
def execVddEmberFail (s : State) : Host.Outcome State Fault Refusal :=
  let s := (s.releaseTrip.mainReset).loseGddr
  .next { s with regs := [], clk := State.reset.clk, pow := { s.pow with rails := s.pow.rails.set 8 false } }

/-- POR_N_LOW (R87): a low of 1 us or longer. -/
def execPorNLow (ns : Nat) (s : State) : Host.Outcome State Fault Refusal :=
  .next (if 1000 ≤ ns then s.releaseTrip.resetFor 2 else s)

/-- SYS_CTL RESTART (R88). -/
def State.restart (s : State) (w : Nat) : State :=
  if bitsOf w 16 16 = 0x5A17 ∧ bit w 0 = true then s.resetFor 4 else s

/-- SHUTDOWN_RESET (R490). -/
def execShutdownReset (s : State) : Host.Outcome State Fault Refusal :=
  .next (if s.pow.shutting then
      let r := (s.setPow { s.pow with thermHold := 1 }).resetFor 3
      (r.setFld pTherm F.THERM_SHUT_LAST_SENSOR s.pow.shutAt.1).setS pTherm F.THERM_SHUT_LAST_T s.pow.shutAt.2
    else s)

/-- THERMAL_RESET_RELEASE (R89). -/
def execThermalResetRelease (s : State) : Host.Outcome State Fault Refusal :=
  .next (if s.pow.thermHold = 2 then s.setPow { s.pow with thermHold := 0 } else s)

/-! ### Time zero (R76, R77, R396) -/

/-- Nothing holds the main domains in reset. -/
def State.mayStart (s : State) : Bool :=
  s.pow.rails.all id && !s.pow.coreFault && s.pow.thermHold == 0 && !s.pow.up && !s.pow.sleeping

/-- Engine time as the main domains start (R396): the recorded time, and the crystal ticks since; 0 without the
crystal. A tick is 30,517.578125 ns, which is 2 * 10^9 units of 2^-16 ns. -/
def Clock.resume (c : Clock) (xtal : Bool) : Clock :=
  let n : Nat := c.emberTicks * (2 * 10 ^ 9)
  { c with free := 0, anchor := 0, rate := c.emberRate,
           offset := if xtal then ofS 80 ((c.emberTime : Int) + (n : Int) + rshr ((n : Int) * c.emberRate) 48) else 0 }

/-- The main domains leave reset: ALERT_N's low of a shutdown ends (R90), the flash is reset (R77) and the root ports
leave reset (R543). -/
def State.start (s : State) : State :=
  let s := { s with clk := s.clk.resume s.pow.xtal, pow := { s.pow with up := true, shutAlert := false } }
  let s := (s.emit (.pin "FLASH_RESET_N" false)).emit (.pin "FLASH_RESET_N" true)
  (s.rpReset true).setFld pSys F.SYS_STAT_BOOT_PHASE 1

/-- POWER_UP_START (R76, R77). -/
def execPowerUpStart (s : State) : Host.Outcome State Fault Refusal := .next (if s.mayStart then s.start else s)

/-! ### Reference clocks (R74, R96) -/

/-- A bit of SYS_REFCLK_STAT [9:0]. -/
def refBit : RefClk → Nat
  | .ser g => g.val
  | .mem => 8
  | .pcie => 9
  | .core => 31

/-- SYS_REFCLK_STAT as a number. -/
def State.refStat (s : State) : Nat := (s.reg (pSys + 0x110)).toNat

/-- A reference other than REFCLK_CORE enters fault: its bit, condition 3 of SYS, what depends on it. -/
def State.refEnter (s : State) (r : RefClk) : State :=
  let k := refBit r
  if bit s.refStat k then s
  else
    let s := (s.setReg (pSys + 0x110) (BitVec.ofNat 32 (setBits s.refStat k 1 1))).setCond pSys 3
    match r with
    | .ser g => s.refLost g
    | .mem => s.memFail
    | _ => s

/-- REF_FAULT_ENTER. -/
def execRefFaultEnter (r : RefClk) (s : State) : Host.Outcome State Fault Refusal :=
  .next (match r with
    | .core => (s.setPow { s.pow with coreFault := true }).resetFor 5
    | r => if s.pow.up then (s.refEnter r).settle else s)

/-- REF_FAULT_LEAVE: after 1 ms within its limit. -/
def execRefFaultLeave (r : RefClk) (s : State) : Host.Outcome State Fault Refusal :=
  .next (match r with
    | .core => s.setPow { s.pow with coreFault := false }
    | r =>
      if bit s.refStat (refBit r) then
        let s := s.setReg (pSys + 0x110) (BitVec.ofNat 32 (setBits s.refStat (refBit r) 1 0))
        match r with
        | .ser g => (s.refBack g).settle
        | _ => s
      else s)

/-! ### Crystal and life (R75, R94, R95, R396) -/

/-- XTAL_STOP (R98): source 4 once the engine is ready. -/
def execXtalStop (s : State) : Host.Outcome State Fault Refusal :=
  .next (if s.pow.xtal then
      let t := s.setPow { s.pow with xtal := false }
      if s.ready then t.raise pSys 4 else t
    else s)

/-- XTAL_RUN_START (R75). -/
def execXtalRunStart (s : State) : Host.Outcome State Fault Refusal := .next (s.setPow { s.pow with xtal := true })

/-- EMBER_TICK (R396): records while the main domains run, counts while they do not. -/
def execEmberTick (s : State) : Host.Outcome State Fault Refusal :=
  let c := s.clk
  .next (if s.pow.xtal = false then s
    else if s.pow.up then { s with clk := { c with emberTime := c.time, emberRate := c.rate, emberTicks := 0 } }
    else { s with clk := { c with emberTicks := c.emberTicks + 1 } })

/-- Band of an hour's mean, in 0.0625 degrees (R94). -/
def lifeBand (mean : Int) : Nat :=
  if mean ≤ 95 * 16 then 0 else if mean ≤ 105 * 16 then 1 else if mean ≤ 115 * 16 then 2 else if mean ≤ 125 * 16 then 3 else 4

/-- LIFE_HOUR_TICK (R95): band k weighs 2^k half-hours. -/
def execLifeHourTick (mean : Int) (s : State) : Host.Outcome State Fault Refusal :=
  let k := lifeBand mean
  .next ((s.inc pSys F.SYS_LIFE_H_HOURS_CNT k).inc pSys F.SYS_LIFE_WH_HALF_HOURS_CNT 0 (2 ^ k))

end Sys2Proof.Machine
end

