-- ==== Sys2Proof/Machine/Seats.lean ====
section
/-!
DEFINITION. Levels and notifications of seats (R512, R514, R516), loss and return of seats (R519, R520),
the start of standby playout (R521).
-/
namespace Sys2Proof.Machine

/-! ### Levels (R508, R512) -/

/-- Set LEVELS, with IDLE and RL. -/
def State.setLevels (s : State) (seat w : Nat) : State :=
  let s := (s.setFld (pEvtp seat) F.EVTP_RUN_LEVELS w).setFld (pEvtp seat) F.EVTP_RUN_IDLE (if w = 0 then 1 else 0)
  s.setFld (pEvtp seat) F.EVTP_RUN_RL (if w = 0 then 0 else Nat.log2 w)

/-- EVTP_STAT ERR_CNT of a seat counts. -/
def State.levelErr (s : State) (seat : Nat) : State := s.inc (pEvtp seat) F.EVTP_STAT_ERR_CNT

/-- ENTER: a level above the running level is set; it ends an outstanding notification at or below it (R514). -/
def State.enterLevel (s : State) (seat level : Nat) : State :=
  if s.runLevel seat ≤ level then
    let s := s.setLevels seat (setBits (s.fld (pEvtp seat) F.EVTP_RUN_LEVELS) level 1 1)
    let s := if s.fld (pEvtp seat) F.EVTP_NOTE_OUTSTANDING = 1 ∧ s.fld (pEvtp seat) F.EVTP_NOTE_LEVEL ≤ level then
        s.clearNote seat else s
    s.compareNote seat
  else s.levelErr seat

/-- EXIT: the highest set level clears, and what it uncovers is notified (R513). -/
def State.exitLevel (s : State) (seat : Nat) : State :=
  let w := s.fld (pEvtp seat) F.EVTP_RUN_LEVELS
  if w = 0 then s.levelErr seat else (s.setLevels seat (setBits w (Nat.log2 w) 1 0)).compareNote seat

/-- A write of EVTP_ENTER at the page of a seat. -/
def State.enterWrite (s : State) (seat w : Nat) : State := if bit w 31 then s.enterLevel seat (bitsOf w 0 4) else s

/-- A write of EVTP_EXIT. -/
def State.exitWrite (s : State) (seat w : Nat) : State := if bit w 0 then s.exitLevel seat else s

/-- NOTIFY_RESEND (R516): a datagram again, every RESEND_MS while its notification is outstanding. -/
def execNotifyResend (seat : SeatNo) (s : State) : Host.Outcome State Fault Refusal :=
  .next (if seat ≠ 0 ∧ s.fld (pEvtp seat) F.EVTP_NOTE_OUTSTANDING = 1 ∧ s.fld (pEvtp seat) F.EVTP_CFG_RESEND_MS ≠ 0 then
      (s.eventDatagram seat (s.fld (pEvtp seat) F.EVTP_NOTE_LEVEL) false).settle
    else s)

/-! ### Playout starts (R521) -/

/-- Every existing seat is lost. -/
def State.everySeatLost (s : State) : Bool := (List.range 16).all (fun k => !s.present k)

/-- Playout may start: its load begins. -/
def State.tryPlayout (s : State) : State :=
  let p := s.play
  if s.active && s.everySeatLost && s.fld pEvt F.EVT_PLAYOUT_CFG_EN == 1 && !p.running && !p.loading && !p.pending then
    (s.setPlay { Playout.idle with loading := true }).engineRead 2 (s.fld pEvt F.EVT_PLAYOUT_CFG_LOOP_EXTENT)
  else s

/-! ### Loss and return (R519, R520) -/

/-- A seat becomes lost: its levels and notification clear, its sources go elsewhere. -/
def State.loseSeat (s : State) (seat : Nat) : State :=
  let s := s.setEvt { s.evt with lost := insertNat seat s.evt.lost }
  let s := ((s.setLevels seat 0).clearNote seat).inc (pEvtp seat) F.EVTP_LOST_CNT_LOST_CNT
  ((s.setCond pEvt seat).settle).tryPlayout

/-- The endpoint's link goes down: PCIE condition 0 (R563). -/
def State.epDown (s : State) : State :=
  if s.fld pPcie F.PCIE_STAT_EP_UP = 1 then
    let s := (s.setFld pPcie F.PCIE_STAT_EP_UP 0).setFld pPcie F.PCIE_STAT_EP_SPEED 0
    (s.setFld pPcie F.PCIE_STAT_EP_WIDTH 0).setCond pPcie 0
  else s

/-- SEAT_LOST (R519, R520): the alive timer ends while Active, or seat 0's link is down. -/
def execSeatLost (seat : SeatNo) (linkDown : Bool) (s : State) : Host.Outcome State Fault Refusal :=
  .next (if linkDown then
      (if seat = 0 then
        let s := s.epDown
        if s.ready && s.present 0 then s.loseSeat 0 else s.settle
      else s)
    else if s.active && s.present seat && s.fld pEvt F.EVT_ALIVE_ALIVE_MS seat != 0 then s.loseSeat seat
    else s)

/-- A write of EVTP_ALIVE at a seat's page: a lost seat is present again (R519, R520, R522). -/
def State.aliveWrite (s : State) (seat : Nat) : State :=
  if s.evt.lost.contains seat then
    ((s.setEvt { s.evt with lost := s.evt.lost.filter (· ≠ seat) }).setCond pEvt seat).playoutWithdraw
  else s

/-- PCIE_EP_LINK_UP (R527, R563). -/
def execPcieEpLinkUp (speed : Fin 6) (width : Fin 9) (s : State) : Host.Outcome State Fault Refusal :=
  .next (if s.pow.up then
      let s := (s.setFld pPcie F.PCIE_STAT_EP_UP 1).setFld pPcie F.PCIE_STAT_EP_SPEED speed
      (s.setFld pPcie F.PCIE_STAT_EP_WIDTH width).setPow { s.pow with epWake := false }
    else s)

end Sys2Proof.Machine
end

