-- ==== Sys2Proof/Machine/Sleep.lean ====
section
/-!
DEFINITION. Standby and Sleep (R470, R471, R523 to R532): requests and refusals, entry, wake, the save image.
-/
namespace Sys2Proof.Machine

/-! ### Requests (R524) -/

/-- The alarm (R532). -/
def State.alarm (s : State) : Nat := s.pair pEmber F.EMBER_ALARM_LO_NS F.EMBER_ALARM_HI_NS
/-- EMBER_SAVE_BASE. -/
def State.saveBase (s : State) : Nat := s.pair pEmber F.EMBER_SAVE_BASE_LO_BASE F.EMBER_SAVE_BASE_HI_BASE
/-- Bytes of the save area (R526). -/
def saveBytes : Nat := 0x1000000
/-- PSTATE. -/
def State.setPstate (s : State) (v : Nat) : State := s.setFld pEmber F.EMBER_STAT_PSTATE v

/-- A flash operation, a store write or playout stands in the way. -/
def State.writing (s : State) : Bool :=
  s.flashOp.isSome || (match s.storeOp with
    | some o => o.op != 1
    | none => false) || s.play.running || s.play.loading || s.play.pending

/-- The save area may not be used. -/
def State.badSave (s : State) : Bool :=
  let b := s.saveBase
  s.memOff || !s.inGddr b saveBytes || meets b saveBytes (s.capacity - 0x800000) 0x800000 ||
    (List.range 16).any (fun k =>
      let lo := s.pair (pSeat k) F.SEAT_MEM_BASE_LO_BASE F.SEAT_MEM_BASE_HI_BASE
      let hi := s.pair (pSeat k) F.SEAT_MEM_LIMIT_LO_LIMIT F.SEAT_MEM_LIMIT_HI_LIMIT
      decide (lo < hi) && meets b saveBytes lo (hi - lo))

/-- The alarm lies less than 10 ms ahead, or has passed. -/
def State.alarmNear (s : State) : Bool :=
  s.fld pEmber F.EMBER_WAKE_CFG_ALARM_EN == 1 && later 64 (s.now + 10 ^ 7) s.alarm

/-- REFUSE of a request for Standby (op 1) or Sleep (op 2), 0 for none. -/
def State.refuse (s : State) (op : Nat) (wakeNLow : Bool) : Nat :=
  if !(viewsOn s.force).isEmpty || (slotsOf s.force).any (fun k => k.role == 1) then 1
  else if op = 2 ∧ s.pow.xtal = false then 2
  else if s.writing then 3
  else if s.rateChanging || s.rateWait then 4
  else if op = 2 ∧ s.badSave = true then 5
  else if s.pstate ≠ 0 then 6
  else if op = 2 ∧ ((wakeNLow = true ∧ s.fld pEmber F.EMBER_WAKE_CFG_WAKE_N_EN = 1) ∨ s.alarmNear = true) then 7
  else 0

/-- A return to Active begins (R525): its cause is the first. -/
def State.beginReturn (s : State) (cause : Nat) : State :=
  (s.setFld pEmber F.EMBER_STAT_WAKE_CAUSE cause).setPstate 3

/-- REFUSE of a command. -/
def State.refused (s : State) (r : Nat) : State := s.setFld pEmber F.EMBER_STAT_REFUSE r

/-- A write of EMBER_PWR_CMD. -/
def State.pwrCmd (s : State) (w : Nat) (wakeNLow : Bool) : State :=
  let op := bitsOf w 0 2
  if bitsOf w 16 16 ≠ 0x5A50 then s
  else if op = 1 ∨ op = 2 then
    let r := s.refuse op wakeNLow
    if r = 0 then ({ s with powerReq := some (op == 2) } : State).setPstate 1 else s.refused r
  else if op = 3 ∧ s.pstate = 2 then s.beginReturn 3
  else s.refused 6

/-! ### Standby (R525) -/

/-- PCIE root ports go down. -/
def State.drivesOff (s : State) : State := (s.driveDown 0).driveDown 1

/-- A KIND 0x63 record (R518). -/
def State.powerRecord (s : State) (state cause : Nat) : State := s.seatsRecord 0x63 (state * 2 ^ 8 + cause)

/-- STANDBY_ENTER: at the next compose start; while the pin rate changes the entry waits (R473). -/
def execStandbyEnter (s : State) : Host.Outcome State Fault Refusal :=
  .next (if s.powerReq = some false ∧ s.rateChanging = false then
      let s := (({ s with powerReq := none } : State).lanesOff (s.fld pEmber F.EMBER_WAKE_CFG_STBY_PORTS)).dropEdges
      let s := s.powerRecord 2 0
      let s := ((s.drivesOff.rpReset false).when (!s.memOff) (fun s => s.refreshAll.setFld pMem F.MEM_STAT_STATE 5)).setPstate 2
      (s.inc pEmber F.EMBER_STBY_CNT_STBY_CNT).settle
    else s)

/-- STANDBY_RETURN_DONE (R470, R525): GDDR6 has resumed, or trained in full, `us` after the wake. The check
writes the last 8 MiB (R457). -/
def execStandbyReturnDone (us : Word) (memOk : Bool) (fail : BitVec 32) (trims : List ChanTrim) (s : State) :
    Host.Outcome State Fault Refusal :=
  .next (if s.pstate = 3 then
      let s := s.when (!s.memOff) (fun s =>
        if memOk then s.loseTop.setFld pMem F.MEM_STAT_STATE 2 else s.trainingEnds fail trims)
      let s := (s.rpReset true).setCyc { s.cyc with resume := s.now + 40000 }
      let s := ((s.setPstate 0).setFld pEmber F.EMBER_WAKE_TIME_US us.toNat).syncFeeds s.force 2
      ((s.powerRecord 0 (s.fld pEmber F.EMBER_STAT_WAKE_CAUSE)).settle).tryPlayout
    else s)

/-! ### Sleep (R526, R527) -/

/-- The bits of a register that the save image holds. -/
def saveMask (a : Nat) : Nat := maskWhere (fun r => r.acc = .rw || r.acc = .rwc || r.acc = .rwb) a

/-- The save image (R526). -/
def State.saveImage (s : State) : Image := ⟨s.regs, s.force, s.rings, s.resp, s.stale⟩

/-- Write the saved fields of a register over what it holds. -/
def State.restoreReg (s : State) (e : Nat × Word) : State :=
  let m := BitVec.ofNat 32 (saveMask e.1)
  if m = 0 then s else s.setReg e.1 ((e.2 &&& m) ||| (s.reg e.1 &&& ~~~m))

/-- Restore the image: fields held in the Ember domain keep what it holds. -/
def State.restoreImage (s : State) (i : Image) : State :=
  let s := s.each (i.regs.filter (fun e => retMask e.1 == 0)) State.restoreReg
  { s with force := i.force, rings := i.rings, resp := i.resp, stale := i.stale }

/-- The register belongs to a trim record of a lane or a memory channel, in force or preset (R380, R471). -/
def trimReg (a : Nat) : Bool :=
  match locate a with
  | some l => (l.blk == .ser && decide (0x200 ≤ l.off ∧ l.off < 0x600 ∧ 0x0C ≤ (l.off - 0x200) % 0x80 ∧ (l.off - 0x200) % 0x80 ≤ 0x50)) ||
      (l.blk == .memch && decide (0x108 ≤ l.off ∧ l.off ≤ 0x11C))
  | none => false

/-- The trim records of `o` as they were: the Ember domain keeps them across Sleep. -/
def State.keepTrims (s o : State) : State := s.each (o.regs.filter (fun e => trimReg e.1)) (fun s e => s.setReg e.1 e.2)

/-- SLEEP_ENTER (R526): the image goes to the save area, whose layout the spec leaves open; then every domain but
the Ember domain is off. The trim records stay, and those that came from an active feed stay good (R380, R471). While the pin rate changes the entry waits (R473). -/
def execSleepEnter (s : State) : Host.Outcome State Fault Refusal :=
  .next (if s.powerReq = some true ∧ s.rateChanging = false then
      let s := s.inc pEmber F.EMBER_SLEEP_CNT_SLEEP_CNT
      let i := s.saveImage
      let b := s.saveBase
      let lanes := s.lanes.foldl (fun m e => ins LaneRt.idle e.1 { LaneRt.idle with good := e.2.good } m) []
      let r := s.mainReset.keepTrims s
      let r := { r with mem := r.mem.lose b (b + saveBytes) r.free, free := r.free + 1, image := some i, lanes := lanes }
      (r.setPow { r.pow with sleeping := true }).setFld pEmber F.EMBER_STAT_IMAGE_VALID 1
    else s)

/-- The main domains leave reset for a wake (R527, R396). -/
def State.wake (s : State) (cause : Nat) : State :=
  let s := s.start
  (s.setPow { s.pow with epWake := true }).setFld pEmber F.EMBER_STAT_WAKE_CAUSE cause

/-- A wake source acts: from Standby, or from Sleep (R525, R527). -/
def State.wakeBy (s : State) (cause : Nat) : State :=
  if s.pow.sleeping = true ∧ s.pow.up = false then s.wake cause
  else if s.pstate = 2 then s.beginReturn cause
  else s

/-- WAKE_N_EVENT (R525, R527): a low of 1 us or longer with WAKE_N_EN set. -/
def execWakeNEvent (ns : Nat) (s : State) : Host.Outcome State Fault Refusal :=
  .next (if 1000 ≤ ns ∧ s.fld pEmber F.EMBER_WAKE_CFG_WAKE_N_EN = 1 then s.wakeBy 1 else s)

/-- ALARM_EXPIRE (R525, R527). -/
def execAlarmExpire (s : State) : Host.Outcome State Fault Refusal :=
  .next (if s.fld pEmber F.EMBER_WAKE_CFG_ALARM_EN = 1 then s.wakeBy 2 else s)

end Sys2Proof.Machine
end

