-- ==== Sys2Proof/Machine/Status.lean ====
section
/-!
DEFINITION. Status words that the block computes when they are read: what the tables of the chapters give
as 'hw' fields that follow other state (R97, R102, R180, R217 to R221, R257 to R261, R294, R345 to R347,
R391, R421, R443, R475, R504, R505, R530, R531, R565, R566).
-/
namespace Sys2Proof.Machine

/-- A field of a word replaced. -/
def Fld.put (f : Fld) (v n : Nat) : Nat := setBits n f.lo f.w v
/-- The repetition of a field that lies at an offset. -/
def Fld.rep (f : Fld) (off : Nat) : Nat := if f.stride = 0 then 0 else (off - f.off) / f.stride
/-- 1 for true. -/
def one (b : Bool) : Nat := if b then 1 else 0
/-- Bits [31:0] and [63:32] of a quantity (R28). -/
def lo32 (v : Nat) : Nat := v % 2 ^ 32
/-- Bits [63:32]. -/
def hi32 (v : Nat) : Nat := v / 2 ^ 32 % 2 ^ 32
/-- Which of k words of 32 bits a bitmap of numbers has. -/
def mapWord (l : List Nat) (k : Nat) : Nat := mapOf ((l.filter (fun n => n / 32 == k)).map (· % 32))

/-! ### SYS, header -/

/-- REF_FAULT: some reference is in fault (R97). -/
def State.refFault (s : State) : Bool := s.refStat % 1024 != 0
/-- ALERT_N is low (R90). -/
def State.alertLow (s : State) : Bool := s.refFault || s.memOff || s.throttling || s.pow.shutAlert

/-- SYS (R97). -/
def State.statSys (s : State) (off v : Nat) : Nat :=
  if off = 0x00C then
    F.SYS_STAT_ALERT.put (one s.alertLow) (F.SYS_STAT_REF_FAULT.put (one s.refFault)
      (F.SYS_STAT_XTAL_RUN.put (one s.pow.xtal) v))
  else if off = 0x110 then F.SYS_REFCLK_STAT_XTAL_RUN.put (one s.pow.xtal) v
  else v

/-- INSTANCE of a page: the page index for SVL (R102). -/
def Loc.number (l : Loc) : Nat := if l.blk = .svb then 8 + l.inst else l.inst

/-- The RWC shadows of a page, and for CMP of the coefficient banks, differ from the values in force (R102). -/
def State.pagePend (s : State) (page : Nat) : Bool :=
  ((s.regs ++ s.force).map (·.1)).any (fun a =>
    (isCoef a && page == pCmp || !isCoef a && a / 0x1000 == page / 0x1000) && accMask .rwc a != 0 &&
      s.shadow a != inForce s.force a)

/-- The common header (R102). -/
def State.statHdr (s : State) (l : Loc) (page v : Nat) : Nat :=
  if l.off = 0 then F.HDR_ID_BLOCK_TYPE.put l.typ (F.HDR_ID_INSTANCE.put l.number v)
  else if l.off = 0x020 then F.HDR_COMMIT_PEND.put (one (s.pagePend page)) v
  else v

/-! ### Ingest (R171, R180) -/

/-- ING (R180). -/
def State.statIng (s : State) (off v : Nat) : Nat :=
  if off = 0x00C then F.ING_STAT_ACTIVE.put (flowsOn s.force).length v
  else if off = 0x114 then lo32 (flowsRsv s.force s.loopFlows)
  else if off = 0x118 then hi32 (flowsRsv s.force s.loopFlows)
  else v

/-- A flow's entry (R171). -/
def State.statFlow (s : State) (f off v : Nat) : Nat :=
  let r := s.flow f
  if off = 0x100 then
    F.FLOW_STAT_ACTIVE.put (s.ff (pFlow f) F.FLOW_CFG_ENABLE) (F.FLOW_STAT_HAS_FRAME.put (one r.newest.isSome)
      (F.FLOW_STAT_READ_BUF.put (r.readBuf.getD 0) (F.FLOW_STAT_NEWEST_BUF.put (r.newest.getD 0)
        (F.FLOW_STAT_WRITE_BUF.put (r.writeBuf (s.ff (pFlow f) F.FLOW_CFG_SOURCE == 1)) v))))
  else if off = 0x104 then (storeOf s.force f).bufBytes % 2 ^ 32
  else v

/-! ### Composition and schedule (R217, R219, R221, R294) -/

/-- Scaler engines of a layer in force. -/
def useEngines (c : Sparse Word) (l : Layer) : Nat := l.engines (gridOf c) (visBlocks (viewUses c) l.num)
/-- Fetch reservation of a layer in force, B/s. -/
def useFetch (c : Sparse Word) (l : Layer) : Nat := perSec (gridOf c) (l.fetch c (visBlocks (viewUses c) l.num))
/-- ceil(N × V × NUM / DEN). -/
def useCorr (c : Sparse Word) : Nat := perSec (gridOf c) (populated c * (viewsOn c).length)
/-- The compose start that comes next, 0 before the first is planned. -/
def State.shownStart (s : State) : Nat := if s.cyc.run then s.nextStart else 0

/-- CMP budgets in force (R217, R294). -/
def State.statUse (s : State) (off v : Nat) : Nat :=
  let c := s.force
  if off = 0x11C then ((viewUses c).map (fun u => u.2.blu)).sum % 2 ^ 32
  else if off = 0x120 then ((layersOf c).map Layer.lbuf).sum % 2 ^ 32
  else if off = 0x124 then ((layersOf c).map (useEngines c)).sum % 2 ^ 6
  else if off = 0x128 then lo32 (fetchRsv c (viewUses c))
  else if off = 0x12C then hi32 (fetchRsv c (viewUses c))
  else if off = 0x130 then lo32 (wbsRsv c)
  else if off = 0x134 then hi32 (wbsRsv c)
  else if off = 0x560 then lo32 (useCorr c)
  else if off = 0x564 then hi32 (useCorr c)
  else if off = 0x568 then lo32 (memRsv c s.loopFlows)
  else if off = 0x56C then hi32 (memRsv c s.loopFlows)
  else if off = 0x570 then lo32 s.memLimitNow
  else if off = 0x574 then hi32 s.memLimitNow
  else v

/-- CMP (R217, R294). -/
def State.statCmp (s : State) (off v : Nat) : Nat :=
  if off = 0x00C then
    F.CMP_STAT_VIEWS.put (viewsOn s.force).length (F.CMP_STAT_LAYERS.put (layersOn s.force).length v)
  else if off = 0x548 then lo32 s.shownStart
  else if off = 0x54C then hi32 s.shownStart
  else if off = 0x550 then (if s.cyc.run then (gridOf s.force).pMax % 2 ^ 26 else 0)
  else if off = 0x554 then (if s.cyc.run then (gridOf s.force).pMin % 2 ^ 26 else 0)
  else s.statUse off v

/-- VIEW (R219). -/
def State.statView (s : State) (k off v : Nat) : Nat :=
  if off = 0x00C then
    let ls := (layersOf s.force).filter (fun l => l.view == k)
    F.VIEW_STAT_ACTIVE.put (s.ff (pView k) F.VIEW_CFG_ENABLE)
      (F.VIEW_STAT_VIDEO_N.put (ls.filter (fun l => !l.graphic)).length
        (F.VIEW_STAT_GRAPHIC_N.put (ls.filter (·.graphic)).length v))
  else if off = 0x148 then (if (viewsOn s.force).contains k then (viewUse s.force k).blu % 2 ^ 32 else 0)
  else v

/-- LYR (R221): what the enabled layer uses. -/
def State.statLayer (s : State) (l : Layer) (off v : Nat) : Nat :=
  let c := s.force
  if off = 0x00C then F.LYR_STAT_ACTIVE.put 1 v
  else if off = 0x124 then (if l.graphic then 0 else stepOf l.sw l.dw)
  else if off = 0x128 then (if l.graphic then 0 else stepOf l.sh l.dh)
  else if off = 0x12C then visBlocks (viewUses c) l.num % 2 ^ 27
  else if off = 0x130 then l.lbuf % 2 ^ 32
  else if off = 0x134 then useEngines c l % 2 ^ 6
  else if off = 0x138 then lo32 (useFetch c l)
  else if off = 0x13C then hi32 (useFetch c l)
  else v

/-! ### Wall map, zones, links (R257 to R261, R345) -/

/-- MAP (R257). -/
def State.statMap (s : State) (off v : Nat) : Nat :=
  if off = 0x00C then F.MAP_STAT_ACTIVE.put (tilesOn s.force).length v
  else if off = 0x104 then populated s.force % 2 ^ 27
  else if off = 0x108 then blockCount s.force % 2 ^ 23
  else if off = 0x114 then (match s.probe with
    | some p => 2 ^ 31 + p.1
    | none => 0)
  else if off = 0x118 then (match s.probe with
    | some p => p.2.2 * 2 ^ 16 + p.2.1
    | none => 0)
  else v

/-- Zones whose level in force lies below 64 (R260). -/
def State.throttled (s : State) : List Nat := (List.range 256).filter (fun z => decide (s.fld (pZn z) F.ZN_STAT_THROTTLE < 64))
/-- Zones blanked. -/
def State.blanked (s : State) : List Nat := (List.range 256).filter (fun z => s.fld (pZn z) F.ZN_STAT_BLANKED == 1)

/-- ZONE (R260). -/
def State.statZone (s : State) (off v : Nat) : Nat :=
  if off = 0x00C then F.ZONE_STAT_BLANKED_N.put s.blanked.length (F.ZONE_STAT_THROTTLED_N.put s.throttled.length v)
  else if 0x100 ≤ off ∧ off < 0x120 then mapWord s.throttled ((off - 0x100) / 4)
  else if 0x120 ≤ off ∧ off < 0x140 then mapWord s.blanked ((off - 0x120) / 4)
  else v

/-- A zone's entry (R261). -/
def State.statZn (s : State) (z off v : Nat) : Nat :=
  if 0x018 ≤ off ∧ off < 0x028 then s.effCeil z ((off - 0x018) / 4) % 2 ^ 20
  else if off = 0x028 then ((tilesOf s.force).filter (fun t => t.zone == z)).length
  else v

/-- WL (R345, R347). -/
def State.statWl (s : State) (n off v : Nat) : Nat :=
  let on := s.ff (pWl n) F.WL_CFG_ENABLE == 1
  let g := gridOf s.force
  if off = 0x00C then
    F.WL_STAT_PRESENT_N.put (s.presentPos n).length (F.WL_STAT_ASSIGNED_N.put (s.countPos n F.POS_STAT_ASSIGNED)
      (F.WL_STAT_MISMATCH_N.put (s.countPos n F.POS_STAT_MISMATCH) v))
  else if off = 0x104 then mapWord (s.presentPos n) 0
  else if off = 0x108 then mapWord (s.presentPos n) 1
  else if off = 0x110 then (if on then linkBits s.force n / 8 % 2 ^ 32 else 0)
  else if off = 0x114 then (if on then linkWidth s.force n * 51646000000 * g.den / (8 * g.num) % 2 ^ 32 else 0)
  else v

/-- SER (R390). -/
def State.statSer (s : State) (n off v : Nat) : Nat :=
  let lanes (f : Fld) (x : Nat) : Nat := mapOf ((List.range 8).filter (fun i => s.ln (8 * n + i) f == x))
  if off = 0x00C then
    F.SER_STAT_LANE_ACTIVE.put (lanes F.LN_STAT_STAGE 5) (F.SER_STAT_LANE_PROV.put (lanes F.LN_META_PROVISIONAL 1)
      (F.SER_STAT_REF_OK.put (one (s.pow.up && !bit s.refStat (n / 8))) v))
  else if off = 0x104 then ofS 16 (s.octetTemp n)
  else v

/-! ### Time and servo (R421, R443 to R445) -/

/-- The value latched by a seat's last read of TIME_NOW_LO, `d` before the first (R421). -/
def State.latched (s : State) (seat a d : Nat) : Nat :=
  match look none s.latch (seat * 2 ^ 24 + a) with
  | some w => w.toNat
  | none => d

/-- RATE as the pair shows it: [63:40] copies of bit 39. -/
def Clock.rateWord (c : Clock) : Nat := ofS 64 c.rate

/-- TIME below the outputs (R421). -/
def State.statTime (s : State) (seat off v : Nat) : Nat :=
  if off = 0x00C then F.TIME_STAT_STEP_SCHED.put (one (s.cyc.req.isSome || s.cyc.sched.isSome)) v
  else if off = 0x110 then lo32 s.now
  else if off = 0x114 then s.latched seat (pTime + 0x114) (hi32 s.now)
  else if off = 0x118 then s.latched seat (pTime + 0x118) (s.clk.time % 2 ^ 16)
  else if off = 0x11C then s.latched seat (pTime + 0x11C) (lo32 s.clk.free)
  else if off = 0x120 then s.latched seat (pTime + 0x120) (hi32 s.clk.free)
  else if off = 0x124 then lo32 (s.clk.offset / 2 ^ 16)
  else if off = 0x128 then hi32 (s.clk.offset / 2 ^ 16)
  else if off = 0x12C then s.clk.offset % 2 ^ 16
  else if off = 0x130 then lo32 s.clk.anchor
  else if off = 0x134 then hi32 s.clk.anchor
  else if off = 0x138 then lo32 s.clk.rateWord
  else if off = 0x13C then hi32 s.clk.rateWord
  else v

/-- TOUT and TCAP registers (R414, R417, R418). -/
def State.statTimed (s : State) (seat off v : Nat) : Nat :=
  if 0x400 ≤ off ∧ off < 0x600 then
    let o := s.tout ((off - 0x400) / 32)
    if off % 32 = 0x1C then lo32 (o.nextEdge.getD 0)
    else if off % 32 = 0 then F.TOUT_CFG_ARM.put (one o.armed) v
    else v
  else if 0x600 ≤ off ∧ off < 0x640 then
    let k := (off - 0x600) / 16
    let e := s.tcapLatch seat k
    if off % 16 = 4 then (match (s.tcap k).fifo with
      | x :: _ => lo32 x.ns
      | [] => 0)
    else if off % 16 = 8 then hi32 e.2.ns
    else if off % 16 = 12 then
      F.TCAP_INFO_VALID.put (one e.1) (F.TCAP_INFO_RISING.put (one e.2.rising) (F.TCAP_INFO_STEP_GEN.put e.2.gen v))
    else v
  else s.statTime seat off v

/-- SERVO (R443). -/
def State.statServo (s : State) (off v : Nat) : Nat :=
  if off = 0x00C then
    F.SERVO_STAT_A_LOST_N.put (ones (s.lostMap true 0 16) 16) (F.SERVO_STAT_B_LOST_N.put (ones (s.lostMap false 0 64) 64) v)
  else if off = 0x100 then s.lostMap true 0 16
  else if off = 0x104 then s.lostMap false 0 32
  else if off = 0x108 then s.lostMap false 32 32
  else v

/-- Class-A slots (R444). -/
def State.statSva (s : State) (n off v : Nat) : Nat :=
  if n = 0 ∧ off = 0x100 then bitsOf v 19 1 * 2 ^ 19
  else if F.SA_STAT_ACTIVE.off = off ∨ F.SA_STAT_ACTIVE.off + 0x700 = off then
    let k := 2 * n + F.SA_STAT_ACTIVE.rep off
    F.SA_STAT_ACTIVE.put (one (s.saActive k)) (F.SA_STAT_ACT_IGNORED.put (one (s.actIgnored k)) v)
  else v

/-- Class-B slots (R445). -/
def State.statSvb (s : State) (n off v : Nat) : Nat :=
  if F.SB_STAT_ACTIVE.off ≤ off ∧ (off - F.SB_STAT_ACTIVE.off) % 0xF0 = 0 ∧ F.SB_STAT_ACTIVE.rep off < 16 then
    let k := 16 * n + F.SB_STAT_ACTIVE.rep off
    F.SB_STAT_ACTIVE.put (one (s.sbActive k)) (F.SB_STAT_AT_TARGET.put (one (s.sbAtTarget k)) v)
  else v

/-! ### Heat, events, update, check values -/

/-- HK (R505). -/
def State.statHk (s : State) (off v : Nat) : Nat :=
  if off = 0x00C then F.HK_STAT_OFF_N.put (min s.house.offList.length 0xFFFF) v
  else if 0x130 ≤ off ∧ off < 0x150 then mapWord s.house.holds ((off - 0x130) / 4)
  else v

/-- A condition of some page raises the source. -/
def sourceReal (n : Nat) : Bool :=
  decide (n < 6 ∨ (8 ≤ n ∧ n < 14) ∨ (16 ≤ n ∧ n < 28) ∨ (64 ≤ n ∧ n < 73) ∨ (80 ≤ n ∧ n < 93) ∨ (128 ≤ n ∧ n < 136) ∨
    (160 ≤ n ∧ n < 167) ∨ n = 192 ∨ n = 193 ∨ (200 ≤ n ∧ n < 232) ∨ (256 ≤ n ∧ n < 849) ∨ n = 864 ∨ n = 872 ∨ n = 896 ∨
    (912 ≤ n ∧ n < 928))

/-- EVT_SRC_INFO of a source (R530). -/
def State.sourceInfo (s : State) (n : Nat) : Nat :=
  let r := s.evt.routed.find? (fun e => e.1 == n)
  if sourceReal n then
    one (s.asserted.contains n) * 2 ^ 31 + one (s.evt.held.contains n) * 2 ^ 30 + one r.isSome * 2 ^ 29 +
      (r.map (·.2)).getD 0 * 2 ^ 24 + s.level n * 2 ^ 16 + s.elig n
  else 0

/-- EVT (R530). -/
def State.statEvt (s : State) (seat off v : Nat) : Nat :=
  if off = 0x00C then
    F.EVT_STAT_PRESENT.put (mapOf ((List.range 16).filter s.present)) (F.EVT_STAT_PLAYOUT.put (one s.play.running)
      (F.EVT_STAT_PLAYOUT_PEND.put (one (s.play.loading || s.play.pending)) (F.EVT_STAT_HELD_N.put s.evt.held.length v)))
  else if off = 0x150 then s.sourceInfo (s.fld (seatKey seat pEvt) F.EVT_SRC_SEL_SOURCE)
  else if 0x200 ≤ off ∧ off < 0x300 then mapWord s.evt.held ((off - 0x200) / 4)
  else v

/-- Sources pending on a seat. -/
def State.pendingOn (s : State) (seat : Nat) : List Nat := (s.evt.routed.filter (fun e => e.2 == seat)).map (·.1)

/-- EVTP (R531). -/
def State.statEvtp (s : State) (k off v : Nat) : Nat :=
  let w := (List.range 64).filter (fun i => (s.pendingOn k).any (fun n => n / 32 == i))
  if off = 0x118 then s.sumLevels k
  else if off = 0x11C then mapWord w 0
  else if off = 0x120 then mapWord w 1
  else if off = 0x128 then F.EVTP_STAT_PRESENT.put (one (s.present k)) v
  else if 0x200 ≤ off ∧ off < 0x300 then mapWord (s.pendingOn k) ((off - 0x200) / 4)
  else v

/-- UPD (R565). -/
def State.statUpd (s : State) (off v : Nat) : Nat :=
  if off = 0x00C then
    F.UPD_STAT_CONFIRMED.put (one s.confirmed) (F.UPD_STAT_TRIALS.put s.trials (F.UPD_STAT_STAGED.put (one (s.flag 2 0))
      (F.UPD_STAT_SPARE_COMMIT.put (match s.spare with
        | some k => one (s.flag k 0)
        | none => 0) v)))
  else v

/-- A word with its 32 bits in reverse order. -/
def rev32 (x : Nat) : Nat := ((List.range 32).map (fun i => one (bit x i) * 2 ^ (31 - i))).sum

/-- CRC_RESULT of a unit (R560). -/
def State.crcResult (s : State) (n : Nat) : Nat :=
  let v := s.fld (pCrc n) F.CRC_VALUE_V
  Nat.xor (if s.fld (pCrc n) F.CRC_CFG_REFIN = s.fld (pCrc n) F.CRC_CFG_REFOUT then v else rev32 v)
    (s.fld (pCrc n) F.CRC_XOROUT_XOROUT)

/-! ### The word of a register as it is read -/

/-- The blocks whose status follows other state. -/
def State.statBlk (s : State) (seat : Nat) (l : Loc) (v : Nat) : Nat :=
  match l.blk with
  | .sys => s.statSys l.off v
  | .seat => if l.off = 0x100 ∧ l.inst = 0 then F.SEAT_CFG_ENABLE.put 1 v else v
  | .therm => if l.off = 0x00C then F.THERM_STAT_HOLD.put (one s.house.dieHold) v else v
  | .hk => s.statHk l.off v
  | .crc => if l.off = 0x114 then s.crcResult l.inst else v
  | .upd => s.statUpd l.off v
  | .evt => s.statEvt seat l.off v
  | .evtp => s.statEvtp l.inst l.off v
  | .time => s.statTimed seat l.off v
  | .servo => s.statServo l.off v
  | .sva => s.statSva l.inst l.off v
  | .svb => s.statSvb l.inst l.off v
  | .ing => s.statIng l.off v
  | .flow => s.statFlow l.inst l.off v
  | .cmp => s.statCmp l.off v
  | .view => s.statView l.inst l.off v
  | .lyr => if (layersOn s.force).contains l.inst then s.statLayer (layerOf s.force l.inst) l.off v else v
  | .map => s.statMap l.off v
  | .tile => if l.off = 0x3C then F.TL_STAT_ACTIVE.put (s.ff (pTile l.inst) F.TL_CFG_ENABLE) v else v
  | .zone => s.statZone l.off v
  | .zn => s.statZn l.inst l.off v
  | .wl => s.statWl l.inst l.off v
  | .ser => s.statSer l.inst l.off v
  | .cor => if l.off = F.COR_PFIX_P_FIX.off then F.COR_PFIX_P_FIX.put (wholeWatts (idleSum s.force) 10) v else v
  | .memch => if l.off = 0x100 then F.MC_STAT_TEMP.put (ofS 16 (s.chanTemp l.inst)) v else v
  | _ => v

/-- The computed fields of a stored word `v` at address `a`, as a seat sees them. -/
def State.status (s : State) (seat : Nat) (l : Loc) (a v : Nat) : Nat :=
  if isWindow l.blk = false ∧ l.off < 0x100 ∧ (l.off = 0 ∨ l.off = 0x020) then s.statHdr l (a - l.off) v
  else s.statBlk seat l v

end Sys2Proof.Machine
end

