-- ==== Sys2Proof/Machine/Access.lean ====
section
/-!
DEFINITION. Register access (R18 to R28, R103, R113 to R116, R120, R122): reads with their latches and
side effects, writes with their permission, reserved values and actions, the boot record's writes (R83).
-/
namespace Sys2Proof.Machine

/-! ### Places -/

/-- Pages whose _EVT_PEND, _EVT_EN and _EVT_LVL read 0 and ignore writes (R257, R531, R532, R566). -/
def noEvents (b : Blk) : Bool := b == .map || b == .cor || b == .zone || b == .evtp || b == .ember || b == .crc

/-- The event registers of such a page. -/
def Loc.mute (l : Loc) : Bool := noEvents l.blk && (l.off == 0x010 || l.off == 0x014 || l.off == 0x018)

/-- Registers that exist once per seat (R131, R294, R530). -/
def Loc.seatCopy (l : Loc) : Bool :=
  (l.blk == .ring && decide (0x100 ≤ l.off ∧ l.off ≤ 0x110)) || (l.blk == .cmp && decide (0x510 ≤ l.off ∧ l.off ≤ 0x520)) ||
    (l.blk == .evt && l.off == 0x14C)

/-- The page whose _OWNER governs a place (R46, R101). -/
def Loc.page (l : Loc) (a : Nat) : Nat :=
  match l.blk with
  | .rstate => pRing
  | .flow => pIng
  | .tile => pMap
  | .zn => pZone
  | _ => a - a % 0x1000

/-- CMP_COEF_DATAk. -/
def Loc.coef (l : Loc) : Bool := l.blk == .cmp && decide (0x10C ≤ l.off ∧ l.off ≤ 0x118)

/-- The coefficient word that CMP_COEF_SEL places under CMP_COEF_DATAk (R217). -/
def State.coefAt (s : State) (off : Nat) : Nat :=
  coefKey (s.fld pCmp F.CMP_COEF_SEL_BANK) (s.fld pCmp F.CMP_COEF_SEL_AXIS) (s.fld pCmp F.CMP_COEF_SEL_PHASE) ((off - 0x10C) / 4)

/-- Where the word of a register is kept for a seat. -/
def State.keyOf (s : State) (seat : Nat) (l : Loc) (a : Nat) : Nat :=
  if l.coef then s.coefAt l.off else if l.seatCopy then seatKey seat a else a

/-! ### _LO/_HI pairs (R28) -/

/-- The _LO registers whose pair is one quantity: block, offset, stride, repetitions, and whether the pair holds a
written value. Bitmaps, TIME_NOW, TIME_FREE and TCAP_TS are none of them (R28, R418, R421). -/
def pairTable : List (Blk × Nat × Nat × Nat × Bool) :=
  [(.seat, 0x114, 8, 2, true), (.ring, 0x104, 0, 1, true), (.eth, 0x104, 0, 1, true), (.ing, 0x114, 0, 1, false),
   (.flow, 0x010, 0, 1, true), (.cmp, 0x100, 0, 1, false), (.cmp, 0x128, 8, 2, false), (.cmp, 0x540, 8, 2, false),
   (.cmp, 0x560, 8, 3, false), (.view, 0x11C, 0, 1, true), (.view, 0x310, 0, 1, false), (.lyr, 0x138, 0, 1, false),
   (.cor, 0x100, 0, 1, true), (.cor, 0x110, 0, 1, true), (.cor, 0x130, 0, 1, false), (.ser, 0x258, 0x80, 8, true),
   (.time, 0x124, 0, 1, false), (.time, 0x130, 0, 1, false), (.time, 0x138, 0, 1, true), (.time, 0x140, 0, 1, false),
   (.time, 0x148, 0, 1, true), (.time, 0x158, 0, 1, false), (.time, 0x168, 0, 1, false), (.time, 0x404, 0x20, 16, true),
   (.svb, 0x140, 0xF0, 16, false), (.svb, 0x14C, 0xF0, 16, false), (.svb, 0x154, 0xF0, 16, false),
   (.svb, 0x160, 0xF0, 16, false), (.hk, 0x104, 0, 1, true), (.hk, 0x120, 0, 1, false), (.ember, 0x104, 8, 2, true),
   (.nvme, 0x100, 8, 3, true), (.nvme, 0x128, 0, 1, false), (.upd, 0x100, 0, 1, true)]

/-- The offset is the _LO of a pair of the table: whether the pair holds a written value. -/
def pairAt (b : Blk) (off : Nat) : Option Bool :=
  (pairTable.find? (fun e => e.1 == b && decide (e.2.1 ≤ off) &&
    (if e.2.2.1 = 0 then off == e.2.1
     else (off - e.2.1) % e.2.2.1 == 0 && decide ((off - e.2.1) / e.2.2.1 < e.2.2.2.1)))).map (·.2.2.2.2)

/-- The register is the _LO of a pair. -/
def Loc.isLo (l : Loc) : Bool := (pairAt l.blk l.off).isSome
/-- The register is the _HI of a pair. -/
def Loc.isHi (l : Loc) : Bool := decide (4 ≤ l.off) && (pairAt l.blk (l.off - 4)).isSome
/-- The same, of pairs that hold a written value. -/
def Loc.heldLo (l : Loc) : Bool := pairAt l.blk l.off == some true
/-- The same. -/
def Loc.heldHi (l : Loc) : Bool := decide (4 ≤ l.off) && pairAt l.blk (l.off - 4) == some true

/-! ### Reads -/

/-- R113, R120, R567: the state of a ring as a seat sees it. -/
def State.ringSeen (s : State) (seat n : Nat) : Bool :=
  if n < 8192 then s.ringWriter seat n
  else decide (n < 8200) || (s.ring n).role == 0 || (s.ring n).owner == seat

/-- The word at an offset of a ring's state (R120). -/
def Ring.wordAt (r : Ring) (n off : Nat) : Nat :=
  if off = 0 then r.base % 2 ^ 32 / 2 ^ 12 * 2 ^ 12 + r.space % 4 * 2 ^ 10 + r.sizeLog2 % 32 * 2 ^ 3
  else if off = 4 then r.base / 2 ^ 32 % 2 ^ 32
  else if off = 8 then r.prod % 2 ^ 32
  else if off = 12 then r.cons % 2 ^ 32
  else if off = 20 then r.role % 16 * 2 ^ 28 + r.owner % 16 * 2 ^ 24 + one (decide (8192 ≤ n ∧ n < 8200)) * 2 ^ 23 + one r.enable * 2 ^ 22
  else if off = 24 then r.err % 2 ^ 32
  else if off = 28 then r.drop % 2 ^ 32
  else 0

/-- R113: the page of another seat. -/
def Loc.foreignSeat (l : Loc) (seat : Nat) : Bool := (l.blk == .seat || l.blk == .evtp) && l.inst != seat

/-- The bits that a read returns: every field but WO (R18, R24). -/
def readMask (a : Nat) : Nat := maskWhere (fun r => r.acc ≠ .wo) a

/-- The word that a read of a register returns, without latches (R18, R24, R25, R113). -/
def State.live (s : State) (seat : Nat) (l : Loc) (a : Nat) : Nat :=
  if l.blk = .rstate then (if s.ringSeen seat l.inst then (s.ring l.inst).wordAt l.inst l.off else 0)
  else if l.foreignSeat seat || l.mute then 0
  else
    let k := s.keyOf seat l a
    s.status seat l a (s.reg k).toNat &&& readMask k

/-- Latch a word for a seat (R28, R421). -/
def State.setLatch (s : State) (seat a v : Nat) : State :=
  { s with latch := ins none (seat * 2 ^ 24 + a) (some (BitVec.ofNat 32 v)) s.latch }

/-- What reading a register does: the latch of R28, the four of R421, the FIFO of R418, counts that reading
clears (R259, R475). -/
def State.afterRead (s : State) (seat : Nat) (l : Loc) (a : Nat) : State :=
  if l.foreignSeat seat then s
  else if l.isLo then s.setLatch seat (a + 4) (s.live seat { l with off := l.off + 4 } (a + 4))
  else if l.blk = .time ∧ l.off = 0x110 then
    (((s.setLatch seat (a + 4) (hi32 s.now)).setLatch seat (a + 8) (s.clk.time % 2 ^ 16)).setLatch seat (a + 12)
      (lo32 s.clk.free)).setLatch seat (a + 16) (hi32 s.clk.free)
  else if l.blk = .time ∧ 0x600 ≤ l.off ∧ l.off < 0x640 ∧ l.off % 16 = 4 then s.tcapPop seat ((l.off - 0x600) / 16)
  else if l.blk = .cor ∧ l.off = 0x12C then s.setReg a 0
  else if l.blk = .memch ∧ l.off = 0x100 then s.setFld (pMc l.inst) F.MC_STAT_HELD_MAX 0
  else s

/-- The value that a seat's read returns: a latched _HI, or the live word. -/
def State.readValue (s : State) (seat : Nat) (l : Loc) (a : Nat) : Nat :=
  if l.isHi && !l.foreignSeat seat then s.latched seat a (s.live seat l a) else s.live seat l a

/-- Register access works from READY, in Active and Standby. -/
def State.reachable (s : State) : Bool := s.pow.up && s.ready && !s.pow.sleeping

/-- Register access works for the seat: the engine is reachable and the seat exists (R107, R117). -/
def State.serves (s : State) (seat : Nat) : Bool := s.reachable && s.exists? seat

/-- A seat reads the register at a byte address (R25, R27). -/
def State.hostRead (s : State) (seat addr : Nat) : State × Word :=
  let a := addr - addr % 4
  if s.serves seat = false then (s, 0)
  else match locate a with
    | none => (s, 0)
    | some l => (s.afterRead seat l a, BitVec.ofNat 32 (s.readValue seat l a))

/-! ### Reserved values (R23) -/

/-- Reserved values of lane registers (R351, R383, R384, R391). -/
def reservedLane (off v : Nat) : Bool :=
  let r := (off - 0x200) % 0x80
  if off < 0x200 then false
  else if r = 0x54 then
    bitsOf v 24 3 == 0 || decide (5 < bitsOf v 24 3) || decide (3 < bitsOf v 27 3) || decide (9 < bitsOf v 20 4)
  else if r = 0x30 then decide (16 < bitsOf v 0 5 ∨ 24 < bitsOf v 8 5 ∨ 32 < bitsOf v 0 5 + bitsOf v 8 5)
  else if r = 0x50 then decide (100 < bitsOf v 16 7)
  else false

/-- Reserved values of TIME registers (R410, R417, R421). -/
def reservedTime (off v : Nat) : Bool :=
  if off = 0x100 then
    bitsOf v 30 2 == 3 || bitsOf v 25 2 == 3 || decide (bitsOf v 4 4 < 2 ∨ 10 < bitsOf v 4 4)
  else if off = 0x10C then decide (bitsOf v 0 20 = 0 ∨ 999999 < bitsOf v 0 20)
  else if 0x200 ≤ off ∧ off < 0x280 ∧ off % 16 = 0 then bitsOf v 29 2 == 3
  else if 0x600 ≤ off ∧ off < 0x640 ∧ off % 16 = 0 then bitsOf v 29 2 == 0
  else false

/-- Reserved values of class-A registers of page SVLm (R444); slot A0 ignores writes of SRC (R429). -/
def reservedSva (m off v : Nat) : Bool :=
  if (off = 0x100 ∧ m ≠ 0) ∨ off = 0x800 then bitsOf v 28 3 != 1 && bitsOf v 28 3 != 2
  else if off = 0x11C ∨ off = 0x81C then decide (47 < bitsOf v 0 6 ∨ 47 < bitsOf v 8 6 ∨ 47 < bitsOf v 16 6)
  else false

/-- R117: a write that sets SEAT_EVT_RING VALID names a role-4 ring of the seat. -/
def State.badEventRing (s : State) (seat v : Nat) : Bool :=
  let n := bitsOf v 0 14
  bit v 31 && (decide (n < 8200) || (s.ring n).role != 4 || (s.ring n).owner != seat)

/-- R23: the write puts a reserved value into an RW field. -/
def State.reservedWrite (s : State) (l : Loc) (v : Nat) : Bool :=
  match l.blk with
  | .hk => l.off == 0x100 && decide (64 < bitsOf v 0 8)
  | .time => reservedTime l.off v
  | .sva => reservedSva l.inst l.off v
  | .mem => decide (0x110 ≤ l.off ∧ l.off ≤ 0x128) && (bitsOf v 4 4 == 0 || decide (bitsOf v 4 4 ≤ bitsOf v 0 4))
  | .memch => l.off == 0x11C && decide (100 < bitsOf v 16 7)
  | .ser => reservedLane l.off v
  | .upd => l.off == 0x128 && bitsOf v 0 16 == 0
  | .seat => l.off == 0x124 && s.badEventRing l.inst v
  | _ => false

/-! ### What a write does -/

/-- The bits of an RW or RWC field. -/
def holdMask (a : Nat) : Word := BitVec.ofNat 32 (maskWhere (fun r => r.acc = .rw || r.acc = .rwc) a)
/-- The bits of a W1C field. -/
def clearMask (a : Nat) : Word := BitVec.ofNat 32 (accMask .w1c a)
/-- The bits of an RWB field. -/
def bootMask (a : Nat) : Word := BitVec.ofNat 32 (accMask .rwb a)

/-- RW and RWC fields take the value, W1C fields clear (R18). -/
def storedWord (key : Nat) (old v : Word) : Word :=
  ((old &&& ~~~ holdMask key) ||| (v &&& holdMask key)) &&& ~~~ (v &&& clearMask key)

/-- The layers of CMP_LYR_ALERTm that hold no enabled pending condition: their bits may clear (R218). -/
def State.ackLayers (s : State) (m v : Nat) : Nat :=
  mapOf ((List.range 32).filter (fun i => bit v i &&
    ((s.reg (pLyr (32 * m + i) + 0x10)).toNat &&& (s.reg (pLyr (32 * m + i) + 0x14)).toNat) == 0))

/-- The bits of a value that take part in the store: CMP_LYR_ALERT (R218), seam group 0 (R243), TIME_RATE while
SYNC_SRC is not 0 (R420), TIME_RATE itself, which the clock holds, and the fields that slot A0 ignores (R429), apart. -/
def State.effective (s : State) (l : Loc) (v : Nat) : Option Nat :=
  if l.blk = .cmp ∧ 0x140 ≤ l.off ∧ l.off < 0x160 then some (s.ackLayers ((l.off - 0x140) / 4) v)
  else if l.blk = .sva ∧ l.inst = 0 ∧ l.off = 0x100 then some (bitsOf v 19 1 * 2 ^ 19)
  else if l.blk = .cor ∧ (l.off = 0x200 ∨ l.off = 0x204) then none
  else if l.blk = .time ∧ (l.off = 0x138 ∨ l.off = 0x13C) then none
  else some v

/-- Store a written word. -/
def State.storeReg (s : State) (seat : Nat) (l : Loc) (a v : Nat) : State :=
  match s.effective l v with
  | some w =>
    let k := s.keyOf seat l a
    s.setReg k (storedWord k (s.reg k) (BitVec.ofNat 32 w))
  | none => s

/-- Actions of SYS, HK, MEM, ETH, ING, flows, links, COR, RING, EVT and UPD registers. -/
def State.doPlain (s : State) (seat : Nat) (l : Loc) (v : Nat) : State :=
  match l.blk with
  | .sys => if l.off = 0x008 then s.restart v else s
  | .ember => if l.off = 0x100 then s.pwrCmd v false else s
  | .mem => if l.off = 0x008 ∧ bit v 0 = true then s.retrainMem else s
  | .eth => if l.off = 0x160 ∧ bit v 0 = true then s.ethClear l.inst else s
  | .ing => if l.off = 0x100 then s.ingPush seat (bitsOf v 0 6) else s
  | .flow => if l.off = 0x3FC ∧ bit v 0 = true then s.flowClear l.inst else s
  | .wl => if l.off = 0x008 ∧ bit v 0 = true then s.wlClear l.inst else s
  | .cor => if l.off = 0x118 ∧ bit v 31 = true then s.respGo (bitsOf v 8 8) (bitsOf v 0 8) else s
  | .ring => if l.off = 0x100 then (s.ringOp seat (bitsOf v 28 4) (bitsOf v 0 14)).when
      (decide (bitsOf v 28 4 % 2 = 0 ∧ bitsOf v 0 14 < 8192)) (·.grantTile (bitsOf v 0 14 / 2) 64) else s
  | .evt => if l.off = 0x144 ∧ bit v 0 = true then s.playoutStop else s
  | .upd => if l.off = 0x10C then s.updCmd v else if l.off = 0x120 then s.jobCtl v else s
  | .nvme => if l.off = 0x118 then s.nvmeCmd seat v else s
  | .lyr => if l.off = 0x010 ∨ l.off = 0x014 then s.lyrAlert l.inst else s
  | .memch => if l.off = 0x018 then s.setReg (pMc (Nat.xor l.inst 1) + 0x18) (s.reg (pMc l.inst + 0x18)) else s
  | _ => s

/-- Actions of HK registers (R494, R495, R502). -/
def State.doHk (s : State) (off v : Nat) : State :=
  if off = 0x008 ∧ bit v 0 = true then s.scanStarts
  else if off = 0x110 ∧ bitsOf v 16 16 = 0x5A55 then
    s.setHouse { s.house with unblankReq := insertNat (bitsOf v 0 8) s.house.unblankReq }
  else if off = 0x118 then s.lampCmd v
  else s

/-- Actions of CMP registers (R281). -/
def State.doCmp (s : State) (seat off v : Nat) : State :=
  if off = 0x518 ∧ bit v 31 = true then s.cancelGo seat (bitsOf v 0 8) else s

/-- Actions of EVTP registers (R512, R519). -/
def State.doEvtp (s : State) (k off v : Nat) : State :=
  if off = 0x108 then s.enterWrite k v else if off = 0x10C then s.exitWrite k v else if off = 0x124 then s.aliveWrite k else s

/-- Actions of TOUT_CFG (R412, R414). -/
def State.doTout (s : State) (k v : Nat) : State :=
  let s := (s.freePol k).when (bit v 31) (·.toutArm k)
  let s := s.when (bit v 30) (·.toutDisarm k)
  (s.freePol k).driveTout k

/-- TIME_RATE completes at its _HI (R28, R395, R420): the low half pending, or in force. -/
def State.doRate (s : State) (low : Option Word) (v : Nat) : State :=
  if s.fld pTime F.TIME_CFG_SYNC_SRC = 0 then
    let lo := match low with
      | some w => w.toNat
      | none => lo32 s.clk.rateWord
    s.setRate (toS 40 (v % 2 ^ 8 * 2 ^ 32 + lo))
  else s

/-- Actions of TIME registers; `was` is the word before. -/
def State.doTime (s : State) (off : Nat) (was : Word) (v : Nat) : State :=
  if off = 0x100 then ((s.syncSrcChanged (bitsOf was.toNat 30 2)).judgePps.hearMasters).settle
  else if 0x200 ≤ off ∧ off < 0x280 ∧ off % 16 = 0 then s.hearMasters.settle
  else if off = 0x150 ∧ bitsOf v 16 16 = 0x5A53 then s.stepCtl (bitsOf v 0 2)
  else if 0x400 ≤ off ∧ off < 0x600 ∧ off % 32 = 0 then s.doTout ((off - 0x400) / 32) v
  else s

/-- Actions of class-A slots: CMD, and a change of EN, SRC, FLOW or TCAP, which acts as RESET (R440); slot A0 ignores
writes of those (R429). -/
def State.doSva (s : State) (n off : Nat) (was : Word) (v : Nat) : State :=
  if off = 0x13C ∨ off = 0x83C then s.servoCmd true (2 * n + (off - 0x13C) / 0x700) v
  else if ((off = 0x100 ∧ n ≠ 0) ∨ off = 0x800) ∧ (bitsOf was.toNat 20 12 ≠ bitsOf v 20 12) then s.saReset (2 * n + (off - 0x100) / 0x700)
  else s

/-- Actions of class-B slots. -/
def State.doSvb (s : State) (n off v : Nat) : State :=
  if 0x120 ≤ off ∧ (off - 0x120) % 0xF0 = 0 then s.servoCmd false (16 * n + (off - 0x120) / 0xF0) v else s

/-- Actions of lane registers (R379, R382). -/
def State.doSer (s : State) (n off : Nat) (was : Word) (v : Nat) : State :=
  let l := 8 * n + (off - 0x200) / 0x80
  let r := (off - 0x200) % 0x80
  if off < 0x200 ∨ 0x600 ≤ off then s
  else if r = 0x08 then (s.when (bit v 0) (·.retrainLane l)).when (bit v 1) (·.hostRegather l)
  else if r = 0x54 then s.testWritten l (bit was.toNat 31)
  else s

/-- The action of a write, after its store (R18 WO and W1S). -/
def State.doAction (s : State) (seat : Nat) (l : Loc) (a : Nat) (was : Word) (v : Nat) : State :=
  if isWindow l.blk = false ∧ l.off = 0x020 then (if bit v 31 then s.commitGo seat (a - 0x020) else s)
  else match l.blk with
    | .hk => s.doHk l.off v
    | .cmp => s.doCmp seat l.off v
    | .evtp => s.doEvtp l.inst l.off v
    | .time => s.doTime l.off was v
    | .sva => s.doSva l.inst l.off was v
    | .svb => s.doSvb l.inst l.off v
    | .ser => s.doSer l.inst l.off was v
    | _ => s.doPlain seat l v

/-- A write takes effect: nothing when it places a reserved value (R23), else the store and the action. -/
def State.takeWrite (s : State) (seat : Nat) (l : Loc) (a v : Nat) : State :=
  if s.reservedWrite l v then s
  else (s.storeReg seat l a v).doAction seat l a (s.reg (s.keyOf seat l a)) v

/-- The pending _LO half of a writer (R28). -/
def State.half (s : State) (who a : Nat) : Option Word := look none s.lowHalf (who * 2 ^ 24 + a)
/-- Set or clear it. -/
def State.setHalf (s : State) (who a : Nat) (v : Option Word) : State :=
  { s with lowHalf := ins none (who * 2 ^ 24 + a) v s.lowHalf }

/-- A permitted write by a seat: a _LO half waits for its _HI (R28). -/
def State.pairWrite (s : State) (seat : Nat) (l : Loc) (a v : Nat) : State :=
  if l.heldLo then s.setHalf seat a (some (BitVec.ofNat 32 v))
  else if l.heldHi then
    let low := s.half seat (a - 4)
    let s := s.setHalf seat (a - 4) none
    if l.blk = .time ∧ l.off = 0x13C then s.doRate low v
    else
      let s := match low with
        | some w => s.takeWrite seat { l with off := l.off - 4 } (a - 4) w.toNat
        | none => s
      s.takeWrite seat l a v
  else s.takeWrite seat l a v

/-! ### CRC_DATA (R560, R561) -/

/-- One byte fed to a unit. -/
def feedByte (refin : Bool) (poly v b : Nat) : Nat :=
  if refin then crcByte (rev32 poly) v b
  else iter (fun v => Nat.xor (v * 2 % 2 ^ 32) (if bit v 31 then poly else 0)) 8 (Nat.xor v (b * 2 ^ 24))

/-- Enabled byte lanes, lowest first; none when they are not contiguous. -/
def lanesOf (be : Nat) : List Nat :=
  if [1, 2, 4, 8, 3, 6, 12, 7, 14, 15].contains be then (List.range 4).filter (bit be) else []

/-- The enabled bytes of a word feed unit n. -/
def State.feedCrc (s : State) (n be v : Nat) : State :=
  let l := lanesOf be
  let x := l.foldl (fun x i => feedByte (s.fld (pCrc n) F.CRC_CFG_REFIN == 1) (s.fld (pCrc n) F.CRC_POLY_POLY) x (bitsOf v (8 * i) 8))
    (s.fld (pCrc n) F.CRC_VALUE_V)
  (s.setFld (pCrc n) F.CRC_VALUE_V x).inc (pCrc n) F.CRC_BYTE_CNT_BYTE_CNT 0 l.length

/-! ### Writes by seats -/

/-- A write to the ring-state window (R120, R122): an index, or a foreign write. -/
def State.ringStateWrite (s : State) (seat : Nat) (l : Loc) (a v : Nat) : State :=
  let r := s.ring l.inst
  if l.off = 8 ∧ r.hostProduces = true ∧ s.ringWriter seat l.inst = true then s.writeIndex l.inst false v
  else if l.off = 12 ∧ r.hostConsumes = true ∧ s.ringWriter seat l.inst = true then
    (s.writeIndex l.inst true v).when (decide (l.inst < 8192)) (·.grantTile (l.inst / 2) 64)
  else s.foreign seat a (BitVec.ofNat 32 v) pRing

/-- The seat may write the register (R46, R103, R131, R294, R530). -/
def State.mayWrite (s : State) (seat : Nat) (l : Loc) (a : Nat) : Bool :=
  l.seatCopy || s.owns seat (l.page a) ||
    (!isWindow l.blk && l.off == 0x010 && bit (s.fld (l.page a) F.HDR_LVL_ELIG) seat)

/-- The register has RWB fields and no field that a seat may write (R22). -/
def bootOnly (a : Nat) : Bool :=
  accMask .rwb a != 0 && maskWhere (fun r => r.acc ≠ .rwb && r.acc ≠ .ro) a == 0

/-- The write would change an RWB field (R22). -/
def State.bootTouched (s : State) (a v : Nat) : Bool := (s.reg a ^^^ BitVec.ofNat 32 v) &&& bootMask a != 0

/-- A seat's write at a place: CRC_DATA by its bytes, a foreign write, or a permitted one, in which a change of an RWB
field is dropped and handled as a foreign write (R22). -/
def State.placeWrite (s : State) (seat : Nat) (l : Loc) (a be v : Nat) : State :=
  let data := l.blk == .crc && l.off == 0x110
  if (be ≠ 15 ∧ data = false) ∨ l.mute = true then s
  else if l.blk = .rstate then s.ringStateWrite seat l a v
  else if regRows a = [] then s
  else if bootOnly a || !s.mayWrite seat l a then
    (s.foreign seat a (BitVec.ofNat 32 v) (l.page a)).when (l.blk == .ing && l.off == 0x100 && seat != 0) (·.ingPush seat (bitsOf v 0 6))
  else if data then s.feedCrc l.inst be v
  else (s.when (s.bootTouched a v) (fun s => s.foreign seat a (BitVec.ofNat 32 v) (l.page a))).pairWrite seat l a v

/-- A seat writes the register at a byte address under its byte enables (R25, R26). -/
def State.hostWrite (s : State) (seat addr be v : Nat) : State :=
  let a := addr - addr % 4
  if s.serves seat = false then s
  else match locate a with
    | none => s
    | some l => (s.placeWrite seat l a be v).settle

/-! ### Writes of the boot record (R83) -/

/-- A configuration write: as seat 0's, as though it owned every page; of the ring-state window it moves an index of a
ring of seat 0 (R120). -/
def State.cfgWrite (s : State) (addr v : Nat) : State :=
  match locate addr with
  | none => s
  | some l =>
    if l.mute ∨ (l.blk = .sys ∧ l.off = 0x008) ∨ (l.blk = .ember ∧ l.off = 0x100) ∨
        (isWindow l.blk = false ∧ l.off = 0x020) then s
    else if l.blk = .rstate then s.ringStateWrite 0 l addr v
    else if regRows addr = [] then s
    else if l.blk = .crc ∧ l.off = 0x110 then s.feedCrc l.inst 15 v
    else s.pairWrite 0 l addr v

/-- The RWB fields of a register take a value, and nothing else does. -/
def State.setBoot (s : State) (a : Nat) (v : Word) : State :=
  s.setReg a ((s.reg a &&& ~~~ bootMask a) ||| (v &&& bootMask a))

/-- A protection write: _OWNER of SEAT and EVTP pages is fixed (R115); the halves of a pair take effect together. -/
def State.protWrite (s : State) (addr v : Nat) : State :=
  match locate addr with
  | none => s
  | some l =>
    if (l.blk = .seat ∨ l.blk = .evtp) ∧ l.off = 0x01C then s
    else if l.heldLo then s.setHalf 16 addr (some (BitVec.ofNat 32 v))
    else if l.heldHi then
      let s := match s.half 16 (addr - 4) with
        | some w => s.setBoot (addr - 4) w
        | none => s
      (s.setHalf 16 (addr - 4) none).setBoot addr (BitVec.ofNat 32 v)
    else s.setBoot addr (BitVec.ofNat 32 v)

end Sys2Proof.Machine
end

