-- ==== Sys2Proof/Machine/Reach.lean ====
section
/-!
DEFINITION. How hosts reach the block: BAR0, BAR2, BAR4 and configuration requests of the PCIe endpoint
(R79, R105, R106, R167, R515), control datagrams (R107 to R111), uncorrectable codewords (R305) and the
test port (R62).
-/
namespace Sys2Proof.Machine

/-! ### BAR0 (R106) -/

/-- Bytes of a word that the byte enables select, lowest first. -/
def enabledBytes (be v : Nat) : List Byte := ((List.range 4).filter (bit be)).map (fun i => BitVec.ofNat 8 (v >>> (8 * i)))

/-- The doublewords of a write, one access each. -/
def State.writeAll (s : State) : Nat → List DWord → State
  | _, [] => s
  | a, d :: t => (if d.be = 0 then s else s.hostWrite 0 a d.be.toNat d.value.toNat).writeAll (a + 4) t

/-- The doublewords of a read, one access each, and the bytes they return. -/
def State.readAll (s : State) : Nat → List DWord → State × List Byte
  | _, [] => (s, [])
  | a, d :: t =>
    let r := if d.be = 0 then (s, 0) else s.hostRead 0 a
    let q := r.1.readAll (a + 4) t
    (q.1, enabledBytes d.be.toNat r.2.toNat ++ q.2)

/-- A request to BAR0. -/
def State.bar0 (s : State) (write : Bool) (a : Nat) (dws : List DWord) : State :=
  if s.reachable = false ∨ dws = [] then s
  else if 32 < dws.length then
    if write then s.inc pPcie F.PCIE_BAR0_ERR_CNT_DROP_CNT
    else (s.inc pPcie F.PCIE_BAR0_ERR_CNT_ABORT_CNT).emit .completerAbort
  else if write then s.writeAll a dws
  else
    let r := s.readAll a dws
    r.1.emit (.completion r.2)

/-- BAR0_REQUEST (R106): 1 to 32 doublewords are single register accesses of seat 0 in ascending order. -/
def execBar0Request (write : Bool) (addr : BitVec 24) (dws : List DWord) (s : State) : Host.Outcome State Fault Refusal :=
  .next (s.bar0 write (addr.toNat - addr.toNat % 4) dws)

/-! ### BAR2 (R167, R472) -/

/-- BAR2_ACCESS (R167, R469, R472). -/
def execBar2Access (write : Bool) (addr : BitVec 36) (bytes : List Byte) (len : Nat) (s : State) :
    Host.Outcome State Fault Refusal :=
  .next (if s.reachable = false then s
    else s.bar2Take ⟨write, addr.toNat, bytes, len⟩)

/-! ### BAR4 (R515) -/

/-- A write to BAR4: a word of the table; the Pending Bit Array is read-only. Unmasking a vector whose pending
bit is set sends it. -/
def State.bar4Write (s : State) (a : Nat) (v : Word) : State :=
  if 256 ≤ a then s
  else if a % 16 = 12 then
    let t := s.setBar4 a (v &&& 1)
    if v &&& 1 = 0 ∧ bit (s.bar4Word 0x8000).toNat (a / 16) = true then (t.setPba (a / 16) false).emit (t.msixOut (a / 16))
    else t
  else s.setBar4 a v

/-- BAR4_ACCESS (R515). -/
def execBar4Access (write : Bool) (addr : BitVec 16) (value : Word) (s : State) : Host.Outcome State Fault Refusal :=
  let a := addr.toNat - addr.toNat % 4
  .next (if s.reachable = false then s
    else if write then s.bar4Write a value
    else s.emit (.completion (leBytes 4 (s.bar4Word a).toNat)))

/-! ### Configuration requests (R79) -/

/-- The address bits of a base address register, by its doubleword, and its type bits (R105, R167): BAR0 of 16 MiB,
the 64-bit prefetchable BAR2 of 64 GiB and its upper half, BAR4 of 64 KiB; the doublewords of BAR1 and BAR5 are 0. -/
def barBits : Nat → Option (Word × Word)
  | 4 => some (0xFF000000, 0)
  | 5 => some (0, 0)
  | 6 => some (0, 0xC)
  | 7 => some (0xFFFFFFF0, 0)
  | 8 => some (0xFFFF0000, 0)
  | 9 => some (0, 0)
  | _ => none

/-- A word of PCIe configuration space: what was written there, else open. -/
def State.cfgWord (s : State) (reg : Nat) : Word :=
  let w := (look none s.cfgSpace reg).getD (Config.configWord reg)
  match barBits reg with
  | some b => (w &&& b.1) ||| b.2
  | none => w

/-- The bits of the byte lanes that are enabled. -/
def laneMask (be : Nat) : Word := BitVec.ofNat 32 (((List.range 4).filter (bit be)).map (fun i => 255 <<< (8 * i))).sum

/-- Write the enabled bytes of a word of configuration space. -/
def State.setCfgWord (s : State) (reg : Nat) (be : Nat) (v : Word) : State :=
  { s with cfgSpace := ins none reg (some ((s.cfgWord reg &&& ~~~ laneMask be) ||| (v &&& laneMask be))) s.cfgSpace }

/-- CONFIG_REQUEST (R79): Configuration Request Retry Status until READY rises, then an answer. -/
def execConfigRequest (write : Bool) (reg : BitVec 10) (be : BitVec 4) (value : Word) (s : State) :
    Host.Outcome State Fault Refusal :=
  .next (if s.pow.up = false then s
    else if s.ready = false then s.emit .retryStatus
    else if write then (s.setCfgWord reg.toNat be.toNat value).emit (.completion [])
    else s.emit (.completion (leBytes 4 (s.cfgWord reg.toNat).toNat)))

/-! ### Control datagrams (R107 to R111) -/

/-- The 64-bit words of a payload. -/
def quadsOf (bs : List Byte) : List Nat := (List.range (bs.length / 8)).map (fun i => beNat ((bs.drop (8 * i)).take 8))

/-- Slots that follow an operation word: of a push. -/
def dgSlots (w : Nat) : Nat := if bitsOf w 60 4 = 3 then bitsOf w 32 8 else 0
/-- Slots that the reply to an operation may hold: of a pull. -/
def dgPull (w : Nat) : Nat := if bitsOf w 60 4 = 4 then bitsOf w 32 8 else 0

/-- The operations of a datagram, each with the words that follow it; none when an OP is reserved, SLOTS is
not 1 to 32, or the words run out or are left over. -/
def dgOps : Nat → List Nat → Option (List (Nat × List Nat))
  | 0, ws => if ws = [] then some [] else none
  | _ + 1, [] => none
  | n + 1, w :: t =>
    let op := bitsOf w 60 4
    let k := 4 * dgSlots w
    if op = 0 ∨ 4 < op ∨ (2 < op ∧ (bitsOf w 32 8 = 0 ∨ 32 < bitsOf w 32 8)) ∨ t.length < k then none
    else (dgOps n (t.drop k)).map ((w, t.take k) :: ·)

/-- A datagram's header: MAGIC, VERSION, SEAT, OPS and SEQ of its first word. -/
structure DgHeader where
  magic : Nat
  version : Nat
  seat : Nat
  ops : Nat
  seq : Nat
  deriving DecidableEq, Repr

/-- The header in a word. -/
def dgHeader (w : Nat) : DgHeader := ⟨bitsOf w 48 16, bitsOf w 44 4, bitsOf w 40 4, bitsOf w 32 8, bitsOf w 0 32⟩

/-- R111, and the operations of a well-formed datagram. -/
def dgParse (bs : List Byte) : Option (List (Nat × List Nat)) :=
  let ws := quadsOf bs
  let h := dgHeader (ws.getD 0 0)
  if 1472 < bs.length ∨ bs.length % 8 ≠ 0 ∨ ws.length < 2 ∨ h.magic ≠ 0x5A43 ∨ h.version ≠ 1 ∨ 64 < h.ops then none
  else
    match dgOps h.ops ((ws.drop 1).dropLast) with
    | none => none
    | some l => if 1472 < 16 + 8 * l.length + 32 * (l.map (fun o => dgPull o.1)).sum then none else some l

/-- The last four bytes of a datagram hold the CRC of the bytes before them (R108). -/
def dgCrcOk (bs : List Byte) : Bool :=
  decide (8 ≤ bs.length) && beNat (bs.drop (bs.length - 4)) == crc32c (bs.take (bs.length - 4))

/-- R107, R110, R111: why a datagram is dropped, as LAST_ERR gives it; 0 when it is answered. -/
def State.dgError (s : State) (port : Nat) (v6 : Bool) (ip udp : Nat) (bs : List Byte) : Nat :=
  let h := dgHeader ((quadsOf bs).getD 0 0)
  let p := pSeat h.seat
  if h.seat = 0 ∨ s.fld p F.SEAT_CFG_ENABLE = 0 then 3
  else if s.fld p F.SEAT_CFG_ETH_PORT ≠ port then 2
  else if (s.fld p F.SEAT_CFG_IPV6 == 1) ≠ v6 ∨ s.hostAddr h.seat ≠ ip ∨ s.fld p F.SEAT_CFG_HOST_UDP ≠ udp then 1
  else if dgCrcOk bs = false then 4
  else if dgParse bs = none then 5
  else if (look ⟨false, []⟩ s.dgs h.seat).seen = true ∧
      toS 32 ((h.seq + 2 ^ 32 - s.fld p F.SEAT_SEQ_SEQ) % 2 ^ 32) < 0 then 6
  else 0

/-- The write would be a foreign write (R22, R114, R120, R131). -/
def State.foreignWrite (s : State) (seat addr v : Nat) : Bool :=
  let a := addr - addr % 4
  match locate a with
  | none => false
  | some l =>
    if l.mute then false
    else if l.blk = .rstate then
      !(s.ringWriter seat l.inst && ((l.off == 8 && (s.ring l.inst).hostProduces) || (l.off == 12 && (s.ring l.inst).hostConsumes)))
    else !(regRows a).isEmpty && (bootOnly a || !s.mayWrite seat l a || s.bootTouched a v)

/-- A result word: the operation's with STATUS. -/
def dgResult (w status : Nat) : Nat := setBits w 56 4 status

/-- STATUS of a push or pull before anything moves (R108, R123): 3, 4, or 0. -/
def State.dgRing (s : State) (seat n : Nat) (pull : Bool) : Nat :=
  let r := s.ring n
  if s.ringWriter seat n = false ∨ (if pull then r.hostConsumes else r.hostProduces) = false then 3
  else if s.zeroRing r ∨ r.enable = false then 4 else 0

/-- The slots in the words that follow a push. -/
def slotBytes (ws : List Nat) : List (List Byte) :=
  (List.range (ws.length / 4)).map (fun i => quadBytes ((ws.drop (4 * i)).take 4))

/-- R109: a ring push; entries whose host memory fails are dropped and counted (R133). -/
def State.dgPushOp (s : State) (seat w : Nat) (data : List Nat) : State × List Nat :=
  let n := bitsOf w 42 14
  let r := s.ring n
  let st := s.dgRing seat n false
  if st ≠ 0 then (s, [dgResult w st])
  else if r.size < r.occ + bitsOf w 32 8 then (s, [dgResult w 2])
  else if s.hostGone r then (s.setRing n { r with drop := countUp 32 r.drop (bitsOf w 32 8) }, [dgResult w 0])
  else (s.ringWrite n (slotBytes data), [dgResult w 0])

/-- R109: a ring pull. -/
def State.dgPullOp (s : State) (seat w : Nat) : State × List Nat :=
  let n := bitsOf w 42 14
  let r := s.ring n
  let st := s.dgRing seat n true
  if st ≠ 0 then (s, [dgResult (setBits w 32 8 0) st])
  else
    let k := min r.occ (bitsOf w 32 8)
    let slots := (List.range k).map (fun i => s.slotWords r (r.cons + i))
    ((s.setRing n { r with cons := (r.cons + k) % 2 ^ 32 }).when (decide (n < 8192)) (·.grantTile (n / 2) 64),
      dgResult (setBits w 32 8 k) 0 :: slots.flatten)

/-- One operation of a datagram and the words it answers (R109). -/
def State.dgOp (s : State) (seat : Nat) (o : Nat × List Nat) : State × List Nat :=
  let w := o.1
  let a := bitsOf w 32 24
  match bitsOf w 60 4 with
  | 1 =>
    let r := s.hostRead seat a
    (r.1, [dgResult (setBits w 0 32 r.2.toNat) 0])
  | 2 =>
    (s.hostWrite seat a 15 (bitsOf w 0 32), [dgResult w (if s.foreignWrite seat a (bitsOf w 0 32) then 1 else 0)])
  | 3 => s.dgPushOp seat w o.2
  | _ => s.dgPullOp seat w

/-- The operations in order; a RESTART among them resets the engine, and the rest of the datagram with it (R88). -/
def State.dgAll (s : State) (seat : Nat) : List (Nat × List Nat) → State × List Nat
  | [] => (s, [])
  | o :: t =>
    let r := s.dgOp seat o
    if r.1.reachable = false then r
    else
      let q := r.1.dgAll seat t
      (q.1, r.2 ++ q.2)

/-- The bytes of a reply (R108). -/
def dgReply (h : DgHeader) (words : List Nat) : List Byte :=
  let w0 := 0x5A52 * 2 ^ 48 + 2 ^ 44 + h.seat * 2 ^ 40 + h.ops * 2 ^ 32 + h.seq
  let body := ((w0 :: words).map (beBytes 8)).flatten
  let body := body ++ beBytes 4 0
  body ++ beBytes 4 (crc32c body)

/-- Where a reply goes: the request's MAC address, and back from its destination to its source (R107, R145). -/
structure DgPath where
  mac : BitVec 48
  ip : Nat
  udp : Nat
  deriving DecidableEq, Repr

/-- Send a reply from a port. -/
def State.dgSend (s : State) (port seat : Nat) (d : DgPath) (bs : List Byte) : State :=
  s.txFrame port d.mac.toNat (.datagram seat ⟨s.sourceIp port d.ip, d.ip, 23127, d.udp⟩ bs)

/-- Execute a datagram, store its reply and send it (R109, R110); one that resets the engine leaves neither. -/
def State.dgExecute (s : State) (port : Nat) (d : DgPath) (h : DgHeader) (ops : List (Nat × List Nat)) : State :=
  let r := s.dgAll h.seat ops
  if r.1.reachable = false then r.1
  else
  let reply := dgReply h r.2
  let s := r.1.setFld (pSeat h.seat) F.SEAT_SEQ_SEQ h.seq
  { s with dgs := ins ⟨false, []⟩ h.seat ⟨true, reply⟩ s.dgs }.dgSend port h.seat d reply

/-- A control datagram arrives at a port's own address. -/
def State.control (s : State) (port : Nat) (v6 : Bool) (ip udp : Nat) (mac : BitVec 48) (bs : List Byte) : State :=
  if bs.length < 8 then s
  else
    let h := dgHeader ((quadsOf bs).getD 0 0)
    let e := s.dgError port v6 ip udp bs
    let d := look ⟨false, []⟩ s.dgs h.seat
    if e ≠ 0 then (s.inc (pSeat h.seat) F.SEAT_DG_DROP_DROP_CNT).setFld (pSeat h.seat) F.SEAT_DG_DROP_LAST_ERR e
    else if d.seen = true ∧ s.fld (pSeat h.seat) F.SEAT_SEQ_SEQ = h.seq then
      s.dgSend port h.seat ⟨mac, ip, udp⟩ d.reply
    else (s.dgExecute port ⟨mac, ip, udp⟩ h ((dgParse bs).getD [])).settle

/-- CONTROL_DATAGRAM (R107 to R111). Ports carry frames from READY while their link is up. -/
def execControlDatagram (port : PortNo) (v6 : Bool) (srcIp : BitVec 128) (srcUdp : BitVec 16) (srcMac : BitVec 48)
    (payload : List Byte) (s : State) : Host.Outcome State Fault Refusal :=
  .next (if s.reachable = false ∨ s.portUp port.val = false then s
    else s.control port.val v6 srcIp.toNat srcUdp.toNat srcMac payload)

/-! ### The test port (R62) -/

/-- The next state of the TAP controller of IEEE 1149.1: 0 Test-Logic-Reset, 1 Run-Test/Idle, 2 to 8 Select,
Capture, Shift, Exit1, Pause, Exit2 and Update of data, 9 to 15 of instructions. -/
def tapNext (st : Nat) (tms : Bool) : Nat :=
  match st, tms with
  | 0, true => 0
  | 0, false => 1
  | 1, true => 2
  | 1, false => 1
  | 2, true => 9
  | 2, false => 3
  | 3, true => 5
  | 3, false => 4
  | 4, true => 5
  | 4, false => 4
  | 5, true => 8
  | 5, false => 6
  | 6, true => 7
  | 6, false => 6
  | 7, true => 8
  | 7, false => 4
  | 8, true => 2
  | 8, false => 1
  | 9, true => 0
  | 9, false => 10
  | 10, true => 12
  | 10, false => 11
  | 11, true => 12
  | 11, false => 11
  | 12, true => 15
  | 12, false => 13
  | 13, true => 14
  | 13, false => 13
  | 14, true => 15
  | 14, false => 11
  | _, true => 2
  | _, false => 1

/-- The instruction in force, where every other code selects BYPASS. -/
def tapCode (ir : Nat) : Nat := if ir ≤ 5 then ir else 0xF

/-- The instruction selects the boundary register. -/
def tapBoundary (ir : Nat) : Bool := decide (tapCode ir ≤ 3)

/-- A shift of a register: the cell nearest TDO leaves, TDI enters. -/
def tapShift (l : List Bool) (tdi : Bool) : List Bool := l.drop 1 ++ [tdi]

/-- What the rising edge does in a state of the controller. -/
def Tap.clock (t : Tap) (tdi : Bool) (cells : List TestCell) : Tap :=
  match t.state with
  | 3 => { t with shift := if tapBoundary t.ir then cells.map (·.level) else [false] }
  | 4 => { t with shift := tapShift t.shift tdi }
  | 10 => { t with irShift := 1 }
  | 11 => { t with irShift := t.irShift / 2 + (if tdi then 8 else 0) }
  | _ => t

/-- What the falling edge does in the state that the controller has entered. In Run-Test/Idle EXTEST_PULSE inverts the
AC-coupled outputs and EXTEST_TRAIN toggles them with every clock (IEEE 1149.6). -/
def Tap.update (t : Tap) : Tap :=
  let t := { t with flip := t.state == 1 && (tapCode t.ir == 2 || (tapCode t.ir == 3 && !t.flip)) }
  match t.state with
  | 0 => { t with ir := 0xF }
  | 8 => if tapBoundary t.ir then { t with held := t.shift } else t
  | 15 => { t with ir := t.irShift }
  | _ => t

/-- What the held cells drive, cell by cell: `on` is the value of an output-enable cell just before; an AC-coupled
output is inverted by `flip`. -/
def drivenCells (flip on : Bool) : List TestCell → List Bool → List (Option Bool)
  | c :: cs, b :: bs =>
    match c.kind with
    | .input => none :: drivenCells flip true cs bs
    | .enable => none :: drivenCells flip b cs bs
    | .output => (if on then some (b != (c.ac && flip)) else none) :: drivenCells flip true cs bs
  | _ :: cs, [] => none :: drivenCells flip true cs []
  | [], _ => []
  termination_by structural cs _ => cs

/-- The pins: driven from the held cells under EXTEST and its AC forms and under CLAMP, none under HIGHZ. -/
def Tap.pins (t : Tap) (cells : List TestCell) : List Out :=
  match tapCode t.ir with
  | 1 => []
  | 0xF => []
  | 4 => [.testPins (cells.map (fun _ => none))]
  | _ => [.testPins (drivenCells t.flip true cells t.held)]

/-- TDO: driven in the Shift states only. -/
def Tap.tdo (t : Tap) : List Out :=
  if t.state = 4 then [.tdo (t.shift.headD false)] else if t.state = 11 then [.tdo (bit t.irShift 0)] else []

/-- One clock of the test port. -/
def Tap.edge (t : Tap) (tms tdi : Bool) (cells : List TestCell) : Tap :=
  ({ t.clock tdi cells with state := tapNext t.state tms }).update

/-- TEST_PORT_CLOCK (R62): with TRST_N low the test port stays in Test-Logic-Reset. -/
def execTestPortClock (trstN tms tdi : Bool) (cells : List TestCell) (s : State) : Host.Outcome State Fault Refusal :=
  let t := if trstN then s.tap.edge tms tdi cells else { s.tap with state := 0, ir := 0xF, flip := false }
  .next { s with tap := t, out := s.out ++ t.pins cells ++ t.tdo }

end Sys2Proof.Machine
end

