-- ==== Sys2Proof/Machine/Boot.lean ====
section
/-!
DEFINITION. The power-up path after time zero (R77 to R86, R536, R537), the wake from Sleep (R527), and the load
of a standby loop (R552, R553).
-/
namespace Sys2Proof.Machine

/-- Set BOOT_PHASE. -/
def State.setPhase (s : State) (p : Nat) : State := s.setFld pSys F.SYS_STAT_BOOT_PHASE p
/-- BOOT_PHASE. -/
def State.phase (s : State) : Nat := s.fld pSys F.SYS_STAT_BOOT_PHASE

/-! ### Slot choice (R536, R537) -/

/-- SEQUENCE of a slot's record. -/
def State.recSequence (s : State) (k : Nat) : Nat := bitsOf (s.flashWord k 2) 32 32
/-- LENGTH. -/
def State.recLength (s : State) (k : Nat) : Nat := bitsOf (s.flashWord k 1) 32 32
/-- ENTRY_CNT. -/
def State.recCount (s : State) (k : Nat) : Nat := bitsOf (s.flashWord k 1) 0 32
/-- The entries. -/
def State.recEntries (s : State) (k : Nat) : List Nat := (List.range (s.recCount k)).map (fun i => s.flashWord k (4 + i))

/-- A slot is a candidate: COMMIT set, INVALID clear, SIGNATURE, FORMAT and HDR_CRC valid. -/
def State.isCandidate (s : State) (k : Nat) : Bool :=
  s.flag k 0 && !s.flag k 5 && s.flashWord k 0 / 2 ^ 16 == 0x5A5742520001 &&
    bitsOf (s.flashWord k 3) 0 32 == crc32c (s.flashBytes (regionAt k) 24)

/-- The candidates, later SEQUENCE first; equal SEQUENCE: slot 0 first. -/
def State.candidates (s : State) : List Nat :=
  (if later 32 (s.recSequence 1) (s.recSequence 0) then [1, 0] else [0, 1]).filter s.isCandidate

/-- R83: every KIND is known, no protection write follows the lock, there is a lock. -/
def entriesOk : Bool → List Nat → Bool
  | locked, [] => locked
  | locked, e :: t =>
    let k := bitsOf e 60 4
    decide (1 ≤ k ∧ k ≤ 5) && !(k == 2 && locked) && entriesOk (locked || k == 3) t

/-- The first check of a record that fails, as BOOT_ERR gives it; 0 for none. -/
def State.recError (s : State) (k : Nat) : Nat :=
  let n := s.recLength k
  if n % 8 ≠ 0 ∨ n < 48 ∨ 2097152 < n ∨ s.recCount k ≠ n / 8 - 5 then 4
  else if bitsOf (s.flashWord k (n / 8 - 1)) 0 32 ≠ crc32c (s.flashBytes (regionAt k) (n - 8)) then 4
  else if entriesOk false (s.recEntries k) then 0 else 5

/-- What slot choice decides: the slot, the first error, the flags to program. -/
structure Choice where
  slot : Option Nat
  err : Nat
  marks : List (Nat × Nat)
  deriving DecidableEq, Repr

/-- The first of two errors. -/
def firstErr (a b : Nat) : Nat := if a = 0 then b else a

/-- The loop of R536. -/
def State.chooseFrom (s : State) : List Nat → Choice → Choice
  | [], c => c
  | k :: t, c =>
    if s.flag k 4 = false ∧ s.flag k 3 = true then s.chooseFrom t { c with marks := c.marks ++ [(k, 5)] }
    else
      let e := s.recError k
      if e ≠ 0 then
        s.chooseFrom t { c with err := firstErr c.err e, marks := c.marks ++ (if s.flag k 4 then [] else [(k, 5)]) }
      else
        let trial := ([1, 2, 3].find? (fun i => !s.flag k i)).getD 3
        { c with slot := some k, marks := c.marks ++ (if s.flag k 4 then [] else [(k, trial)]) }

/-- Program a flag (R537). -/
def State.markFlag (s : State) (e : Nat × Nat) : State :=
  ({ s with flashMem := (flagStep e.1 e.2).done s.flashMem } : State).emit (.flash (flagStep e.1 e.2))

/-- The choice `c` of the candidates `l` takes effect (R536): without a candidate no header is valid (R97). -/
def State.takeChoice (s : State) (l : List Nat) (c : Choice) : State :=
  let s := s.each c.marks State.markFlag
  let err := if l = [] then 3 else c.err
  let s := s.when (err != 0) (·.bootErr err)
  let fallback := c.slot.isSome && c.slot != l.head?
  let s := s.when (fallback || c.marks.any (fun e => e.2 == 5)) (·.setCond pUpd 2)
  let s := s.setFld pUpd F.UPD_STAT_FALLBACK (if fallback then 1 else 0)
  match c.slot with
  | some k => (s.setFld pUpd F.UPD_STAT_BOOTED k).setFld pSys F.SYS_BOOT_STAT_SLOT k
  | none => (s.setFld pUpd F.UPD_STAT_BOOTED 3).setFld pSys F.SYS_STAT_UNCONFIGURED 1

/-- The slot choice of a flash that answers. -/
def State.slotChoice (s : State) : State := s.takeChoice s.candidates (s.chooseFrom s.candidates ⟨none, 0, []⟩)

/-- No record can be read (R85). -/
def State.noRecord (s : State) (e : Nat) : State :=
  (s.bootErr e).setFld pSys F.SYS_STAT_UNCONFIGURED 1

/-- SLOT_CHOICE (R85, R536): the flash answers, and its parameter table is there and supported. -/
def execSlotChoice (flashAnswers sfdpOk : Bool) (s : State) : Host.Outcome State Fault Refusal :=
  .next (if s.pow.up && !s.pow.sleeping && s.phase == 1 then
      let s := s.setPhase 2
      if flashAnswers = false then s.noRecord 1 else if sfdpOk = false then s.noRecord 2 else s.slotChoice
    else s)

/-! ### Entries (R83, R84) -/

/-- Apply one entry. The lock needs no step of its own: after the entries nothing writes RWB fields. -/
def State.applyEntry (s : State) (e : Nat) : State :=
  let a := bitsOf e 32 24
  let a := a - a % 4
  match bitsOf e 60 4 with
  | 1 => s.cfgWrite a (bitsOf e 0 32)
  | 2 => s.protWrite a (bitsOf e 0 32)
  | 4 => s.setPow { s.pow with loads := s.pow.loads ++ [bitsOf e 48 8] }
  | 5 => s.setPow { s.pow with initCommit := true }
  | _ => s

/-- The rate that the record sets is in force from training on (R457); a reserved rate trains at 12. -/
def State.bootRate (s : State) : State :=
  let a := pMem + F.MEM_CFG_RATE.off
  let r := s.fld pMem F.MEM_CFG_RATE
  let w := if 12 ≤ r ∧ r ≤ 24 then s.shadow a else resetWord a
  { s with force := ins (resetWord a) a w s.force }

/-- The record's entries, in order. -/
def State.applyRecord (s : State) (k : Nat) : State :=
  let l := s.recEntries k
  let s := (s.each l State.applyEntry).setFld pSys F.SYS_BOOT_ENTRIES_APPLIED_CNT l.length
  s.when (s.pow.initCommit && !s.pow.loads.isEmpty) (·.setFld pSys F.SYS_STAT_INIT_COMMIT_PEND 1)

/-- APPLY_BOOT_ENTRIES (R77, R83, R360, R457): then training and the bring-up of the lanes that the record enables
start. -/
def execApplyBootEntries (s : State) : Host.Outcome State Fault Refusal :=
  .next (if s.pow.up && !s.pow.sleeping && s.phase == 2 then
      let s := if s.booted < 2 then s.applyRecord s.booted else s
      let s := s.bootRate.trainingStarts
      (s.syncFeeds (overlay [] (s.capture (fun _ => true))) 0).setPhase 4
    else s)

/-! ### Training, store loads, READY (R77, R84, R86) -/

/-- The first store load left starts. -/
def State.nextLoad (s : State) : State :=
  match s.pow.loads with
  | e :: _ => (s.setFld pSys F.SYS_STAT_STORE_LOAD_BUSY 1).engineRead 1 e
  | [] => s

/-- The initial commit is targeted, when the record holds one, every load has ended well and the engine is ready. -/
def State.tryInitial (s : State) : State :=
  if s.pow.initCommit && !s.pow.loadFailed && s.pow.loads.isEmpty && s.ready then s.queueInitial else s

/-- GDDR6_TRAINING_DONE (R77, R86, R97, R457). -/
def execGddr6TrainingDone (us : Word) (fail : BitVec 32) (trims : List ChanTrim) (s : State) :
    Host.Outcome State Fault Refusal :=
  .next (if s.pow.up && !s.pow.sleeping && s.phase == 4 then
      let s := (s.trainingEnds fail trims).setFld pSys F.SYS_BOOT_TIME_BOOT_US us.toNat
      (s.setPhase 5).nextLoad
    else s)

/-- The running store load has ended: the next one starts, or the loads have ended (R84). -/
def State.loadDone (s : State) : State :=
  let s := s.setPow { s.pow with loads := s.pow.loads.drop 1 }
  if s.pow.loads.isEmpty then
    (((s.setFld pSys F.SYS_STAT_STORE_LOAD_BUSY 0).setFld pSys F.SYS_STAT_INIT_COMMIT_PEND 0).tryInitial).settle
  else s.nextLoad.settle

/-- STORE_LOAD_DONE (R84). -/
def execStoreLoadDone (driveOk : Bool) (s : State) : Host.Outcome State Fault Refusal :=
  .next (match s.load (· == 1) with
    | none => s
    | some o =>
      let r := s.endLoad o driveOk
      (if r.2.isSome then r.1
        else ((r.1.bootErr 6).setCond pSys 2).setPow { r.1.pow with loadFailed := true }).loadDone)

/-- The first launch time and period (R265). -/
def State.firstLaunch (s : State) : Nat × Nat :=
  let t : Int := s.now + 40000 + 20000
  (gridOf s.force).first t t

/-- READY rises (R78, R98, R265, R412): G is 20 us until a commit brings a chain delay into force. -/
def State.becomeReady (s : State) : State :=
  let s := ((s.setFld pSys F.SYS_STAT_READY 1).setPhase 6).emit (.pin "READY" true)
  let s := (s.setCond pSys 0).when (!s.pow.xtal) (·.setCond pSys 4)
  let l := s.firstLaunch
  let s := s.setCyc { Cycles.reset with run := true, launch := l.1, period := l.2, prevLaunch := l.1 - l.2, prevPeriod := l.2 }
  (s.setFld pCmp F.CMP_GUARD_G_US 20).each (List.range 16) (fun s k => (s.freePol k).driveTout k)

/-- READY_RISE (R78). -/
def execReadyRise (s : State) : Host.Outcome State Fault Refusal :=
  .next (if s.pow.up && !s.pow.sleeping && s.phase == 5 then (s.becomeReady.tryInitial).settle else s)

/-! ### Wake from Sleep (R527) -/

/-- The image is restored and READY rises. The check has written the last 8 MiB (R457, R470). -/
def State.wakeWith (s : State) (i : Image) (us : Nat) : State :=
  let s := (({ s with image := none } : State).restoreImage i).loseTop
  let s := (s.setFld pEmber F.EMBER_STAT_IMAGE_VALID 0).setFld pEmber F.EMBER_STAT_IMAGE_USED 1
  let s := (s.setFld pMem F.MEM_STAT_STATE 2).setFld pMem F.MEM_STAT_RATE (s.ff pMem F.MEM_CFG_RATE)
  let s := (s.setPow { s.pow with sleeping := false }).syncFeeds s.force 2
  let s := ((s.setPstate 0).setFld pEmber F.EMBER_WAKE_TIME_US us).becomeReady
  (s.powerRecord 0 (s.fld pEmber F.EMBER_STAT_WAKE_CAUSE)).settle

/-- The power-up path runs from the wake as time zero; what GDDR6 then holds is open, as after a reset (log 32). -/
def State.wakeWithout (s : State) : State :=
  let s := (({ s with image := none } : State).loseGddr).setPow { s.pow with sleeping := false }
  ((s.setFld pEmber F.EMBER_STAT_IMAGE_VALID 0).setFld pEmber F.EMBER_STAT_IMAGE_USED 0).setPhase 1

/-- SLEEP_WAKE_READY (R470, R527): the check of GDDR6 and the CRC of the image came out as given. -/
def execSleepWakeReady (memOk imageOk : Bool) (us : Word) (s : State) : Host.Outcome State Fault Refusal :=
  .next (if s.pow.sleeping && s.pow.up then
      match s.image with
      | some i => if memOk && imageOk && s.fld pEmber F.EMBER_STAT_IMAGE_VALID == 1 then s.wakeWith i us.toNat else s.wakeWithout
      | none => s.wakeWithout
    else s)

/-! ### The standby loop's extent (R552, R553) -/

/-- Word i of a loop in GDDR6. -/
def State.loopWord (s : State) (a i : Nat) : Nat := s.peek (a + 8 * i) 8

/-- Tracks of a loop: flow, cycles per frame, frames, address of frame 0. -/
def State.loopTracks (s : State) (a n : Nat) : List (Nat × Nat × Nat × Nat) :=
  (List.range n).map (fun k =>
    let w := s.loopWord a (2 + 2 * k)
    (bitsOf w 58 6, bitsOf w 48 8, bitsOf w 0 32, a + s.loopWord a (3 + 2 * k)))

/-- SIGNATURE and FORMAT are right, TRACKS is 1 to 8, and every track has frames to show. -/
def State.loopOk (s : State) (a : Nat) : Bool :=
  let w := s.loopWord a 0
  let n := bitsOf w 0 8
  w / 2 ^ 16 == 0x5A574C500001 && decide (1 ≤ n ∧ n ≤ 8) &&
    (s.loopTracks a n).all (fun t => t.2.1 != 0 && t.2.2.1 != 0)

/-- An entry of a loop: a configuration write (R553). -/
def State.loopEntry (s : State) (e : Nat) : State :=
  let a := bitsOf e 32 24
  if bitsOf e 60 4 = 1 then s.cfgWrite (a - a % 4) (bitsOf e 0 32) else s

/-- The loop is in place at `a`: its entries become shadows and the playout commit waits for its window. -/
def State.loopStart (s : State) (a : Nat) : State :=
  let n := bitsOf (s.loopWord a 0) 0 8
  let tracks := s.loopTracks a n
  let entries := (List.range (bitsOf (s.loopWord a 1) 32 32)).map (fun i => s.loopWord a (2 + 2 * n + i))
  let s := s.each entries State.loopEntry
  let s := s.setPlay { s.play with loading := false, pending := true, tracks := tracks }
  s.queueAll 2 (s.capture (fun _ => true))

/-- PLAYOUT_LOAD_DONE (R521, R522, R553): a start withdrawn while its extent loads ends here. -/
def execPlayoutLoadDone (driveOk : Bool) (s : State) : Host.Outcome State Fault Refusal :=
  .next (match s.load (· == 2) with
    | none => s
    | some o =>
      let r := s.endLoad o driveOk
      let s := r.1
      if s.play.withdrawn then ((s.setPlay Playout.idle).tryPlayout).settle
      else
        match r.2 with
        | some en => if s.loopOk (entDest en) then (s.loopStart (entDest en)).settle else (s.playoutAdmitted 9).settle
        | none => (s.playoutAdmitted 9).settle)

end Sys2Proof.Machine
end

