-- ==== Sys2Proof/Machine/Frames.lean ====
section
/-!
DEFINITION. Ethernet frames received (R140 to R147): the checks of a port, and the consumer of each frame.
-/
namespace Sys2Proof.Machine

/-- A port's own MAC address. -/
def State.mac (s : State) (p : Nat) : Nat := s.ff (pEth p) F.ETH_MAC_HI_MAC * 2 ^ 32 + s.ff (pEth p) F.ETH_MAC_LO_MAC

/-- MAC addresses that every port takes: broadcast, those of PTP over Ethernet and over UDP, and the all-hosts
groups that general queries go to (R147). -/
def commonMacs : List Nat :=
  [0xFFFFFFFFFFFF, 0x011B19000000, 0x0180C200000E, 0x01005E000181, 0x01005E00006B, 0x333300000181, 0x33330000006B,
   0x01005E000001, 0x333300000001]

/-- R141: the port takes frames to this MAC address. -/
def State.takesMac (s : State) (p m : Nat) : Bool :=
  m == s.mac p || commonMacs.contains m || (s.port p).groups.any (fun g => groupMac g.1.toNat == m) ||
    (s.ip6 p != 0 && m == solicitedMac (s.ip6 p)) || (s.ip6ll p != 0 && m == solicitedMac (s.ip6ll p))

/-- R140: the length and the VLAN tag are accepted. -/
def State.takesFrame (s : State) (p : Nat) (f : EthFrame) : Bool :=
  decide (64 ≤ f.len ∧ f.len ≤ 9216) &&
    (match f.vlan with
    | none => s.ff (pEth p) F.ETH_CFG_VLAN_EN == 0
    | some v => s.ff (pEth p) F.ETH_CFG_VLAN_EN == 1 && v.toNat == s.ff (pEth p) F.ETH_CFG_VLAN_ID)

/-- An address is the port's own. -/
def State.ownAddress (s : State) (p : Nat) (v6 : Bool) (ip : Nat) : Bool :=
  ip != 0 && (if v6 then ip == s.ip6 p || ip == s.ip6ll p else ip == s.ip4 p)

/-- No consumer takes the frame (R142). -/
def State.unmatched (s : State) (p : Nat) : State := s.inc (pEth p) F.ETH_UNMATCHED_CNT_UNMATCHED_CNT

/-- An ARP packet (R143, R145). -/
def State.arp (s : State) (p : Nat) (sha : BitVec 48) (spa tpa : Word) (request : Bool) : State :=
  let conflict := s.ip4 p != 0 && spa.toNat == s.ip4 p && sha.toNat != s.mac p
  let s := s.when conflict (fun s => (s.setFld (pEth p) F.ETH_STAT_ADDR_CONFLICT 1).setCond (pEth p) 3)
  let s := s.learn p (BitVec.ofNat 128 spa.toNat) sha
  s.when (request && s.ip4 p != 0 && tpa.toNat == s.ip4 p) (fun s => s.txFrame p sha.toNat (.arpReply sha spa))

/-- A Multicast Listener or Membership Query of the current version: the groups concerned await a report (R147). -/
def State.query (s : State) (p : Nat) (v6 : Bool) (g : BitVec 128) : State :=
  let r := s.port p
  let asked := (r.groups.map (·.1)).filter (fun x => (decide (2 ^ 32 ≤ x.toNat) == v6) && (g == 0 || g == x))
  s.setPort p { r with reports := r.reports ++ asked.filter (fun x => !r.reports.contains x) }

/-- R142 drops the packet for its IP header. -/
def ipBad (h : IpRx) : Bool := if h.v6 then h.extension else h.options || h.fragment || !h.sumOk

/-- The checksum of a UDP datagram is accepted: right, or zero over IPv4 (R142). -/
def sumTaken (h : IpRx) : UdpSum → Bool
  | .right => true
  | .zero => !h.v6
  | .wrong => false

/-- The consumer of a UDP datagram that R142 has let through: a control datagram to the port's own address, or a flow. -/
def State.udpRx (s : State) (p : Nat) (mac : BitVec 48) (h : IpRx) (u : UdpRx) (bs : List Byte) : State :=
  if u.dstPort.toNat = 23127 ∧ s.ownAddress p h.v6 h.dst.toNat = true then
    (if s.reachable then s.control p h.v6 h.src.toNat u.srcPort.toNat mac bs else s)
  else
    let v := readRtp h u.dstPort.toNat bs
    match s.matchPath p v with
    | some (k, b) => s.flowPacket k b v
    | none => s.unmatched p

/-- The consumer of an IP packet (R142); PTP goes to TIME, by UDP ports 319 and 320. -/
def State.ipRx (s : State) (p : Nat) (f : EthFrame) (h : IpRx) (b : IpBody) : State :=
  if ipBad h then s.unmatched p
  else match b with
    | .neighbourSol target =>
      if h.v6 then
        let s := s.learn p h.src f.src
        s.when (s.ownAddress p true target.toNat) (fun s => s.txFrame p f.src.toNat (.advertisement target true))
      else s.unmatched p
    | .neighbourAdv target => if h.v6 then s.learn p target f.src else s.unmatched p
    | .query current group _ => if current then s.query p h.v6 group else s
    | .ptp u x =>
      if sumTaken h u.sum = false then s.unmatched p
      else if u.dstPort.toNat = 319 ∨ u.dstPort.toNat = 320 then s.ptpForward p f.dst.toNat f.src (some (h, u)) x
      else s.udpRx p f.src h u []
    | .udp u bs =>
      if sumTaken h u.sum = false then s.unmatched p
      else if u.dstPort.toNat = 319 ∨ u.dstPort.toNat = 320 then s
      else s.udpRx p f.src h u bs
    | .other => s.unmatched p

/-- The consumer of an accepted frame (R142). -/
def State.consume (s : State) (p : Nat) (f : EthFrame) : State :=
  match f.body with
  | .arp sha spa tpa request => s.arp p sha spa tpa request
  | .ptp x => s.ptpForward p f.dst.toNat f.src none x
  | .ip h b => s.ipRx p f h b
  | .other => s.unmatched p

/-- A frame arrives at a port whose link is up. -/
def State.frameRx (s : State) (p : Nat) (f : EthFrame) : State :=
  if f.fcsOk = false then s.inc (pEth p) F.ETH_FCS_CNT_FCS_CNT
  else if f.pause = true ∨ s.takesFrame p f = false then s
  else if s.takesMac p f.dst.toNat = false then s.unmatched p
  else ((s.inc (pEth p) F.ETH_RX_CNT_RX_CNT).consume p f).settle

/-- ETH_FRAME_RX (R140 to R142). -/
def execEthFrameRx (port : PortNo) (frame : EthFrame) (s : State) : Host.Outcome State Fault Refusal :=
  .next (if s.pow.up && s.portUp port.val then s.frameRx port.val frame else s)

end Sys2Proof.Machine
end

