-- ==== Sys2Proof/Machine/Commands.lean ====
section
/-!
DEFINITION. The rows that are accesses to one register: each is a write or read by a seat, with all that R22 to
R28, R46 and the register's own rule give it.
-/
namespace Sys2Proof.Machine

/-- A seat's read, whose value goes to the seat. -/
def State.readOut (s : State) (seat addr : Nat) : State :=
  if s.serves seat = false then s
  else
    let r := s.hostRead seat addr
    (r.1.emit (.readData seat r.2)).settle

/-- Where the registers of a lane start (R391). -/
def lnAddr (l : Nat) : Nat := pSer (l / 8) + 0x200 + 0x80 * (l % 8)

/-- A write of a servo slot's CMD register (R100, R438): class A has 16 slots. -/
def State.servoWrite (s : State) (seat : Nat) (classA : Bool) (k v : Nat) : State :=
  if classA then (if k < 16 then s.hostWrite seat (pSvl (k / 2) + 0x13C + 0x700 * (k % 2)) 15 v else s)
  else s.hostWrite seat (pSvl (8 + k / 16) + 0x120 + 0xF0 * (k % 16)) 15 v

/-- A write of EMBER_PWR_CMD with its KEY, and the level of WAKE_N. -/
def State.pwrWrite (s : State) (seat op : Nat) (wakeNLow : Bool) : State :=
  if s.serves seat = false then s
  else if s.owns seat pEmber then (s.pwrCmd (0x5A500000 + op) wakeNLow).settle
  else (s.foreign seat (pEmber + 0x100) (BitVec.ofNat 32 (0x5A500000 + op)) pEmber).settle

/-- A write of NVME_CMD with its KEY. -/
def State.nvmeWrite (s : State) (seat op : Nat) (extent : Byte) (more : Nat) : State :=
  s.hostWrite seat (pNvme + 0x118) 15 (0x5A4E * 2 ^ 16 + op * 2 ^ 12 + extent.toNat + more)

/-- RESTART (R88): SYS_CTL with KEY 0x5A17 and RESTART. -/
def execRestart (seat : SeatNo) (s : State) : Host.Outcome State Fault Refusal :=
  .next (s.hostWrite seat (pSys + 0x008) 15 0x5A170001)

/-- REGISTER_WRITE (R18, R25, R26): a register write of a seat. -/
def execRegisterWrite (seat : SeatNo) (addr : BitVec 24) (be : BitVec 4) (value : Word) (s : State) : Host.Outcome State Fault Refusal :=
  .next (s.hostWrite seat addr.toNat be.toNat value.toNat)

/-- PAIR_READ_LO (R28): a register read of a seat; a _LO latches its _HI for the seat. -/
def execPairReadLo (seat : SeatNo) (addr : BitVec 24) (s : State) : Host.Outcome State Fault Refusal :=
  .next (s.readOut seat addr.toNat)

/-- PAIR_WRITE_HI (R28): a write of a _HI, with which the seat's pending _LO takes effect. -/
def execPairWriteHi (seat : SeatNo) (addr : BitVec 24) (value : Word) (s : State) : Host.Outcome State Fault Refusal :=
  .next (s.hostWrite seat addr.toNat 15 value.toNat)

/-- TIME_NOW_READ (R421): a read of TIME_NOW_LO latches engine time and the free counter for the seat. -/
def execTimeNowRead (seat : SeatNo) (s : State) : Host.Outcome State Fault Refusal := .next (s.readOut seat (pTime + 0x110))

/-- SAT_CNT_READ (R259): COR_SAT_CNT clears as it is read. -/
def execSatCntRead (seat : SeatNo) (s : State) : Host.Outcome State Fault Refusal := .next (s.readOut seat (pCor + 0x12C))

/-- HELD_MAX_READ (R475): MC_STAT HELD_MAX clears as it is read. -/
def execHeldMaxRead (seat : SeatNo) (ch : ChanNo) (s : State) : Host.Outcome State Fault Refusal :=
  .next (s.readOut seat (pMc ch + 0x100))

/-- RING_ALLOCATE (R132): RING_OP OP 0x1. -/
def execRingAllocate (seat : SeatNo) (s : State) : Host.Outcome State Fault Refusal :=
  .next (s.hostWrite seat (pRing + 0x100) 15 (1 * 2 ^ 28))

/-- RING_CONFIGURE (R132): RING_OP OP 0x2. -/
def execRingConfigure (seat : SeatNo) (ring : RingNo) (s : State) : Host.Outcome State Fault Refusal :=
  .next (s.hostWrite seat (pRing + 0x100) 15 (2 * 2 ^ 28 + ring))

/-- RING_RELEASE (R132): RING_OP OP 0x3. -/
def execRingRelease (seat : SeatNo) (ring : RingNo) (s : State) : Host.Outcome State Fault Refusal :=
  .next (s.hostWrite seat (pRing + 0x100) 15 (3 * 2 ^ 28 + ring))

/-- RING_RESET_INDICES (R132): RING_OP OP 0x4. -/
def execRingResetIndices (seat : SeatNo) (ring : RingNo) (s : State) : Host.Outcome State Fault Refusal :=
  .next (s.hostWrite seat (pRing + 0x100) 15 (4 * 2 ^ 28 + ring))

/-- RING_INDEX_WRITE (R122): a write of PROD or CONS of a ring state. -/
def execRingIndexWrite (seat : SeatNo) (ring : RingNo) (cons : Bool) (value : Word) (s : State) : Host.Outcome State Fault Refusal :=
  .next (s.hostWrite seat (0x800000 + 32 * ring + (if cons then 12 else 8)) 15 value.toNat)

/-- ETH_CLEAR (R178): ETH_CLR CLEAR. -/
def execEthClear (seat : SeatNo) (port : PortNo) (s : State) : Host.Outcome State Fault Refusal :=
  .next (s.hostWrite seat (pEth port + 0x160) 15 1)

/-- FLOW_CLEAR (R181): FLOW_CLR CLEAR. -/
def execFlowClear (seat : SeatNo) (flow : FlowNo) (s : State) : Host.Outcome State Fault Refusal :=
  .next (s.hostWrite seat (pFlow flow + 0x3FC) 15 1)

/-- ING_PUSH (R168, R170). -/
def execIngPush (seat : SeatNo) (flow : FlowNo) (s : State) : Host.Outcome State Fault Refusal :=
  .next (s.hostWrite seat (pIng + 0x100) 15 flow)

/-- COMMIT_GO (R277): _COMMIT GO of a page, with GROUP as it stands. -/
def execCommitGo (seat : SeatNo) (page : BitVec 12) (s : State) : Host.Outcome State Fault Refusal :=
  .next (s.hostWrite seat (page.toNat * 0x1000 + 0x020) 15 (2 ^ 31 + s.groupOf (page.toNat * 0x1000) * 2 ^ 8))

/-- COMMIT_CANCEL (R281): CMP_CMT_CANCEL GO. -/
def execCommitCancel (seat : SeatNo) (group : Byte) (s : State) : Host.Outcome State Fault Refusal :=
  .next (s.hostWrite seat (pCmp + 0x518) 15 (2 ^ 31 + group.toNat))

/-- LYR_ALERT_CLEAR (R218): a W1C write of CMP_LYR_ALERT. -/
def execLyrAlertClear (seat : SeatNo) (m : Fin 8) (value : Word) (s : State) : Host.Outcome State Fault Refusal :=
  .next (s.hostWrite seat (pCmp + 0x140 + 4 * m) 15 value.toNat)

/-- RESPONSE_LOAD (R253): COR_RESP_CTL GO. -/
def execResponseLoad (seat : SeatNo) (countM1 first : Byte) (s : State) : Host.Outcome State Fault Refusal :=
  .next (s.hostWrite seat (pCor + 0x118) 15 (2 ^ 31 + countM1.toNat * 2 ^ 8 + first.toNat))

/-- MAP_PROBE (R257): the results follow the pixel written. -/
def execMapProbe (seat : SeatNo) (x y : BitVec 16) (s : State) : Host.Outcome State Fault Refusal :=
  .next (s.hostWrite seat (pMap + 0x110) 15 (y.toNat * 2 ^ 16 + x.toNat))

/-- REGATHER (R379): LN_CTL REGATHER. -/
def execRegather (seat : SeatNo) (lane : LaneNo) (s : State) : Host.Outcome State Fault Refusal :=
  .next (s.hostWrite seat (lnAddr lane + 0x08) 15 2)

/-- RETRAIN (R368): LN_CTL RETRAIN. -/
def execRetrain (seat : SeatNo) (lane : LaneNo) (s : State) : Host.Outcome State Fault Refusal :=
  .next (s.hostWrite seat (lnAddr lane + 0x08) 15 1)

/-- TEST_ENABLE (R382): a write of LN_TEST. -/
def execTestEnable (seat : SeatNo) (lane : LaneNo) (value : Word) (s : State) : Host.Outcome State Fault Refusal :=
  .next (s.hostWrite seat (lnAddr lane + 0x54) 15 value.toNat)

/-- STEP_AUTHORISE (R398): TIME_STEP_CTL OP 0x1. -/
def execStepAuthorise (seat : SeatNo) (s : State) : Host.Outcome State Fault Refusal :=
  .next (s.hostWrite seat (pTime + 0x150) 15 0x5A530001)

/-- STEP_APPLY_VALUE (R398): TIME_STEP_CTL OP 0x2. -/
def execStepApplyValue (seat : SeatNo) (s : State) : Host.Outcome State Fault Refusal :=
  .next (s.hostWrite seat (pTime + 0x150) 15 0x5A530002)

/-- STEP_WITHDRAW (R398): TIME_STEP_CTL OP 0x3. -/
def execStepWithdraw (seat : SeatNo) (s : State) : Host.Outcome State Fault Refusal :=
  .next (s.hostWrite seat (pTime + 0x150) 15 0x5A530003)

/-- SYNC_SRC_CHANGE (R408, R441): a write of TIME_CFG. -/
def execSyncSrcChange (seat : SeatNo) (value : Word) (s : State) : Host.Outcome State Fault Refusal :=
  .next (s.hostWrite seat (pTime + 0x100) 15 value.toNat)

/-- TOUT_ARM (R413, R414): a write of TOUT_CFG with ARM and without DISARM. -/
def execToutArm (seat : SeatNo) (k : Fin 16) (value : Word) (s : State) : Host.Outcome State Fault Refusal :=
  .next (s.hostWrite seat (pTime + 0x400 + 32 * k) 15 (2 ^ 31 + value.toNat % 2 ^ 30))

/-- TOUT_DISARM (R414): a write of TOUT_CFG with DISARM and its other fields as they stand. -/
def execToutDisarm (seat : SeatNo) (k : Fin 16) (s : State) : Host.Outcome State Fault Refusal :=
  .next (s.hostWrite seat (pTime + 0x400 + 32 * k) 15 (2 ^ 30 + (s.reg (pTime + 0x400 + 32 * k)).toNat % 2 ^ 30))

/-- TCAP_POP (R418): a read of TCAP_TS_LO pops the FIFO for the seat. -/
def execTcapPop (seat : SeatNo) (k : Fin 4) (s : State) : Host.Outcome State Fault Refusal :=
  .next (s.readOut seat (pTime + 0x604 + 16 * k))

/-- SERVO_APPLY (R439). -/
def execServoApply (seat : SeatNo) (classA : Bool) (slot : Fin 64) (s : State) : Host.Outcome State Fault Refusal :=
  .next (s.servoWrite seat classA slot 1)

/-- SERVO_RESET (R440). -/
def execServoReset (seat : SeatNo) (classA : Bool) (slot : Fin 64) (s : State) : Host.Outcome State Fault Refusal :=
  .next (s.servoWrite seat classA slot 2)

/-- SERVO_RELEASE (R438). -/
def execServoRelease (seat : SeatNo) (classA : Bool) (slot : Fin 64) (s : State) : Host.Outcome State Fault Refusal :=
  .next (s.servoWrite seat classA slot 4)

/-- MEM_RETRAIN (R458, R473): MEM_CTL RETRAIN. -/
def execMemRetrain (seat : SeatNo) (s : State) : Host.Outcome State Fault Refusal := .next (s.hostWrite seat (pMem + 0x008) 15 1)

/-- RESCAN (R494): HK_CTL RESCAN. -/
def execRescan (seat : SeatNo) (s : State) : Host.Outcome State Fault Refusal := .next (s.hostWrite seat (pHk + 0x008) 15 1)

/-- UNBLANK (R502): HK_UNBLANK with its KEY. -/
def execUnblank (seat : SeatNo) (zone : ZoneNo) (s : State) : Host.Outcome State Fault Refusal :=
  .next (s.hostWrite seat (pHk + 0x110) 15 (0x5A55 * 2 ^ 16 + zone))

/-- LAMP_STATE_READ (R495): HK_LAMP_CMD OP 0x1. -/
def execLampStateRead (seat : SeatNo) (pixel : BitVec 16) (s : State) : Host.Outcome State Fault Refusal :=
  .next (s.hostWrite seat (pHk + 0x118) 15 (1 * 2 ^ 30 + pixel.toNat))

/-- LAMP_STATE_WRITE (R495): HK_LAMP_CMD OP 0x2. -/
def execLampStateWrite (seat : SeatNo) (pixel : BitVec 16) (state : BitVec 2) (s : State) : Host.Outcome State Fault Refusal :=
  .next (s.hostWrite seat (pHk + 0x118) 15 (2 * 2 ^ 30 + state.toNat * 2 ^ 28 + pixel.toNat))

/-- EVTP_ENTER (R512, R514): the seat enters a level at its own page. -/
def execEvtpEnter (seat : SeatNo) (level : Fin 16) (s : State) : Host.Outcome State Fault Refusal :=
  .next (s.hostWrite seat (pEvtp seat + 0x108) 15 (2 ^ 31 + level))

/-- EVTP_EXIT (R512, R513). -/
def execEvtpExit (seat : SeatNo) (s : State) : Host.Outcome State Fault Refusal :=
  .next (s.hostWrite seat (pEvtp seat + 0x10C) 15 1)

/-- EVTP_ALIVE (R519, R520). -/
def execEvtpAlive (seat : SeatNo) (value : Word) (s : State) : Host.Outcome State Fault Refusal :=
  .next (s.hostWrite seat (pEvtp seat + 0x124) 15 value.toNat)

/-- PLAYOUT_STOP (R522): EVT_PLAYOUT_CTL STOP. -/
def execPlayoutStop (seat : SeatNo) (s : State) : Host.Outcome State Fault Refusal := .next (s.hostWrite seat (pEvt + 0x144) 15 1)

/-- STANDBY_REQUEST (R524): EMBER_PWR_CMD OP 0x1. -/
def execStandbyRequest (seat : SeatNo) (s : State) : Host.Outcome State Fault Refusal := .next (s.pwrWrite seat 1 false)

/-- SLEEP_REQUEST (R524): EMBER_PWR_CMD OP 0x2, with WAKE_N as given. -/
def execSleepRequest (seat : SeatNo) (wakeNLow : Bool) (s : State) : Host.Outcome State Fault Refusal :=
  .next (s.pwrWrite seat 2 wakeNLow)

/-- ACTIVE_REQUEST (R524, R525): EMBER_PWR_CMD OP 0x3. -/
def execActiveRequest (seat : SeatNo) (s : State) : Host.Outcome State Fault Refusal := .next (s.pwrWrite seat 3 false)

/-- STAGE (R538): UPD_CMD OP 0x1. -/
def execStage (seat : SeatNo) (s : State) : Host.Outcome State Fault Refusal :=
  .next (s.hostWrite seat (pUpd + 0x10C) 15 0x5A440001)

/-- APPLY (R539, R540): UPD_CMD OP 0x2. -/
def execApply (seat : SeatNo) (s : State) : Host.Outcome State Fault Refusal :=
  .next (s.hostWrite seat (pUpd + 0x10C) 15 0x5A440002)

/-- FULL (R541): UPD_CMD OP 0x3 with SLOT. -/
def execFull (seat : SeatNo) (slot : Fin 4) (s : State) : Host.Outcome State Fault Refusal :=
  .next (s.hostWrite seat (pUpd + 0x10C) 15 (0x5A440003 + slot * 2 ^ 8))

/-- CONFIRM (R541): UPD_CMD OP 0x4. -/
def execConfirm (seat : SeatNo) (s : State) : Host.Outcome State Fault Refusal :=
  .next (s.hostWrite seat (pUpd + 0x10C) 15 0x5A440004)

/-- REJECT (R541): UPD_CMD OP 0x5. -/
def execReject (seat : SeatNo) (s : State) : Host.Outcome State Fault Refusal :=
  .next (s.hostWrite seat (pUpd + 0x10C) 15 0x5A440005)

/-- READ (R549): NVME_CMD OP 0x1. -/
def execRead (seat : SeatNo) (extent : Byte) (useDest : Bool) (s : State) : Host.Outcome State Fault Refusal :=
  .next (s.nvmeWrite seat 1 extent (if useDest then 2 ^ 15 else 0))

/-- WRITE (R549): NVME_CMD OP 0x2. -/
def execWrite (seat : SeatNo) (extent : Byte) (s : State) : Host.Outcome State Fault Refusal :=
  .next (s.nvmeWrite seat 2 extent 0)

/-- DELETE (R549): NVME_CMD OP 0x3. -/
def execDelete (seat : SeatNo) (extent : Byte) (s : State) : Host.Outcome State Fault Refusal :=
  .next (s.nvmeWrite seat 3 extent 0)

/-- FORMAT (R549): NVME_CMD OP 0x4. -/
def execFormat (seat : SeatNo) (s : State) : Host.Outcome State Fault Refusal := .next (s.nvmeWrite seat 4 0 0)

/-- RESYNC (R549): NVME_CMD OP 0x5. -/
def execResync (seat : SeatNo) (s : State) : Host.Outcome State Fault Refusal := .next (s.nvmeWrite seat 5 0 0)

/-- TILE_JOB_GO (R555): UPD_TJ_CTL GO with EXTENT. -/
def execTileJobGo (seat : SeatNo) (extent : Byte) (s : State) : Host.Outcome State Fault Refusal :=
  .next (s.hostWrite seat (pUpd + 0x120) 15 (2 ^ 31 + extent.toNat))

/-- TILE_JOB_STOP (R557): UPD_TJ_CTL STOP, with EXTENT as it stands. -/
def execTileJobStop (seat : SeatNo) (s : State) : Host.Outcome State Fault Refusal :=
  .next (s.hostWrite seat (pUpd + 0x120) 15 (2 ^ 30 + s.fld pUpd F.UPD_TJ_CTL_EXTENT))

/-- CRC_DATA_WRITE (R560, R561). -/
def execCrcDataWrite (seat : SeatNo) (unit : Fin 4) (be : BitVec 4) (value : Word) (s : State) : Host.Outcome State Fault Refusal :=
  .next (s.hostWrite seat (pCrc unit + 0x110) be.toNat value.toNat)

end Sys2Proof.Machine
end

