-- ==== Sys2Proof/Machine/Dispatch.lean ====
section
/-!
DEFINITION. The meaning of a command: one arm per row of the table, each one call.
-/
namespace Sys2Proof.Machine

/-- The effect of a command on everything but the queue. -/
def exec (i : Instr) (s : State) : Host.Outcome State Fault Refusal :=
  match i with
  | .railValid rail => Sys2Proof.Machine.execRailValid rail s
  | .railFail rail => Sys2Proof.Machine.execRailFail rail s
  | .vddEmberFail => Sys2Proof.Machine.execVddEmberFail s
  | .porNLow ns => Sys2Proof.Machine.execPorNLow ns s
  | .powerUpStart => Sys2Proof.Machine.execPowerUpStart s
  | .slotChoice flashAnswers sfdpOk => Sys2Proof.Machine.execSlotChoice flashAnswers sfdpOk s
  | .applyBootEntries => Sys2Proof.Machine.execApplyBootEntries s
  | .gddr6TrainingDone us fail trims => Sys2Proof.Machine.execGddr6TrainingDone us fail trims s
  | .storeLoadDone driveOk => Sys2Proof.Machine.execStoreLoadDone driveOk s
  | .readyRise => Sys2Proof.Machine.execReadyRise s
  | .restart seat => Sys2Proof.Machine.execRestart seat s
  | .thermalResetRelease => Sys2Proof.Machine.execThermalResetRelease s
  | .refFaultEnter r => Sys2Proof.Machine.execRefFaultEnter r s
  | .refFaultLeave r => Sys2Proof.Machine.execRefFaultLeave r s
  | .xtalStop => Sys2Proof.Machine.execXtalStop s
  | .lifeHourTick mean => Sys2Proof.Machine.execLifeHourTick mean s
  | .emberTick => Sys2Proof.Machine.execEmberTick s
  | .registerWrite seat addr be value => Sys2Proof.Machine.execRegisterWrite seat addr be value s
  | .pairReadLo seat addr => Sys2Proof.Machine.execPairReadLo seat addr s
  | .pairWriteHi seat addr value => Sys2Proof.Machine.execPairWriteHi seat addr value s
  | .timeNowRead seat => Sys2Proof.Machine.execTimeNowRead seat s
  | .satCntRead seat => Sys2Proof.Machine.execSatCntRead seat s
  | .heldMaxRead seat ch => Sys2Proof.Machine.execHeldMaxRead seat ch s
  | .bar0Request write addr dws => Sys2Proof.Machine.execBar0Request write addr dws s
  | .bar2Access write addr bytes len => Sys2Proof.Machine.execBar2Access write addr bytes len s
  | .controlDatagram port v6 srcIp srcUdp srcMac payload => Sys2Proof.Machine.execControlDatagram port v6 srcIp srcUdp srcMac payload s
  | .ringAllocate seat => Sys2Proof.Machine.execRingAllocate seat s
  | .ringConfigure seat ring => Sys2Proof.Machine.execRingConfigure seat ring s
  | .ringRelease seat ring => Sys2Proof.Machine.execRingRelease seat ring s
  | .ringResetIndices seat ring => Sys2Proof.Machine.execRingResetIndices seat ring s
  | .ringIndexWrite seat ring cons value => Sys2Proof.Machine.execRingIndexWrite seat ring cons value s
  | .copy ring => Sys2Proof.Machine.execCopy ring s
  | .fill ring => Sys2Proof.Machine.execFill ring s
  | .nop ring => Sys2Proof.Machine.execNop ring s
  | .commandComplete ring transferOk => Sys2Proof.Machine.execCommandComplete ring transferOk s
  | .tileMsgSend tile => Sys2Proof.Machine.execTileMsgSend tile s
  | .upstreamMsgRx link sec crcOk tile hdrLo payload => Sys2Proof.Machine.execUpstreamMsgRx link sec crcOk tile hdrLo payload s
  | .ethFrameRx port frame => Sys2Proof.Machine.execEthFrameRx port frame s
  | .frameComplete flow => Sys2Proof.Machine.execFrameComplete flow s
  | .pathLost flow pathB => Sys2Proof.Machine.execPathLost flow pathB s
  | .currentStateReport port => Sys2Proof.Machine.execCurrentStateReport port s
  | .stateChangeRepeat port => Sys2Proof.Machine.execStateChangeRepeat port s
  | .neighbourRetry port ip => Sys2Proof.Machine.execNeighbourRetry port ip s
  | .neighbourFailure port ip => Sys2Proof.Machine.execNeighbourFailure port ip s
  | .neighbourEntryExpire port ip => Sys2Proof.Machine.execNeighbourEntryExpire port ip s
  | .ethLinkUp port trims => Sys2Proof.Machine.execEthLinkUp port trims s
  | .ethLinkDown port => Sys2Proof.Machine.execEthLinkDown port s
  | .ethClear seat port => Sys2Proof.Machine.execEthClear seat port s
  | .flowClear seat flow => Sys2Proof.Machine.execFlowClear seat flow s
  | .ingPush seat flow => Sys2Proof.Machine.execIngPush seat flow s
  | .pushComplete flow => Sys2Proof.Machine.execPushComplete flow s
  | .commitGo seat page => Sys2Proof.Machine.execCommitGo seat page s
  | .commitCancel seat group => Sys2Proof.Machine.execCommitCancel seat group s
  | .commitWindow => Sys2Proof.Machine.execCommitWindow s
  | .cycleEdgeSchedule => Sys2Proof.Machine.execCycleEdgeSchedule s
  | .composeStart => Sys2Proof.Machine.execComposeStart s
  | .playoutCopyDone track => Sys2Proof.Machine.execPlayoutCopyDone track s
  | .powerCapUpdate => Sys2Proof.Machine.execPowerCapUpdate s
  | .writebackComplete view => Sys2Proof.Machine.execWritebackComplete view s
  | .previewPacket view => Sys2Proof.Machine.execPreviewPacket view s
  | .lyrAlertClear seat m value => Sys2Proof.Machine.execLyrAlertClear seat m value s
  | .responseLoad seat countM1 first => Sys2Proof.Machine.execResponseLoad seat countM1 first s
  | .responseLoadDone => Sys2Proof.Machine.execResponseLoadDone s
  | .mapProbe seat x y => Sys2Proof.Machine.execMapProbe seat x y s
  | .linkReportRx link sec crcOk pos notGood dark delayA delayB => Sys2Proof.Machine.execLinkReportRx link sec crcOk pos notGood dark delayA delayB s
  | .capabilityReportRx link sec crcOk pos conflict last w1 w2 w3 w4 => Sys2Proof.Machine.execCapabilityReportRx link sec crcOk pos conflict last w1 w2 w3 w4 s
  | .positionVanish link pos => Sys2Proof.Machine.execPositionVanish link pos s
  | .creditRx link sec crcOk tile pool limit => Sys2Proof.Machine.execCreditRx link sec crcOk tile pool limit s
  | .pdreqRx feed seq turnaround => Sys2Proof.Machine.execPdreqRx feed seq turnaround s
  | .detectDone feed offsets => Sys2Proof.Machine.execDetectDone feed offsets s
  | .trainingFrameRx lane control status inverted metric => Sys2Proof.Machine.execTrainingFrameRx lane control status inverted metric s
  | .trainDone feed trims eyes codewords => Sys2Proof.Machine.execTrainDone feed trims eyes codewords s
  | .lockDone feed aligns => Sys2Proof.Machine.execLockDone feed aligns s
  | .capDone feed widths => Sys2Proof.Machine.execCapDone feed widths s
  | .stageTimeout feed => Sys2Proof.Machine.execStageTimeout feed s
  | .feedLoss feed signal => Sys2Proof.Machine.execFeedLoss feed signal s
  | .backoffEnd feed => Sys2Proof.Machine.execBackoffEnd feed s
  | .faultRetry feed => Sys2Proof.Machine.execFaultRetry feed s
  | .activityWindow octet blocks nonFill => Sys2Proof.Machine.execActivityWindow octet blocks nonFill s
  | .trimTrack lane steps eye corrSymbols corrWords => Sys2Proof.Machine.execTrimTrack lane steps eye corrSymbols corrWords s
  | .trimStepApply lane => Sys2Proof.Machine.execTrimStepApply lane s
  | .trimStepDrop lane => Sys2Proof.Machine.execTrimStepDrop lane s
  | .trimRevert lane before after => Sys2Proof.Machine.execTrimRevert lane before after s
  | .regatherStart lane => Sys2Proof.Machine.execRegatherStart lane s
  | .regatherGatherEnd lane targets => Sys2Proof.Machine.execRegatherGatherEnd lane targets s
  | .regather seat lane => Sys2Proof.Machine.execRegather seat lane s
  | .retrain seat lane => Sys2Proof.Machine.execRetrain seat lane s
  | .testEnable seat lane value => Sys2Proof.Machine.execTestEnable seat lane value s
  | .syncRx port m stamp => Sys2Proof.Machine.execSyncRx port m stamp s
  | .followUpRx port m => Sys2Proof.Machine.execFollowUpRx port m s
  | .delayRespRx port m => Sys2Proof.Machine.execDelayRespRx port m s
  | .announceRx port a => Sys2Proof.Machine.execAnnounceRx port a s
  | .delayReqSend stamp => Sys2Proof.Machine.execDelayReqSend stamp s
  | .masterLost heard => Sys2Proof.Machine.execMasterLost heard s
  | .ppsTimeout => Sys2Proof.Machine.execPpsTimeout s
  | .stepAuthorise seat => Sys2Proof.Machine.execStepAuthorise seat s
  | .stepApplyValue seat => Sys2Proof.Machine.execStepApplyValue seat s
  | .stepWithdraw seat => Sys2Proof.Machine.execStepWithdraw seat s
  | .stepTakeEffect => Sys2Proof.Machine.execStepTakeEffect s
  | .syncSrcChange seat value => Sys2Proof.Machine.execSyncSrcChange seat value s
  | .toutArm seat k value => Sys2Proof.Machine.execToutArm seat k value s
  | .toutDisarm seat k => Sys2Proof.Machine.execToutDisarm seat k s
  | .toutEdge k => Sys2Proof.Machine.execToutEdge k s
  | .toutPulseEnd k => Sys2Proof.Machine.execToutPulseEnd k s
  | .tcapEdge k rising => Sys2Proof.Machine.execTcapEdge k rising s
  | .tcapPop seat k => Sys2Proof.Machine.execTcapPop seat k s
  | .ppsPulse => Sys2Proof.Machine.execPpsPulse s
  | .ppsPulseEnd => Sys2Proof.Machine.execPpsPulseEnd s
  | .servoSample classA slot value => Sys2Proof.Machine.execServoSample classA slot value s
  | .servoApply seat classA slot => Sys2Proof.Machine.execServoApply seat classA slot s
  | .servoReset seat classA slot => Sys2Proof.Machine.execServoReset seat classA slot s
  | .servoRelease seat classA slot => Sys2Proof.Machine.execServoRelease seat classA slot s
  | .followingErrorLost classA slot => Sys2Proof.Machine.execFollowingErrorLost classA slot s
  | .refreshDue ch bank busy => Sys2Proof.Machine.execRefreshDue ch bank busy s
  | .forcedRefresh ch bank => Sys2Proof.Machine.execForcedRefresh ch bank s
  | .edcMismatch ch write again => Sys2Proof.Machine.execEdcMismatch ch write again s
  | .memUnderrun group flow => Sys2Proof.Machine.execMemUnderrun group flow s
  | .memTrack ch steps windows => Sys2Proof.Machine.execMemTrack ch steps windows s
  | .memIdleWindow ch => Sys2Proof.Machine.execMemIdleWindow ch s
  | .memTrimDrop ch => Sys2Proof.Machine.execMemTrimDrop ch s
  | .memTrimRevert ch before after => Sys2Proof.Machine.execMemTrimRevert ch before after s
  | .memRegatherStart ch => Sys2Proof.Machine.execMemRegatherStart ch s
  | .memRetrainTimer => Sys2Proof.Machine.execMemRetrainTimer s
  | .memRetrain seat => Sys2Proof.Machine.execMemRetrain seat s
  | .memRetrainDone fail trims => Sys2Proof.Machine.execMemRetrainDone fail trims s
  | .rateChangeBegin => Sys2Proof.Machine.execRateChangeBegin s
  | .rateChangeEnd us fail trims => Sys2Proof.Machine.execRateChangeEnd us fail trims s
  | .glimRound railMv railOut => Sys2Proof.Machine.execGlimRound railMv railOut s
  | .stateRecordRx link sec crcOk tile pos pseq temps power faultPend => Sys2Proof.Machine.execStateRecordRx link sec crcOk tile pos pseq temps power faultPend s
  | .faultRecordRx link sec crcOk tile pos fseq entries => Sys2Proof.Machine.execFaultRecordRx link sec crcOk tile pos fseq entries s
  | .dieSensorConversion k error reading => Sys2Proof.Machine.execDieSensorConversion k error reading s
  | .shutdownReset => Sys2Proof.Machine.execShutdownReset s
  | .throttleStep => Sys2Proof.Machine.execThrottleStep s
  | .diagResultRx link sec crcOk tile dseq entries => Sys2Proof.Machine.execDiagResultRx link sec crcOk tile dseq entries s
  | .diagResultTimeout tile dseq => Sys2Proof.Machine.execDiagResultTimeout tile dseq s
  | .rescan seat => Sys2Proof.Machine.execRescan seat s
  | .lhScanEnd => Sys2Proof.Machine.execLhScanEnd s
  | .unblank seat zone => Sys2Proof.Machine.execUnblank seat zone s
  | .lampStateRead seat pixel => Sys2Proof.Machine.execLampStateRead seat pixel s
  | .lampStateWrite seat pixel state => Sys2Proof.Machine.execLampStateWrite seat pixel state s
  | .evtpEnter seat level => Sys2Proof.Machine.execEvtpEnter seat level s
  | .evtpExit seat => Sys2Proof.Machine.execEvtpExit seat s
  | .notifyResend seat => Sys2Proof.Machine.execNotifyResend seat s
  | .evtpAlive seat value => Sys2Proof.Machine.execEvtpAlive seat value s
  | .seatLost seat linkDown => Sys2Proof.Machine.execSeatLost seat linkDown s
  | .playoutLoadDone driveOk => Sys2Proof.Machine.execPlayoutLoadDone driveOk s
  | .playoutStop seat => Sys2Proof.Machine.execPlayoutStop seat s
  | .standbyRequest seat => Sys2Proof.Machine.execStandbyRequest seat s
  | .sleepRequest seat wakeNLow => Sys2Proof.Machine.execSleepRequest seat wakeNLow s
  | .activeRequest seat => Sys2Proof.Machine.execActiveRequest seat s
  | .standbyEnter => Sys2Proof.Machine.execStandbyEnter s
  | .sleepEnter => Sys2Proof.Machine.execSleepEnter s
  | .wakeNEvent ns => Sys2Proof.Machine.execWakeNEvent ns s
  | .alarmExpire => Sys2Proof.Machine.execAlarmExpire s
  | .standbyReturnDone us memOk fail trims => Sys2Proof.Machine.execStandbyReturnDone us memOk fail trims s
  | .sleepWakeReady memOk imageOk us => Sys2Proof.Machine.execSleepWakeReady memOk imageOk us s
  | .stage seat => Sys2Proof.Machine.execStage seat s
  | .apply seat => Sys2Proof.Machine.execApply seat s
  | .full seat slot => Sys2Proof.Machine.execFull seat slot s
  | .confirm seat => Sys2Proof.Machine.execConfirm seat s
  | .reject seat => Sys2Proof.Machine.execReject seat s
  | .flashStepDone => Sys2Proof.Machine.execFlashStepDone s
  | .flashStepTimeout => Sys2Proof.Machine.execFlashStepTimeout s
  | .driveLinkUp d speed width => Sys2Proof.Machine.execDriveLinkUp d speed width s
  | .nvmeCompletion d r => Sys2Proof.Machine.execNvmeCompletion d r s
  | .nvmeCmdTimeout d => Sys2Proof.Machine.execNvmeCmdTimeout d s
  | .nvmeResetTimeout d => Sys2Proof.Machine.execNvmeResetTimeout d s
  | .read seat extent useDest => Sys2Proof.Machine.execRead seat extent useDest s
  | .write seat extent => Sys2Proof.Machine.execWrite seat extent s
  | .delete seat extent => Sys2Proof.Machine.execDelete seat extent s
  | .format seat => Sys2Proof.Machine.execFormat seat s
  | .resync seat => Sys2Proof.Machine.execResync seat s
  | .storeOpDone => Sys2Proof.Machine.execStoreOpDone s
  | .tileJobGo seat extent => Sys2Proof.Machine.execTileJobGo seat extent s
  | .tileJobStop seat => Sys2Proof.Machine.execTileJobStop seat s
  | .tileJobLoadDone driveOk => Sys2Proof.Machine.execTileJobLoadDone driveOk s
  | .tileImageRecordRx link sec crcOk pos job status => Sys2Proof.Machine.execTileImageRecordRx link sec crcOk pos job status s
  | .tileJobTimeout => Sys2Proof.Machine.execTileJobTimeout s
  | .crcDataWrite seat unit be value => Sys2Proof.Machine.execCrcDataWrite seat unit be value s
  | .configRequest write reg be value => Sys2Proof.Machine.execConfigRequest write reg be value s
  | .bar4Access write addr value => Sys2Proof.Machine.execBar4Access write addr value s
  | .pcieEpLinkUp speed width => Sys2Proof.Machine.execPcieEpLinkUp speed width s
  | .driveLinkDown d => Sys2Proof.Machine.execDriveLinkDown d s
  | .uncorrectableCodeword feed what => Sys2Proof.Machine.execUncorrectableCodeword feed what s
  | .downstreamPacketReturn link sec => Sys2Proof.Machine.execDownstreamPacketReturn link sec s
  | .bridgeCycle => Sys2Proof.Machine.execBridgeCycle s
  | .memRegatherGatherEnd ch targets windows => Sys2Proof.Machine.execMemRegatherGatherEnd ch targets windows s
  | .holdEnd zone => Sys2Proof.Machine.execHoldEnd zone s
  | .panicEntry port level => Sys2Proof.Machine.execPanicEntry port level s
  | .panicExit port level => Sys2Proof.Machine.execPanicExit port level s
  | .pllLockLoss octet pllB => Sys2Proof.Machine.execPllLockLoss octet pllB s
  | .checkerSyncGain lane symbols => Sys2Proof.Machine.execCheckerSyncGain lane symbols s
  | .checkerSyncLoss lane symbols => Sys2Proof.Machine.execCheckerSyncLoss lane symbols s
  | .xtalRunStart => Sys2Proof.Machine.execXtalRunStart s
  | .testPortClock trstN tms tdi cells => Sys2Proof.Machine.execTestPortClock trstN tms tdi cells s

end Sys2Proof.Machine
end

