-- ==== Sys2Proof/Safety.lean ====
section
/-!
DEFINITION. The terms that claims use: a command answered, the sound states, the parts of the state with what it
means that a part is as it was, and what event delivery alone may change.
-/
namespace Sys2Proof.Machine

/-- The command is answered with a next state of which `P` holds. -/
def Answers (c : Instr) (s : State) (P : State → Prop) : Prop := ∃ t, exec c s = .next t ∧ P t

/-- A sound state: GDDR6 contents and register words are in their canonical form, so that equal contents are
equal data. -/
abbrev State.Sound (s : State) : Prop := s.mem.wf = true ∧ rising none s.regs = true

/-- Register access works for the seat, and it owns the page at `p` (R46, R103, R117). -/
abbrev State.May (s : State) (seat p : Nat) : Prop := s.serves seat = true ∧ s.owns seat p = true

/-- Condition `k` of the page at `p` is pending: its bit of _EVT_PEND. -/
abbrev State.cond (s : State) (p k : Nat) : Prop := bit (s.reg (p + 0x10)).toNat k = true

/-- The state that a reset of every domain but the Ember domain leaves (R70), with `p` as the supplies' state: the main
domains as at first power-up; what stands outside them (the queue, what left the block, GDDR6, host memory, the flash, the drives, the test
port, the Ember domain's clock) and the registers are said apart. -/
def State.held (s t : State) (p : Power) : State :=
  { State.reset with
    pending := s.pending, free := t.free, out := t.out, regs := t.regs, mem := t.mem, hostMem := s.hostMem,
    clk := s.clk, pow := p, flashMem := t.flashMem, drives := t.drives, tap := s.tap }

/-- `t` follows `s` by such a reset: registers keep their `ret` fields and have power-up values elsewhere, but for
SYS_RESET_CAUSE, which records the cause, EMBER_STAT, whose IMAGE_VALID clears, and the registers of the list; GDDR6
contents are open. -/
structure State.Cleared (s t : State) (l : List Nat) (cause : Nat) (p : Power) : Prop where
  parts : t = s.held t p
  pins : t.out = s.out ++ (if s.pow.up then resetPins else [])
  down : p.up = false
  cause : t.fld pSys F.SYS_RESET_CAUSE_CAUSE = cause
  image : t.fld pEmber F.EMBER_STAT_IMAGE_VALID = 0
  gddr : ∃ k, t.mem = s.mem.lose 0 (2 ^ 36) k
  regs : ∀ a, a ∉ [pSys + 0x10C, pEmber + 0xC] ++ l → t.reg a = retWord a (s.reg a)

/-- THERMTRIP_N once POR_N has pulsed or a rail has failed: held low after a shutdown until the die has cooled (R89). -/
def Power.tripped (p : Power) : Nat := if p.thermHold = 0 then 0 else 2

/-- Where a feed starts: stage 1, or REF_WAIT, 0xA, while a reference of its octets is in fault (R361, R389). -/
def State.firstStage (s : State) (f : Feed) : Nat := if f.lanes.any (fun l => s.refBad (l / 8)) then 0xA else 1

/-- The registers that event delivery (R506 to R518) may change: EVT_REROUTE_CNT and EVT_HELD_CNT, EVTP_NOTE and
EVTP_NSEQ, and of an Ethernet port _EVT_PEND, ETH_TX_CNT and ETH_NBR_FAIL_CNT (an event datagram leaves there). -/
def deliveryReg (a : Nat) : Bool :=
  a == 0x20154 || a == 0x20158 ||
  (decide (0x21000 ≤ a ∧ a < 0x31000) && (a % 0x1000 == 0x110 || a % 0x1000 == 0x114)) ||
  (decide (0x50000 ≤ a ∧ a < 0x58000) && (a % 0x1000 == 0x10 || a % 0x1000 == 0x158 || a % 0x1000 == 0x15C))

/-- Of the registers outside the list, event delivery changes those of `deliveryReg` and nothing changes another. -/
def OnlyRegs (l : List Nat) (s t : State) : Prop := ∀ a, a ∉ l → deliveryReg a = false → t.reg a = s.reg a

/-- The byte lies in a slot of the ring; `host` says of which space (R120, R121). -/
def Ring.holds (r : Ring) (host : Bool) (a : Nat) : Prop :=
  (r.space == 0) = !host ∧ r.base ≤ a ∧ a < r.base + 32 * 2 ^ r.sizeLog2

/-- The byte lies in a slot of some ring. -/
def State.inRing (s : State) (host : Bool) (a : Nat) : Prop := ∃ n, (s.ring n).holds host a

/-- The ring is a seat's host event ring (R117). -/
abbrev State.eventRing (s : State) (n : Nat) : Prop :=
  ∃ k, k < 16 ∧ s.fld (pSeat k) F.SEAT_EVT_RING_VALID = 1 ∧ s.fld (pSeat k) F.SEAT_EVT_RING_RING = n

/-- The byte lies in a slot of a seat's host event ring. -/
def State.inEventRing (s : State) (host : Bool) (a : Nat) : Prop := ∃ n, s.eventRing n ∧ (s.ring n).holds host a

/-- The parts of the state: the registers of a block, and everything beside registers and the queue. `store` is
GDDR6 and host memory outside the slots of rings, with where the rings lie. -/
inductive Piece
  | page (b : Blk) | coef | copies | store
  | free | out | force | latch | lowHalf | mem | hostMem | rings | stale | commands | clk | pow
  | cyc | flows | ports | views | feeds | lanes | busy | chans | credits | house | ptp | touts
  | tcaps | ppsHigh | servos | evt | dgs | resp | respLoad | cap | corrTouched | play | flashMem | flashOp
  | drives | storeOp | storeWait | job | aborts | panic | rateWait | powerReq | image | bar4 | cfgSpace | tap
  | lines | linkRt | rateTo | bar2Held
  deriving DecidableEq, Repr

/-- The part is as it was. Where events may be delivered (`d`) the registers that delivery may change are judged by
none of the pages. The ring-state window has no registers of its own: it shows `rings`. -/
def Piece.same (x : Piece) (d : Bool) (s t : State) : Prop :=
  match x with
  | .page b => ∀ a l, locate a = some l → l.blk = b → b ≠ .rstate → (d = true → deliveryReg a = false) → t.reg a = s.reg a
  | .coef => ∀ a, isCoef a = true → t.reg a = s.reg a
  | .copies => ∀ a, 2 ^ 28 ≤ a → a < 2 ^ 33 → t.reg a = s.reg a
  | .store =>
    (∀ n, (t.ring n).base = (s.ring n).base ∧ (t.ring n).space = (s.ring n).space ∧ (t.ring n).sizeLog2 = (s.ring n).sizeLog2) ∧
    t.mem.lost = s.mem.lost ∧ (∀ a, ¬ s.inRing false a → t.mem.byte a = s.mem.byte a) ∧
    (∀ a, ¬ s.inRing true a → look 0 t.hostMem a = look 0 s.hostMem a)
  | .free => t.free = s.free
  | .out => t.out = s.out
  | .force => t.force = s.force
  | .latch => t.latch = s.latch
  | .lowHalf => t.lowHalf = s.lowHalf
  | .mem => t.mem = s.mem
  | .hostMem => t.hostMem = s.hostMem
  | .rings => t.rings = s.rings
  | .stale => t.stale = s.stale
  | .commands => t.commands = s.commands
  | .clk => t.clk = s.clk
  | .pow => t.pow = s.pow
  | .cyc => t.cyc = s.cyc
  | .flows => t.flows = s.flows
  | .ports => t.ports = s.ports
  | .views => t.views = s.views
  | .feeds => t.feeds = s.feeds
  | .lanes => t.lanes = s.lanes
  | .busy => t.busy = s.busy
  | .chans => t.chans = s.chans
  | .credits => t.credits = s.credits
  | .house => t.house = s.house
  | .ptp => t.ptp = s.ptp
  | .touts => t.touts = s.touts
  | .tcaps => t.tcaps = s.tcaps
  | .ppsHigh => t.ppsHigh = s.ppsHigh
  | .servos => t.servos = s.servos
  | .evt => t.evt = s.evt
  | .dgs => t.dgs = s.dgs
  | .resp => t.resp = s.resp
  | .respLoad => t.respLoad = s.respLoad
  | .cap => t.cap = s.cap
  | .corrTouched => t.corrTouched = s.corrTouched
  | .play => t.play = s.play
  | .flashMem => t.flashMem = s.flashMem
  | .flashOp => t.flashOp = s.flashOp
  | .drives => t.drives = s.drives
  | .storeOp => t.storeOp = s.storeOp
  | .storeWait => t.storeWait = s.storeWait
  | .job => t.job = s.job
  | .aborts => t.aborts = s.aborts
  | .panic => t.panic = s.panic
  | .rateWait => t.rateWait = s.rateWait
  | .powerReq => t.powerReq = s.powerReq
  | .image => t.image = s.image
  | .bar4 => t.bar4 = s.bar4
  | .cfgSpace => t.cfgSpace = s.cfgSpace
  | .tap => t.tap = s.tap
  | .lines => t.lines = s.lines
  | .linkRt => t.linkRt = s.linkRt
  | .rateTo => t.rateTo = s.rateTo
  | .bar2Held => t.bar2Held = s.bar2Held

/-- What event delivery alone does: registers of `deliveryReg`, entries in the seats' host event rings, the
neighbour caches, the routing tables, MSI-X pending bits and what leaves the block. Everything else is as it was. -/
structure Delivers (s t : State) : Prop where
  regs : ∀ a, deliveryReg a = false → t.reg a = s.reg a
  shape : ∀ n, ∃ p d, t.ring n = { s.ring n with prod := p, drop := d }
  rings : ∀ n, ¬ s.eventRing n → t.ring n = s.ring n
  mem : ∀ a, ¬ s.inEventRing false a → t.mem.byte a = s.mem.byte a
  openBytes : t.mem.lost = s.mem.lost
  host : ∀ a, ¬ s.inEventRing true a → look 0 t.hostMem a = look 0 s.hostMem a
  lost : t.evt.lost = s.evt.lost
  said : ∃ l, t.out = s.out ++ l
  rest : t.pending = s.pending ∧ t.free = s.free ∧ t.force = s.force ∧ t.latch = s.latch ∧ t.lowHalf = s.lowHalf ∧
    t.stale = s.stale ∧ t.commands = s.commands ∧ t.clk = s.clk ∧ t.pow = s.pow ∧ t.cyc = s.cyc ∧ t.flows = s.flows ∧
    t.views = s.views ∧ t.feeds = s.feeds ∧ t.lanes = s.lanes ∧ t.busy = s.busy ∧ t.chans = s.chans ∧
    t.credits = s.credits ∧ t.house = s.house ∧ t.ptp = s.ptp ∧ t.touts = s.touts ∧ t.tcaps = s.tcaps ∧
    t.ppsHigh = s.ppsHigh ∧ t.servos = s.servos ∧ t.dgs = s.dgs ∧ t.resp = s.resp ∧ t.respLoad = s.respLoad ∧
    t.cap = s.cap ∧ t.corrTouched = s.corrTouched ∧ t.play = s.play ∧ t.flashMem = s.flashMem ∧
    t.flashOp = s.flashOp ∧ t.drives = s.drives ∧ t.storeOp = s.storeOp ∧ t.storeWait = s.storeWait ∧ t.job = s.job ∧
    t.aborts = s.aborts ∧ t.panic = s.panic ∧ t.rateWait = s.rateWait ∧ t.powerReq = s.powerReq ∧ t.image = s.image ∧
    t.cfgSpace = s.cfgSpace ∧ t.tap = s.tap ∧ t.lines = s.lines ∧ t.linkRt = s.linkRt ∧ t.rateTo = s.rateTo ∧
    t.bar2Held = s.bar2Held

/-! ### What each command may change -/

/-- The parts that event delivery may change. -/
def delivery : List Piece := [.out, .mem, .hostMem, .rings, .ports, .evt, .bar4]
/-- The pages of the page map. -/
def pages : List Piece :=
  [.page .sys, .page .ember, .page .therm, .page .hk, .page .crc, .page .upd, .page .seat, .page .evt, .page .evtp, .page .ring, .page .time, .page .servo, .page .sva, .page .svb, .page .eth, .page .ing, .page .cmp, .page .view, .page .lyr, .page .map, .page .cor, .page .zone, .page .wl, .page .ser, .page .mem, .page .memch, .page .pcie, .page .nvme]
/-- Every part. -/
def parts : List Piece :=
  pages ++ [.page .flow, .page .tile, .page .zn, .coef, .copies, .store] ++
  [.free, .out, .force, .latch, .lowHalf, .mem, .hostMem, .rings, .stale, .commands, .clk, .pow, .cyc, .flows, .ports, .views, .feeds, .lanes, .busy, .chans, .credits, .house, .ptp, .touts, .tcaps, .ppsHigh, .servos, .evt, .dgs, .resp, .respLoad, .cap, .corrTouched, .play, .flashMem, .flashOp, .drives, .storeOp, .storeWait, .job, .aborts, .panic, .rateWait, .powerReq, .image, .bar4, .cfgSpace, .tap, .lines, .linkRt, .rateTo, .bar2Held]
/-- These parts, and what event delivery may change. -/
def delivers (l : List Piece) : List Piece := delivery ++ l
/-- These parts and every page. -/
def anyPage (l : List Piece) : List Piece := pages ++ l
/-- Every part but these. -/
def allBut (l : List Piece) : List Piece := parts.filter (fun p => !l.contains p)

/-- The parts that one cycle with no command waiting may change: the free counter, the lanes and their lines. -/
def idleTouches : List Piece := delivers [.page .ser, .clk, .lanes, .lines]

/-- The parts of the state that a command may change; every other is as it was. -/
def touches : Instr → List Piece
  | .railValid ..
  | .thermalResetRelease
  | .xtalRunStart => [.pow]
  | .railFail ..
  | .vddEmberFail
  | .porNLow ..
  | .shutdownReset
  | .sleepEnter => allBut [.hostMem, .tap]
  | .powerUpStart => [.page .sys, .out, .clk, .pow]
  | .slotChoice .. => [.page .sys, .page .upd, .out, .flashMem]
  | .applyBootEntries
  | .restart ..
  | .refFaultEnter ..
  | .registerWrite ..
  | .pairWriteHi ..
  | .bar0Request ..
  | .controlDatagram ..
  | .ethFrameRx ..
  | .commitGo ..
  | .playoutLoadDone .. => allBut [.tap]
  | .gddr6TrainingDone .. => [.page .sys, .page .mem, .page .memch, .page .pcie, .page .nvme, .store, .free, .out,
    .mem, .rings, .busy, .chans, .storeOp, .storeWait, .rateTo, .bar2Held]
  | .storeLoadDone .. => delivers [.page .sys, .page .nvme, .store, .free, .pow, .cyc, .drives, .storeOp, .storeWait]
  | .readyRise => delivers [.page .sys, .page .cmp, .pow, .cyc, .touts]
  | .refFaultLeave .. => delivers [.page .sys, .page .ser, .pow, .feeds]
  | .xtalStop => delivers [.page .sys, .pow]
  | .lifeHourTick .. => [.page .sys]
  | .emberTick => [.clk]
  | .pairReadLo ..
  | .timeNowRead ..
  | .satCntRead ..
  | .heldMaxRead ..
  | .tcapPop .. => delivers [.page .time, .page .cor, .page .memch, .latch, .tcaps]
  | .bar2Access .. => [.page .pcie, .store, .out, .mem, .bar2Held]
  | .ringAllocate ..
  | .ringConfigure ..
  | .ringRelease ..
  | .ringResetIndices .. => delivers [.page .seat, .page .ring, .page .wl, .copies, .store, .stale, .commands,
    .credits]
  | .ringIndexWrite .. => delivers [.page .seat, .page .ring, .page .wl, .credits]
  | .copy ..
  | .fill ..
  | .nop .. => [.commands]
  | .commandComplete .. => [.page .evtp, .page .eth, .page .view, .store, .out, .mem, .hostMem, .rings, .commands,
    .ports, .bar4]
  | .tileMsgSend .. => [.page .wl, .out, .rings, .credits]
  | .upstreamMsgRx .. => delivers [.page .wl, .credits]
  | .frameComplete ..
  | .pushComplete .. => delivers [.page .flow, .flows]
  | .pathLost .. => delivers [.page .ing, .page .flow, .flows]
  | .currentStateReport ..
  | .stateChangeRepeat ..
  | .neighbourRetry .. => [.page .eth, .page .view, .out, .ports]
  | .neighbourFailure ..
  | .notifyResend .. => delivers [.page .eth, .page .view]
  | .neighbourEntryExpire .. => [.ports]
  | .ethLinkUp .. => delivers [.page .eth, .page .view, .page .ser, .feeds, .lanes, .busy]
  | .ethLinkDown ..
  | .feedLoss .. => delivers [.page .upd, .page .eth, .page .cmp, .page .wl, .page .ser, .feeds, .lanes, .credits,
    .job, .aborts, .lines]
  | .ethClear .. => delivers [.page .seat, .page .eth]
  | .flowClear .. => delivers [.page .seat, .page .ing, .page .flow, .flows]
  | .ingPush .. => delivers [.page .seat, .page .ing, .flows]
  | .commitCancel .. => delivers <| anyPage [.copies, .cyc]
  | .commitWindow => delivers <| anyPage [.copies, .stale, .cyc, .play, .linkRt]
  | .cycleEdgeSchedule => [.cyc, .touts]
  | .composeStart => delivers [.page .hk, .page .upd, .page .sva, .page .svb, .page .eth, .page .ing, .page .cmp,
    .page .view, .page .lyr, .page .cor, .page .wl, .page .ser, .page .mem, .page .flow, .page .tile, .page .zn,
    .copies, .store, .force, .cyc, .flows, .views, .feeds, .lanes, .credits, .house, .touts, .cap, .corrTouched,
    .play, .job, .aborts, .rateWait, .lines, .linkRt]
  | .playoutCopyDone .. => delivers [.page .flow, .store, .flows, .play]
  | .powerCapUpdate => [.page .cor, .cap]
  | .writebackComplete .. => delivers [.page .view, .views]
  | .previewPacket .. => delivers [.page .eth, .page .view, .views]
  | .lyrAlertClear .. => delivers [.page .seat, .page .cmp]
  | .responseLoad .. => delivers [.page .seat, .page .cor, .respLoad]
  | .responseLoadDone => [.page .cor, .resp, .respLoad]
  | .mapProbe .. => delivers [.page .seat, .page .map]
  | .linkReportRx .. => delivers [.page .wl, .linkRt]
  | .capabilityReportRx .. => delivers [.page .upd, .page .cmp, .page .wl, .page .tile, .credits, .house, .job,
    .linkRt]
  | .positionVanish .. => delivers [.page .upd, .page .cmp, .page .wl, .credits, .job, .aborts, .linkRt]
  | .creditRx .. => delivers [.page .upd, .page .wl, .credits, .job, .aborts]
  | .pdreqRx .. => [.out]
  | .detectDone .. => [.page .ser, .feeds, .lanes]
  | .trainingFrameRx .. => [.page .ser, .out, .lanes]
  | .trainDone .. => delivers [.page .ser, .feeds, .lanes]
  | .stageTimeout .. => delivers [.page .ser, .feeds]
  | .lockDone .. => [.page .ser, .feeds, .lanes]
  | .backoffEnd ..
  | .faultRetry .. => [.page .ser, .feeds]
  | .capDone .. => delivers [.page .cmp, .page .wl, .page .ser, .feeds, .lanes, .busy, .credits, .house, .lines,
    .linkRt]
  | .activityWindow .. => [.page .ser, .lanes, .busy]
  | .trimTrack .. => delivers [.page .eth, .page .wl, .page .ser, .lanes]
  | .trimStepApply ..
  | .trimRevert ..
  | .regatherGatherEnd .. => delivers [.page .ser, .lanes]
  | .trimStepDrop ..
  | .regatherStart .. => [.page .ser, .lanes]
  | .regather ..
  | .retrain .. => delivers [.page .upd, .page .seat, .page .eth, .page .cmp, .page .wl, .page .ser, .feeds,
    .lanes, .credits, .job, .aborts, .lines]
  | .testEnable .. => delivers [.page .seat, .page .ser, .lanes]
  | .syncRx ..
  | .followUpRx .. => delivers [.page .time, .page .sva, .cyc, .ptp]
  | .delayRespRx .. => [.page .time, .ptp]
  | .announceRx .. => delivers [.page .time, .page .sva, .ptp]
  | .delayReqSend .. => delivers [.page .eth, .page .view, .ptp]
  | .masterLost ..
  | .ppsTimeout => delivers [.page .time, .page .sva, .ptp]
  | .stepAuthorise ..
  | .stepApplyValue ..
  | .stepWithdraw .. => delivers [.page .seat, .page .time, .cyc]
  | .stepTakeEffect => delivers [.page .time, .page .sva, .clk, .cyc, .ptp, .touts, .servos]
  | .syncSrcChange .. => delivers [.page .seat, .page .time, .page .sva, .cyc, .ptp, .touts, .ppsHigh, .servos]
  | .toutArm ..
  | .toutDisarm .. => delivers [.page .seat, .page .time, .touts]
  | .toutEdge ..
  | .toutPulseEnd .. => [.out, .touts]
  | .tcapEdge .. => delivers [.page .time, .page .sva, .cyc, .ptp, .tcaps]
  | .ppsPulse
  | .ppsPulseEnd => [.out, .ppsHigh]
  | .servoSample .. => delivers [.page .servo, .page .sva, .page .svb, .clk, .servos]
  | .servoApply ..
  | .servoReset ..
  | .servoRelease .. => delivers [.page .seat, .page .sva, .page .svb, .servos]
  | .followingErrorLost .. => delivers [.page .servo, .page .sva, .page .svb]
  | .refreshDue ..
  | .memTrimDrop ..
  | .memRegatherStart .. => [.page .memch, .chans]
  | .forcedRefresh .. => delivers [.page .mem, .page .memch, .chans]
  | .edcMismatch .. => delivers [.page .memch]
  | .memUnderrun .. => delivers [.page .mem]
  | .memTrack .. => delivers [.page .memch, .busy, .chans]
  | .memIdleWindow ..
  | .memTrimRevert ..
  | .memRegatherGatherEnd .. => delivers [.page .memch, .chans]
  | .memRetrainTimer => [.page .mem, .page .memch, .busy, .chans]
  | .memRetrain .. => delivers [.page .seat, .page .mem, .page .memch, .busy, .chans]
  | .memRetrainDone ..
  | .rateChangeEnd .. => delivers [.page .sys, .page .mem, .page .memch, .page .pcie, .store, .free, .busy, .chans,
    .rateTo, .bar2Held]
  | .rateChangeBegin => [.page .mem, .page .memch, .busy, .chans, .rateWait, .rateTo]
  | .glimRound .. => delivers [.page .therm, .page .hk, .page .wl, .credits, .house]
  | .stateRecordRx .. => delivers [.page .hk, .page .wl, .page .tile, .house]
  | .faultRecordRx .. => delivers [.page .hk, .page .wl, .store, .house, .corrTouched]
  | .dieSensorConversion .. => delivers [.page .therm, .pow, .house]
  | .throttleStep => delivers [.page .therm, .page .hk, .house]
  | .diagResultRx .. => delivers [.page .hk, .page .wl, .store, .house, .corrTouched]
  | .diagResultTimeout .. => delivers [.page .hk, .house]
  | .rescan .. => delivers [.page .hk, .page .seat, .house, .corrTouched]
  | .lhScanEnd => delivers [.page .hk, .house, .corrTouched]
  | .unblank .. => delivers [.page .hk, .page .seat, .house]
  | .lampStateRead ..
  | .lampStateWrite .. => delivers [.page .hk, .page .seat, .store, .house, .corrTouched]
  | .evtpEnter ..
  | .evtpExit .. => delivers [.page .seat, .page .evtp, .page .eth, .page .view]
  | .evtpAlive .. => delivers [.page .seat, .page .evt, .page .evtp, .cyc, .play]
  | .seatLost .. => delivers [.page .evt, .page .evtp, .page .pcie, .page .nvme, .store, .free, .play, .storeOp,
    .storeWait]
  | .playoutStop .. => delivers [.page .seat, .page .evt, .play]
  | .standbyRequest ..
  | .sleepRequest ..
  | .activeRequest .. => delivers [.page .ember, .page .seat, .powerReq]
  | .standbyEnter => delivers [.page .ember, .page .upd, .page .eth, .page .cmp, .page .wl, .page .ser, .page .mem,
    .page .memch, .page .pcie, .page .nvme, .store, .free, .feeds, .lanes, .chans, .credits, .touts, .drives,
    .storeOp, .job, .aborts, .powerReq, .lines]
  | .wakeNEvent ..
  | .alarmExpire => [.page .sys, .page .ember, .out, .clk, .pow]
  | .standbyReturnDone .. => delivers [.page .sys, .page .ember, .page .upd, .page .eth, .page .cmp, .page .wl,
    .page .ser, .page .mem, .page .memch, .page .pcie, .page .nvme, .store, .free, .cyc, .feeds, .lanes, .busy,
    .chans, .credits, .play, .storeOp, .storeWait, .job, .aborts, .lines, .rateTo, .bar2Held]
  | .sleepWakeReady .. => delivers <| anyPage [.page .flow, .page .tile, .page .zn, .coef, .copies, .store, .free,
    .force, .stale, .pow, .cyc, .feeds, .lanes, .credits, .touts, .resp, .job, .aborts, .image, .lines]
  | .stage ..
  | .apply ..
  | .full ..
  | .confirm ..
  | .reject .. => delivers [.page .upd, .page .seat, .flashOp]
  | .flashStepDone => delivers [.page .upd, .flashMem, .flashOp]
  | .flashStepTimeout => delivers [.page .upd, .free, .flashMem, .flashOp]
  | .driveLinkUp .. => delivers [.page .pcie, .page .nvme, .store, .free, .drives]
  | .nvmeCompletion .. => delivers [.page .pcie, .page .nvme, .store, .free, .drives, .storeOp]
  | .nvmeCmdTimeout .. => delivers [.page .nvme, .store, .free, .drives, .storeOp]
  | .nvmeResetTimeout .. => delivers [.page .nvme, .store, .free, .storeOp]
  | .read ..
  | .write ..
  | .delete ..
  | .format ..
  | .resync .. => delivers [.page .seat, .page .nvme, .store, .free, .storeOp]
  | .storeOpDone => delivers [.page .nvme, .store, .free, .drives, .storeOp, .storeWait]
  | .tileJobGo ..
  | .tileJobStop .. => delivers [.page .upd, .page .seat, .page .wl, .page .nvme, .store, .free, .credits,
    .storeOp, .storeWait, .job, .aborts]
  | .tileJobLoadDone .. => delivers [.page .upd, .page .wl, .page .nvme, .store, .free, .credits, .drives,
    .storeOp, .storeWait, .job, .aborts]
  | .tileImageRecordRx ..
  | .tileJobTimeout => delivers [.page .upd, .page .wl, .credits, .job, .aborts]
  | .crcDataWrite .. => delivers [.page .crc, .page .seat]
  | .configRequest .. => [.out, .cfgSpace]
  | .bar4Access .. => [.out, .bar4]
  | .pcieEpLinkUp .. => [.page .pcie, .pow]
  | .driveLinkDown .. => delivers [.page .pcie, .page .nvme, .store, .free, .drives, .storeOp]
  | .uncorrectableCodeword .. => delivers [.page .hk, .page .upd, .page .eth, .page .cmp, .page .wl, .page .ser,
    .page .tile, .store, .credits, .house, .corrTouched, .job, .aborts, .lines, .linkRt]
  | .downstreamPacketReturn .. => [.page .wl]
  | .bridgeCycle => [.page .cmp, .page .wl, .page .tile, .out, .mem, .hostMem, .rings, .cyc, .credits, .house,
    .touts, .linkRt]
  | .holdEnd .. => [.house]
  | .panicEntry .. => [.page .mem, .panic]
  | .panicExit .. => [.panic]
  | .pllLockLoss .. => delivers [.page .ser]
  | .checkerSyncLoss ..
  | .checkerSyncGain .. => delivers [.page .ser, .lanes]
  | .testPortClock .. => [.out, .tap]

end Sys2Proof.Machine
end

