-- ==== Sys2Proof/Certificates/Slice0/Obligations.lean ====
section
/-!
DEFINITION. The statements for the provers, one proposition each.
-/
open Sys2Proof Sys2Proof.Machine

/-- For every command c, waiting commands q and state s: a step of s with the queue c, q is exec of c on s with the
queue q, and where it answers a next state that state has the queue q. The queue is the model's own (log 3 and log
15). -/
def Obligations.StepRunsTheFrontCommand : Prop :=
  ∀ (c : Instr) (q : List Instr) (s : State),
    step { s with pending := c :: q } = exec c { s with pending := q } ∧
    ∀ t, step { s with pending := c :: q } = .next t → t.pending = q

/-- With no command waiting a step counts one in the free counter, modulo 2^64, while the main domains run; besides it
only the lines of Wickline feeds and the test lanes go on, and with no such feed and no test running nothing else
changes. While the main domains do not run it changes nothing. That the empty queue stands for one cycle is the
model's choice (log 3). -/
def Obligations.IdleStepIsOneClock : Prop :=
  ∀ s : State, s.pending = [] →
    (s.pow.up = true → ∃ t, step s = .next t ∧ t.clk = { s.clk with free := (s.clk.free + 1) % 2 ^ 64 } ∧
      t.pending = [] ∧ (∀ p : Piece, p ∉ idleTouches → p.same true s t) ∧
      ((∀ e ∈ s.feeds, isEth e.1 = true) → s.runningTests = [] → t = { s with clk := t.clk })) ∧
    (s.pow.up = false → step s = .next s)

/-- Whenever a step of a sound state (GDDR6 bytes and register words listed at strictly rising keys, none listed that
equals what an unlisted byte reads as) answers a next state, that state is sound, and its queue is the rest of the
queue before. -/
def Obligations.EveryStepKeepsCanonicalForm : Prop :=
  ∀ s t : State, s.Sound → step s = .next t → t.Sound ∧ t.pending = s.pending.tail

/-- State.reset is sound, waits for no command, its main domains are in reset and every register word reads the value
that the register tables give before the boot record. -/
def Obligations.ResetIsSound : Prop :=
  State.reset.Sound ∧ State.reset.pending = [] ∧ State.reset.pow.up = false ∧ ∀ a, State.reset.reg a = resetWord a

/-- For every command and state: where exec answers a next state, the queue is as it was and so is every part of the
state that the table touches does not list for the command: the registers of each page of the page map, the
coefficient words, the per-seat copies, GDDR6 and host memory outside the slots of rings, and every other component.
Where the command may deliver events, the registers that event delivery changes (EVT counts, notifications, an
Ethernet port's pending conditions and transmit counts) are judged by none of the pages. -/
def Obligations.CommandsTouchOnlyTheirParts : Prop :=
  ∀ (c : Instr) (s t : State), exec c s = .next t →
    t.pending = s.pending ∧ ∀ p : Piece, p ∉ touches c → p.same ((touches c).contains .evt) s t

/-- RAIL_VALID marks its rail valid. XTAL_RUN_START marks the crystal running. XTAL_STOP marks a running crystal
stopped and, from READY on, sets SYS condition 4. With the crystal running, EMBER_TICK records engine time and RATE
while the main domains run and counts a tick while they do not. LIFE_HOUR_TICK counts an hour in the band of its mean
and 2^k half-hours in the weighted total. None changes another register, event delivery apart. -/
def Obligations.RailsCrystalAndLifeHours : Prop :=
  (∀ (s : State) (rail : Fin 9), Answers (.railValid rail) s fun t =>
    t.pow = { s.pow with rails := s.pow.rails.set rail true } ∧ t.regs = s.regs) ∧
  (∀ s : State, Answers .xtalRunStart s fun t => t.pow = { s.pow with xtal := true } ∧ t.regs = s.regs) ∧
  (∀ s : State, s.pow.xtal = true → Answers .xtalStop s fun t =>
    t.pow = { s.pow with xtal := false } ∧ (s.ready = true → t.cond pSys 4) ∧
    OnlyRegs (if s.ready then [pSys + 0x10] else []) s t) ∧
  (∀ s : State, s.pow.xtal = true → s.pow.up = true → Answers .emberTick s fun t =>
    t.clk = { s.clk with emberTime := s.clk.time, emberRate := s.clk.rate, emberTicks := 0 } ∧ t.regs = s.regs) ∧
  (∀ s : State, s.pow.xtal = true → s.pow.up = false → Answers .emberTick s fun t =>
    t.clk = { s.clk with emberTicks := s.clk.emberTicks + 1 } ∧ t.regs = s.regs) ∧
  (∀ (s : State) (mean : Int), Answers (.lifeHourTick mean) s fun t =>
    t.fld pSys F.SYS_LIFE_H_HOURS_CNT (lifeBand mean) = countUp 32 (s.fld pSys F.SYS_LIFE_H_HOURS_CNT (lifeBand mean)) 1 ∧
    t.fld pSys F.SYS_LIFE_WH_HALF_HOURS_CNT = countUp 32 (s.fld pSys F.SYS_LIFE_WH_HALF_HOURS_CNT) (2 ^ lifeBand mean) ∧
    OnlyRegs [pSys + 0x120 + 4 * lifeBand mean, pSys + 0x134] s t)

/-- RAIL_FAIL, a POR_N low of 1 us or longer, SHUTDOWN_RESET once shutdown has started, a RESTART by the seat that
owns SYS and a fault of REFCLK_CORE each hold every domain but the Ember domain in reset: every register reads what
its ret fields held and power-up values elsewhere, but for SYS_RESET_CAUSE, which records the cause, EMBER_STAT, whose
IMAGE_VALID clears, and at a shutdown THERM_SHUT_LAST; the main domains' other state is as at power-up; GDDR6 contents
are open. A shorter low on POR_N changes nothing. -/
def Obligations.MainDomainsReset : Prop :=
  ∀ s : State, s.Sound →
    (∀ rail : Fin 8, Answers (.railFail rail) s fun t =>
      s.Cleared t [] 1 { s.pow.down with rails := s.pow.rails.set rail false, thermHold := s.pow.tripped } ∧
      t.fld pSys F.SYS_RESET_CAUSE_FAIL_RAIL = ({ s.pow with rails := s.pow.rails.set rail false } : Power).failed) ∧
    (∀ ns, 1000 ≤ ns → Answers (.porNLow ns) s fun t => s.Cleared t [] 2 { s.pow.down with thermHold := s.pow.tripped }) ∧
    (∀ ns, ns < 1000 → exec (.porNLow ns) s = .next s) ∧
    (s.pow.shutting = true → Answers .shutdownReset s fun t =>
      s.Cleared t [pTherm + 0x108] 3 { s.pow.down with thermHold := 1 } ∧
      t.fld pTherm F.THERM_SHUT_LAST_SENSOR = s.pow.shutAt.1 % 32 ∧
      t.fld pTherm F.THERM_SHUT_LAST_T = ofS 16 s.pow.shutAt.2) ∧
    (∀ seat : SeatNo, s.May seat pSys → Answers (.restart seat) s fun t => s.Cleared t [] 4 s.pow.down) ∧
    Answers (.refFaultEnter .core) s fun t => s.Cleared t [] 5 { s.pow.down with coreFault := true }

/-- VDD_EMBER_FAIL leaves every register at its first-power-up value, the Ember domain's clock at first power-up, and
the main domains in reset, with the pins at their reset levels; GDDR6 contents are open. -/
def Obligations.EmberSupplyFailureResetsAll : Prop :=
  ∀ s : State, Answers .vddEmberFail s fun t =>
    (∀ a, t.reg a = resetWord a) ∧ t.clk = State.reset.clk ∧ t.pow.up = false ∧
    t.out = s.out ++ (if s.pow.up then resetPins else []) ∧ (∃ k, t.mem = s.mem.lose 0 (2 ^ 36) k) ∧
    ∃ p, t = { s.held t p with clk := State.reset.clk }

/-- With every rail valid, REFCLK_CORE good, no thermal hold and the main domains in reset and not in Sleep,
POWER_UP_START brings them out of reset: the flash is reset, the root ports leave reset, boot phase 1, the free
counter at 0, RATE as recorded, and engine time at the recorded time plus n crystal ticks, 30,517.578125 x (1 + RATE x
2^-48) ns each (in units of 2^-16 ns, the rate's part rounded once), or 0 without the crystal. Otherwise it changes
nothing. THERMAL_RESET_RELEASE ends a thermal hold that waits for the die to cool. -/
def Obligations.PowerUpResumesEngineTime : Prop :=
  (∀ s : State, s.pow.rails.all id = true → s.pow.coreFault = false → s.pow.thermHold = 0 → s.pow.up = false →
    s.pow.sleeping = false → Answers .powerUpStart s fun t =>
      t.pow = { s.pow with up := true, shutAlert := false } ∧ t.fld pSys F.SYS_STAT_BOOT_PHASE = 1 ∧
      OnlyRegs [pSys + 0xC] s t ∧ t.out = s.out ++ [.pin "FLASH_RESET_N" false, .pin "FLASH_RESET_N" true,
        .pin "PCIE_RP0_PERST_N" true, .pin "PCIE_RP1_PERST_N" true] ∧
      t.clk.free = 0 ∧ t.clk.rate = s.clk.emberRate ∧
      (s.pow.xtal = true → t.clk.time = ofS 80 ((s.clk.emberTime : Int) + (s.clk.emberTicks * (2 * 10 ^ 9) : Nat) +
        rshr ((s.clk.emberTicks * (2 * 10 ^ 9) : Nat) * s.clk.emberRate) 48)) ∧
      (s.pow.xtal = false → t.clk.time = 0)) ∧
  (∀ s : State, s.pow.rails.all id = false ∨ s.pow.coreFault = true ∨ s.pow.thermHold ≠ 0 ∨ s.pow.up = true ∨
    s.pow.sleeping = true → exec .powerUpStart s = .next s) ∧
  (∀ s : State, s.pow.thermHold = 2 → Answers .thermalResetRelease s fun t =>
    t.pow = { s.pow with thermHold := 0 } ∧ t.regs = s.regs)

/-- While the main domains run, REF_FAULT_ENTER of SERREF g, MEM_REFCLK or PCIE_REFCLK sets the reference's bit of
SYS_REFCLK_STAT and, where the bit was clear, SYS condition 3; MEM_REFCLK sets MEM_OFFLINE too. REF_FAULT_LEAVE clears
the bit; of REFCLK_CORE it ends the fault that holds the engine in reset. -/
def Obligations.ReferenceClockFaults : Prop :=
  (∀ (s : State) (r : RefClk), r ≠ .core → s.pow.up = true → Answers (.refFaultEnter r) s fun t =>
    bit t.refStat (refBit r) = true ∧ (bit s.refStat (refBit r) = false → t.cond pSys 3) ∧
    (r = .mem → bit s.refStat (refBit r) = false → t.memOff = true ∧ t.fld pMem F.MEM_STAT_STATE = 3)) ∧
  (∀ (s : State) (r : RefClk), r ≠ .core → bit s.refStat (refBit r) = true → Answers (.refFaultLeave r) s fun t =>
    bit t.refStat (refBit r) = false ∧ ∀ k, k ≠ refBit r → bit t.refStat k = bit s.refStat k) ∧
  (∀ s : State, Answers (.refFaultLeave .core) s fun t => t.pow = { s.pow with coreFault := false } ∧ t.regs = s.regs)

/-- For the THERM, ZONE, MAP, VIEW, PCIE and SERVO pages and the tile and zone tables, whose registers beside _COMMIT
act only by being stored: a whole-word write by a seat that may write the register, at a register that is no half of a
pair, leaves each RW or RWC bit at the bit written, clears each W1C bit written as 1 and keeps every other bit. It
changes no other register but those of event delivery, unless it would change an RWB bit: then it is counted as a
foreign write too. -/
def Obligations.PlainWritesFollowTheAccessTypes : Prop :=
  ∀ (s : State) (seat : SeatNo) (addr : BitVec 24) (v : Word) (l : Loc), s.serves seat = true → addr.toNat % 4 = 0 →
    locate addr.toNat = some l → l.blk ∈ [Blk.therm, .zone, .map, .view, .pcie, .servo, .tile, .zn] →
    (isWindow l.blk = true ∨ l.off ≠ 0x20) →
    l.mute = false → regRows addr.toNat ≠ [] → bootOnly addr.toNat = false → l.heldLo = false → l.heldHi = false →
    s.mayWrite seat l addr.toNat = true →
    Answers (.registerWrite seat addr 15 v) s fun t =>
      (s.bootTouched addr.toNat v.toNat = false → OnlyRegs [addr.toNat] s t) ∧
      (s.bootTouched addr.toNat v.toNat = true →
        t.fld (l.page addr.toNat) F.HDR_FOREIGN_FOREIGN_CNT = countUp 16 (s.fld (l.page addr.toNat) F.HDR_FOREIGN_FOREIGN_CNT) 1 ∧
        t.fld (pSeat seat) F.SEAT_FOREIGN_OUT_OUT_CNT = countUp 32 (s.fld (pSeat seat) F.SEAT_FOREIGN_OUT_OUT_CNT) 1) ∧
      ∀ i, i < 32 →
        (t.reg addr.toNat).getLsbD i =
          if (clearMask addr.toNat).getLsbD i && v.getLsbD i then false
          else if (holdMask addr.toNat).getLsbD i then v.getLsbD i else (s.reg addr.toNat).getLsbD i

/-- On the HK, UPD, NVME, VIEW, COR, EMBER and ETH pages, for pairs that a seat may write: a seat's write of the _LO
of a pair changes no register and waits for the seat; its write of the _HI stores the waiting half in the _LO and the
word in the _HI, each under its access types, and nothing waits any more; with no half waiting the _LO keeps its word.
-/
def Obligations.PairHalvesTakeEffectTogether : Prop :=
  (∀ (s : State) (seat : SeatNo) (addr : BitVec 24) (v : Word) (l : Loc), s.serves seat = true →
    locate addr.toNat = some l → l.blk ∈ [Blk.hk, .upd, .nvme, .view, .cor, .ember, .eth] → addr.toNat % 4 = 0 →
    l.heldLo = true → bootOnly addr.toNat = false → s.mayWrite seat l addr.toNat = true →
    Answers (.registerWrite seat addr 15 v) s fun t => OnlyRegs [] s t ∧ t.half seat addr.toNat = some v) ∧
  (∀ (s : State) (seat : SeatNo) (addr : BitVec 24) (v : Word) (l : Loc), s.serves seat = true →
    locate addr.toNat = some l → l.blk ∈ [Blk.hk, .upd, .nvme, .view, .cor, .ember, .eth] → addr.toNat % 4 = 0 →
    l.heldHi = true → bootOnly addr.toNat = false → s.mayWrite seat l addr.toNat = true →
    Answers (.pairWriteHi seat addr v) s fun t =>
      OnlyRegs [addr.toNat - 4, addr.toNat] s t ∧ t.half seat (addr.toNat - 4) = none ∧
      t.reg addr.toNat = storedWord addr.toNat (s.reg addr.toNat) v ∧
      t.reg (addr.toNat - 4) = match s.half seat (addr.toNat - 4) with
        | some w => storedWord (addr.toNat - 4) (s.reg (addr.toNat - 4)) w
        | none => s.reg (addr.toNat - 4))

/-- A seat's read of the _LO of a pair answers the word and latches the _HI for that seat; a read of TIME_NOW_LO
answers the low word of engine time and latches its high word, the fraction and both words of the free counter, all of
one instant; a read of COR_SAT_CNT answers the count and clears it; a read of MC_STAT answers it and clears HELD_MAX.
No other register changes, event delivery apart. -/
def Obligations.ReadsLatchAndClear : Prop :=
  (∀ (s : State) (seat : SeatNo) (addr : BitVec 24) (l : Loc), s.serves seat = true → addr.toNat % 4 = 0 →
    locate addr.toNat = some l → l.isLo = true → l.foreignSeat seat = false →
    Answers (.pairReadLo seat addr) s fun t =>
      OnlyRegs [] s t ∧ s.out ++ [.readData seat (BitVec.ofNat 32 (s.readValue seat l addr.toNat))] <+: t.out ∧
      look none t.latch (seat * 2 ^ 24 + (addr.toNat + 4)) =
        some (BitVec.ofNat 32 (s.live seat { l with off := l.off + 4 } (addr.toNat + 4)))) ∧
  (∀ (s : State) (seat : SeatNo), s.serves seat = true → Answers (.timeNowRead seat) s fun t =>
    OnlyRegs [] s t ∧ s.out ++ [.readData seat (BitVec.ofNat 32 (lo32 s.now))] <+: t.out ∧
    look none t.latch (seat * 2 ^ 24 + (pTime + 0x114)) = some (BitVec.ofNat 32 (hi32 s.now)) ∧
    look none t.latch (seat * 2 ^ 24 + (pTime + 0x118)) = some (BitVec.ofNat 32 (s.clk.time % 2 ^ 16)) ∧
    look none t.latch (seat * 2 ^ 24 + (pTime + 0x11C)) = some (BitVec.ofNat 32 (lo32 s.clk.free)) ∧
    look none t.latch (seat * 2 ^ 24 + (pTime + 0x120)) = some (BitVec.ofNat 32 (hi32 s.clk.free))) ∧
  (∀ (s : State) (seat : SeatNo), s.serves seat = true → Answers (.satCntRead seat) s fun t =>
    OnlyRegs [pCor + 0x12C] s t ∧ s.out ++ [.readData seat (s.reg (pCor + 0x12C))] <+: t.out ∧
    t.fld pCor F.COR_SAT_CNT_SAT_CNT = 0) ∧
  (∀ (s : State) (seat : SeatNo) (ch : ChanNo), s.serves seat = true → Answers (.heldMaxRead seat ch) s fun t =>
    OnlyRegs [pMc ch + 0x100] s t ∧ t.fld (pMc ch) F.MC_STAT_HELD_MAX = 0 ∧
    ∃ w, s.out ++ [.readData seat w] <+: t.out ∧ bitsOf w.toNat 16 4 = s.fld (pMc ch) F.MC_STAT_HELD_MAX)

/-- A register write whose byte enables leave out a byte changes no register but those of event delivery, unless it
addresses CRC_DATA; there a seat that owns the page feeds the enabled bytes of a byte, half-word or word: CRC_BYTE_CNT
counts them. -/
def Obligations.NarrowWritesAreDropped : Prop :=
  (∀ (s : State) (seat : SeatNo) (addr : BitVec 24) (be : BitVec 4) (v : Word), be ≠ 15 →
    (∀ n, n < 4 → addr.toNat - addr.toNat % 4 ≠ pCrc n + 0x110) →
    Answers (.registerWrite seat addr be v) s fun t => OnlyRegs [] s t ∧ (t = s ∨ t = s.settle)) ∧
  (∀ (s : State) (seat : SeatNo) (unit : Fin 4) (be : BitVec 4) (n : Nat) (v : Word), s.May seat (pCrc unit) →
    (be, n) ∈ [(1#4, 1), (2#4, 1), (4#4, 1), (8#4, 1), (3#4, 2), (6#4, 2), (12#4, 2), (15#4, 4)] →
    Answers (.registerWrite seat (BitVec.ofNat 24 (pCrc unit + 0x110)) be v) s fun t =>
      t.fld (pCrc unit) F.CRC_BYTE_CNT_BYTE_CNT = countUp 32 (s.fld (pCrc unit) F.CRC_BYTE_CNT_BYTE_CNT) n)

/-- A whole-word write at a register of a page, by a seat that does not own the page and whose write the page's ELIG
does not allow, or at a register that the boot record alone writes, counts one in the page's FOREIGN_CNT and in the
writer's OUT_CNT, records the writer and the offset in _FOREIGN, records writer and address in SEAT_FOREIGN_LAST of
each owner and counts one in its IN_CNT; it changes no register but these and those of event delivery, except that one
to ING_PUSH by a seat other than 0 counts in ING_PUSH_ERR, with LAST_ERR 1, and sets ING condition 6. -/
def Obligations.ForeignWritesAreCountedAndDropped : Prop :=
  ∀ (s : State) (seat : SeatNo) (addr : BitVec 24) (v : Word) (l : Loc), s.serves seat = true → addr.toNat % 4 = 0 →
    locate addr.toNat = some l → isWindow l.blk = false → l.mute = false → regRows addr.toNat ≠ [] →
    (bootOnly addr.toNat = true ∨ s.mayWrite seat l addr.toNat = false) →
    let page := addr.toNat - addr.toNat % 0x1000
    Answers (.registerWrite seat addr 15 v) s fun t =>
      t.fld page F.HDR_FOREIGN_FOREIGN_CNT = countUp 16 (s.fld page F.HDR_FOREIGN_FOREIGN_CNT) 1 ∧
      t.fld page F.HDR_FOREIGN_LAST_SEAT = seat ∧ t.fld page F.HDR_FOREIGN_LAST_OFFSET = addr.toNat % 0x1000 ∧
      t.fld (pSeat seat) F.SEAT_FOREIGN_OUT_OUT_CNT = countUp 32 (s.fld (pSeat seat) F.SEAT_FOREIGN_OUT_OUT_CNT) 1 ∧
      (∀ k : SeatNo, s.owns k page = true →
        t.fld (pSeat k) F.SEAT_FOREIGN_IN_IN_CNT = countUp 32 (s.fld (pSeat k) F.SEAT_FOREIGN_IN_IN_CNT) 1 ∧
        t.fld (pSeat k) F.SEAT_FOREIGN_LAST_WRITER = seat ∧ t.fld (pSeat k) F.SEAT_FOREIGN_LAST_ADDR = addr.toNat) ∧
      (addr.toNat = pIng + 0x100 → seat ≠ 0 → t.fld pIng F.ING_PUSH_ERR_LAST_ERR = 1 ∧ t.cond pIng 6 ∧
        t.fld pIng F.ING_PUSH_ERR_ERR_CNT = countUp 28 (s.fld pIng F.ING_PUSH_ERR_ERR_CNT) 1) ∧
      ∀ a, a ≠ page + 0x28 → ¬ (0x10000 ≤ a ∧ a < 0x20000) → deliveryReg a = false →
        ¬ (addr.toNat = pIng + 0x100 ∧ seat ≠ 0 ∧ (a = pIng + 0x10 ∨ a = pIng + F.ING_PUSH_ERR_ERR_CNT.off)) → t.reg a = s.reg a

/-- While the engine is not ready, is in Sleep or its main domains are in reset, and for a seat that does not exist, a
register read or write of the seat changes nothing and answers nothing; BAR0, BAR2 and BAR4 requests and control
datagrams change nothing then either. That access works from READY on is read from the spec by inference (log 9). -/
def Obligations.NoAccessBeforeReady : Prop :=
  ∀ s : State,
    (∀ seat : SeatNo, s.serves seat = false →
      (∀ addr be v, exec (.registerWrite seat addr be v) s = .next s) ∧ (∀ addr, exec (.pairReadLo seat addr) s = .next s) ∧
      (∀ addr v, exec (.pairWriteHi seat addr v) s = .next s)) ∧
    (s.reachable = false →
      (∀ w a d, exec (.bar0Request w a d) s = .next s) ∧ (∀ w a b n, exec (.bar2Access w a b n) s = .next s) ∧
      (∀ w a v, exec (.bar4Access w a v) s = .next s) ∧
      (∀ p v6 ip udp mac b, exec (.controlDatagram p v6 ip udp mac b) s = .next s))

/-- While the engine is reachable: a write request of a first doubleword d and up to 31 more runs as the request of d
alone and then that of the others at the next address; one doubleword with byte enables set is seat 0's register write
under them, with none it does nothing; a read request of one whole doubleword is seat 0's register read and its
completion; a read request of more than 32 doublewords completes with Completer Abort and a write of more is dropped,
each counted in PCIE_BAR0_ERR_CNT, with no other register changed. -/
def Obligations.Bar0RequestsAreSingleAccesses : Prop :=
  (∀ (s : State) (a : BitVec 24) (d : DWord) (ds : List DWord), s.reachable = true → a.toNat % 4 = 0 →
    ds.length < 32 → a.toNat + 4 < 2 ^ 24 → ds ≠ [] →
    (∀ u, exec (.bar0Request true a [d]) s = .next u →
      exec (.bar0Request true a (d :: ds)) s = exec (.bar0Request true (a + 4) ds) u)) ∧
  (∀ (s : State) (a : BitVec 24) (d : DWord), s.reachable = true → a.toNat % 4 = 0 →
    exec (.bar0Request true a [d]) s = if d.be = 0 then .next s else exec (.registerWrite 0 a d.be d.value) s) ∧
  (∀ (s : State) (a : BitVec 24) (d : DWord), s.reachable = true → a.toNat % 4 = 0 → d.be = 15 →
    Answers (.bar0Request false a [d]) s fun t =>
      t = (s.hostRead 0 a.toNat).1.emit (.completion (enabledBytes 15 (s.hostRead 0 a.toNat).2.toNat))) ∧
  (∀ (s : State) (a : BitVec 24) (ds : List DWord), s.reachable = true → 32 < ds.length →
    (Answers (.bar0Request false a ds) s fun t =>
      t.fld pPcie F.PCIE_BAR0_ERR_CNT_ABORT_CNT = countUp 16 (s.fld pPcie F.PCIE_BAR0_ERR_CNT_ABORT_CNT) 1 ∧
      t.out = s.out ++ [.completerAbort] ∧ OnlyRegs [pPcie + 0x100] s t) ∧
    (Answers (.bar0Request true a ds) s fun t =>
      t.fld pPcie F.PCIE_BAR0_ERR_CNT_DROP_CNT = countUp 16 (s.fld pPcie F.PCIE_BAR0_ERR_CNT_DROP_CNT) 1 ∧
      t.out = s.out ∧ OnlyRegs [pPcie + 0x100] s t))

/-- While the engine is reachable, no pin-rate change is in progress and GDDR6 is in use: a write of bytes that lie in
seat 0's window and in installed GDDR6 stores them, so that each byte of the span reads back as written and every byte
outside reads as before; a write that does not lie so is dropped and counted. A read inside installed GDDR6 answers
its bytes; one beyond answers Unsupported Request and is counted. While MEM_OFFLINE is set a read answers Completer
Abort and a write is dropped and counted. During a pin-rate change the endpoint holds each request and answers none.
-/
def Obligations.Bar2ReadsAndWritesGddr : Prop :=
  (∀ (s : State) (a : BitVec 36) (bs : List Byte) (n : Nat), s.reachable = true → s.rateChanging = false → s.memOff = false →
    s.inWindow 0 a.toNat bs.length = true → s.inGddr a.toNat bs.length = true →
    Answers (.bar2Access true a bs n) s fun t =>
      (∀ i (h : i < bs.length), t.mem.byte (a.toNat + i) = bs[i]) ∧
      (∀ b, (b < a.toNat ∨ a.toNat + bs.length ≤ b) → t.mem.byte b = s.mem.byte b) ∧ t.regs = s.regs ∧ t.out = s.out) ∧
  (∀ (s : State) (a : BitVec 36) (bs : List Byte) (n : Nat), s.reachable = true → s.rateChanging = false →
    (s.memOff = true ∨ s.inWindow 0 a.toNat bs.length = false ∨ s.inGddr a.toNat bs.length = false) →
    Answers (.bar2Access true a bs n) s fun t =>
      t.mem = s.mem ∧ OnlyRegs [pPcie + 0x104] s t ∧
      t.fld pPcie F.PCIE_BAR2_DROP_CNT_DROP_CNT = countUp 32 (s.fld pPcie F.PCIE_BAR2_DROP_CNT_DROP_CNT) 1) ∧
  (∀ (s : State) (a : BitVec 36) (bs : List Byte) (n : Nat), s.reachable = true → s.rateChanging = false → s.memOff = false →
    s.inGddr a.toNat n = true → Answers (.bar2Access false a bs n) s fun t =>
      t = s.emit (.completion (s.mem.bytes a.toNat n))) ∧
  (∀ (s : State) (a : BitVec 36) (bs : List Byte) (n : Nat), s.reachable = true → s.rateChanging = false → s.memOff = false →
    s.inGddr a.toNat n = false → Answers (.bar2Access false a bs n) s fun t =>
      t.out = s.out ++ [.unsupported] ∧ OnlyRegs [pPcie + 0x108] s t ∧ t.mem = s.mem ∧
      t.fld pPcie F.PCIE_BAR2_UR_CNT_UR_CNT = countUp 32 (s.fld pPcie F.PCIE_BAR2_UR_CNT_UR_CNT) 1) ∧
  (∀ (s : State) (a : BitVec 36) (bs : List Byte) (n : Nat), s.reachable = true → s.rateChanging = false → s.memOff = true →
    Answers (.bar2Access false a bs n) s fun t => t = s.emit .completerAbort) ∧
  (∀ (s : State) (w : Bool) (a : BitVec 36) (bs : List Byte) (n : Nat), s.reachable = true → s.rateChanging = true →
    Answers (.bar2Access w a bs n) s fun t => t = { s with bar2Held := s.bar2Held ++ [⟨w, a.toNat, bs, n⟩] })

/-- From time zero until READY every configuration request is answered with Configuration Request Retry Status and
changes nothing else; from READY on a write to a word of the space is read back, in a base address register with the
address bits of its size and its type bits. While the engine is reachable a word below offset 0x100 of BAR4 reads back
as written, a vector-control word in its mask bit. PCIE_EP_LINK_UP records the link in PCIE_STAT while the main
domains run. TEST_PORT_CLOCK with TRST_N low leaves the test port in Test-Logic-Reset with BYPASS and touches nothing
else but what the test pins drive; with TRST_N high the controller takes its next state. -/
def Obligations.ConfigurationBar4AndLinkUp : Prop :=
  (∀ (s : State) w r b v, s.pow.up = true → s.ready = false →
    Answers (.configRequest w r b v) s fun t => t = s.emit .retryStatus) ∧
  (∀ (s : State) (r : BitVec 10) (v : Word), s.pow.up = true → s.ready = true →
    Answers (.configRequest true r 15 v) s fun t =>
      t.cfgWord r.toNat = (match barBits r.toNat with
        | some b => (v &&& b.1) ||| b.2
        | none => v) ∧ t.out = s.out ++ [.completion []] ∧ t.regs = s.regs ∧
      ∀ k, k ≠ r.toNat → t.cfgWord k = s.cfgWord k) ∧
  (∀ (s : State) (a : BitVec 16) (v : Word), s.reachable = true → a.toNat % 4 = 0 → a.toNat < 256 →
    Answers (.bar4Access true a v) s fun t => t.regs = s.regs ∧
      t.bar4Word a.toNat = if a.toNat % 16 = 12 then v &&& 1 else v) ∧
  (∀ (s : State) (speed : Fin 6) (width : Fin 9), s.pow.up = true → Answers (.pcieEpLinkUp speed width) s fun t =>
    t.fld pPcie F.PCIE_STAT_EP_UP = 1 ∧ t.fld pPcie F.PCIE_STAT_EP_SPEED = speed ∧ t.fld pPcie F.PCIE_STAT_EP_WIDTH = width ∧
    t.pow = { s.pow with epWake := false } ∧ OnlyRegs [pPcie + 0xC] s t) ∧
  (∀ (s : State) (tms tdi : Bool) (cells : List TestCell), Answers (.testPortClock false tms tdi cells) s fun t =>
    t.tap.state = 0 ∧ t.tap.ir = 0xF ∧ t.tap.flip = false ∧ t = { s with tap := t.tap, out := t.out }) ∧
  (∀ (s : State) (tms tdi : Bool) (cells : List TestCell), Answers (.testPortClock true tms tdi cells) s fun t =>
    t.tap.state = tapNext s.tap.state tms ∧ t = { s with tap := t.tap, out := t.out })

/-- While the engine is reachable and the port's link is up, a datagram that no check of R107, R110 and R111 drops is
executed: its SEQ is recorded as the last executed of its seat, its reply is stored and leaves by the port toward the
address it came from. That one whose operations reset the engine leaves no reply is read from R88 (log 71). If its SEQ
is that of the last executed datagram, the stored reply leaves again and the registers and rings stay as they are. A
datagram that a check drops counts one in SEAT_DG_DROP of the seat its header names, with the reason, and changes no
other register. -/
def Obligations.ControlDatagramsRunOnce : Prop :=
  (∀ (s : State) (port : PortNo) (v6 : Bool) (ip : BitVec 128) (udp : BitVec 16) (mac : BitVec 48) (bs : List Byte),
    let h := dgHeader ((quadsOf bs).getD 0 0)
    let stored (t : State) : DgRt := look ⟨false, []⟩ t.dgs h.seat
    let reply (bytes : List Byte) : Out :=
      .frame port mac.toNat (s.vlanTag port) (.datagram h.seat ⟨s.sourceIp port ip.toNat, ip.toNat, 23127, udp.toNat⟩ bytes)
    s.reachable = true → s.portUp port = true → 8 ≤ bs.length →
    (s.dgError port v6 ip.toNat udp.toNat bs = 0 → ¬ ((stored s).seen = true ∧ s.fld (pSeat h.seat) F.SEAT_SEQ_SEQ = h.seq) →
      (s.dgAll h.seat ((dgParse bs).getD [])).1.reachable = true →
      Answers (.controlDatagram port v6 ip udp mac bs) s fun t =>
        t.fld (pSeat h.seat) F.SEAT_SEQ_SEQ = h.seq ∧ (stored t).seen = true ∧
        (stored t).reply = dgReply h (s.dgAll h.seat ((dgParse bs).getD [])).2 ∧
        ∃ v src, Out.frame port mac.toNat v (.datagram h.seat ⟨src, ip.toNat, 23127, udp.toNat⟩ (stored t).reply) ∈ t.out) ∧
    (s.dgError port v6 ip.toNat udp.toNat bs = 0 → (stored s).seen = true → s.fld (pSeat h.seat) F.SEAT_SEQ_SEQ = h.seq →
      Answers (.controlDatagram port v6 ip udp mac bs) s fun t =>
        t.out = s.out ++ [reply (stored s).reply] ∧ t.rings = s.rings ∧ t.mem = s.mem ∧ t.dgs = s.dgs ∧ OnlyRegs [] s t) ∧
    (s.dgError port v6 ip.toNat udp.toNat bs ≠ 0 → Answers (.controlDatagram port v6 ip udp mac bs) s fun t =>
      t.fld (pSeat h.seat) F.SEAT_DG_DROP_DROP_CNT = countUp 28 (s.fld (pSeat h.seat) F.SEAT_DG_DROP_DROP_CNT) 1 ∧
      t.fld (pSeat h.seat) F.SEAT_DG_DROP_LAST_ERR = s.dgError port v6 ip.toNat udp.toNat bs ∧
      t.out = s.out ∧ OnlyRegs [pSeat h.seat + F.SEAT_DG_DROP_DROP_CNT.off] s t))

/-- A write of CRC_DATA by a seat that owns the unit's page feeds the enabled bytes, lowest address first, when they
are contiguous: each byte moves the running value as the pseudocode of the rule gives, with REFIN and POLY as
configured; otherwise nothing is fed. CRC_RESULT then reads the running value, bit-reversed unless REFIN and REFOUT
agree, exclusive-or XOROUT. -/
def Obligations.CheckValueUnitsFeedBytes : Prop :=
  let step (refin : Bool) (poly v b : Nat) : Nat :=
    if refin then iter (fun v => Nat.xor (v / 2) (if v % 2 = 1 then rev32 poly else 0)) 8 (Nat.xor v b)
    else iter (fun v => Nat.xor (v * 2 % 2 ^ 32) (if 2 ^ 31 ≤ v then poly else 0)) 8 (Nat.xor v (b * 2 ^ 24))
  (∀ (s : State) (seat : SeatNo) (unit : Fin 4) (v : Word) (first n : Nat), s.May seat (pCrc unit) →
    0 < n → first + n ≤ 4 →
    Answers (.crcDataWrite seat unit (BitVec.ofNat 4 ((2 ^ n - 1) * 2 ^ first)) v) s fun t =>
      t.fld (pCrc unit) F.CRC_VALUE_V =
        (List.range n).foldl (fun x i => step (s.fld (pCrc unit) F.CRC_CFG_REFIN == 1) (s.fld (pCrc unit) F.CRC_POLY_POLY) x
          (bitsOf v.toNat (8 * (first + i)) 8)) (s.fld (pCrc unit) F.CRC_VALUE_V) ∧
      OnlyRegs [pCrc unit + F.CRC_VALUE_V.off, pCrc unit + F.CRC_BYTE_CNT_BYTE_CNT.off] s t) ∧
  (∀ (s : State) (seat : SeatNo) (unit : Fin 4) (v : Word) (be : BitVec 4), s.May seat (pCrc unit) →
    be ∈ [5#4, 9#4, 10#4, 11#4, 13#4] → Answers (.crcDataWrite seat unit be v) s fun t =>
      t.fld (pCrc unit) F.CRC_VALUE_V = s.fld (pCrc unit) F.CRC_VALUE_V) ∧
  (∀ (s : State) (seat : SeatNo) (unit : Fin 4), s.serves seat = true →
    (s.hostRead seat (pCrc unit + F.CRC_RESULT_RESULT.off)).2 = BitVec.ofNat 32
      (Nat.xor (if s.fld (pCrc unit) F.CRC_CFG_REFIN = s.fld (pCrc unit) F.CRC_CFG_REFOUT then s.fld (pCrc unit) F.CRC_VALUE_V
        else rev32 (s.fld (pCrc unit) F.CRC_VALUE_V)) (s.fld (pCrc unit) F.CRC_XOROUT_XOROUT)))

/-- On a ring whose producer (PROD) or consumer (CONS) is the host, a write of the index by a writing seat: where it
moves forward under R16 at 32 bits and leaves the occupancy between 0 and the ring's size, the index takes the value;
otherwise ERR_CNT counts one and the index stays. The other index and the ring's configuration stay. -/
def Obligations.IndexWritesMoveForwardOrCount : Prop :=
  (∀ (s : State) (seat : SeatNo) (n : RingNo) (v : Word), s.serves seat = true → s.ringWriter seat n = true →
    (s.ring n).hostProduces = true → ¬ s.eventRing n →
    Answers (.ringIndexWrite seat n false v) s fun t =>
      let r := s.ring n
      let d := (v.toNat + 2 ^ 32 - r.prod) % 2 ^ 32
      (d < 2 ^ 31 → (d = 0 ∨ (s.zeroRing r = false ∧ r.occ + d ≤ r.size)) → t.ring n = { r with prod := v.toNat }) ∧
      ((2 ^ 31 ≤ d ∨ (0 < d ∧ (s.zeroRing r = true ∨ r.size < r.occ + d))) → t.ring n = { r with err := countUp 32 r.err 1 })) ∧
  (∀ (s : State) (seat : SeatNo) (n : RingNo) (v : Word), s.serves seat = true → s.ringWriter seat n = true →
    (s.ring n).hostConsumes = true → Answers (.ringIndexWrite seat n true v) s fun t =>
      let r := s.ring n
      let d := (v.toNat + 2 ^ 32 - r.cons) % 2 ^ 32
      (d < 2 ^ 31 → d ≤ r.occ → (t.ring n).cons = v.toNat ∧ (t.ring n).err = r.err) ∧
      ((2 ^ 31 ≤ d ∨ r.occ < d) → (t.ring n).cons = r.cons ∧ (t.ring n).err = countUp 32 r.err 1))

/-- An allocate that no reason of R133 refuses gives the seat the lowest free pool ring with the seat's arguments,
ENABLE set and both indices 0, and counts one pool ring fewer; a configure sets BASE, SPACE and SIZE_LOG2, ENABLE and
both indices; a release leaves the ring as at power-up and counts one pool ring more, and no SEAT_EVT_RING names the
ring any more; a reset of indices zeroes both; the last three discard the ring's command in progress; each reports
REASON 0 and the ring. An operation that a reason refuses reports the reason and leaves every ring as it was. Every
operation leaves the other rings as they were. Entries that event delivery puts into the seats' event rings, and
messages held for a tile that its emptied ring takes, stand apart. -/
def Obligations.RingOperationsActOrGiveAReason : Prop :=
  let key (seat : SeatNo) : Nat := seatKey seat pRing
  let quiet (s : State) (n : Nat) : Prop := ¬ s.eventRing n ∧ (n < 8192 → (s.credit (n / 2)).held = [])
  let said (t : State) (seat : SeatNo) (reason n : Nat) : Prop :=
    t.fld (key seat) F.RING_OP_STAT_REASON = reason ∧ t.fld (key seat) F.RING_OP_STAT_RING = n
  (∀ (s : State) (seat : SeatNo), s.serves seat = true →
    let a := s.ringArg seat
    (s.allocReason seat a = 0 → Answers (.ringAllocate seat) s fun t => ∃ n, 8200 ≤ n ∧ n < 16384 ∧ (s.ring n).role = 0 ∧
      (∀ m, 8200 ≤ m → m < n → (s.ring m).role ≠ 0) ∧
      (¬ s.eventRing n → t.ring n = { s.ring n with base := a.base, space := a.space, sizeLog2 := a.size, role := a.role,
                                                    cons := 0, prod := 0, owner := seat, enable := true }) ∧
      (t.ring n).base = a.base ∧ (t.ring n).role = a.role ∧ (t.ring n).owner = seat ∧ (t.ring n).enable = true ∧
      said t seat 0 n ∧ t.fld pRing F.RING_POOL_FREE_FREE = s.fld pRing F.RING_POOL_FREE_FREE - 1 ∧
      ∀ m, m ≠ n → ¬ s.eventRing m → t.ring m = s.ring m) ∧
    (s.allocReason seat a ≠ 0 → Answers (.ringAllocate seat) s fun t =>
      said t seat (s.allocReason seat a) 0 ∧ ∀ m, ¬ s.eventRing m → t.ring m = s.ring m)) ∧
  (∀ (s : State) (seat : SeatNo) (n : RingNo), s.serves seat = true →
    let a := s.ringArg seat
    let r := s.ring n
    (s.configReason seat n = 0 → Answers (.ringConfigure seat n) s fun t =>
      said t seat 0 n ∧ look none t.commands n = none ∧ (t.ring n).base = a.base ∧ (t.ring n).space = a.space ∧
      (t.ring n).sizeLog2 = a.size ∧ (t.ring n).enable = true ∧ (t.ring n).cons = 0 ∧
      (quiet s n → t.ring n = { r with base := a.base, space := a.space, sizeLog2 := a.size, cons := 0, prod := 0, enable := true,
                                       owner := if n.val < 8192 then seat else r.owner }) ∧
      ∀ m, m ≠ n → quiet s m → t.ring m = s.ring m) ∧
    (s.configReason seat n ≠ 0 → Answers (.ringConfigure seat n) s fun t =>
      said t seat (s.configReason seat n) n ∧ t.commands = s.commands ∧ ∀ m, quiet s m → t.ring m = s.ring m)) ∧
  (∀ (s : State) (seat : SeatNo) (n : RingNo), s.serves seat = true →
    (s.targetReason seat n true = 0 → Answers (.ringRelease seat n) s fun t =>
      said t seat 0 n ∧ t.ring n = ringReset n ∧ look none t.commands n = none ∧
      t.fld pRing F.RING_POOL_FREE_FREE = (s.fld pRing F.RING_POOL_FREE_FREE + 1) % 2 ^ 14 ∧
      (∀ k : SeatNo, ¬ (t.fld (pSeat k) F.SEAT_EVT_RING_VALID = 1 ∧ t.fld (pSeat k) F.SEAT_EVT_RING_RING = n)) ∧
      ∀ m, m ≠ n → ¬ s.eventRing m → t.ring m = s.ring m) ∧
    (s.targetReason seat n true ≠ 0 → Answers (.ringRelease seat n) s fun t =>
      said t seat (s.targetReason seat n true) n ∧ t.commands = s.commands ∧ ∀ m, ¬ s.eventRing m → t.ring m = s.ring m)) ∧
  (∀ (s : State) (seat : SeatNo) (n : RingNo), s.serves seat = true →
    (s.targetReason seat n false = 0 → Answers (.ringResetIndices seat n) s fun t =>
      said t seat 0 n ∧ look none t.commands n = none ∧ (t.ring n).cons = 0 ∧
      (quiet s n → t.ring n = { s.ring n with cons := 0, prod := 0 }) ∧ ∀ m, m ≠ n → quiet s m → t.ring m = s.ring m) ∧
    (s.targetReason seat n false ≠ 0 → Answers (.ringResetIndices seat n) s fun t =>
      said t seat (s.targetReason seat n false) n ∧ t.commands = s.commands ∧ ∀ m, quiet s m → t.ring m = s.ring m))

/-- COPY, FILL and NOP start the command of their KIND at the front of a command ring of which none runs, and give it
the status of the first check that fails: a reserved SPACE 0x04; LEN 0 status 0x00; LEN no multiple of 4, 0x05; a
space that the ring's seat may not reach, 0x03; a range outside installed GDDR6 (all of it while MEM_OFFLINE is set)
or one that wraps, 0x01; a GDDR6 destination outside the seat's window, 0x02; else 0x00. COMMAND_COMPLETE moves CONS
past the command; a failing command, a transfer error included, and one with LEN 0 write no byte of GDDR6 or host
memory but their completion entries. -/
def Obligations.HostCommandsAreJudgedInOrder : Prop :=
  (∀ (s : State) (n : RingNo) (ws : List Nat) (c : Instr) (kind : Nat),
    (c, kind) ∈ [(Instr.copy n, 0x10), (Instr.fill n, 0x11), (Instr.nop n, 0x12)] →
    s.frontCommand n = some ws → look none s.commands n = none → bitsOf (wordAt ws 0) 56 8 = kind →
    let seat := (s.ring n).owner
    let len := bitsOf (wordAt ws 3) 0 32
    let dsp := bitsOf (wordAt ws 3) 56 2
    let ssp := if kind = 0x10 then bitsOf (wordAt ws 3) 58 2 else 0
    let status : Nat :=
      if kind = 0x12 then 0
      else if 1 < dsp ∨ 1 < ssp then 4
      else if len = 0 then 0
      else if len % 4 ≠ 0 then 5
      else if seat ≠ 0 ∧ (dsp = 1 ∨ ssp = 1) then 3
      else if s.badRange dsp (wordAt ws 2) len ∨ (kind = 0x10 ∧ s.badRange ssp (wordAt ws 1) len) then 1
      else if dsp = 0 ∧ s.inWindow seat (wordAt ws 2) len = false then 2 else 0
    Answers c s fun t => look none t.commands n = some status ∧ t = { s with commands := t.commands } ∧
      ∀ m : Nat, m ≠ n → look none t.commands m = look none s.commands m) ∧
  (∀ (s : State) (n : RingNo) (ws : List Nat) (ok : Bool) (status : Nat),
    s.frontCommand n = some ws → look none s.commands n = some status →
    Answers (.commandComplete n ok) s fun t =>
      (t.ring n).cons = ((s.ring n).cons + 1) % 2 ^ 32 ∧ look none t.commands n = none ∧
      ((status ≠ 0 ∨ (usesPcie ws = true ∧ ok = false) ∨ bitsOf (wordAt ws 3) 0 32 = 0) →
        (∀ a, ¬ s.inEventRing false a → t.mem.byte a = s.mem.byte a) ∧
        (∀ a, ¬ s.inEventRing true a → look 0 t.hostMem a = look 0 s.hostMem a)))

/-- COMMAND_COMPLETE of a passed FILL in GDDR6 leaves the pattern in every 4-byte word of the destination; of a passed
COPY within GDDR6 it leaves in each byte of the destination what the byte of the source held before the move. No other
byte of GDDR6 changes, completion entries in the event rings apart. -/
def Obligations.FillAndCopyMoveTheirBytes : Prop :=
  ∀ (s : State) (n : RingNo) (ws : List Nat) (ok : Bool), s.frontCommand n = some ws → look none s.commands n = some 0 →
    bitsOf (wordAt ws 3) 56 2 = 0 → bitsOf (wordAt ws 3) 0 32 % 4 = 0 →
    (bitsOf (wordAt ws 0) 56 8 = 0x11 ∨ (bitsOf (wordAt ws 0) 56 8 = 0x10 ∧ bitsOf (wordAt ws 3) 58 2 = 0)) →
    Answers (.commandComplete n ok) s fun t =>
      (∀ i, i < bitsOf (wordAt ws 3) 0 32 → ¬ s.inEventRing false (wordAt ws 2 + i) →
        t.mem.byte (wordAt ws 2 + i) =
          if bitsOf (wordAt ws 0) 56 8 = 0x11 then BitVec.ofNat 8 (wordAt ws 1 >>> (8 * (i % 4))) else s.mem.byte (wordAt ws 1 + i)) ∧
      (∀ a, (a < wordAt ws 2 ∨ wordAt ws 2 + bitsOf (wordAt ws 3) 0 32 ≤ a) → ¬ s.inEventRing false a →
        t.mem.byte a = s.mem.byte a)

/-- TILE_MSG_SEND: the next message of an enabled downstream ring with room-counted credit, wholly produced and with
its feed active, leaves, CONS moves past all of its slots, and the tile's used credit counts its words and one more; a
descriptor of another KIND or a LEN above 256 halts the ring and counts; a message not yet whole, without credit or
with its feed down waits and changes nothing. UPSTREAM_MSG_RX on an active feed: a host message of a tile placed on
the link, with none held, whose ring has room for all of it moves PROD past it; one that finds no room is held; a
packet with a bad CRC, or with SYS 1, is counted and dropped, and one with UP 0 has returned and counts in
WL_LOOP_CNT. That a message is held when the ring is full is read from the spec (log 47). -/
def Obligations.TileMessagesMoveWhole : Prop :=
  (∀ (s : State) (tile : TileNo) (link : Nat) (sec : Bool),
    let n := 2 * tile.val
    let r := s.ring n
    let d := s.slotWords r r.cons
    let len := bitsOf (wordAt d 1) 32 15
    let c := s.credit tile
    s.tileFeed tile = some (link, sec) → r.enable = true → s.zeroRing r = false → r.occ ≠ 0 →
    (bitsOf (wordAt d 0) 56 8 = 1 → len ≤ 256 → msgSlots len ≤ r.occ → s.feedActive link sec = true →
      enough c.limit0 c.used0 len = true → Answers (.tileMsgSend tile) s fun t =>
        t.ring n = { r with cons := (r.cons + msgSlots len) % 2 ^ 32 } ∧
        t.credit tile = { c with used0 := (c.used0 + len + 1) % 2 ^ 24 } ∧ (∃ ws crc, t.out = s.out ++ [.packet link sec ws crc]) ∧
        t.fld (pWl link) F.WL_TX_PKT_CNT_TX_CNT = countUp 32 (s.fld (pWl link) F.WL_TX_PKT_CNT_TX_CNT) 1) ∧
    ((bitsOf (wordAt d 0) 56 8 ≠ 1 ∨ 256 < len) →
      Answers (.tileMsgSend tile) s fun t => t = s.setRing n { r with enable := false, err := countUp 32 r.err 1 }) ∧
    (bitsOf (wordAt d 0) 56 8 = 1 → len ≤ 256 → (r.occ < msgSlots len ∨ s.feedActive link sec = false ∨
      enough c.limit0 c.used0 len = false) → exec (.tileMsgSend tile) s = .next s)) ∧
  (∀ (s : State) (link : LinkNo) (sec : Bool) (tile : TileNo) (lo : Word) (p : List Quad), s.feedActive link sec = true →
    let n := 2 * tile.val + 1
    let r := s.ring n
    let counts (x : Fld) (t : State) : Prop := t = s.inc (pWl link) x
    (bit lo.toNat 30 = true → bit lo.toNat 31 = false → s.tileLink tile = some link.val → (s.credit tile).held = [] →
      p.length ≤ 256 → s.zeroRing r = false → s.hostGone r = false → ¬ s.eventRing n →
      Answers (.upstreamMsgRx link sec true tile lo p) s fun t =>
        t.fld (pWl link) F.WL_RX_PKT_CNT_RX_CNT = countUp 32 (s.fld (pWl link) F.WL_RX_PKT_CNT_RX_CNT) 1 ∧
        (r.occ + msgSlots p.length ≤ r.size → (t.credit tile).held = [] ∧
          t.ring n = { r with prod := (r.prod + msgSlots p.length) % 2 ^ 32 }) ∧
        (r.size < r.occ + msgSlots p.length → t.ring n = r ∧
          (t.credit tile).held = [(lo.toNat, s.now % 2 ^ 40, p.map (·.toNat))])) ∧
    Answers (.upstreamMsgRx link sec false tile lo p) s (counts F.WL_CRC_ERR_CNT_CRC_CNT) ∧
    (bit lo.toNat 30 = false → Answers (.upstreamMsgRx link sec true tile lo p) s (counts F.WL_LOOP_CNT_LOOP_CNT)) ∧
    (bit lo.toNat 30 = true → bit lo.toNat 31 = true →
      Answers (.upstreamMsgRx link sec true tile lo p) s (counts F.WL_CRC_ERR_CNT_CRC_CNT)))

/-- While the main domains run and the port's link is up: a frame that fails its check sequence counts one in
ETH_FCS_CNT and nothing else; a pause frame or one with a length or VLAN tag that the port does not take changes
nothing; a frame to a MAC address that the port does not take counts one in ETH_UNMATCHED_CNT and nothing else; any
other but a control datagram, whose operations may clear the counters, counts one in ETH_RX_CNT, and in
ETH_UNMATCHED_CNT too when its IP header is refused, when nothing consumes its kind, or when it is a UDP datagram with
a refused checksum or one that is neither PTP nor a control datagram and that no path of a flow matches. An ARP
request for the port's own address is answered. -/
def Obligations.EthernetFramesAreCounted : Prop :=
  ∀ (s : State) (p : PortNo) (f : EthFrame), s.pow.up = true → s.portUp p = true →
    let refused : Prop := f.body = .other ∨ ∃ h b, f.body = .ip h b ∧ (ipBad h = true ∨ b = .other ∨
      ∃ u bs, b = .udp u bs ∧ (sumTaken h u.sum = false ∨ (u.dstPort.toNat ≠ 319 ∧ u.dstPort.toNat ≠ 320 ∧
        ¬ (u.dstPort.toNat = 23127 ∧ s.ownAddress p h.v6 h.dst.toNat = true) ∧ s.matchPath p (readRtp h u.dstPort.toNat bs) = none)))
    (f.fcsOk = false → Answers (.ethFrameRx p f) s fun t => t = s.inc (pEth p) F.ETH_FCS_CNT_FCS_CNT) ∧
    (f.fcsOk = true → (f.pause = true ∨ s.takesFrame p f = false) → exec (.ethFrameRx p f) s = .next s) ∧
    (f.fcsOk = true → f.pause = false → s.takesFrame p f = true → s.takesMac p f.dst.toNat = false →
      Answers (.ethFrameRx p f) s fun t => t = s.inc (pEth p) F.ETH_UNMATCHED_CNT_UNMATCHED_CNT) ∧
    (f.fcsOk = true → f.pause = false → s.takesFrame p f = true → s.takesMac p f.dst.toNat = true →
      (∀ h u bs, f.body = .ip h (.udp u bs) → u.dstPort.toNat ≠ 23127) → Answers (.ethFrameRx p f) s fun t =>
        t.fld (pEth p) F.ETH_RX_CNT_RX_CNT = countUp 32 (s.fld (pEth p) F.ETH_RX_CNT_RX_CNT) 1) ∧
    (f.fcsOk = true → f.pause = false → s.takesFrame p f = true → s.takesMac p f.dst.toNat = true → refused →
      Answers (.ethFrameRx p f) s fun t =>
        t.fld (pEth p) F.ETH_RX_CNT_RX_CNT = countUp 32 (s.fld (pEth p) F.ETH_RX_CNT_RX_CNT) 1 ∧
        t.fld (pEth p) F.ETH_UNMATCHED_CNT_UNMATCHED_CNT = countUp 32 (s.fld (pEth p) F.ETH_UNMATCHED_CNT_UNMATCHED_CNT) 1 ∧
        OnlyRegs [pEth p + 0x144, pEth p + 0x154] s t ∧ t.flows = s.flows) ∧
    (∀ (sha : BitVec 48) (spa tpa : BitVec 32), f.fcsOk = true → f.pause = false → s.takesFrame p f = true →
      s.takesMac p f.dst.toNat = true → f.body = .arp sha spa tpa true → s.ip4 p ≠ 0 → tpa.toNat = s.ip4 p →
      Answers (.ethFrameRx p f) s fun t =>
        Out.frame p sha.toNat (s.vlanTag p) (.arpReply sha spa) ∈ t.out ∧
        t.fld (pEth p) F.ETH_RX_CNT_RX_CNT = countUp 32 (s.fld (pEth p) F.ETH_RX_CNT_RX_CNT) 1)

/-- A video packet in a UDP datagram that a path of flow k matches counts one on its path. A malformed one counts in
FLOW_MALFORMED_CNT and leaves what the flow keeps; one whose sequence number lies 32,768 or more behind counts in
FLOW_LATE_CNT and leaves it too; a second copy counts in FLOW_DUP_CNT; a first copy of an earlier frame counts in
FLOW_LATE_CNT; none of these writes GDDR6 but ring entries. Any other is used: the record's highest number is as the
merge gives it, a frame is in assembly, and the path is up. During a change of pin rate the packet is dropped before
any of this. -/
def Obligations.VideoPacketsCountOnce : Prop :=
  ∀ (s : State) (p : PortNo) (f : EthFrame) (h : IpRx) (u : UdpRx) (bs : List Byte) (k : Nat) (b : Bool),
    let v := readRtp h u.dstPort.toNat bs
    s.pow.up = true → s.portUp p = true → f.fcsOk = true → f.pause = false → s.takesFrame p f = true →
    s.takesMac p f.dst.toNat = true → f.body = .ip h (.udp u bs) → ipBad h = false → sumTaken h u.sum = true →
    u.dstPort.toNat ≠ 319 → u.dstPort.toNat ≠ 320 → ¬ (u.dstPort.toNat = 23127 ∧ s.ownAddress p h.v6 h.dst.toNat = true) →
    s.matchPath p v = some (k, b) →
    let m := (s.flow k).merge v.seq b s.now
    let cnt (t : State) (x : Fld) (n : Nat) : Prop := t.fld (pFlow k) x = countUp 32 (s.fld (pFlow k) x) n
    (s.rateChanging = true → Answers (.ethFrameRx p f) s fun t =>
      t.flows = s.flows ∧ OnlyRegs [pEth p + 0x144] s t ∧ ∀ a, ¬ s.inEventRing false a → t.mem.byte a = s.mem.byte a) ∧
    (s.rateChanging = false → Answers (.ethFrameRx p f) s fun t =>
      cnt t (if b then F.FLOW_PATH_B_CNT_PKT_CNT else F.FLOW_PATH_A_CNT_PKT_CNT) 1 ∧
      (s.malformed k v = true → cnt t F.FLOW_MALFORMED_CNT_MALFORMED_CNT 1 ∧ t.flows = s.flows) ∧
      (s.malformed k v = false → cnt t F.FLOW_MALFORMED_CNT_MALFORMED_CNT 0 ∧
        (m.2 = .late → cnt t F.FLOW_LATE_CNT_LATE_CNT 1 ∧ t.flow k = s.flow k) ∧
        (m.2 = .duplicate → cnt t F.FLOW_DUP_CNT_DUP_CNT 1 ∧ cnt t F.FLOW_LATE_CNT_LATE_CNT 0) ∧
        (m.2 = .accepted → m.1.late v.ts = true → cnt t F.FLOW_LATE_CNT_LATE_CNT 1 ∧ t.flow k = m.1) ∧
        (m.2 = .accepted → m.1.late v.ts = false → cnt t F.FLOW_LATE_CNT_LATE_CNT 0 ∧
          (t.flow k).high = m.1.high ∧ (t.flow k).asm.isSome = true ∧ t.fld (pFlow k) (upFld b) = 1)) ∧
      ((s.malformed k v = true ∨ m.2 ≠ .accepted ∨ m.1.late v.ts = true) →
        ∀ a, ¬ s.inRing false a → t.mem.byte a = s.mem.byte a))

/-- FRAME_COMPLETE of a frame whose pixels are all written makes its buffer the newest and counts it. An ING_PUSH of
seat 0 at an enabled push flow waits; PUSH_COMPLETE, with no BAR2 request held back, then makes the push buffer the
newest, counts it and samples its tracker; another ING_PUSH of a seat that owns ING counts in ING_PUSH_ERR with its
reason. PATH_LOST of an enabled path that is up clears its UP bit and sets ING condition 1, and when every enabled
path is lost the frame in assembly ends and the merge record empties. FLOW_CLEAR and ETH_CLEAR zero the counters of
the flow and of the port, those that event delivery may count again apart. -/
def Obligations.FramesCompleteAndPathsAreLost : Prop :=
  (∀ (s : State) (f : FlowNo) (a : Asm), (s.flow f).asm = some a → a.full = true → s.memOff = false →
    Answers (.frameComplete f) s fun t =>
      (t.flow f).asm = none ∧ (t.flow f).newest = some a.buf ∧ (t.flow f).lastTs = some a.ts ∧
      (t.flow f).frame a.buf = some ⟨(s.flow f).serial + 1, a.ts, s.now, false⟩ ∧
      t.fld (pFlow f) F.FLOW_COMPLETE_CNT_COMPLETE_CNT = countUp 32 (s.fld (pFlow f) F.FLOW_COMPLETE_CNT_COMPLETE_CNT) 1) ∧
  (∀ (s : State) (seat : SeatNo) (f : FlowNo), s.May seat pIng → Answers (.ingPush seat f) s fun t =>
    let err : Nat := if seat ≠ 0 then 1
      else if s.ff (pFlow f) F.FLOW_CFG_ENABLE = 0 ∨ s.ff (pFlow f) F.FLOW_CFG_SOURCE = 0 then 2 else if s.memOff then 3 else 0
    (err = 0 → t.flow f = { s.flow f with waiting := (s.flow f).waiting + 1 } ∧ OnlyRegs [pIng + 0x100] s t) ∧
    (err ≠ 0 → t.flows = s.flows ∧ t.fld pIng F.ING_PUSH_ERR_LAST_ERR = err ∧ t.cond pIng 6 ∧
      t.fld pIng F.ING_PUSH_ERR_ERR_CNT = countUp 28 (s.fld pIng F.ING_PUSH_ERR_ERR_CNT) 1)) ∧
  (∀ (s : State) (f : FlowNo), 0 < (s.flow f).waiting → s.memOff = false → s.bar2Held = [] → Answers (.pushComplete f) s fun t =>
    (t.flow f).waiting = (s.flow f).waiting - 1 ∧ (t.flow f).newest = some (s.flow f).pushBuf ∧
    (t.flow f).pushes = ((s.flow f).pushes + 1) % 2 ^ 32 ∧ Out.sample (16 + f) s.now ∈ t.out ∧
    t.fld (pFlow f) F.FLOW_COMPLETE_CNT_COMPLETE_CNT = countUp 32 (s.fld (pFlow f) F.FLOW_COMPLETE_CNT_COMPLETE_CNT) 1) ∧
  (∀ (s : State) (f : FlowNo) (b : Bool), (pathOf s.force f (if b then 1 else 0)).on = true → s.fld (pFlow f) (upFld b) = 1 →
    Answers (.pathLost f b) s fun t =>
      t.fld (pFlow f) (upFld b) = 0 ∧ t.cond pIng 1 ∧
      (((pathOf s.force f (if b then 0 else 1)).on = false ∨ s.fld (pFlow f) (upFld (!b)) = 0) →
        (t.flow f).asm = none ∧ (t.flow f).high = none ∧ (t.flow f).seen = [] ∧ (t.flow f).lastTs = none)) ∧
  (∀ (s : State) (seat : SeatNo) (f : FlowNo), s.May seat pIng → Answers (.flowClear seat f) s fun t =>
    (∀ x ∈ [F.FLOW_COMPLETE_CNT_COMPLETE_CNT, F.FLOW_DAMAGED_CNT_DAMAGED_CNT, F.FLOW_SKIPPED_CNT_SKIPPED_CNT,
      F.FLOW_REPEAT_CNT_REPEAT_CNT, F.FLOW_DUP_CNT_DUP_CNT, F.FLOW_LATE_CNT_LATE_CNT, F.FLOW_MALFORMED_CNT_MALFORMED_CNT,
      F.FLOW_PATH_A_CNT_PKT_CNT, F.FLOW_PATH_B_CNT_PKT_CNT], t.fld (pFlow f) x = 0) ∧ (t.flow f).gaps = []) ∧
  (∀ (s : State) (seat : SeatNo) (p : PortNo), s.May seat (pEth p) → Answers (.ethClear seat p) s fun t =>
    ∀ x ∈ [F.ETH_RX_CNT_RX_CNT, F.ETH_FCS_CNT_FCS_CNT, F.ETH_FEC_CORR_CNT_CORR_CNT, F.ETH_FEC_UNCORR_CNT_UNCORR_CNT,
      F.ETH_UNMATCHED_CNT_UNMATCHED_CNT, F.ETH_STAT_ADDR_CONFLICT], t.fld (pEth p) x = 0)

/-- With its link up a port repeats the oldest state-change report that waits to be repeated, and answers queries for
the groups it has joined; IPv4 and IPv6 records leave apart, to 224.0.0.22 and ff02::16. A neighbour request goes
again while fewer than three have gone, and the miss counts it; NEIGHBOUR_FAILURE after three drops the frames that
waited, counts each, and sets ETH condition 4, before what event delivery then does; NEIGHBOUR_ENTRY_EXPIRE removes
the address from the cache and leaves the registers. -/
def Obligations.NeighboursAndGroupReports : Prop :=
  let sent (s : State) (p : PortNo) (rs : List GroupRec) (change : Bool) : List Out :=
    let a := rs.filter (fun r => groupV4 r.group)
    let b := rs.filter (fun r => !groupV4 r.group)
    (if a = [] then [] else [.frame p 0x01005E000016 (s.vlanTag p) (.groupReport (s.ip4 p) 0xE0000016 a change)]) ++
    (if b = [] then [] else [.frame p 0x333300000016 (s.vlanTag p) (.groupReport (s.ip6ll p) (0xFF02 * 2 ^ 112 + 0x16) b change)])
  (∀ (s : State) (p : PortNo) (rs : List GroupRec) (rest : List (List GroupRec)), s.portUp p = true →
    (s.port p).changes = rs :: rest → Answers (.stateChangeRepeat p) s fun t =>
      t.out = s.out ++ sent s p rs true ∧ t.port p = { s.port p with changes := rest } ∧ t.flows = s.flows) ∧
  (∀ (s : State) (p : PortNo), (s.port p).changes = [] → exec (.stateChangeRepeat p) s = .next s) ∧
  (∀ (s : State) (p : PortNo), s.portUp p = true → Answers (.currentStateReport p) s fun t =>
    let asked := (s.port p).reports.filter (fun g => (s.port p).groups.any (fun e => e.1 == g))
    t.out = s.out ++ sent s p (asked.map (groupRec (s.port p).groups)) false ∧
    t.port p = { s.port p with reports := [] } ∧ t.flows = s.flows) ∧
  (∀ (s : State) (p : PortNo) (ip : BitVec 128) (n : Nat) (w : List Tx),
    (s.port p).misses.find? (fun e => e.1 == ip) = some (ip, n, w) → n < 3 → Answers (.neighbourRetry p ip) s fun t =>
      t.out = s.out ++ [.frame p (if ip.toNat < 2 ^ 32 then 0xFFFFFFFFFFFF else solicitedMac ip.toNat) (s.vlanTag p) (.neighbourRequest ip)] ∧
      (t.port p).misses.find? (fun e => e.1 == ip) = some (ip, n + 1, w)) ∧
  (∀ (s : State) (p : PortNo) (ip : BitVec 128) (n : Nat) (w : List Tx),
    (s.port p).misses.find? (fun e => e.1 == ip) = some (ip, n, w) → 3 ≤ n → Answers (.neighbourFailure p ip) s fun t =>
      ∃ u, Delivers u t ∧ (∀ e ∈ (u.port p).misses, e.1 ≠ ip) ∧ u.cond (pEth p) 4 ∧
        u.fld (pEth p) F.ETH_NBR_FAIL_CNT_NBR_FAIL_CNT = countUp 32 (s.fld (pEth p) F.ETH_NBR_FAIL_CNT_NBR_FAIL_CNT) w.length) ∧
  (∀ (s : State) (p : PortNo) (ip : BitVec 128), Answers (.neighbourEntryExpire p ip) s fun t =>
    (∀ e ∈ (t.port p).cache, e.1 ≠ ip) ∧ (∀ e ∈ (s.port p).cache, e.1 ≠ ip → e ∈ (t.port p).cache) ∧ t.regs = s.regs)

/-- ETH_LINK_UP of a port that waits for lock sets LINK_UP, the lock bits of its lanes and its stage 5; ETH_LINK_DOWN
of a port that is up clears LINK_UP and sends its lanes back to detection. What a Wickline feed receives from stage 3
to 5: a codeword that cannot be corrected, and an ERROR block, count on the link, with condition 5; the hop-scope
FILL, ALIGN and delay blocks leave everything as it is; a codeword on a lane outside the width is none. An
uncorrectable codeword of a port counts on the port, with condition 2. -/
def Obligations.EthernetLinksRiseAndFall : Prop :=
  (∀ (s : State) (p : PortNo) (trims : List LaneTrim), (s.feed (1024 + p)).stage = 3 →
    Answers (.ethLinkUp p trims) s fun t =>
      t.fld (pEth p) F.ETH_STAT_LINK_UP = 1 ∧
      t.fld (pEth p) F.ETH_STAT_LANE_LOCK = (2 ^ (s.feed (1024 + p)).width - 1) % 2 ^ 8 ∧
      t.feed (1024 + p) = { s.feed (1024 + p) with stage := 5, relock := false, fails := 0 }) ∧
  (∀ (s : State) (p : PortNo), (s.feed (1024 + p)).stage = 5 → Answers (.ethLinkDown p) s fun t =>
    t.fld (pEth p) F.ETH_STAT_LINK_UP = 0 ∧
    t.feed (1024 + p) = { s.feed (1024 + p) with stage := s.firstStage (s.feed (1024 + p)), relock := false, record := 2 }) ∧
  (∀ (s : State) (l : LinkNo) (sec : Bool) (what : LineIn),
    let k := feedKey (.wl l sec)
    s.pow.up = true → 3 ≤ (s.feed k).stage → (s.feed k).stage ≤ 5 →
    (((∃ i c, what = .codeword i c ∧ i.val < (s.feed k).width ∧ rsDecode (c.map (·.toNat)) = none) ∨
        (∃ bs, what = .block true (0xEE :: bs))) → Answers (.uncorrectableCodeword (.wl l sec) what) s fun t =>
      t.fld (pWl l) F.WL_FEC_UNCORR_CNT_UNCORR_CNT = countUp 32 (s.fld (pWl l) F.WL_FEC_UNCORR_CNT_UNCORR_CNT) 1 ∧
      t.cond (pWl l) 5 ∧ OnlyRegs [pWl l + F.WL_FEC_UNCORR_CNT_UNCORR_CNT.off, pWl l + 0x10] s t ∧
      (t.line k).rx.part = [] ∧ (t.line k).rx.skip = true) ∧
    ((∃ c bs, c ∈ [0xF1#8, 0xA1#8, 0xD1#8, 0xD2#8] ∧ what = .block true (c :: bs)) →
      Answers (.uncorrectableCodeword (.wl l sec) what) s fun t => (t.line k).rx = (s.line k).rx ∧ t = { s with lines := t.lines }) ∧
    ((∃ i c, what = .codeword i c ∧ (s.feed k).width ≤ i.val) → exec (.uncorrectableCodeword (.wl l sec) what) s = .next s)) ∧
  (∀ (s : State) (p : PortNo) (i : Fin 4) (c : List (BitVec 10)), s.pow.up = true → 3 ≤ (s.feed (feedKey (.eth p))).stage →
    (s.feed (feedKey (.eth p))).stage ≤ 5 → Answers (.uncorrectableCodeword (.eth p) (.codeword i c)) s fun t =>
      t.cond (pEth p) 2 ∧
      t.fld (pEth p) F.ETH_FEC_UNCORR_CNT_UNCORR_CNT = countUp 32 (s.fld (pEth p) F.ETH_FEC_UNCORR_CNT_UNCORR_CNT) 1)

/-- On an active feed a link report with a good CRC counts its repeats for the position and the link, keeps both
delays and notes its feed; one with a bad CRC counts alone; on a feed that is not active neither does anything. The
first capability report of a position makes it present, keeps what it says and sets WL condition 2; the position takes
the number of the enabled tile placed there when its geometry agrees, and that tile's entry the declared buffer;
otherwise it is a mismatch with tile 0x1FFF, and condition 4 is set when the mismatch is new. A report with another
serial number and POS_CONFLICT, of a position held, sets MISMATCH and condition 4 and leaves presence, number and
identity. POSITION_VANISH after 16 quiet cycles takes presence and number away and sets condition 2; before that it
does nothing. A downstream packet that comes back on an active feed counts alone. That the serial number and
POS_CONFLICT tell a second tile is the model's choice (log 72). -/
def Obligations.WicklineReportsReachTheirRegisters : Prop :=
  (∀ (s : State) (l : LinkNo) (sec : Bool) (q : PosNo) (ng dark : Byte) (a b : Word),
    (s.feedActive l sec = true → Answers (.linkReportRx l sec true q ng dark a b) s (fun t =>
      t.fld (pWl l) F.WL_RX_PKT_CNT_RX_CNT = countUp 32 (s.fld (pWl l) F.WL_RX_PKT_CNT_RX_CNT) 1 ∧
      t.fld (pWl l) F.POS_REPEAT_CNT_REPEAT_CNT q = countUp 32 (s.fld (pWl l) F.POS_REPEAT_CNT_REPEAT_CNT q) (ones ng.toNat 8) ∧
      t.fld (pWl l) F.WL_REPEAT_CNT_REPEAT_CNT = countUp 32 (s.fld (pWl l) F.WL_REPEAT_CNT_REPEAT_CNT) (ones ng.toNat 8) ∧
      t.fld (pWl l) F.POS_DELAY_A_DELAY q = a.toNat ∧ t.fld (pWl l) F.POS_DELAY_B_DELAY q = b.toNat ∧
      t.fld (pWl l) F.POS_STAT_VIA_SEC q = (if sec then 1 else 0) ∧
      t.fld (pWl l) F.POS_STAT_PRESENT q = s.fld (pWl l) F.POS_STAT_PRESENT q) ∧
    Answers (.linkReportRx l sec false q ng dark a b) s (fun t => t = s.inc (pWl l) F.WL_CRC_ERR_CNT_CRC_CNT)) ∧
    (s.feedActive l sec = false → ∀ ok, exec (.linkReportRx l sec ok q ng dark a b) s = .next s)) ∧
  (∀ (s : State) (l : LinkNo) (sec conflict last : Bool) (q : PosNo) (w1 w2 w3 w4 : Quad), s.feedActive l sec = true →
    s.job = none →
    let fits (k : Nat) : Prop := tileAt s.force l q = some k ∧ bitsOf w2.toNat 30 10 + 1 = (tileOf s.force k).tw ∧
      bitsOf w2.toNat 20 10 + 1 = (tileOf s.force k).th ∧ bitsOf w2.toNat 18 2 + 1 = (tileOf s.force k).lamps
    (s.fld (pWl l) F.POS_STAT_PRESENT q = 0 → Answers (.capabilityReportRx l sec true q conflict last w1 w2 w3 w4) s fun t =>
      t.fld (pWl l) F.POS_STAT_PRESENT q = 1 ∧ t.cond (pWl l) 2 ∧
      t.fld (pWl l) F.POS_ID0_MAKER q = bitsOf w1.toNat 48 16 ∧ t.fld (pWl l) F.POS_ID0_PRODUCT q = bitsOf w1.toNat 32 16 ∧
      t.fld (pWl l) F.POS_ID1_FW_VERSION q = bitsOf w1.toNat 0 32 ∧ t.fld (pWl l) F.POS_BUF_BUF_KIB q = bitsOf w2.toNat 40 24 ∧
      t.fld (pWl l) F.POS_GEOM_MIN_ON q = bitsOf w2.toNat 0 10 ∧
      t.fld (pWl l) F.POS_STAT_POS_CONFLICT q = (if conflict then 1 else 0) ∧
      (∀ k, fits k → t.fld (pWl l) F.POS_STAT_TILE q = k ∧ t.fld (pWl l) F.POS_STAT_ASSIGNED q = 1 ∧
        ((s.posAt l q).second = false → t.fld (pWl l) F.POS_STAT_MISMATCH q = 0) ∧
        t.fld (pTile k) F.TL_DECL_DECL_KIB = bitsOf w2.toNat 40 24) ∧
      ((¬ ∃ k, fits k) → t.fld (pWl l) F.POS_STAT_TILE q = 0x1FFF ∧ t.fld (pWl l) F.POS_STAT_ASSIGNED q = 0 ∧
        t.fld (pWl l) F.POS_STAT_MISMATCH q = 1 ∧ (s.fld (pWl l) F.POS_STAT_MISMATCH q = 0 → t.cond (pWl l) 4))) ∧
    (∀ n, s.fld (pWl l) F.POS_STAT_PRESENT q = 1 → (s.posAt l q).serial = some n → n ≠ w4.toNat →
      Answers (.capabilityReportRx l sec true q true last w1 w2 w3 w4) s fun t =>
        t.fld (pWl l) F.POS_STAT_MISMATCH q = 1 ∧ t.cond (pWl l) 4 ∧
        t.fld (pWl l) F.POS_STAT_POS_CONFLICT q = 1 ∧ t.fld (pWl l) F.POS_STAT_VIA_SEC q = (if sec then 1 else 0) ∧
        t.fld (pWl l) F.POS_STAT_PRESENT q = 1 ∧ t.fld (pWl l) F.POS_STAT_TILE q = s.fld (pWl l) F.POS_STAT_TILE q ∧
        t.fld (pWl l) F.POS_ID1_FW_VERSION q = s.fld (pWl l) F.POS_ID1_FW_VERSION q)) ∧
  (∀ (s : State) (l : LinkNo) (q : PosNo),
    (16 ≤ (s.posAt l q).quiet → s.fld (pWl l) F.POS_STAT_PRESENT q = 1 → Answers (.positionVanish l q) s fun t =>
      t.fld (pWl l) F.POS_STAT_PRESENT q = 0 ∧ t.fld (pWl l) F.POS_STAT_ASSIGNED q = 0 ∧
      t.fld (pWl l) F.POS_STAT_TILE q = 0x1FFF ∧ t.cond (pWl l) 2) ∧
    ((s.posAt l q).quiet < 16 → exec (.positionVanish l q) s = .next s)) ∧
  (∀ (s : State) (l : LinkNo) (sec : Bool), s.feedActive l sec = true →
    Answers (.downstreamPacketReturn l sec) s fun t => t = s.inc (pWl l) F.WL_LOOP_CNT_LOOP_CNT)

/-- On an active feed, a CREDIT with a good CRC for a tile placed on that link counts on the link and sets the LIMIT
of the pool it names; the other pool's limit and the words used in pool 0 stay, and, when no ABORT and no tile job
waits for credit, no other credit and no other register changes, event delivery apart. One with a bad CRC counts
alone. PDREQ_RX on an active Wickline feed is answered with the same sequence number and the turnaround, and nothing
else happens. -/
def Obligations.CreditLimitsAndDelayRequests : Prop :=
  (∀ (s : State) (l : LinkNo) (sec : Bool) (tile : TileNo) (pool : BitVec 2) (limit : BitVec 24), s.feedActive l sec = true →
    (s.tileLink tile = some l.val → Answers (.creditRx l sec true tile pool limit) s fun t =>
      t.fld (pWl l) F.WL_RX_PKT_CNT_RX_CNT = countUp 32 (s.fld (pWl l) F.WL_RX_PKT_CNT_RX_CNT) 1 ∧
      (t.credit tile).limit0 = (if pool = 0 then limit.toNat else (s.credit tile).limit0) ∧
      (t.credit tile).limit1 = (if pool = 1 then limit.toNat else (s.credit tile).limit1) ∧
      (t.credit tile).used0 = (s.credit tile).used0 ∧
      (s.aborts = [] → s.job = none → (∀ k : Nat, k ≠ tile → t.credit k = s.credit k) ∧
        OnlyRegs [pWl l + F.WL_RX_PKT_CNT_RX_CNT.off] s t)) ∧
    Answers (.creditRx l sec false tile pool limit) s fun t => t = s.inc (pWl l) F.WL_CRC_ERR_CNT_CRC_CNT) ∧
  (∀ (s : State) (l : LinkNo) (sec : Bool) (seq : Byte) (turn : Word), s.feedActive l sec = true →
    Answers (.pdreqRx (.wl l sec) seq turn) s fun t => t = s.emit (.pdresp (.wl l sec) seq turn))

/-- TILE_JOB_GO with no job running: SEQ counts one, HALT is 0, STATE loading, TILE the first of the range, GO reads
1, EXTENT is kept, and a READ of the extent for the job is the running store operation, or waits behind the one that
runs. With a job running GO starts nothing. TILE_JOB_STOP of a running job ends it: STATE halted with HALT 0x5, GO 0
and UPD condition 4; while steps run, with credit for it, an ABORT leaves for the tile visited. -/
def Obligations.TileJobsStartAndStop : Prop :=
  (∀ (s : State) (seat : SeatNo) (e : Byte), s.May seat pUpd →
    (s.job = none → Answers (.tileJobGo seat e) s fun t =>
      t.fld pUpd F.UPD_TJ_STAT_SEQ = (s.fld pUpd F.UPD_TJ_STAT_SEQ + 1) % 256 ∧ t.fld pUpd F.UPD_TJ_STAT_HALT = 0 ∧
      t.jobState = 1 ∧ t.jobTile = s.fld pUpd F.UPD_TJ_RANGE_FIRST ∧ t.fld pUpd F.UPD_TJ_CTL_GO = 1 ∧
      t.fld pUpd F.UPD_TJ_CTL_EXTENT = e.toNat ∧ (∃ j, t.job = some j ∧ j.last = s.fld pUpd F.UPD_TJ_RANGE_LAST) ∧
      (s.storeOp = none → ∃ o, t.storeOp = some o ∧ o.op = 1 ∧ o.purpose = 3 ∧ o.extent = e.toNat) ∧
      (s.storeOp.isSome = true → t.storeOp = s.storeOp ∧ ∃ o, t.storeWait = s.storeWait ++ [o] ∧ o.purpose = 3 ∧ o.extent = e.toNat)) ∧
    (∀ j, s.job = some j → Answers (.tileJobGo seat e) s fun t =>
      t.job = some j ∧ t.storeOp = s.storeOp ∧ t.storeWait = s.storeWait ∧ OnlyRegs [pUpd + 0x120] s t)) ∧
  (∀ (s : State) (seat : SeatNo) (j : TileJob), s.May seat pUpd → s.job = some j → Answers (.tileJobStop seat) s fun t =>
    t.job = none ∧ t.jobState = 7 ∧ t.fld pUpd F.UPD_TJ_STAT_HALT = 5 ∧ t.fld pUpd F.UPD_TJ_CTL_GO = 0 ∧ t.cond pUpd 4 ∧
    t.jobTile = s.jobTile ∧
    (∀ l sec, 2 ≤ s.jobState → s.tileFeed s.jobTile = some (l, sec) → s.canSys s.jobTile 0 = true →
      t.fld (pWl l) F.WL_TX_PKT_CNT_TX_CNT = countUp 32 (s.fld (pWl l) F.WL_TX_PKT_CNT_TX_CNT) 1 ∧
      (t.credit s.jobTile).used1 = ((s.credit s.jobTile).used1 + 1) % 2 ^ 24))

/-- TILE_JOB_LOAD_DONE of a job's load: when every drive was lost, or the directory is gone, the job halts with code
0x1 and the store's ERR says why; when the extent of TYPE 0x03 has its CRC, RESULT_CRC is that CRC, NVME condition 0
is set, and the job visits its tiles: it is in step 1 of one, or done with UPD condition 3. TILE_JOB_TIMEOUT halts the
job with code 0x2 in steps 1 and 3 and with 0x3 in step 4. TILE_IMAGE_RECORD_RX from the tile visited on an active
feed, after BEGIN or END was sent: any STATUS other than the one awaited halts the job with code 0x2; the awaited one
moves it to the next step. That every failed load halts with 0x1 is read from the spec (log 33). -/
def Obligations.TileJobsLoadAndVisit : Prop :=
  (∀ (s : State) (o : StoreOp) (j : TileJob) (ok : Bool), s.storeOp = some o → o.op = 1 → o.purpose = 3 → s.job = some j → s.jobState = 1 →
    let en := if o.entry = [] then (s.extent o.extent).getD [] else o.entry
    let halts (t : State) (err : Nat) : Prop := t.job = none ∧ t.jobState = 7 ∧ t.fld pUpd F.UPD_TJ_STAT_HALT = 1 ∧ t.cond pUpd 4 ∧
      t.fld pNvme F.NVME_STAT_ERR = err ∧ t.cond pNvme 1
    (ok = false → Answers (.tileJobLoadDone ok) s fun t => halts t 7) ∧
    (ok = true → s.directory = none → Answers (.tileJobLoadDone ok) s fun t => halts t 2) ∧
    (∀ d ds, ok = true → s.directory.isSome = true → en ≠ [] → s.memOff = false → s.inGddr (entDest en) (entLen en) = true →
      s.readers = d :: ds → crc32c ((s.drive d).bytes (entStart en * 2 ^ 20) (entLen en)) = entCrc en → entType en = 3 →
      Answers (.tileJobLoadDone ok) s fun t =>
        t.fld pNvme F.NVME_RESULT_CRC_CRC = entCrc en ∧ t.cond pNvme 0 ∧ t.fld pUpd F.UPD_TJ_STAT_HALT = s.fld pUpd F.UPD_TJ_STAT_HALT ∧
        ((t.jobState = 2 ∧ ∃ k, t.job = some k ∧ k.entry = en ∧ k.last = j.last) ∨
          (t.jobState = 6 ∧ t.job = none ∧ t.cond pUpd 3 ∧ t.fld pUpd F.UPD_TJ_CTL_GO = 0)))) ∧
  (∀ (s : State) (j : TileJob), s.job = some j →
    (s.jobState = 2 ∨ s.jobState = 4 ∨ s.jobState = 5) → Answers .tileJobTimeout s fun t =>
      t.job = none ∧ t.jobState = 7 ∧ t.fld pUpd F.UPD_TJ_STAT_HALT = (if s.jobState = 5 then 3 else 2) ∧ t.cond pUpd 4 ∧
      t.jobTile = s.jobTile) ∧
  (∀ (s : State) (l : LinkNo) (sec : Bool) (q : PosNo) (job : Byte) (st : BitVec 4) (j : TileJob), s.feedActive l sec = true →
    s.job = some j → j.sent = true →
    job.toNat = s.fld pUpd F.UPD_TJ_STAT_SEQ → s.tileLink s.jobTile = some l.val → s.ff (pTile s.jobTile) F.TL_LINK_POS = q →
    1 ≤ st.toNat → st.toNat ≤ 5 → (s.jobState = 2 ∨ s.jobState = 4) → Answers (.tileImageRecordRx l sec true q job st) s fun t =>
      t.fld (pWl l) F.WL_RX_PKT_CNT_RX_CNT = countUp 32 (s.fld (pWl l) F.WL_RX_PKT_CNT_RX_CNT) 1 ∧
      (st.toNat = s.jobState / 2 → t.job.isSome = true ∧ t.fld pUpd F.UPD_TJ_STAT_HALT = s.fld pUpd F.UPD_TJ_STAT_HALT ∧
        (if s.jobState = 2 then t.jobState = 3 ∨ t.jobState = 4 else t.jobState = 5)) ∧
      (st.toNat ≠ s.jobState / 2 → t.job = none ∧ t.jobState = 7 ∧ t.fld pUpd F.UPD_TJ_STAT_HALT = 2 ∧ t.cond pUpd 4))

/-- SLOT_CHOICE at BOOT_PHASE 1 moves to phase 2. A flash that does not answer, or has no supported parameter table,
leaves the engine unconfigured with BOOT_ERR 0x01 or 0x02, when no earlier error stands, and the flash as it was. With
no candidate BOOTED is 3, the engine is unconfigured and BOOT_ERR is 0x03. A first candidate whose record passes its
checks is booted: a confirmed one leaves the flash as it was, one not confirmed has its next TRIAL flag set. A lone
candidate that is not confirmed and has its last TRIAL flag set is marked INVALID and nothing is booted, with UPD
condition 2 and BOOT_ERR as it was. -/
def Obligations.BootSlotsAreChosenAndMarked : Prop :=
  ∀ (s : State), s.pow.up = true → s.pow.sleeping = false → s.phase = 1 →
    (∀ sfdp, Answers (.slotChoice false sfdp) s fun t =>
      t.phase = 2 ∧ t.fld pSys F.SYS_STAT_UNCONFIGURED = 1 ∧ t.flashMem = s.flashMem ∧
      (s.fld pSys F.SYS_BOOT_STAT_BOOT_ERR = 0 → t.fld pSys F.SYS_BOOT_STAT_BOOT_ERR = 1 ∧ t.cond pSys 1)) ∧
    (Answers (.slotChoice true false) s fun t =>
      t.phase = 2 ∧ t.fld pSys F.SYS_STAT_UNCONFIGURED = 1 ∧ t.flashMem = s.flashMem ∧
      (s.fld pSys F.SYS_BOOT_STAT_BOOT_ERR = 0 → t.fld pSys F.SYS_BOOT_STAT_BOOT_ERR = 2 ∧ t.cond pSys 1)) ∧
    (s.candidates = [] → Answers (.slotChoice true true) s fun t =>
      t.phase = 2 ∧ t.fld pSys F.SYS_STAT_UNCONFIGURED = 1 ∧ t.booted = 3 ∧ t.flashMem = s.flashMem ∧
      (s.fld pSys F.SYS_BOOT_STAT_BOOT_ERR = 0 → t.fld pSys F.SYS_BOOT_STAT_BOOT_ERR = 3)) ∧
    (∀ k rest, s.candidates = k :: rest → s.recError k = 0 → (s.flag k 4 = true ∨ s.flag k 3 = false) →
      Answers (.slotChoice true true) s fun t =>
        t.phase = 2 ∧ t.booted = k ∧ t.fld pSys F.SYS_BOOT_STAT_SLOT = k ∧ t.fld pUpd F.UPD_STAT_FALLBACK = 0 ∧
        t.fld pSys F.SYS_STAT_UNCONFIGURED = s.fld pSys F.SYS_STAT_UNCONFIGURED ∧
        t.fld pSys F.SYS_BOOT_STAT_BOOT_ERR = s.fld pSys F.SYS_BOOT_STAT_BOOT_ERR ∧
        (s.flag k 4 = true → t.flashMem = s.flashMem ∧ t.out = s.out) ∧
        (s.flag k 4 = false → ∀ i, 1 ≤ i → i ≤ 3 → (∀ j, 1 ≤ j → j < i → s.flag k j = true) → t.flag k i = true)) ∧
    (∀ k, s.candidates = [k] → s.flag k 4 = false → s.flag k 3 = true → Answers (.slotChoice true true) s fun t =>
      t.phase = 2 ∧ t.flag k 5 = true ∧ t.booted = 3 ∧ t.fld pSys F.SYS_STAT_UNCONFIGURED = 1 ∧ t.cond pUpd 2 ∧
      t.fld pSys F.SYS_BOOT_STAT_BOOT_ERR = s.fld pSys F.SYS_BOOT_STAT_BOOT_ERR)

/-- APPLY_BOOT_ENTRIES at BOOT_PHASE 2 moves to phase 4 with GDDR6 training. With a slot booted, APPLIED_CNT counts
every entry of the record, the extents of its KIND 4 entries become the store loads to run, in order, and a KIND 5
entry leaves an initial commit to target. A record of one KIND 1 entry for a plain register of the ZONE or MAP page
writes that register as its access types say. With no slot booted nothing of a record is applied. -/
def Obligations.BootRecordsAreApplied : Prop :=
  ∀ (s : State), s.pow.up = true → s.pow.sleeping = false → s.phase = 2 →
    let l := s.recEntries s.booted
    (s.booted < 2 → Answers .applyBootEntries s fun t =>
      t.phase = 4 ∧ t.memState = 1 ∧ t.fld pSys F.SYS_BOOT_ENTRIES_APPLIED_CNT = s.recCount s.booted ∧
      t.pow.loads = s.pow.loads ++ (l.filter (fun e => bitsOf e 60 4 == 4)).map (fun e => bitsOf e 48 8) ∧
      t.pow.initCommit = (s.pow.initCommit || l.any (fun e => bitsOf e 60 4 == 5)) ∧
      (∀ e loc, l = [e] → bitsOf e 60 4 = 1 → bitsOf e 32 24 % 4 = 0 → locate (bitsOf e 32 24) = some loc →
        loc.blk ∈ [Blk.zone, .map] → loc.mute = false → loc.off ≠ 0x20 → regRows (bitsOf e 32 24) ≠ [] →
        loc.heldLo = false → loc.heldHi = false →
        t.reg (bitsOf e 32 24) =
          storedWord (bitsOf e 32 24) (s.reg (bitsOf e 32 24)) (BitVec.ofNat 32 (bitsOf e 0 32)))) ∧
    (2 ≤ s.booted → Answers .applyBootEntries s fun t =>
      t.phase = 4 ∧ t.memState = 1 ∧ t.pow.loads = s.pow.loads ∧ t.pow.initCommit = s.pow.initCommit ∧
      t.fld pSys F.SYS_BOOT_ENTRIES_APPLIED_CNT = s.fld pSys F.SYS_BOOT_ENTRIES_APPLIED_CNT)

/-- GDDR6_TRAINING_DONE at BOOT_PHASE 4 moves to phase 5 and records BOOT_US; with no pin rate yet in force, RATE is
that of the values in force. When no channel failed, STATE is running, MEM_OFFLINE is clear and each channel holds its
trims; otherwise MEM_OFFLINE is set with STATE failed, CH_FAIL of the channels that failed, their count, MEM condition
0 and SYS condition 5 when it was clear before, and BOOT_ERR 0x07 unless an earlier error stands. The first store load
starts. STORE_LOAD_DONE of a failed load sets SYS condition 2 and BOOT_ERR 0x06 unless an earlier error stands; after
the last load STORE_LOAD_BUSY and INIT_COMMIT_PEND are clear, and after a failure no initial commit is targeted. -/
def Obligations.TrainingEndsAndStoreLoadsRun : Prop :=
  (∀ (s : State) (us : Word) (fail : BitVec 32) (trims : List ChanTrim), s.pow.up = true → s.pow.sleeping = false → s.phase = 4 →
    Answers (.gddr6TrainingDone us fail trims) s fun t =>
      t.phase = 5 ∧ t.fld pSys F.SYS_BOOT_TIME_BOOT_US = us.toNat ∧
      (s.rateTo = 0 → s.fld pMem F.MEM_STAT_RATE = 0 → t.fld pMem F.MEM_STAT_RATE = s.ff pMem F.MEM_CFG_RATE) ∧
      t.fld pMem F.MEM_STAT_CH_FAIL_N = ones fail.toNat 32 ∧
      (fail = 0 → t.memState = 2 ∧ t.memOff = false ∧ ∀ c x, c < 32 → trims[c]? = some x →
        t.fld (pMc c) F.MC_STAT_CH_FAIL = 0 ∧ t.reg (pMc c + 0x108) = x.b0 &&& trimBits ∧ t.reg (pMc c + 0x10C) = x.b1 &&& trimBits) ∧
      (fail ≠ 0 → t.memState = 3 ∧ t.memOff = true ∧
        (∀ c, c < 32 → t.fld (pMc c) F.MC_STAT_CH_FAIL = (if fail.getLsbD c then 1 else 0)) ∧
        (s.memOff = false → t.cond pMem 0 ∧ t.cond pSys 5) ∧
        t.fld pSys F.SYS_BOOT_STAT_BOOT_ERR = firstErr (s.fld pSys F.SYS_BOOT_STAT_BOOT_ERR) 7) ∧
      (∀ e l, s.pow.loads = e :: l → s.storeOp = none → t.fld pSys F.SYS_STAT_STORE_LOAD_BUSY = 1 ∧
        ∃ o, t.storeOp = some o ∧ o.op = 1 ∧ o.purpose = 1 ∧ o.extent = e) ∧
      (s.pow.loads = [] → t.storeOp = s.storeOp)) ∧
  (∀ (s : State) (o : StoreOp), s.storeOp = some o → o.purpose = 1 → Answers (.storeLoadDone false) s fun t =>
    t.fld pSys F.SYS_BOOT_STAT_BOOT_ERR = firstErr (s.fld pSys F.SYS_BOOT_STAT_BOOT_ERR) 6 ∧ t.cond pSys 2 ∧
    t.pow.loadFailed = true ∧ t.pow.loads = s.pow.loads.drop 1 ∧ t.cyc = s.cyc ∧
    (s.pow.loads.drop 1 = [] → t.fld pSys F.SYS_STAT_STORE_LOAD_BUSY = 0 ∧ t.fld pSys F.SYS_STAT_INIT_COMMIT_PEND = 0)) ∧
  (∀ (s : State) (o : StoreOp) (d : Nat) (ds : List Nat), s.storeOp = some o → o.op = 1 → o.purpose = 1 →
    let en := if o.entry = [] then (s.extent o.extent).getD [] else o.entry
    s.directory.isSome = true → en ≠ [] → s.memOff = false → s.inGddr (entDest en) (entLen en) = true →
    s.readers = d :: ds → crc32c ((s.drive d).bytes (entStart en * 2 ^ 20) (entLen en)) = entCrc en →
    s.pow.loads.length = 1 → s.pow.initCommit = true → s.pow.loadFailed = false → s.ready = true →
    Answers (.storeLoadDone true) s fun t =>
      t.pow.loads = [] ∧ t.fld pSys F.SYS_STAT_STORE_LOAD_BUSY = 0 ∧ t.pow.initCommit = false ∧ t.cond pNvme 0 ∧
      ∃ cm, t.cyc.pend = s.cyc.pend ++ [cm] ∧ cm.origin = 1)

/-- READY_RISE at BOOT_PHASE 5: READY is 1 and its pin high, SYS condition 0 is set, and condition 4 when the crystal
does not run, cycles run from the first launch, and an initial commit of a record without loads left to run waits for
its window. SLEEP_WAKE_READY with the memory check passed and the image whole: the image is used and gone, IMAGE_VALID
is 0 and IMAGE_USED 1, the values in force and the response banks are those saved, GDDR6 runs, and PSTATE is Active
with READY 1 and the wake's length recorded. Otherwise IMAGE_USED is 0 and the power-up path runs from BOOT_PHASE 1.
-/
def Obligations.ReadyRisesAndSleepEnds : Prop :=
  (∀ (s : State), s.pow.up = true → s.pow.sleeping = false → s.phase = 5 → Answers .readyRise s fun t =>
    t.ready = true ∧ t.phase = 6 ∧ Out.pin "READY" true ∈ t.out ∧ t.cond pSys 0 ∧ (s.pow.xtal = false → t.cond pSys 4) ∧
    t.cyc.run = true ∧ t.cyc.launch = s.firstLaunch.1 ∧ t.cyc.period = s.firstLaunch.2 ∧ t.cyc.next = 0 ∧
    (s.pow.initCommit = true → s.pow.loadFailed = false → s.pow.loads = [] →
      t.pow.initCommit = false ∧ ∃ cm, t.cyc.pend = [cm] ∧ cm.origin = 1) ∧
    (s.pow.initCommit = false → t.cyc.pend = [])) ∧
  (∀ (s : State) (i : Image) (us : Word), s.pow.sleeping = true → s.pow.up = true → s.image = some i →
    s.fld pEmber F.EMBER_STAT_IMAGE_VALID = 1 → Answers (.sleepWakeReady true true us) s fun t =>
      t.pow.sleeping = false ∧ t.image = none ∧ t.fld pEmber F.EMBER_STAT_IMAGE_VALID = 0 ∧
      t.fld pEmber F.EMBER_STAT_IMAGE_USED = 1 ∧ t.force = i.force ∧ t.resp = i.resp ∧ t.memState = 2 ∧ t.pstate = 0 ∧
      t.ready = true ∧ t.fld pEmber F.EMBER_WAKE_TIME_US = us.toNat ∧ t.cond pSys 0) ∧
  (∀ (s : State) (memOk imageOk : Bool) (us : Word), s.pow.sleeping = true → s.pow.up = true →
    (memOk = false ∨ imageOk = false ∨ s.fld pEmber F.EMBER_STAT_IMAGE_VALID = 0 ∨ s.image = none) →
    Answers (.sleepWakeReady memOk imageOk us) s fun t =>
      t.pow.sleeping = false ∧ t.image = none ∧ t.fld pEmber F.EMBER_STAT_IMAGE_VALID = 0 ∧
      t.fld pEmber F.EMBER_STAT_IMAGE_USED = 0 ∧ t.phase = 1 ∧ t.out = s.out)

/-- COMMIT_GO at a page that the seat owns, with no GO of its group pending: GO reads 1 on every page of the group,
the seat's CMP_CMT_STAT shows PENDING and the group, and the commit waits with the shadows of the group captured and
the cycle asked for as its target, or the first one after it whose window is open; the commit is late, with LATE_CNT,
CMP condition 2 and CMT_LATE on the group's pages, exactly when R280 does not reject the target asked for and its
window is not open. Without NAMED the cycle asked for is the upcoming one. With GO still 1 nothing changes for the
commits. COMMIT_CANCEL of the seat's own pending commit with its window open takes that commit away, and GO of its
pages and PENDING clear; of any other commit it changes none. -/
def Obligations.CommitsWaitAndCancel : Prop :=
  (∀ (s : State) (seat : SeatNo) (page : BitVec 12),
    let p := page.toNat * 0x1000
    let g := s.groupOf p
    let ask := s.asked seat
    p ∈ allPages → s.May seat p →
    (s.fld p F.HDR_COMMIT_GO = 0 → Answers (.commitGo seat page) s fun t =>
      (∃ cm, t.cyc = { s.cyc with pend := s.cyc.pend ++ [cm] } ∧ cm.seat = seat ∧ cm.group = g ∧ cm.origin = 0 ∧
        cm.target = s.cyc.open' ask.1 ∧ cm.badTarget = ask.2 ∧ cm.late = (!ask.2 && s.cyc.open' ask.1 != ask.1) ∧
        cm.words = s.capture (fun q => s.groupOf q == g)) ∧
      (∀ q ∈ allPages, s.groupOf q = g → t.fld q F.HDR_COMMIT_GO = 1 ∧
        t.fld q F.HDR_COMMIT_CMT_LATE = (if !ask.2 && s.cyc.open' ask.1 != ask.1 then 1 else 0)) ∧
      t.fld (pCmpOf seat) F.CMP_CMT_STAT_PENDING = 1 ∧ t.fld (pCmpOf seat) F.CMP_CMT_STAT_GROUP = g ∧
      ((ask.2 = false ∧ s.cyc.open' ask.1 ≠ ask.1) → t.cond pCmp 2 ∧
        t.fld pCmp F.CMP_LATE_CNT_LATE_CNT = countUp 32 (s.fld pCmp F.CMP_LATE_CNT_LATE_CNT) 1) ∧
      (s.fld (pCmpOf seat) F.CMP_CMT_CTL_NAMED = 0 → ask = (s.cyc.upcoming, false)) ∧
      t.force = s.force) ∧
    (s.fld p F.HDR_COMMIT_GO = 1 → Answers (.commitGo seat page) s fun t => t.cyc = s.cyc ∧ OnlyRegs [] s t)) ∧
  (∀ (s : State) (seat : SeatNo) (g : Byte), s.serves seat = true →
    let mine (cm : Commit) : Prop := cm.origin = 0 ∧ cm.group = g.toNat ∧ cm.seat = seat ∧ ¬ (cm.target = s.cyc.next ∧ s.cyc.closed = true)
    (∀ a cm b, s.cyc.pend = a ++ cm :: b → mine cm → (∀ x ∈ a, ¬ mine x) → (∀ x ∈ a ++ b, x ≠ cm) →
      Answers (.commitCancel seat g) s fun t =>
        t.cyc = { s.cyc with pend := a ++ b } ∧ (∀ q ∈ allPages, s.groupOf q = g.toNat → t.fld q F.HDR_COMMIT_GO = 0) ∧
        (s.fld (pCmpOf seat) F.CMP_CMT_STAT_GROUP = g.toNat → t.fld (pCmpOf seat) F.CMP_CMT_STAT_PENDING = 0)) ∧
    ((∀ x ∈ s.cyc.pend, ¬ mine x) → Answers (.commitCancel seat g) s fun t => t.cyc = s.cyc ∧ OnlyRegs [seatKey seat (pCmp + 0x518)] s t))

/-- COMMIT_WINDOW with cycles running and the window open closes it. With no commit due and no step asked for, nothing
else of the cycles changes; a lone due commit of a seat that admission refuses leaves no trace but its result in _ADM
of its group's pages, REJ_CNT and GO cleared; one that it accepts joins the accepted commits, with ACC_CNT, _ADM, GO
cleared, and the measured chain delay as the next D and G. Values in force stay. COMPOSE_START of a closed window
brings the accepted words into force, numbers the cycle, publishes number and launch time, takes the next launch from
the grid in force and opens the next window. -/
def Obligations.WindowsAdmitAndCyclesStart : Prop :=
  (∀ (s : State), s.cyc.run = true → s.cyc.closed = false → s.cyc.req = none → s.cyc.sched = none →
    let s₁ := s.setCyc { s.cyc with closed := true, pend := [] }
    ((∀ x ∈ s.cyc.pend, s.cyc.next < x.target) → Answers .commitWindow s fun t =>
      t.cyc = { s.cyc with closed := true } ∧ OnlyRegs [] s t ∧ t.force = s.force) ∧
    (∀ cm f, s.cyc.pend = [cm] → cm.target ≤ s.cyc.next → cm.origin = 0 → s₁.verdict s.nextForce cm = some f →
      Answers .commitWindow s fun t =>
        t.cyc = { s.cyc with closed := true, pend := [] } ∧ t.force = s.force ∧
        (∀ p ∈ allPages, s.groupOf p = cm.group → t.reg (p + 0x24) = admWord cm (some f) ∧ t.fld p F.HDR_COMMIT_GO = 0) ∧
        (f.code ≠ 0 → t.fld pCmp F.CMP_ADM_REJ_CNT_REJ_CNT = countUp 32 (s.fld pCmp F.CMP_ADM_REJ_CNT_REJ_CNT) 1)) ∧
    (∀ cm, s.cyc.pend = [cm] → cm.target ≤ s.cyc.next → cm.origin = 0 → s₁.verdict s.nextForce cm = none →
      Answers .commitWindow s fun t =>
        t.cyc.acc = s.cyc.acc ++ [cm] ∧ t.cyc.pend = [] ∧ t.force = s.force ∧ t.cyc.newD = s.fld pCmp F.CMP_D_MEAS_D_NS ∧
        t.cyc.newGuard = guardUs (s.fld pCmp F.CMP_D_MEAS_D_NS) ∧
        (∀ p ∈ allPages, s.groupOf p = cm.group → t.reg (p + 0x24) = admWord cm none ∧ t.fld p F.HDR_COMMIT_GO = 0) ∧
        t.fld pCmp F.CMP_ADM_ACC_CNT_ACC_CNT = countUp 32 (s.fld pCmp F.CMP_ADM_ACC_CNT_ACC_CNT) 1)) ∧
  (∀ (s : State), s.cyc.run = true → s.cyc.closed = true → s.cyc.bridge = [] → s.cyc.sched = none →
    Answers .composeStart s fun t =>
      t.force = s.nextForce ∧ t.cyc.next = s.cyc.next + 1 ∧ t.cyc.closed = false ∧ t.cyc.acc = [] ∧
      t.cyc.prevLaunch = s.cyc.launch ∧ t.cyc.prevPeriod = s.cyc.period ∧
      t.cyc.launch = ((gridOf t.force).point ((gridOf t.force).index (s.cyc.launch + 1))).toNat ∧
      t.cyc.period = t.cyc.launch - s.cyc.launch ∧
      t.pair pCmp F.CMP_CYCLE_LO_CYCLE F.CMP_CYCLE_HI_CYCLE = s.cyc.next % 2 ^ 64 ∧
      t.pair pCmp F.CMP_LAUNCH_LO_T F.CMP_LAUNCH_HI_T = s.cyc.launch % 2 ^ 64)

/-- BRIDGE_CYCLE takes the next numbered cycle of the bridge: CMP_CYCLE shows it, and while Active every active feed
carries its CYCLE packet with all views held and none sent. CYCLE_EDGE_SCHEDULE answers with the launch times of
bridge cycles and of a closed window marked as used, and with none left changes nothing. POWER_CAP_UPDATE adds the
gain for cycle c + 2: a smaller gain at once, a greater one by at most 128 a cycle from the gain computed last. That
each gain follows the last one computed is read from the spec (log 26). -/
def Obligations.BridgesEdgesAndThePowerCap : Prop :=
  (∀ (s : State) (n time : Nat) (rest : List (Nat × Nat)), s.cyc.bridge = (n, time) :: rest → Answers .bridgeCycle s fun t =>
    t.cyc.bridge = rest ∧ t.cyc.prevLaunch = time ∧ t.cyc.next = s.cyc.next ∧ t.force = s.force ∧
    t.pair pCmp F.CMP_CYCLE_LO_CYCLE F.CMP_CYCLE_HI_CYCLE = n % 2 ^ 64 ∧
    (s.pstate = 0 → ∀ l sec, l < 512 → s.feedActive l sec = true → ∃ ws crc, Out.packet l sec ws crc ∈ t.out ∧
      ws.head? = some (BitVec.ofNat 64 (header 1 0x1FFF 1 (0xFF * 2 ^ 24 + s.genForce * 2 ^ 8 + n % 2))))) ∧
  (∀ (s : State), s.cyc.run = true → Answers .cycleEdgeSchedule s fun t =>
    (s.cyc.closed = true → s.cyc.bridge = [] → t.cyc = { s.cyc with edged := max s.cyc.edged (s.cyc.next + 1) }) ∧
    (∀ n time rest, s.cyc.bridge = (n, time) :: rest → n < t.cyc.edged) ∧
    (s.cyc.closed = false → s.cyc.bridge = [] → t = s) ∧
    (∀ k, (t.tout k).armed = (s.tout k).armed ∧ (t.tout k).mode = (s.tout k).mode)) ∧
  (∀ (s : State), s.cyc.run = true → 0 < s.cyc.next → s.memOff = false → s.pstate = 0 →
    s.cap.all (fun e => e.1 != s.cyc.next + 1) = true →
    let last := (s.cap.getLast?.map (·.2)).getD (s.fld pCor F.COR_PCAP_STAT_K)
    let goal := capTarget (s.ff pCor F.COR_PCAP_CAP_W) (idleSum s.force) s.powerVar
    Answers .powerCapUpdate s fun t => ∃ k, t.cap = s.cap ++ [(s.cyc.next + 1, k)] ∧
      (goal ≤ last → k = goal) ∧ (last < goal → last < k ∧ k ≤ goal ∧ k ≤ last + 128 ∧ (goal ≤ last + 128 → k = goal)) ∧
      t.fld pCor F.COR_PCAP_STAT_K = s.fld pCor F.COR_PCAP_STAT_K)

/-- WRITEBACK_COMPLETE of the oldest writeback in progress makes its buffer the last complete one, counts it, sets
VIEW condition 2, and, with preview enabled, begins its preview frame; the others stay in progress. PREVIEW_PACKET of
an enabled view: towards a multicast address the next packet of the frame leaves a port that is up, with the port's
own source address, the ports, DSCP and hop limit that R214 gives and the port's VLAN tag, and is counted; with the
port down it is dropped and counted with VIEW condition 3; either way the frame and the sequence number move on, and
the frame ends with its last packet. PLAYOUT_COPY_DONE of a running copy: the frame's bytes lie in the flow's push
buffer, which is now its newest frame, and COMPLETE_CNT counts it. -/
def Obligations.WritebackPreviewAndPlayoutFrames : Prop :=
  (∀ (s : State) (v : ViewNo) (x : Shot) (rest : List Shot), (s.view v).wb = x :: rest → Answers (.writebackComplete v) s fun t =>
    (t.view v).wb = rest ∧ (t.view v).wbLast = some x ∧ t.fld (pView v) F.VIEW_WB_STAT_HAS_BUF = 1 ∧
    t.fld (pView v) F.VIEW_WB_STAT_LAST_BUF = x.buf % 2 ∧ t.cond (pView v) 2 ∧
    t.fld (pView v) F.VIEW_WB_DONE_CNT_DONE_CNT = countUp 32 (s.fld (pView v) F.VIEW_WB_DONE_CNT_DONE_CNT) 1 ∧
    (t.view v).pv = (if s.ff (pView v) F.VIEW_PV_CFG_ENABLE = 1 then some (x, 0) else (s.view v).pv)) ∧
  (∀ (s : State) (v : ViewNo) (x : Shot) (k : Nat), (s.view v).pv = some (x, k) → s.ff (pView v) F.VIEW_CFG_ENABLE = 1 →
    s.ff (pView v) F.VIEW_PV_CFG_ENABLE = 1 → k < (pvPackets s.force v).2 →
    let q := s.ff (pView v) F.VIEW_PV_CFG_PORT
    let dst := addr4 (s.ff (pView v) F.VIEW_PV_CFG_IPV6 == 1) (fun j => s.ff (pView v) F.VIEW_PV_DST_ADDR j)
    let udp : UdpTx := ⟨s.sourceIp q dst, dst, s.ff (pView v) F.VIEW_PV_UDP_SRC, s.ff (pView v) F.VIEW_PV_UDP_DST⟩
    Answers (.previewPacket v) s fun t =>
      t.view v = { s.view v with pv := if k + 1 = (pvPackets s.force v).2 then none else some (x, k + 1),
                                 pvSeq := ((s.view v).pvSeq + 1) % 2 ^ 32 } ∧
      (s.portUp q = true → isMulticast dst = true →
        (∃ hdr data, Out.frame q (groupMac dst) (s.vlanTag q)
          (.preview v udp (s.ff (pView v) F.VIEW_PV_CFG_DSCP) 64 hdr data) ∈ t.out) ∧
        t.fld (pView v) F.VIEW_PV_PKT_CNT_PKT_CNT = countUp 32 (s.fld (pView v) F.VIEW_PV_PKT_CNT_PKT_CNT) 1) ∧
      (s.portUp q = false → t.cond (pView v) 3 ∧
        t.fld (pView v) F.VIEW_PV_DROP_CNT_DROP_CNT = countUp 32 (s.fld (pView v) F.VIEW_PV_DROP_CNT_DROP_CNT) 1)) ∧
  (∀ (s : State) (k : Fin 8) (e : Nat × Nat) (tr : Nat × Nat × Nat × Nat), s.play.copying.find? (fun e => e.1 == k.val) = some e →
    s.play.tracks[k.val]? = some tr → s.memOff = false →
    let st := storeOf s.force tr.1
    Answers (.playoutCopyDone k) s fun t =>
      t.play.copying = s.play.copying.erase e ∧ (t.flow tr.1).newest = some (s.flow tr.1).pushBuf ∧
      t.fld (pFlow tr.1) F.FLOW_COMPLETE_CNT_COMPLETE_CNT = countUp 32 (s.fld (pFlow tr.1) F.FLOW_COMPLETE_CNT_COMPLETE_CNT) 1 ∧
      (∀ i, i < st.bufBytes → ¬ s.inRing false (st.base + (s.flow tr.1).pushBuf * st.bufBytes + i) →
        t.mem.byte (st.base + (s.flow tr.1).pushBuf * st.bufBytes + i) = s.mem.byte (tr.2.2.2 + e.2 * st.bufBytes + i)))

/-- LYR_ALERT_CLEAR clears exactly the written bits of layers that hold no enabled pending condition. RESPONSE_LOAD of
1 to 256 sets within range from installed GDDR6, with no load running and memory in service, starts a load into the
bank not in force with LOAD_BUSY 1 and LOAD_ERR 0; otherwise LOAD_ERR is 1 and no load starts or stops.
RESPONSE_LOAD_DONE leaves every entry of the sets as loaded from memory, limited to 1.0, and LOAD_BUSY 0. MAP_PROBE
keeps its pixel, and the probe hits exactly when an enabled tile covers it. -/
def Obligations.HostWritesOfCompositionAndCorrection : Prop :=
  (∀ (s : State) (seat : SeatNo) (m : Fin 8) (v : Word), s.May seat pCmp → Answers (.lyrAlertClear seat m v) s fun t =>
    (∀ i, i < 32 → bit (t.reg (pCmp + 0x140 + 4 * m)).toNat i = (bit (s.reg (pCmp + 0x140 + 4 * m)).toNat i &&
      !(bit v.toNat i && ((s.reg (pLyr (32 * m + i) + 0x10)).toNat &&& (s.reg (pLyr (32 * m + i) + 0x14)).toNat) == 0))) ∧
    OnlyRegs [pCmp + 0x140 + 4 * m] s t) ∧
  (∀ (s : State) (seat : SeatNo) (n first : Byte), s.May seat pCor →
    let src := s.pair pCor F.COR_RESP_SRC_LO_SRC F.COR_RESP_SRC_HI_SRC
    Answers (.responseLoad seat n first) s fun t =>
      ((s.respLoad = none ∧ first.toNat + n.toNat ≤ 255 ∧ s.inGddr src ((n.toNat + 1) * 16400) = true ∧ s.memOff = false) →
        t.respLoad = some (1 - s.ff pCor F.COR_RESP_CFG_BANK, first.toNat, n.toNat + 1, src) ∧
        t.fld pCor F.COR_STAT_LOAD_BUSY = 1 ∧ t.fld pCor F.COR_STAT_LOAD_ERR = 0) ∧
      ((s.respLoad ≠ none ∨ 255 < first.toNat + n.toNat ∨ s.inGddr src ((n.toNat + 1) * 16400) = false ∨ s.memOff = true) →
        t.respLoad = s.respLoad ∧ t.fld pCor F.COR_STAT_LOAD_BUSY = s.fld pCor F.COR_STAT_LOAD_BUSY ∧
        t.fld pCor F.COR_STAT_LOAD_ERR = 1) ∧
      t.resp = s.resp) ∧
  (∀ (s : State) (bank first n src : Nat), s.respLoad = some (bank, first, n, src) → Answers .responseLoadDone s fun t =>
    t.respLoad = none ∧ t.fld pCor F.COR_STAT_LOAD_BUSY = 0 ∧ OnlyRegs [pCor + 0xC] s t ∧
    ∀ set k i, set < n → k < 4 → i < 1025 →
      t.respEntry bank (first + set) k i = min (s.peek (src + 4 * ((set * 4 + k) * 1025 + i)) 4 % 2 ^ 21) 0x100000) ∧
  (∀ (s : State) (seat : SeatNo) (x y : BitVec 16), s.May seat pMap → Answers (.mapProbe seat x y) s fun t =>
    t.fld pMap F.MAP_PROBE_X = x.toNat ∧ t.fld pMap F.MAP_PROBE_Y = y.toNat ∧
    t.probe.isSome = (tilesOf s.force).any (fun z => z.covers x.toNat y.toNat) ∧ OnlyRegs [pMap + 0x110] s t)

/-- A feed, and the lanes it runs on, follow the bring-up stages. DETECT_DONE in stage 1 ends detection: a Wickline
feed goes to stage 2 and a port to stage 3, with SIGNAL set and the offsets found in LN_OFFSET. TRAIN_DONE in stage 2
with both ends of every lane ready goes to stage 3 with META SOURCE 1. LOCK_DONE in stage 3 with ALIGN blocks that
name each lane once, not more than 500 ns apart, locks the lanes and goes to stage 4. CAP_DONE in stage 4 of a feed
whose width the far end supports makes it active in stage 5 with no failures counted and WL condition 0; otherwise the
feed is in fault, stage 8, LAST_FAIL 4 and SER condition 1 on its octets. TRAINING_FRAME_RX on a lane of a Wickline
feed in stage 2: a frame whose fields are both valid is counted up to 16, answered with the lane's control and status
fields, and from the eighth in a row on sets the polarity found; a preset request held in its third frame sets PRE and
POST of that preset with MAIN as the rest of 64. An invalid frame ends the run of frames and requests and is not
answered. -/
def Obligations.FeedsTrainAndBecomeActive : Prop :=
  (∀ (s : State) (feed : FeedId) (offsets : List Word),
    let k := feedKey feed
    let f := s.feed k
    f.stage = 1 → f.lane + f.width ≤ 512 → Answers (.detectDone feed offsets) s fun t =>
      t.feed k = { f with stage := if isEth k then 3 else 2 } ∧
      (∀ i x, i < f.width → offsets[i]? = some x → t.reg (lnTrim (f.lane + i) 5) = x) ∧
      ∀ l ∈ f.lanes, t.ln l F.LN_STAT_SIGNAL = 1 ∧ t.ln l F.LN_STAT_CW_LOCK = 0 ∧ t.ln l F.LN_STAT_STAGE = (t.feed k).code % 16) ∧
  (∀ (s : State) (link : LinkNo) (sec : Bool) (trims : List LaneTrim) (eyes : List Word) (codewords : Bool),
    let k := feedKey (.wl link sec)
    let f := s.feed k
    f.stage = 2 → (∀ l ∈ f.lanes, (s.lane l).train.phase = .ready ∧
      ((s.lane l).train.partner = 16 ∨ (codewords = true ∧ (s.lane l).train.seen = true))) →
    Answers (.trainDone (.wl link sec) trims eyes codewords) s fun t =>
      t.feed k = { f with stage := 3 } ∧
      ∀ l ∈ f.lanes, t.ln l F.LN_META_SOURCE = 1 ∧ t.ln l F.LN_STAT_STAGE = (t.feed k).code % 16) ∧
  (∀ (s : State) (l : LinkNo) (sec : Bool) (aligns : List AlignRx),
    let k := feedKey (.wl l sec)
    let f := s.feed k
    f.stage = 3 → aligns.length = f.width → (∀ i, i < f.width → ∃ a ∈ aligns, a.index.val = i) →
    (∀ a ∈ aligns, a.width = f.width ∧ ∀ b ∈ aligns, a.at' ≤ b.at' + 500) → Answers (.lockDone (.wl l sec) aligns) s fun t =>
      t.feed k = { f with stage := 4 } ∧
      ∀ n ∈ f.lanes, t.ln n F.LN_STAT_SIGNAL = 1 ∧ t.ln n F.LN_STAT_CW_LOCK = 1 ∧ t.ln n F.LN_STAT_STAGE = (t.feed k).code % 16) ∧
  (∀ (s : State) (l : LinkNo) (sec : Bool) (widths : Byte),
    let k := feedKey (.wl l sec)
    let f := s.feed k
    f.stage = 4 → Answers (.capDone (.wl l sec) widths) s fun t =>
      (widths.toNat.testBit (Nat.log2 f.width) = true → t.feed k = { f with stage := 5, relock := false, fails := 0 } ∧
        t.feedActive l sec = true ∧ t.cond (pWl l) 0 ∧ ∀ n ∈ f.lanes, t.ln n F.LN_STAT_STAGE = 5) ∧
      (widths.toNat.testBit (Nat.log2 f.width) = false → t.feed k = { f with stage := 8, relock := false } ∧
        t.feedActive l sec = s.feedActive l sec ∧
        ∀ n ∈ f.lanes, t.ln n F.LN_STAT_STAGE = 8 ∧ t.ln n F.LN_FAIL_LAST_FAIL = 4 ∧ t.cond (pSer (n / 8)) 1)) ∧
  (∀ (s : State) (lane : LaneNo) (control status : Word) (inv : Bool) (metric : Option Int) (k : Nat) (f : Feed),
    s.laneFeed lane = some (k, f) → f.stage = 2 → isEth k = false → Answers (.trainingFrameRx lane control status inv metric) s fun t =>
      let n := min ((s.lane lane).frames + 1) 16
      ((trainOk control.toNat = true ∧ trainOk status.toNat = true) →
        (t.lane lane).frames = n ∧
        t.out = s.out ++ [.training lane (BitVec.ofNat 32 (t.trainControl lane)) (BitVec.ofNat 32 (t.trainStatus lane))] ∧
        (8 ≤ n → t.ln lane F.LN_STAT_POL_DET = (if inv then 1 else 0)) ∧
        (bit control.toNat 22 = true → (s.lane lane).reqs.getD 0 (0, 0) = (bitsOf control.toNat 20 3, 2) →
          let e := presetFfe (bitsOf control.toNat 20 2)
          (t.lane lane).presetDone = true ∧ t.ln lane F.LN_TXFFE_PRE = e.1 ∧ t.ln lane F.LN_TXFFE_POST = e.2 ∧
          t.ln lane F.LN_TXFFE_MAIN = 64 - e.1 - e.2)) ∧
      ((trainOk control.toNat = false ∨ trainOk status.toNat = false) →
        (t.lane lane).frames = 0 ∧ (t.lane lane).reqs = [(0, 0), (0, 0), (0, 0)] ∧ t.out = s.out))

/-- STAGE_TIMEOUT in stages 2 to 4 counts a failure of the feed, records its LAST_FAIL code and sets SER condition 0
of its octets; fewer than four in a row go back to stage 1, or to REF_WAIT while a reference is in fault, the fourth
and later ones to backoff, stage 7, with condition 1; from the second on the defaults are the starting record.
FEED_LOSS of an active Wickline feed begins a relock in stage 3 and the feed is active no more, with SER condition 2
and WL condition 1, and SIGNAL as the receiver finds it. BACKOFF_END and FAULT_RETRY start stage 1 again, and so does
RETRAIN of a lane whose feed is up, from the trims in force when it was active. -/
def Obligations.FeedsFailAndStartAgain : Prop :=
  (∀ (s : State) (feed : FeedId),
    let k := feedKey feed
    let f := s.feed k
    2 ≤ f.stage → f.stage ≤ 4 → Answers (.stageTimeout feed) s fun t =>
      t.feed k = { f with fails := f.fails + 1, relock := false, record := if 1 ≤ f.fails then 1 else f.record,
                          stage := if f.fails < 3 then s.firstStage f else 7 } ∧
      ∀ l ∈ f.lanes, t.ln l F.LN_FAIL_LAST_FAIL = f.failCode ∧ t.ln l F.LN_STAT_STAGE = (t.feed k).stage ∧
        t.ln l F.LN_STAT_SIGNAL = 0 ∧ t.cond (pSer (l / 8)) 0 ∧ (3 ≤ f.fails → t.cond (pSer (l / 8)) 1)) ∧
  (∀ (s : State) (l : LinkNo) (sec signal : Bool),
    let k := feedKey (.wl l sec)
    let f := s.feed k
    f.stage = 5 → Answers (.feedLoss (.wl l sec) signal) s fun t =>
      t.feed k = { f with stage := 3, relock := true, record := 2 } ∧ t.feedActive l sec = false ∧
      (s.feedActive l sec = true → t.cond (pWl l) 1) ∧
      ∀ n ∈ f.lanes, t.ln n F.LN_STAT_STAGE = 6 ∧ t.ln n F.LN_STAT_CW_LOCK = 0 ∧
        t.ln n F.LN_STAT_SIGNAL = (if signal then 1 else 0) ∧ t.cond (pSer (n / 8)) 2) ∧
  (∀ (s : State) (feed : FeedId),
    let k := feedKey feed
    let f := s.feed k
    (f.stage = 7 → Answers (.backoffEnd feed) s fun t => t.feed k = { f with stage := s.firstStage f, relock := false }) ∧
    (f.stage = 8 → Answers (.faultRetry feed) s fun t => t.feed k = { f with stage := s.firstStage f, relock := false })) ∧
  (∀ (s : State) (seat : SeatNo) (lane : LaneNo), s.May seat (pSer (lane.val / 8)) → Answers (.retrain seat lane) s fun t =>
    (∀ k f, s.laneFeed lane = some (k, f) → f.stage ≠ 0 → f.stage ≠ 0xA →
      t.feed k = { f with stage := s.firstStage f, relock := false, record := if f.stage = 5 then 2 else f.record } ∧
      ∀ l ∈ f.lanes, t.ln l F.LN_STAT_STAGE = s.firstStage f) ∧
    (s.laneFeed lane = none → t.feeds = s.feeds ∧ t.lanes = s.lanes))

/-- ACTIVITY_WINDOW keeps the activity of an octet in use, 0 of one with no lane in use, a run of 0 with no
provisional trims, and hands the window to the octet's lanes that take statistics. TRIM_TRACK of a lane in service
keeps its eyes and counts; without a re-gather running, in a round with an eligible window, it marks the record
tracked and queues the steps found, in place of those of the same fields, and with none it changes no record.
TRIM_STEP_APPLY moves the field of a lone waiting step by one code towards its target and remembers the code before.
TRIM_STEP_DROP drops the steps that wait, those of a re-gather too, and counts them. TRIM_REVERT, when corrected
symbols have more than doubled and risen by 64, puts the code back, freezes the field, counts and sets SER condition
5; otherwise it changes nothing. -/
def Obligations.TrimsFollowTheirTargets : Prop :=
  (∀ (s : State) (o : OctetNo) (blocks nonFill : Nat),
    let used := (octetLanes o).any s.hasRole && blocks != 0
    Answers (.activityWindow o blocks nonFill) s fun t =>
      t.fld (pSer o) F.SER_ACT_ACT = (if used then activity blocks (min nonFill blocks) else 0) ∧
      (s.octetProv o = false → t.fld (pSer o) F.SER_ACT_BUSY_RUN_MS = 0) ∧
      (∀ l ∈ octetLanes o, (t.lane l).wins = if [2, 5, 9].contains (s.ln l F.LN_STAT_STAGE)
        then (if used then (blocks, min nonFill blocks) else (1, 0)) :: (s.lane l).wins else (s.lane l).wins) ∧
      OnlyRegs ((pSer o + 0x100) :: (List.range 8).map (fun i => pSer o + F.LN_STAT_STEP_PEND.off + 0x80 * i)) s t) ∧
  (∀ (s : State) (lane : LaneNo) (steps : List TrimStep) (eye : Word) (cs cw : Nat),
    s.inService lane = true → s.inTest lane = false → Answers (.trimTrack lane steps eye cs cw) s fun t =>
      let r := s.lane lane
      let windows := if s.ln lane F.LN_META_PROVISIONAL = 1 then r.wins else r.wins.filter (fun w => decide (w.1 ≤ 4 * w.2 ∧ 0 < w.1))
      let new := (s.thawed lane steps).filter (fun x => !s.trimThere lane x)
      t.reg (pSer (lane.val / 8) + 0x26C + 0x80 * (lane.val % 8)) = eye &&& 0xFFFFFF ∧
      t.ln lane F.LN_CORR_CNT_CORR_CNT = countUp 32 (s.ln lane F.LN_CORR_CNT_CORR_CNT) cs ∧
      (r.gathering = false → r.moving = false → windows ≠ [] →
        t.lane lane = { r with wins := [], pend := new ++ r.pend.filter (fun x => !new.any (fun u => trimSame x u)) } ∧
        t.ln lane F.LN_META_SOURCE = 2) ∧
      ((r.gathering = true ∨ r.moving = true ∨ windows = []) →
        (t.lane lane).pend = r.pend ∧ t.ln lane F.LN_META_SOURCE = s.ln lane F.LN_META_SOURCE)) ∧
  (∀ (s : State) (lane : LaneNo), s.inService lane = true →
    (∀ x, (s.lane lane).moving = false → (s.lane lane).pend = [x] → s.thawed lane [x] = [x] → s.trimThere lane x = false →
      Answers (.trimStepApply lane) s fun t =>
        t.trimCode lane x = ofS x.width (towards (trimNum x (s.trimCode lane x)) (trimNum x x.code)) ∧
        (t.lane lane).pend = [] ∧ (t.lane lane).last = [{ x with code := s.trimCode lane x }]) ∧
    ((s.lane lane).moving = false → (s.lane lane).pend = [] → exec (.trimStepApply lane) s = .next s) ∧
    Answers (.trimStepDrop lane) s (fun t => (t.lane lane).pend = [] ∧
      t.ln lane F.LN_TRIM_CNT_NOFILL_CNT = countUp 16 (s.ln lane F.LN_TRIM_CNT_NOFILL_CNT)
        (if (s.lane lane).moving then ((s.thawed lane (s.lane lane).targets).filter (fun x => !s.trimThere lane x)).length
         else (s.lane lane).pend.length)) ∧
    (∀ before after x, (s.lane lane).last = [x] → trimValid x = true → 2 * before < after → before + 64 ≤ after →
      Answers (.trimRevert lane before after) s fun t =>
        t.trimCode lane x = x.code % 2 ^ x.width.val ∧ (t.lane lane).last = [] ∧ (x, s.clk.free + 10 ^ 9) ∈ (t.lane lane).frozen ∧
        t.cond (pSer (lane.val / 8)) 5 ∧
        t.ln lane F.LN_TRIM_CNT_REVERT_CNT = countUp 16 (s.ln lane F.LN_TRIM_CNT_REVERT_CNT) 1) ∧
    (∀ before after, (after ≤ 2 * before ∨ after < before + 64) → exec (.trimRevert lane before after) s = .next s))

/-- REGATHER_START of a lane in service with provisional trims whose octet has been busy for 1,000 ms, and REGATHER by
a seat, gather anew and drop what waits. REGATHER_GATHER_END with no window of activity 60 % or more, or none at all
when a host asked, ends it; with every target reached it ends with SOURCE 3 and the mean activity of the windows as
ACT and, when the engine began it, the record is no longer provisional, with SER condition 4; otherwise the trims move
towards the targets. TEST_ENABLE with EN of a lane without a role for which a PLL is free enters test mode with its
counters at 0; of a lane that a feed uses it is refused with TEST_ERR. A checker that receives symbols from the balls
finds or loses SYNC and counts as the comparison of R385 gives, with SER condition 6 when it counted errors; with LOOP
0x2 they leave again; with LOOP 0x1 and 0x3 it takes none. A PLL that loses lock shows it and sets condition 7. -/
def Obligations.RegathersTestsAndPlls : Prop :=
  (∀ (s : State) (lane : LaneNo), s.inService lane = true → (s.lane lane).gathering = false → (s.lane lane).moving = false →
    (s.ln lane F.LN_META_PROVISIONAL = 1 → 1000 ≤ s.fld (pSer (lane.val / 8)) F.SER_ACT_BUSY_RUN_MS →
      Answers (.regatherStart lane) s fun t =>
        t.lane lane = { s.lane lane with gathering := true, fromHost := false, pend := [], wins := [] }) ∧
    (∀ seat : SeatNo, s.May seat (pSer (lane.val / 8)) → Answers (.regather seat lane) s fun t =>
      t.lane lane = { s.lane lane with gathering := true, fromHost := true, pend := [], wins := [] })) ∧
  (∀ (s : State) (lane : LaneNo) (targets : List TrimStep), s.inService lane = true → (s.lane lane).gathering = true →
    let r := s.lane lane
    let ws := if r.fromHost then r.wins else r.wins.filter (fun w => decide (3 * w.1 ≤ 5 * w.2 ∧ 0 < w.1))
    let there := (targets.filter trimValid).all (s.trimThere lane)
    (ws = [] → Answers (.regatherGatherEnd lane targets) s fun t => t.lane lane = { r with gathering := false, wins := [] } ∧
      t.ln lane F.LN_META_SOURCE = s.ln lane F.LN_META_SOURCE) ∧
    (ws ≠ [] → Answers (.regatherGatherEnd lane targets) s fun t =>
      (t.lane lane).gathering = false ∧
      (there = true → (t.lane lane).moving = false ∧ t.ln lane F.LN_META_SOURCE = 3 ∧ t.ln lane F.LN_META_ACT = meanActivity ws ∧
        (r.fromHost = false → t.ln lane F.LN_META_PROVISIONAL = 0 ∧ t.cond (pSer (lane.val / 8)) 4)) ∧
      (there = false → (t.lane lane).moving = true ∧ (t.lane lane).targets = targets ∧
        t.ln lane F.LN_META_SOURCE = s.ln lane F.LN_META_SOURCE))) ∧
  (∀ (s : State) (seat : SeatNo) (lane : LaneNo) (v : Word), s.May seat (pSer (lane.val / 8)) → bit v.toNat 31 = true →
    s.ln lane F.LN_TEST_EN = 0 → 1 ≤ bitsOf v.toNat 24 3 → bitsOf v.toNat 24 3 ≤ 5 → bitsOf v.toNat 27 3 ≤ 3 → bitsOf v.toNat 20 4 ≤ 9 →
    let n := lane.val / 8
    (∀ ab, s.ln lane F.LN_STAT_ROLE = 0 →
      fillPll (keepPll (s.roleFreqs n ++ (s.testLanes n).map s.laneFreq) (s.plls n)) (rateFreq (bitsOf v.toNat 24 3)) = some ab →
      Answers (.testEnable seat lane v) s fun t =>
        t.ln lane F.LN_STAT_ROLE = 4 ∧ t.ln lane F.LN_STAT_STAGE = (if s.refBad n then 0xA else 9) ∧ t.ln lane F.LN_TEST_EN = 1 ∧
        t.ln lane F.LN_TEST_STAT_TEST_ERR = 0 ∧ t.ln lane F.LN_TEST_ERR_CNT_ERR_CNT = 0 ∧ t.ln lane F.LN_TEST_BITS_CNT_BITS_CNT = 0) ∧
    ((s.ln lane F.LN_STAT_ROLE = 1 ∨ s.ln lane F.LN_STAT_ROLE = 2 ∨ s.ln lane F.LN_STAT_ROLE = 3) →
      Answers (.testEnable seat lane v) s fun t =>
        t.ln lane F.LN_TEST_EN = 0 ∧ t.ln lane F.LN_TEST_STAT_TEST_ERR = 1 ∧ t.ln lane F.LN_STAT_ROLE = s.ln lane F.LN_STAT_ROLE)) ∧
  (∀ (s : State) (lane : LaneNo) (symbols : List (Fin 4)), s.inTest lane = true → s.ln lane F.LN_STAT_STAGE = 9 →
    s.ln lane F.LN_TEST_CHECK_EN = 1 →
    let test := (s.lane lane).test
    let got := symbols.map (fun x => x.val)
    let ls := if s.ln lane F.LN_CFG_RX_INV = 1 then got.map (3 - ·) else got
    let c := (symbolBits (s.testPam4 lane) ls).foldl
      (Checked.feed (s.ln lane F.LN_TEST_PATTERN) (s.testUser lane) (s.testPam4 lane))
      { rt := if s.ln lane F.LN_TEST_LOOP = 2 then { test with hist := lastTwo test.hist got } else test,
        sync := s.ln lane F.LN_TEST_STAT_SYNC == 1, errors := 0, units := 0 }
    ∀ cmd ∈ [Instr.checkerSyncGain lane symbols, Instr.checkerSyncLoss lane symbols],
      (s.ln lane F.LN_TEST_LOOP = 0 ∨ s.ln lane F.LN_TEST_LOOP = 2 → Answers cmd s fun t =>
        t.ln lane F.LN_TEST_STAT_SYNC = (if c.sync then 1 else 0) ∧ (t.lane lane).test = c.rt ∧
        t.ln lane F.LN_TEST_ERR_CNT_ERR_CNT = countUp 32 (s.ln lane F.LN_TEST_ERR_CNT_ERR_CNT) c.errors ∧
        t.ln lane F.LN_TEST_BITS_CNT_BITS_CNT = countUp 32 (s.ln lane F.LN_TEST_BITS_CNT_BITS_CNT) c.units ∧
        (0 < c.errors → t.cond (pSer (lane.val / 8)) 6) ∧
        (s.ln lane F.LN_TEST_LOOP = 2 → ∃ samples, Out.line lane got samples ∈ t.out)) ∧
      (s.ln lane F.LN_TEST_LOOP = 1 ∨ s.ln lane F.LN_TEST_LOOP = 3 → exec cmd s = .next s)) ∧
  (∀ (s : State) (o : OctetNo) (b : Bool),
    let f := if b then F.SER_STAT_PLL_B_LOCK else F.SER_STAT_PLL_A_LOCK
    s.fld (pSer o) f = 1 → Answers (.pllLockLoss o b) s fun t => t.fld (pSer o) f = 0 ∧ t.cond (pSer o) 7)

/-- A one-step Sync of the selected master over its port's transport, or the Follow_Up of a waiting two-step one,
gives ms from its stamp, origin and corrections. With a delay measured and PTP as the source that is a sample theta:
SYNC_CNT counts it and TIME_THETA shows it; within STEP_THR it is a sample of A0; beyond it, in a state other than
FREE, it waits as TIME_STEP_PEND in STEP_WAIT. A two-step Sync waits. DELAY_REQ_SEND on a port that takes part and is
up keeps its number and stamp, and its frame leaves for the transport's multicast address, or over Ethernet for the
master's own when DREQ_UNICAST asks for it; its Delay_Resp gives a delay, the last eight of which are kept with their
median in TIME_MPD, a negative one counts as dropped. The first Announce selects its master with TIME condition 4; of
two masters heard the better one is selected. With their source in use MASTER_LOST and PPS_TIMEOUT bring ACQUIRING,
LOCKED and STEP_WAIT to HOLDOVER. That Delay_Req comes from UDP port 319 is the model's choice (log 73). -/
def Obligations.PtpSamplesAndMasters : Prop :=
  (∀ (s : State) (p : PortNo) (m : PtpMsg) (stamp : Int), m.kind = .sync → s.fromMaster p m = true →
    (m.twoStep = true → Answers (.syncRx p m stamp) s fun t => t.ptp = { s.ptp with pendSync := some (m, s.rxStamp p stamp) }) ∧
    (m.twoStep = false →
      let ms := s.rxStamp p stamp - m.stamp - m.corr
      let theta := ms - median s.ptp.dlys
      let thr := s.fld pTime F.TIME_STEP_THR_THR_NS
      Answers (.syncRx p m stamp) s fun t =>
        t.ptp.pendSync = none ∧ t.ptp.ms = some ms ∧ t.ptp.dlys = s.ptp.dlys ∧
        ((s.ptp.dlys = [] ∨ s.fld pTime F.TIME_CFG_SYNC_SRC ≠ 1) → t.syncState = s.syncState ∧
          t.fld pTime F.TIME_SYNC_CNT_SYNC_CNT = s.fld pTime F.TIME_SYNC_CNT_SYNC_CNT) ∧
        ((s.ptp.dlys ≠ [] ∧ s.fld pTime F.TIME_CFG_SYNC_SRC = 1) →
          t.fld pTime F.TIME_SYNC_CNT_SYNC_CNT = countUp 32 (s.fld pTime F.TIME_SYNC_CNT_SYNC_CNT) 1 ∧
          t.sfld pTime F.TIME_THETA_THETA = satS (rshr theta 12) 32 ∧
          ((thr = 0xFFFFFFFF ∨ theta.natAbs ≤ thr * 2 ^ 16) → Out.sample 0 (satS (rshr theta 12) 32) ∈ t.out) ∧
          (thr ≠ 0xFFFFFFFF → thr * 2 ^ 16 < theta.natAbs → s.syncState ≠ 0 → t.syncState = 4 ∧
            t.fld pTime F.TIME_STEP_STAT_PEND_VALID = 1 ∧
            t.pair pTime F.TIME_STEP_PEND_LO_NS F.TIME_STEP_PEND_HI_NS = ofS 64 (divRound (-theta) (2 ^ 16)))))) ∧
  (∀ (s : State) (p : PortNo) (y m : PtpMsg) (t2 : Int), s.ptp.pendSync = some (y, t2) → m.kind = .followUp →
    s.fromMaster p m = true → m.seq = y.seq → Answers (.followUpRx p m) s fun t =>
      t.ptp.pendSync = none ∧ t.ptp.ms = some (t2 - m.stamp - (y.corr + m.corr))) ∧
  (∀ (s : State) (x : Master) (stamp : Int), s.ptp.selected = some x → s.ptpPort x.port = true → s.portUp x.port = true →
    let n := s.ptp.dreqSeq
    let g := ptpGroup (s.ptpVia x.port)
    Answers (.delayReqSend stamp) s fun t =>
      t.ptp = { s.ptp with dreq := some (n, s.txStamp x.port stamp, s.ptp.ms), dreqSeq := (n + 1) % 2 ^ 16 } ∧
      (s.fld pTime F.TPORT_CFG_DREQ_UNICAST x.port = 0 →
        (if s.ptpVia x.port = .ethernet then Out.frame x.port g (s.vlanTag x.port) (.delayReq n none)
        else Out.frame x.port (groupMac g) (s.vlanTag x.port) (.delayReq n (some ⟨s.sourceIp x.port g, g, 319, 319⟩))) ∈ t.out) ∧
      (s.fld pTime F.TPORT_CFG_DREQ_UNICAST x.port = 1 → s.ptpVia x.port = .ethernet →
        Out.frame x.port x.ann.addr.toNat (s.vlanTag x.port) (.delayReq n none) ∈ t.out)) ∧
  (∀ (s : State) (p : PortNo) (m : PtpMsg) (n : Nat) (t3 ms : Int), s.ptp.dreq = some (n, t3, some ms) → m.kind = .delayResp →
    s.fromMaster p m = true → m.forUs = true → m.seq.toNat = n →
    let dly := (ms + (m.stamp - t3 - m.corr)) / 2
    Answers (.delayRespRx p m) s fun t => t.ptp.dreq = none ∧
      (0 ≤ dly → t.ptp.dlys = (dly :: s.ptp.dlys).take 8 ∧
        t.fld pTime F.TIME_MPD_MPD = satU (rshr (median ((dly :: s.ptp.dlys).take 8)) 12) 32) ∧
      (dly < 0 → t.ptp.dlys = s.ptp.dlys ∧ t.fld pTime F.TIME_DROP_CNT_DROP_CNT = countUp 32 (s.fld pTime F.TIME_DROP_CNT_DROP_CNT) 1)) ∧
  (∀ (s : State) (p : PortNo) (a : Announce), s.ptpOver p a.via = true → a.domain.toNat = s.fld pTime F.TIME_CFG_DOMAIN →
    let m : Master := ⟨p, a, s.clk.free⟩
    (s.ptp.masters = [] → s.ptp.selected = none → Answers (.announceRx p a) s fun t =>
      t.ptp.selected = some m ∧ t.cond pTime 4 ∧ t.fld pTime F.TIME_STAT_MASTER_VALID = 1 ∧
      t.fld pTime F.TIME_STAT_MASTER_PORT = p ∧
      t.pair pTime F.TIME_MASTER_ID_LO_ID F.TIME_MASTER_ID_HI_ID = a.srcId.toNat ∧
      t.fld pTime F.TIME_ANN_CNT_ANN_CNT = countUp 32 (s.fld pTime F.TIME_ANN_CNT_ANN_CNT) 1) ∧
    (∀ x, s.ptp.masters = [x] → s.ptp.selected = some x → s.hears x = true → x.same m = false →
      Answers (.announceRx p a) s fun t =>
        t.ptp.selected = some (if m.better x then m else x) ∧ t.ptp.masters = [x, m])) ∧
  (∀ (s : State) (x : Master) (heard : Bool), s.ptp.selected = some x → s.fld pTime F.TIME_CFG_SYNC_SRC = 1 →
    (s.syncState = 1 ∨ s.syncState = 2 ∨ s.syncState = 4) → Answers (.masterLost heard) s fun t => t.syncState = 3 ∧
      (s.syncState = 2 → t.cond pTime 1) ∧ (heard = true → t.ptp.selected = some x)) ∧
  (∀ (s : State), s.fld pTime F.TIME_CFG_SYNC_SRC = 2 → (s.syncState = 1 ∨ s.syncState = 2 ∨ s.syncState = 4) →
    Answers .ppsTimeout s fun t => t.syncState = 3 ∧ (s.syncState = 2 → t.cond pTime 1) ∧
      (s.syncState = 4 → t.fld pTime F.TIME_STEP_STAT_PEND_VALID = 0))

/-- STEP_AUTHORISE in STEP_WAIT, STEP_APPLY_VALUE and STEP_WITHDRAW set and clear the step asked for. STEP_TAKE_EFFECT
moves engine time by the step scheduled, counts STEP_GEN, keeps the step in TIME_STEP_LAST, sets TIME condition 3, and
leaves STEP_WAIT for ACQUIRING when a host asked. A new SYNC_SRC makes the clock FREE without a step asked for or
scheduled; a write that keeps SYNC_SRC leaves the cycles, and with no master heard SYNC_STATE and the PTP slave, as
they are. TOUT_ARM arms the output with the configuration written, or shows CFG_ERR, or, for a single edge less than 1
us ahead, MISSED with condition 5. TOUT_DISARM disarms, after a pulse in progress. TOUT_EDGE of a due edge begins the
pulse at the polarity latched by ARM, TOUT_PULSE_END ends it; PPS_PULSE and PPS_PULSE_END drive PPS_OUT. TCAP_EDGE
stamps an edge it watches, or drops and counts it when sixteen wait; TCAP_POP takes the oldest. -/
def Obligations.StepsOutputsAndCaptures : Prop :=
  (∀ (s : State) (seat : SeatNo), s.May seat pTime →
    Answers (.stepAuthorise seat) s (fun t => t.cyc = if s.syncState = 4 then { s.cyc with req := some .authorised } else s.cyc) ∧
    Answers (.stepApplyValue seat) s (fun t => t.cyc = { s.cyc with
      req := some (.value (toS 64 (s.pair pTime F.TIME_STEP_VAL_LO_NS F.TIME_STEP_VAL_HI_NS))) }) ∧
    Answers (.stepWithdraw seat) s (fun t => t.cyc = { s.cyc with req := none })) ∧
  (∀ (s : State) (d : Int) (auto : Bool), s.cyc.sched = some (d, auto) → Answers .stepTakeEffect s fun t =>
    t.cyc.sched = none ∧ t.clk.time = ofS 80 (s.clk.time + d * 2 ^ 16) ∧ t.clk.free = s.clk.free ∧
    t.fld pTime F.TIME_STAT_STEP_GEN = (s.fld pTime F.TIME_STAT_STEP_GEN + 1) % 16 ∧
    t.pair pTime F.TIME_STEP_LAST_LO_NS F.TIME_STEP_LAST_HI_NS = ofS 64 d ∧ t.cond pTime 3 ∧
    t.syncState = (if s.syncState = 4 ∧ auto = false ∨ s.syncState = 0 ∧ auto = true then 1 else s.syncState)) ∧
  (∀ (s : State) (seat : SeatNo) (v : Word), s.May seat pTime → reservedTime 0x100 v.toNat = false →
    (bitsOf v.toNat 30 2 ≠ s.fld pTime F.TIME_CFG_SYNC_SRC → Answers (.syncSrcChange seat v) s fun t =>
      t.syncState = 0 ∧ t.fld pTime F.TIME_CFG_SYNC_SRC = bitsOf v.toNat 30 2 ∧
      t.fld pTime F.TIME_STEP_STAT_PEND_VALID = 0 ∧ t.cyc.req = none ∧ t.cyc.sched = none) ∧
    (bitsOf v.toNat 30 2 = s.fld pTime F.TIME_CFG_SYNC_SRC → Answers (.syncSrcChange seat v) s fun t =>
      t.cyc = s.cyc ∧ (s.ptp.masters = [] → s.ptp.selected = none → t.syncState = s.syncState ∧ t.ptp = s.ptp))) ∧
  (∀ (s : State) (seat : SeatNo) (k : Fin 16) (v : Word), s.May seat pTime →
    let a := pTime + 0x400 + 32 * k
    let cfg := storedWord a (s.reg a) (BitVec.ofNat 32 (2 ^ 31 + v.toNat % 2 ^ 30))
    let refused := armRefused cfg (s.fld pTime F.TOUT_PERIOD_PERIOD k) (s.fld pTime F.TOUT_WIDTH_WIDTH k)
    let t0 := s.pair pTime F.TOUT_T0_LO_T0 F.TOUT_T0_HI_T0 k
    Answers (.toutArm seat k v) s fun t =>
      (refused = true → t.tout k = { s.tout k with low := (t.tout k).low } ∧ t.fld pTime F.TOUT_CFG_CFG_ERR k = 1) ∧
      (refused = false → t.fld pTime F.TOUT_CFG_CFG_ERR k = 0 ∧ (t.tout k).cfg = cfg ∧ (t.tout k).t0 = t0 ∧
        (t.tout k).pulse = (s.tout k).pulse ∧
        (bitsOf cfg.toNat 28 2 ≠ 1 ∨ late1us t0 s.now = true → (t.tout k).armed = true ∧ t.fld pTime F.TOUT_CFG_MISSED k = 0) ∧
        (bitsOf cfg.toNat 28 2 = 1 → late1us t0 s.now = false →
          (t.tout k).armed = false ∧ t.fld pTime F.TOUT_CFG_MISSED k = 1 ∧ t.cond pTime 5))) ∧
  (∀ (s : State) (seat : SeatNo) (k : Fin 16), s.May seat pTime → Answers (.toutDisarm seat k) s fun t =>
    (t.tout k).due = [] ∧ (t.tout k).pulse = (s.tout k).pulse ∧
    (if (s.tout k).pulse then (t.tout k).stopping = true else (t.tout k).armed = false)) ∧
  (∀ (s : State) (k : Fin 16),
    let pin (x : Bool) : Out := .pin ("TOUT" ++ toString k.val) x
    (s.pow.up = true → s.outputsOn = true → (s.tout k).nextEdge ≠ none → Answers (.toutEdge k) s fun t =>
      (t.tout k).pulse = true ∧ (t.tout k).armed = ((s.tout k).armed && (s.tout k).mode != 1) ∧
      t.out = s.out ++ [pin (!bit (s.tout k).cfg.toNat 27)]) ∧
    ((s.tout k).pulse = true → Answers (.toutPulseEnd k) s fun t =>
      (t.tout k).pulse = false ∧ (t.tout k).armed = ((s.tout k).armed && !(s.tout k).stopping) ∧
      (t.tout k).stopping = false ∧
      (t.tout k).low = (if (t.tout k).armed then (s.tout k).low else s.fld pTime F.TOUT_CFG_POL k == 1) ∧
      t.out = s.out ++ (if s.outputsOn then [pin (t.tout k).low] else []))) ∧
  (∀ (s : State) (k : Fin 4) (rising : Bool), s.pow.up = true → s.pow.sleeping = false → s.fld pTime F.TIME_CFG_SYNC_SRC ≠ 2 →
    s.fld pTime F.TCAP_CFG_EN k = 1 → bit (s.fld pTime F.TCAP_CFG_EDGE k) (if rising then 0 else 1) = true →
    (∀ l, (s.tcap k).last = some l → 10 ≤ (s.now + 2 ^ 64 - l) % 2 ^ 64) → Answers (.tcapEdge k rising) s fun t =>
      ((s.tcap k).fifo.length < 16 →
        (t.tcap k).fifo = (s.tcap k).fifo ++ [⟨s.now, rising, s.fld pTime F.TIME_STAT_STEP_GEN⟩] ∧
        t.fld pTime F.TCAP_INFO_LEVEL k = (s.tcap k).fifo.length + 1 ∧ t.cond pTime 7) ∧
      (16 ≤ (s.tcap k).fifo.length → (t.tcap k).fifo = (s.tcap k).fifo ∧ t.fld pTime F.TCAP_INFO_OVF k = 1 ∧ t.cond pTime 6 ∧
        t.fld pTime F.TCAP_INFO_DROP_CNT k = countUp 16 (s.fld pTime F.TCAP_INFO_DROP_CNT k) 1)) ∧
  (∀ (s : State) (seat : SeatNo) (k : Fin 4), s.serves seat = true → Answers (.tcapPop seat k) s fun t =>
    (t.tcap k).fifo = (s.tcap k).fifo.tail ∧ (t.tcapLatch seat k).1 = !(s.tcap k).fifo.isEmpty ∧
    (∀ e l, (s.tcap k).fifo = e :: l → (t.tcapLatch seat k).2 = e)) ∧
  (∀ (s : State),
    (s.ppsOn = true → Answers .ppsPulse s fun t => t.ppsHigh = true ∧ t.out = s.out ++ [.pin "PPS_OUT" true]) ∧
    (s.ppsHigh = true → Answers .ppsPulseEnd s fun t => t.ppsHigh = false ∧ t.out = s.out ++ [.pin "PPS_OUT" false]))

/-- SERVO_SAMPLE of a running phase loop that is not lost, without pending set, release or Taper: the set-point is the
target, the error its distance from the sample, the integrator and the output follow the class-A equations with
anti-windup and limits, and the output adds to TRIM. A sample of the running clock servo A0 gives RATE 256 times its
output. The first sample of a running class-B slot seeds it: period and
set-point are the target, the integrator is 0. FOLLOWING_ERROR_LOST declares the slot lost, with its condition and
SERVO condition 0. APPLY of a sound pending set waits for the next sample, of an unsound one shows APPLY_ERR. RESET
clears integrator, trim and lost, with the output at the limited bias. RELEASE of a lost slot waits for its next
sample. -/
def Obligations.ServoSlotsSampleAndObey : Prop :=
  (∀ (s : State) (slot : Fin 64) (y : Int), 0 < slot.val → slot.val < 16 →
    let k := slot.val
    s.saActive k = true → s.sa k F.SA_STAT_LOST = 0 → s.sa k F.SA_CMD_APPLY = 0 → (s.servo k).releasing = false →
    s.sa k F.SA_CFG_TAPER_EN = 0 →
    let e := satS (s.saS k F.SA_TARGET_R - satS y 32) 32
    let p := satS (rshr (s.saS k F.SA_ACT_KP_K * e) (s.sa k F.SA_ACT_SHIFT_SP)) 32
    let it := satS (s.saS k F.SA_I_I + rshr (s.saS k F.SA_ACT_KI_K * e) (s.sa k F.SA_ACT_SHIFT_SI)) 32
    let lo := s.saS k F.SA_ACT_UMIN_VALUE
    let hi := s.saS k F.SA_ACT_UMAX_VALUE
    let w := p + it + s.saS k F.SA_ACT_BIAS_VALUE
    let held := (hi < w ∧ s.saS k F.SA_I_I < it) ∨ (w < lo ∧ it < s.saS k F.SA_I_I)
    Answers (.servoSample true slot y) s fun t =>
      t.saS k F.SA_SP_S = s.saS k F.SA_TARGET_R ∧ t.saS k F.SA_E_E = e ∧ t.saS k F.SA_Y_Y = satS y 32 ∧
      (¬ held → t.saS k F.SA_I_I = it ∧ t.saS k F.SA_U_U = min (max w lo) hi) ∧
      (held → t.saS k F.SA_I_I = s.saS k F.SA_I_I ∧
        t.saS k F.SA_U_U = min (max (p + s.saS k F.SA_I_I + s.saS k F.SA_ACT_BIAS_VALUE) lo) hi) ∧
      t.saS k F.SA_TRIM_TRIM = satS (s.saS k F.SA_TRIM_TRIM + t.saS k F.SA_U_U) 32 ∧
      t.sa k F.SA_SAMPLE_CNT_SAMPLE_CNT = countUp 32 (s.sa k F.SA_SAMPLE_CNT_SAMPLE_CNT) 1) ∧
  (∀ (s : State) (y : Int), s.saTakes 0 = true → Answers (.servoSample true 0 y) s fun t =>
    t.clk.rate = t.saS 0 F.SA_U_U * 256 ∧ t.saS 0 F.SA_Y_Y = satS y 32 ∧
      t.sa 0 F.SA_SAMPLE_CNT_SAMPLE_CNT = countUp 32 (s.sa 0 F.SA_SAMPLE_CNT_SAMPLE_CNT) 1) ∧
  (∀ (s : State) (slot : Fin 64) (y : Int),
    let k := slot.val
    s.sbActive k = true → s.sb k F.SB_STAT_SEEDED = 0 → s.sb k F.SB_CMD_APPLY = 0 → (s.servo (16 + k)).releasing = false →
    Answers (.servoSample false slot y) s fun t =>
      t.sb k F.SB_STAT_SEEDED = 1 ∧ t.sb40 k F.SB_SP_LO_S F.SB_SP_HI_S = s.sbTarget k ∧
      t.sb40 k F.SB_PERIOD_LO_PERIOD F.SB_PERIOD_HI_PERIOD = s.sbTarget k ∧ t.sb40 k F.SB_I_LO_I F.SB_I_HI_I = 0 ∧
      (t.servo (16 + k)).q = y * 256 + s.sbTarget k) ∧
  (∀ (s : State) (slot : Fin 64),
    let k := slot.val
    (k < 16 → s.sa k F.SA_STAT_FE_RUN = 1 → Answers (.followingErrorLost true slot) s fun t =>
      t.sa k F.SA_STAT_LOST = 1 ∧ t.sa k F.SA_STAT_FE_RUN = 0 ∧ t.cond (pSa k) (16 * (k % 2)) ∧ t.cond pServo 0 ∧
      t.sa k F.SA_CNT_LOST_CNT = countUp 16 (s.sa k F.SA_CNT_LOST_CNT) 1) ∧
    (s.sb k F.SB_STAT_FE_RUN = 1 → Answers (.followingErrorLost false slot) s fun t =>
      t.sb k F.SB_STAT_LOST = 1 ∧ t.sb k F.SB_STAT_FE_RUN = 0 ∧ t.cond (pSb k) (2 * (k % 16)) ∧ t.cond pServo 0 ∧
      t.sb k F.SB_CNT_LOST_CNT = countUp 16 (s.sb k F.SB_CNT_LOST_CNT) 1)) ∧
  (∀ (s : State) (seat : SeatNo) (slot : Fin 64),
    let k := slot.val
    k < 16 → s.May seat (pSa k) →
    Answers (.servoApply seat true slot) s (fun t =>
      ((s.saS k F.SA_UMAX_VALUE < s.saS k F.SA_UMIN_VALUE ∨ (s.sa k F.SA_CFG_TAPER_EN = 1 ∧ s.sa k F.SA_AMAX_LIMIT = 0)) →
        t.sa k F.SA_STAT_APPLY_ERR = 1 ∧ t.cond (pSa k) (16 * (k % 2) + 4) ∧ t.sa k F.SA_CMD_APPLY = s.sa k F.SA_CMD_APPLY) ∧
      (s.saS k F.SA_UMIN_VALUE ≤ s.saS k F.SA_UMAX_VALUE → (s.sa k F.SA_CFG_TAPER_EN = 0 ∨ s.sa k F.SA_AMAX_LIMIT ≠ 0) →
        t.sa k F.SA_STAT_APPLY_ERR = 0 ∧ t.sa k F.SA_CMD_APPLY = 1)) ∧
    Answers (.servoReset seat true slot) s (fun t =>
      t.saS k F.SA_I_I = 0 ∧ t.saS k F.SA_TRIM_TRIM = 0 ∧ t.sa k F.SA_STAT_LOST = 0 ∧ t.sa k F.SA_STAT_FE_RUN = 0 ∧
      t.saS k F.SA_SP_S = s.saS k F.SA_TARGET_R ∧ (t.servo k).releasing = false ∧
      t.saS k F.SA_U_U = min (max (s.saS k F.SA_ACT_BIAS_VALUE) (s.saS k F.SA_ACT_UMIN_VALUE)) (s.saS k F.SA_ACT_UMAX_VALUE)) ∧
    Answers (.servoRelease seat true slot) s (fun t =>
      (s.sa k F.SA_STAT_LOST = 1 → (t.servo k).releasing = true ∧ ((s.servo k).releasing = false → t.cond (pSa k) (16 * (k % 2) + 1))) ∧
      (s.sa k F.SA_STAT_LOST = 0 → t.servos = s.servos))) ∧
  (∀ (s : State) (seat : SeatNo) (slot : Fin 64),
    let k := slot.val
    s.May seat (pSb k) →
    Answers (.servoApply seat false slot) s (fun t =>
      if s.sb k F.SB_CFG_TAPER_EN = 1 ∧ s.sb k F.SB_AMAX_LIMIT = 0
      then t.sb k F.SB_STAT_APPLY_ERR = 1 ∧ t.cond (pSb k) (2 * (k % 16) + 1)
      else t.sb k F.SB_STAT_APPLY_ERR = 0 ∧ t.sb k F.SB_CMD_APPLY = 1) ∧
    Answers (.servoReset seat false slot) s (fun t =>
      t.sb k F.SB_STAT_SEEDED = 0 ∧ t.sb k F.SB_STAT_LOST = 0 ∧ t.sb40 k F.SB_I_LO_I F.SB_I_HI_I = 0 ∧
      t.sb40 k F.SB_SP_LO_S F.SB_SP_HI_S = s.sbTarget k) ∧
    Answers (.servoRelease seat false slot) s (fun t => (s.sb k F.SB_STAT_LOST = 1 → (t.servo (16 + k)).releasing = true)))

/-- With GDDR6 in service, REFRESH_DUE at a bank at a burst boundary leaves it none held, and at a busy bank holds one
more, nine at most; HELD_MAX keeps the greatest held, eight at most. FORCED_REFRESH takes the ninth, counts it and
sets MEM condition 4. EDC_MISMATCH counts the mismatched transfers, writes and reads apart; when the third repeat
mismatches too, RETRY_FAIL_CNT counts and MEMCH condition 0 is set. MEM_UNDERRUN counts and sets MEM condition 3.
PANIC_ENTRY at a level of ON sixteenths of the buffer or more puts a port that was not in panic into it and counts;
PANIC_EXIT at OFF sixteenths or less takes it out. MEM_TRIM_DROP of a channel that is not moving to the targets of a
re-gather counts its pending trim changes in NOWIN_CNT; it drops them and moves no trim. -/
def Obligations.RefreshEdcAndPanicAreCounted : Prop :=
  ∀ (s : State) (ch : ChanNo),
    (∀ bank, s.memState = 2 → Answers (.refreshDue ch bank false) s fun t => look 0 (t.chan ch).due bank.val = 0 ∧
      t.fld (pMc ch) F.MC_STAT_HELD_MAX = s.fld (pMc ch) F.MC_STAT_HELD_MAX) ∧
    (∀ bank, s.memState = 2 → let n := min 9 (look 0 (s.chan ch).due bank.val + 1)
      Answers (.refreshDue ch bank true) s fun t => look 0 (t.chan ch).due bank.val = n ∧
        t.fld (pMc ch) F.MC_STAT_HELD_MAX = max (s.fld (pMc ch) F.MC_STAT_HELD_MAX) (min 8 n)) ∧
    (∀ bank, look 0 (s.chan ch).due bank.val = 9 → Answers (.forcedRefresh ch bank) s fun t =>
      look 0 (t.chan ch).due bank.val = 8 ∧ t.cond pMem 4 ∧
      t.fld pMem F.MEM_FORCED_REF_CNT_FORCED_REF_CNT = countUp 32 (s.fld pMem F.MEM_FORCED_REF_CNT_FORCED_REF_CNT) 1) ∧
    (∀ write again, Answers (.edcMismatch ch write again) s fun t =>
      t.fld (pMc ch) F.MC_EDC_WR_CNT_WR_CNT = countUp 32 (s.fld (pMc ch) F.MC_EDC_WR_CNT_WR_CNT) (if write then again.val + 1 else 0) ∧
      t.fld (pMc ch) F.MC_EDC_RD_CNT_RD_CNT = countUp 32 (s.fld (pMc ch) F.MC_EDC_RD_CNT_RD_CNT) (if write then 0 else again.val + 1) ∧
      t.fld (pMc ch) F.MC_RETRY_FAIL_CNT_RETRY_FAIL_CNT =
        countUp 32 (s.fld (pMc ch) F.MC_RETRY_FAIL_CNT_RETRY_FAIL_CNT) (if again = 3 then 1 else 0) ∧
      (again = 3 → t.cond (pMc ch) 0)) ∧
    (∀ group flow, Answers (.memUnderrun group flow) s fun t => t.cond pMem 3 ∧
      t.fld pMem F.MEM_UNDERRUN_CNT_UNDERRUN_CNT = countUp 32 (s.fld pMem F.MEM_UNDERRUN_CNT_UNDERRUN_CNT) 1) ∧
    (∀ (port : Fin 30) (level : Nat),
      (s.panic.contains port.val = false → s.fld pMem F.MEM_PANIC_ON (portGroup port) * portBytes port ≤ 16 * level →
        Answers (.panicEntry port level) s fun t => t.panic = port.val :: s.panic ∧
          t.fld pMem F.MEM_PANIC_CNT_PANIC_CNT = countUp 32 (s.fld pMem F.MEM_PANIC_CNT_PANIC_CNT) 1) ∧
      (16 * level ≤ s.fld pMem F.MEM_PANIC_OFF (portGroup port) * portBytes port →
        Answers (.panicExit port level) s fun t => t.panic = s.panic.erase port.val ∧ t.regs = s.regs)) ∧
    Answers (.memTrimDrop ch) s (fun t => t.chan ch = { s.chan ch with pend := [] } ∧
      ((s.chan ch).moving = false →
        t.fld (pMc ch) F.MC_TRIM_CNT_NOWIN_CNT = countUp 16 (s.fld (pMc ch) F.MC_TRIM_CNT_NOWIN_CNT) (s.chan ch).pend.length) ∧
      t.reg (pMc ch + 0x108) = s.reg (pMc ch + 0x108) ∧ t.reg (pMc ch + 0x10C) = s.reg (pMc ch + 0x10C))

/-- While GDDR6 runs, MEM_TRACK of a channel that does not re-gather, with eligible windows (any for a provisional
record, else those with A of 25 % or more), leaves the trims as they are and makes a target not yet reached pending; a
provisional record has SOURCE 2, another keeps its SOURCE. MEM_IDLE_WINDOW gives held refreshes their turn first;
else, 1 ms or more after the last change, a pending target's code moves one step, its old code kept. MEM_TRIM_REVERT
after mismatches more than doubled and grew by 16 or more puts the old code back, freezes the field for 1 s, counts it
and sets MEMCH condition 3. A provisional channel busy for 1 s re-gathers; at the end of its gathering, with windows
of 60 % or more and every target in place, its record has SOURCE 3 and is no longer provisional, with condition 2;
without such windows the re-gather ends. RATE_CHANGE_BEGIN leaves every channel with nothing in progress but a
re-gather that had fallen due; RATE_CHANGE_END records the pause and the new rate, counts the change, and GDDR6 runs,
or has failed when a channel failed, with no request of BAR2 held. A failed GDDR6 trains again when asked or by its
timer. That a change of rate leaves such a re-gather waiting and a re-gather without windows ends is the model's
reading (log 74). -/
def Obligations.ChannelTrimsAndPinRateChange : Prop :=
  (∀ (s : State) (ch : ChanNo), s.memState = 2 →
    (∀ (x : MemStep) (ws : List (Nat × Nat)), memValid x = true → (s.chan ch).frozen = [] → s.memThere ch x = false →
      (s.chan ch).gathering = false → (s.chan ch).moving = false →
      ((s.fld (pMc ch) F.MC_META_PROVISIONAL = 1 ∧ ws ≠ []) ∨ ws.any (fun w => decide (25 * w.2 ≤ 100 * w.1)) = true) →
      Answers (.memTrack ch [x] ws) s fun t => x ∈ (t.chan ch).pend ∧
        t.fld (pMc ch) F.MC_META_SOURCE =
          (if s.fld (pMc ch) F.MC_META_PROVISIONAL = 1 then 2 else s.fld (pMc ch) F.MC_META_SOURCE) ∧
        t.reg (pMc ch + 0x108) = s.reg (pMc ch + 0x108) ∧ t.reg (pMc ch + 0x10C) = s.reg (pMc ch + 0x10C)) ∧
    ((s.chan ch).due ≠ [] → Answers (.memIdleWindow ch) s fun t => t.chan ch = { s.chan ch with due := [] } ∧
      t.reg (pMc ch + 0x108) = s.reg (pMc ch + 0x108) ∧ t.reg (pMc ch + 0x10C) = s.reg (pMc ch + 0x10C)) ∧
    (∀ x : MemStep, (s.chan ch).due = [] → (s.chan ch).moving = false → (s.chan ch).pend = [x] → (s.chan ch).frozen = [] →
      s.memRecent ch = false → memValid x = true → s.memThere ch x = false → Answers (.memIdleWindow ch) s fun t =>
        t.memCode ch x = (if s.memCode ch x < x.code % 2 ^ x.width.val then s.memCode ch x + 1 else s.memCode ch x - 1) ∧
        (t.chan ch).pend = [] ∧ (t.chan ch).last = [{ x with code := s.memCode ch x }]) ∧
    (s.rateWait = false → (s.chan ch).gathering = false → (s.chan ch).moving = false →
      s.fld (pMc ch) F.MC_META_PROVISIONAL = 1 → 1000 ≤ s.fld (pMc ch) F.MC_ACT_BUSY_RUN_MS →
      Answers (.memRegatherStart ch) s fun t => (t.chan ch).gathering = true ∧ (t.chan ch).pend = [] ∧
        t.fld (pMc ch) F.MC_STAT_GATHERING = 1)) ∧
  (∀ (s : State) (ch : ChanNo) (x : MemStep) (before after : Nat), (s.chan ch).last = [x] → memValid x = true →
    2 * before < after → before + 16 ≤ after → Answers (.memTrimRevert ch before after) s fun t =>
      t.memCode ch x = x.code % 2 ^ x.width.val ∧ (t.chan ch).last = [] ∧ (x, s.clk.free + 10 ^ 9) ∈ (t.chan ch).frozen ∧
      t.fld (pMc ch) F.MC_TRIM_CNT_REVERT_CNT = countUp 16 (s.fld (pMc ch) F.MC_TRIM_CNT_REVERT_CNT) 1 ∧ t.cond (pMc ch) 3) ∧
  (∀ (s : State) (ch : ChanNo) (targets : List MemStep) (windows : List (Nat × Nat)), (s.chan ch).gathering = true →
    let ws := windows.filter (fun w => decide (60 * w.2 ≤ 100 * w.1))
    Answers (.memRegatherGatherEnd ch targets windows) s fun t => (t.chan ch).gathering = false ∧
      (ws = [] → t.chan ch = { s.chan ch with gathering := false } ∧
        t.fld (pMc ch) F.MC_META_PROVISIONAL = s.fld (pMc ch) F.MC_META_PROVISIONAL) ∧
      (ws ≠ [] → targets = [] → (t.chan ch).moving = false ∧ t.fld (pMc ch) F.MC_META_SOURCE = 3 ∧
        t.fld (pMc ch) F.MC_META_ACT = meanAct ws % 2 ^ 7 ∧ t.fld (pMc ch) F.MC_META_PROVISIONAL = 0 ∧ t.cond (pMc ch) 2) ∧
      (ws ≠ [] → (∃ x ∈ targets, memValid x = true ∧ s.memThere ch x = false) →
        (t.chan ch).moving = true ∧ (t.chan ch).targets = targets ∧ t.fld (pMc ch) F.MC_STAT_GATHERING = 1)) ∧
  (∀ s : State, s.rateWait = true → s.anyGathering = false → s.rateChanging = false → Answers .rateChangeBegin s fun t =>
    t.memState = 4 ∧ t.rateWait = false ∧ t.fld pMem F.MEM_STAT_RATE_LATCHED = 0 ∧ t.rateTo = s.ff pMem F.MEM_CFG_RATE ∧
    ∀ c, c < 32 → t.chan c = { ChanRt.idle with waits := s.regatherDue c } ∧ t.fld (pMc c) F.MC_STAT_GATHERING = 1) ∧
  (∀ (s : State) (us : Word) (fail : BitVec 32) (trims : List ChanTrim), s.memState = 4 →
    Answers (.rateChangeEnd us fail trims) s fun t => t.fld pMem F.MEM_PAUSE_PAUSE_US = us.toNat ∧ t.cond pMem 2 ∧
      t.fld pMem F.MEM_RATE_CHG_CNT_RATE_CHG_CNT = countUp 32 (s.fld pMem F.MEM_RATE_CHG_CNT_RATE_CHG_CNT) 1 ∧
      (s.rateTo ≠ 0 → t.fld pMem F.MEM_STAT_RATE = s.rateTo % 2 ^ 5) ∧ t.bar2Held = [] ∧
      (fail = 0 → t.memState = 2 ∧ t.memOff = false) ∧ (fail ≠ 0 → t.memState = 3 ∧ t.memOff = true)) ∧
  (∀ s : State, s.memOff = true → s.memState = 3 →
    Answers .memRetrainTimer s (fun t => t.memState = 1 ∧ ∀ c, c < 32 → t.fld (pMc c) F.MC_STAT_GATHERING = 1) ∧
    (∀ seat : SeatNo, s.May seat pMem → Answers (.memRetrain seat) s fun t =>
      t.memState = 1 ∧ ∀ c, c < 32 → t.fld (pMc c) F.MC_STAT_GATHERING = 1)) ∧
  (∀ (s : State) (fail : BitVec 32) (trims : List ChanTrim), s.memOff = true → s.memState = 1 →
    Answers (.memRetrainDone fail trims) s fun t => (fail = 0 → t.memState = 2 ∧ t.memOff = false ∧ t.cond pMem 1) ∧
      (fail ≠ 0 → t.memState = 3 ∧ t.memOff = true))

/-- While the main domains run, a conversion of a sensor that has not failed, inside -60 to 150 degrees and no
deviation, is shown and kept; an error reported fails the sensor with THERM condition 0; shutdown starts at once when
H then stands at SHUT_T or above. A Glim round adds one to HK_ROUND, keeps the readings in use, shows the rails, with
THERM condition 4 for a rail newly out of range, and polls in Active only. On an active feed a STATE record of the
number's holder that answers its last POLL is accepted: telemetry resumes, its power is kept, and four like
temperatures set TL_TEMP and, at TILE_LIMIT or above, make the zone violate; any other counts late; one that fails its
check counts in CRC_CNT. At a 500 ms boundary a level that has just violated falls by two, not below THR_FLOOR; at a 4
s boundary one clear for 4 s, its tiles' telemetry running, without a hold rises by one to 64 at most. HOLD_END ends a
hold whose time is over, and no other. -/
def Obligations.SensorsRoundsAndLevels : Prop :=
  (∀ (s : State) (k : Fin 24), s.pow.up = true → s.dieOk k.val = true →
    (∀ r : BitVec 16, -960 ≤ r.toInt → r.toInt ≤ 2400 → s.deviates k.val r.toInt = false →
      Answers (.dieSensorConversion k false r) s fun t => t.dieRaw k.val = (r.toInt, false, 0) ∧
        t.sfld pTherm F.THERM_SENS_T k.val = r.toInt ∧ t.fld pTherm F.THERM_SENS_FAILED k.val = 0) ∧
    (∀ (e : Bool) (r : BitVec 16), Answers (.dieSensorConversion k e r) s fun t =>
      (e = true → t.dieOk k.val = false ∧ t.fld pTherm F.THERM_SENS_FAILED k.val = 1 ∧ t.cond pTherm 0) ∧
      (t.sfld pTherm F.THERM_STAT_H < s.shutT → t.pow = s.pow) ∧
      (s.pow.shutting = false → s.shutT ≤ t.sfld pTherm F.THERM_STAT_H → t.pow.shutting = true ∧ t.pow.shutAlert = true))) ∧
  (∀ (s : State) (mv : List (BitVec 16)) (out : BitVec 9), s.pow.up = true → s.pow.sleeping = false →
    Answers (.glimRound mv out) s fun t =>
      t.pair pHk F.HK_ROUND_LO_ROUND F.HK_ROUND_HI_ROUND = (s.pair pHk F.HK_ROUND_LO_ROUND F.HK_ROUND_HI_ROUND + 1) % 2 ^ 64 ∧
      t.house.rounds = (s.dieReadings :: s.house.rounds).take 125 ∧
      (∀ k, k < 9 → t.fld pTherm F.THERM_RAIL_MV k = (mv.getD k 0).toNat ∧
        t.fld pTherm F.THERM_RAIL_OUT k = (if out.getLsbD k then 1 else 0) ∧
        (out.getLsbD k = true → s.fld pTherm F.THERM_RAIL_OUT k = 0 → t.cond pTherm 4)) ∧
      (s.active = false → t.fld pHk F.HK_POLL_CNT_POLL_CNT = s.fld pHk F.HK_POLL_CNT_POLL_CNT) ∧
      (∀ k, s.active = true → s.pollable = [k] → (s.tele k).answered = true → s.canSys k 0 = true →
        t.fld pHk F.HK_POLL_CNT_POLL_CNT = countUp 32 (s.fld pHk F.HK_POLL_CNT_POLL_CNT) 1 ∧
        (t.tele k).polled = true ∧ (t.tele k).answered = false ∧ (t.tele k).pseq = ((s.tele k).pseq + 1) % 256)) ∧
  (∀ (s : State) (link : LinkNo) (sec : Bool) (k : TileNo) (pos : PosNo) (q : Byte) (ts : List (BitVec 16)) (w : BitVec 20)
      (fp : BitVec 16), s.feedActive link sec = true →
    Answers (.stateRecordRx link sec false k pos q ts w fp) s (fun t => t.house = s.house ∧
      t.fld (pWl link) F.WL_CRC_ERR_CNT_CRC_CNT = countUp 32 (s.fld (pWl link) F.WL_CRC_ERR_CNT_CRC_CNT) 1) ∧
    ((s.holdsNumber link pos k = false ∨ (s.tele k).polled = false ∨ (s.tele k).pseq ≠ q.toNat) →
      Answers (.stateRecordRx link sec true k pos q ts w fp) s fun t => t.house = s.house ∧
        t.fld pHk F.HK_LATE_CNT_LATE_CNT = countUp 32 (s.fld pHk F.HK_LATE_CNT_LATE_CNT) 1) ∧
    (s.holdsNumber link pos k = true → (s.tele k).polled = true → (s.tele k).pseq = q.toNat →
      Answers (.stateRecordRx link sec true k pos q ts w fp) s fun t => (t.tele k).answered = true ∧ (t.tele k).misses = 0 ∧
        (t.tele k).stopped = false ∧ (t.tele k).power = w.toNat ∧
        (∀ v : BitVec 16, ts = [v, v, v, v] → -640 ≤ v.toInt → v.toInt ≤ 2400 →
          t.sfld (pTile k) F.TL_TEMP_T = v.toInt ∧ t.fld (pTile k) F.TL_STAT_TEMP_VALID = 1 ∧ (t.tele k).failed = 0 ∧
          (16 * (s.fld pHk F.HK_CFG_TILE_LIMIT : Int) ≤ v.toInt →
            look 8 t.house.zoneViol (s.ff (pTile k) F.TL_CFG_ZONE) = 0)))) ∧
  (∀ s : State, s.pow.up = true →
    let lowest := s.fld pHk F.HK_CFG_THR_FLOOR
    let next (l age : Nat) (clear : Bool) : Nat :=
      if age = 0 then (if l < lowest then l else max lowest (l - 2))
      else if clear = true ∧ 8 ≤ age ∧ s.now / 500000000 % 8 = 0 then min 64 (l + 1) else l
    Answers .throttleStep s fun t =>
      (∀ z, look 64 t.house.zoneLevel z = next (look 64 s.house.zoneLevel z) (look 8 s.house.zoneViol z)
        (!s.house.holds.contains z &&
          (tilesOn s.force).all (fun k => s.ff (pTile k) F.TL_CFG_ZONE != z || !(s.tele k).stopped))) ∧
      t.fld pTherm F.THERM_STAT_DL = next (s.fld pTherm F.THERM_STAT_DL) s.house.dieViol (!s.house.dieHold)) ∧
  (∀ s : State,
    (∀ z : ZoneNo, s.holdOver z.val = true → Answers (.holdEnd (some z)) s fun t =>
      t.house = { s.house with holds := s.house.holds.filter (· ≠ z.val) } ∧ t.regs = s.regs) ∧
    (s.holdOver 256 = true → Answers (.holdEnd none) s fun t => t.house = { s.house with dieHold := false } ∧ t.regs = s.regs) ∧
    (∀ z : ZoneNo, s.holdOver z.val = false → exec (.holdEnd (some z)) s = .next s) ∧
    (s.holdOver 256 = false → exec (.holdEnd none) s = .next s))

/-- With lamp health on, a new FAULT record of the number's holder on an active feed moves a verified or unverified
lamp that opens to off, one that sticks or shorts to off at once, and a verified one that is suspect to unverified,
which waits for diagnosis; each of the first three faults counts, with HK condition 3, and blanks its zone when it has
SNUFFER. A record repeated, or not the holder's, changes no lamp; an entry outside the tile counts bad. A diagnostic
result of the tile's link for a lamp asked about and unverified verifies it, counts a failure with HK condition 4 and
moves it, or counts a retry and queues it again; a result timed out four cycles after its own queues its lamps again;
a result or a timeout of no message out changes no lamp. RESCAN empties the off list and scans; LH_SCAN_END ends the
scan with HK condition 11, its off lamps listed. UNBLANK of a zone waits for the next compose start. HK_LAMP_CMD reads
and writes a lamp's state, or shows ERR. -/
def Obligations.LampStatesMove : Prop :=
  (∀ (s : State) (link : LinkNo) (sec : Bool) (k : TileNo) (pos : PosNo) (q : Byte) (e : FaultEntry), s.feedActive link sec = true →
    let px := e.pixel.toNat
    let l := e.lamp.toNat
    let old := s.lampState k px l
    let at' := s.lhBase + s.recOf k px
    let moved (t : State) (new : Nat) : Prop := ¬ s.inEventRing false at' → t.lampState k px l = new
    ((s.holdsNumber link pos k = false ∨ (s.tele k).fseq = some q.toNat) →
      Answers (.faultRecordRx link sec true k pos q [e]) s fun t => t.house = s.house ∧
        ∀ a, ¬ s.inEventRing false a → t.mem.byte a = s.mem.byte a) ∧
    (s.holdsNumber link pos k = true → (s.tele k).fseq ≠ some q.toNat → s.lhOn = true →
      Answers (.faultRecordRx link sec true k pos q [e]) s fun t => (t.tele k).fseq = some q.toNat ∧
        (s.lampIn k px l = false → t.fld pHk F.HK_BAD_CNT_BAD_CNT = countUp 32 (s.fld pHk F.HK_BAD_CNT_BAD_CNT) 1) ∧
        (s.lampIn k px l = true →
          (e.kind = 1#3 → old ≤ 1 → moved t 2) ∧
          (e.kind = 2#3 ∨ e.kind = 3#3 → old ≤ 2 → moved t 3 ∧
            (s.house.offList.length < 32768 → (s.recOf k px, l) ∈ t.house.offList)) ∧
          (e.kind = 4#3 → old = 0 → moved t 1 ∧
            (s.house.queue.length < 4096 → (k.val, px, l) ∈ t.house.queue)) ∧
          ((e.kind = 1#3 ∧ old ≤ 1) ∨ ((e.kind = 2#3 ∨ e.kind = 3#3) ∧ old ≤ 2) →
            t.fld pHk F.HK_FAULT_CNT_FAULT_CNT = countUp 32 (s.fld pHk F.HK_FAULT_CNT_FAULT_CNT) 1 ∧ t.cond pHk 3 ∧
            (s.ff (pZn (s.ff (pTile k) F.TL_CFG_ZONE)) F.ZN_CFG_SNUFFER = 1 →
              s.ff (pTile k) F.TL_CFG_ZONE ∈ t.house.blankReq ∧ t.cond pHk 2))))) ∧
  (∀ (s : State) (k : TileNo) (d : Byte), s.diagOut k d.toNat = none →
    (∀ (link : LinkNo) (sec : Bool) es, s.feedActive link sec = true → Answers (.diagResultRx link sec true k d es) s fun t =>
      t.house = s.house ∧ ∀ a, ¬ s.inEventRing false a → t.mem.byte a = s.mem.byte a) ∧
    exec (.diagResultTimeout k d) s = .next s) ∧
  (∀ (s : State) (link : LinkNo) (sec : Bool) (k : TileNo) (d : Byte) (o : DiagOut) (e : DiagEntry),
    s.diagOut k d.toNat = some o →
    let px := e.pixel.toNat
    let l := e.lamp.toNat
    o.lamps = [(px, l)] →
    (s.feedActive link sec = true → s.tileLink k = some link.val →
      s.lampIn k px l = true → s.lhOn = true → s.lampState k px l = 1 →
      Answers (.diagResultRx link sec true k d [e]) s fun t => t.diagOut k d.toNat = none ∧
        (¬ s.inEventRing false (s.lhBase + s.recOf k px) →
          t.lampState k px l = (if e.result = 0#2 then 1 else if e.result = 1#2 then 0 else if e.result = 2#2 then 2 else 3)) ∧
        (e.result = 0#2 → t.fld pHk F.HK_DIAG_RETRY_CNT_RETRY_CNT = countUp 32 (s.fld pHk F.HK_DIAG_RETRY_CNT_RETRY_CNT) 1 ∧
          (s.house.queue.length < 4096 → (k.val, px, l) ∈ t.house.queue)) ∧
        (e.result = 1#2 → t.fld pHk F.HK_DIAG_PASS_CNT_PASS_CNT = countUp 32 (s.fld pHk F.HK_DIAG_PASS_CNT_PASS_CNT) 1) ∧
        (e.result = 2#2 ∨ e.result = 3#2 → t.cond pHk 4 ∧
          t.fld pHk F.HK_DIAG_FAIL_CNT_FAIL_CNT = countUp 32 (s.fld pHk F.HK_DIAG_FAIL_CNT_FAIL_CNT) 1)) ∧
    (o.cycle + 5 ≤ s.cyc.next → Answers (.diagResultTimeout k d) s fun t => t.diagOut k d.toNat = none ∧
      t.fld pHk F.HK_DIAG_RETRY_CNT_RETRY_CNT = countUp 32 (s.fld pHk F.HK_DIAG_RETRY_CNT_RETRY_CNT) 1 ∧
      (s.house.queue.length < 4096 → (k.val, px, l) ∈ t.house.queue)) ∧
    (s.cyc.next < o.cycle + 5 → exec (.diagResultTimeout k d) s = .next s)) ∧
  (∀ (s : State) (seat : SeatNo), s.May seat pHk →
    Answers (.rescan seat) s (fun t => t.house.offList = [] ∧ t.fld pHk F.HK_STAT_LH_SCAN = 1 ∧
      t.fld pHk F.HK_STAT_OFFLIST_FULL = 0 ∧ (s.lampsOff ≠ [] → t.corrTouched = true)) ∧
    (∀ z : ZoneNo, Answers (.unblank seat z) s fun t => z.val ∈ t.house.unblankReq) ∧
    (let k := s.fld pHk F.HK_LAMP_TILE_TILE
     let l := s.fld pHk F.HK_LAMP_TILE_LAMP
     ∀ px : BitVec 16,
      ((tilesOn s.force).contains k = true → s.lampIn k px.toNat l = true → s.ff pHk F.HK_CFG_LH_EN = 1 →
        Answers (.lampStateRead seat px) s (fun t => t.fld pHk F.HK_LAMP_RES_STATE = s.lampState k px.toNat l ∧
          t.fld pHk F.HK_LAMP_RES_ERR = 0 ∧ t.fld pHk F.HK_LAMP_RES_BUSY = 0 ∧ t.house = s.house) ∧
        (∀ st : BitVec 2, s.memOff = false → Answers (.lampStateWrite seat px st) s fun t =>
          t.fld pHk F.HK_LAMP_RES_STATE = st.toNat ∧ t.fld pHk F.HK_LAMP_RES_ERR = 0 ∧
          (¬ s.inEventRing false (s.lhBase + s.recOf k px.toNat) → t.lampState k px.toNat l = st.toNat))) ∧
      (s.lampIn k px.toNat l = false ∨ s.ff pHk F.HK_CFG_LH_EN = 0 ∨ (tilesOn s.force).contains k = false →
        Answers (.lampStateRead seat px) s (fun t => t.fld pHk F.HK_LAMP_RES_ERR = 1) ∧
        (∀ st : BitVec 2, Answers (.lampStateWrite seat px st) s fun t => t.fld pHk F.HK_LAMP_RES_ERR = 1 ∧
          t.house = s.house)))) ∧
  (∀ s : State, s.fld pHk F.HK_STAT_LH_SCAN = 1 → Answers .lhScanEnd s fun t =>
    t.fld pHk F.HK_STAT_LH_SCAN = 0 ∧ t.cond pHk 11 ∧ (s.memOff = true → t.fld pHk F.HK_UNVER_N_UNVER_N = 0) ∧
    (∀ l, l < 4 → s.memOff = false → s.ff pCor F.COR_REC_COUNT_COUNT = 1 → s.house.offList = [] →
      bitsOf (s.mem.byte s.lhBase).toNat (2 * l) 2 = 3 → (0, l) ∈ t.house.offList))

/-- EVTP_ENTER of a level above the running level sets it and makes it the running level; one at or below only counts
in ERR_CNT. EVTP_EXIT clears the highest set level, or counts in ERR_CNT when none is set. NOTIFY_RESEND sends the
outstanding notification of a seat but seat 0 again, to a host whose hardware address is known; nothing outstanding,
or RESEND_MS 0, sends nothing. SEAT_LOST of a present seat whose timer runs, in Active, or of seat 0 when its link
goes down, loses it: its levels clear, LOST_CNT counts, the EVT condition of its number is set; when none is left and
playout is enabled and idle, its extent loads. EVTP_ALIVE makes a lost seat present with that condition and withdraws
a playout commit that waits. -/
def Obligations.SeatLevelsLossAndReturn : Prop :=
  (∀ (s : State) (seat : SeatNo) (level : Fin 16), s.May seat (pEvtp seat) →
    let p := pEvtp seat
    (s.runLevel seat ≤ level.val → Answers (.evtpEnter seat level) s fun t =>
      bit (t.fld p F.EVTP_RUN_LEVELS) level.val = true ∧ t.fld p F.EVTP_RUN_RL = level.val ∧ t.fld p F.EVTP_RUN_IDLE = 0 ∧
      ∀ i, i ≠ level.val → bit (t.fld p F.EVTP_RUN_LEVELS) i = bit (s.fld p F.EVTP_RUN_LEVELS) i) ∧
    (level.val < s.runLevel seat → Answers (.evtpEnter seat level) s fun t =>
      t.fld p F.EVTP_RUN_LEVELS = s.fld p F.EVTP_RUN_LEVELS ∧
      t.fld p F.EVTP_STAT_ERR_CNT = countUp 16 (s.fld p F.EVTP_STAT_ERR_CNT) 1)) ∧
  (∀ (s : State) (seat : SeatNo), s.May seat (pEvtp seat) →
    let p := pEvtp seat
    (∀ k, s.runLevel seat = k + 1 → Answers (.evtpExit seat) s fun t => bit (t.fld p F.EVTP_RUN_LEVELS) k = false ∧
      (∀ i, i ≠ k → bit (t.fld p F.EVTP_RUN_LEVELS) i = bit (s.fld p F.EVTP_RUN_LEVELS) i) ∧ t.runLevel seat ≤ k ∧
      t.fld p F.EVTP_STAT_ERR_CNT = s.fld p F.EVTP_STAT_ERR_CNT) ∧
    (s.runLevel seat = 0 → Answers (.evtpExit seat) s fun t => t.runLevel seat = 0 ∧
      t.fld p F.EVTP_STAT_ERR_CNT = countUp 16 (s.fld p F.EVTP_STAT_ERR_CNT) 1) ∧
    (∀ v, s.evt.lost.contains seat.val = true → Answers (.evtpAlive seat v) s fun t => t.present seat = true ∧ t.cond pEvt seat ∧
      (s.play.pending = true → t.play = Playout.idle ∧ t.cyc.pend = s.cyc.pend.filter (fun cm => cm.origin != 2))) ∧
    (∀ v, s.evt.lost.contains seat.val = false → Answers (.evtpAlive seat v) s fun t =>
      t.evt.lost = s.evt.lost ∧ t.play = s.play)) ∧
  (∀ (s : State) (seat : SeatNo),
    ((seat = 0 ∨ s.fld (pEvtp seat) F.EVTP_NOTE_OUTSTANDING = 0 ∨ s.fld (pEvtp seat) F.EVTP_CFG_RESEND_MS = 0) →
      exec (.notifyResend seat) s = .next s) ∧
    (∀ h e, seat ≠ 0 → s.fld (pEvtp seat) F.EVTP_NOTE_OUTSTANDING = 1 → s.fld (pEvtp seat) F.EVTP_CFG_RESEND_MS ≠ 0 →
      let p := s.fld (pSeat seat) F.SEAT_CFG_ETH_PORT
      s.portUp p = true → isMulticast (s.hostAddr seat) = false → s.nextHop p (s.hostAddr seat) = some h →
      (s.port p).cache.find? (fun x => x.1 == BitVec.ofNat 128 h) = some e → Answers (.notifyResend seat) s fun t =>
        Out.frame p e.2.toNat (s.vlanTag p) (.event seat
          ⟨s.sourceIp p (s.hostAddr seat), s.hostAddr seat, 23127, s.fld (pSeat seat) F.SEAT_CFG_HOST_UDP⟩
          (s.eventWords seat (s.fld (pEvtp seat) F.EVTP_NOTE_LEVEL) false)) ∈ t.out)) ∧
  (∀ (s : State) (seat : SeatNo) (linkDown : Bool), s.present seat = true →
    (linkDown = false ∧ s.active = true ∧ s.fld pEvt F.EVT_ALIVE_ALIVE_MS seat ≠ 0) ∨ (linkDown = true ∧ seat = 0 ∧ s.ready = true) →
    Answers (.seatLost seat linkDown) s fun t => t.present seat = false ∧ t.fld (pEvtp seat) F.EVTP_RUN_LEVELS = 0 ∧
      t.fld (pEvtp seat) F.EVTP_LOST_CNT_LOST_CNT = countUp 32 (s.fld (pEvtp seat) F.EVTP_LOST_CNT_LOST_CNT) 1 ∧ t.cond pEvt seat ∧
      (linkDown = true → t.fld pPcie F.PCIE_STAT_EP_UP = 0) ∧
      (s.active = true → (∀ k, k < 16 → k ≠ seat.val → s.present k = false) → s.fld pEvt F.EVT_PLAYOUT_CFG_EN = 1 →
        s.play = Playout.idle → t.play.loading = true))

/-- A playout load that fails, or loads no loop, ends the start with REASON 9; a loop in place whose entries are none
makes its commit wait for a window. STOP ends a running playout. STANDBY_REQUEST and SLEEP_REQUEST are taken, with
PSTATE 1, or refused with REFUSE: 1 while views are enabled, 6 when PSTATE is not Active. ACTIVE_REQUEST in Standby
starts the return, otherwise REFUSE is 6. STANDBY_ENTER takes the drives' links down, puts GDDR6 in service into
self-refresh, counts and gives PSTATE 2; while the pin rate changes the entries wait. SLEEP_ENTER counts, keeps a save image of the registers, values in force,
rings and response banks, sets IMAGE_VALID and takes every main domain down. A WAKE_N low of 1 us or more, and the
alarm, when enabled, start the return from Standby, or from Sleep bring the domains up, with WAKE_CAUSE 1 or 2.
STANDBY_RETURN_DONE gives PSTATE 0, the time taken, GDDR6 as the check or the training left it, and holds the first
cycle back 40 us. -/
def Obligations.PlayoutAndPowerStates : Prop :=
  (∀ (s : State) (o : StoreOp), s.storeOp = some o → o.purpose = 2 → s.play.withdrawn = false →
    Answers (.playoutLoadDone false) s (fun t => t.play = Playout.idle ∧ t.fld pEvt F.EVT_PLAYOUT_STAT_REASON = 9) ∧
    (∀ d ds, s.storeWait = [] → o.moved = 0 → o.op = 1 → o.entry ≠ [] → s.directory.isSome = true → s.memOff = false →
      s.inGddr (entDest o.entry) (entLen o.entry) = true → s.readers = d :: ds →
      let bs := (s.drive d).bytes (entStart o.entry * 2 ^ 20) (entLen o.entry)
      crc32c bs = entCrc o.entry →
      ((s.poke (entDest o.entry) bs).loopOk (entDest o.entry) = false →
        Answers (.playoutLoadDone true) s fun t => t.play = Playout.idle ∧ t.fld pEvt F.EVT_PLAYOUT_STAT_REASON = 9) ∧
      ((s.poke (entDest o.entry) bs).loopOk (entDest o.entry) = true →
        bitsOf ((s.poke (entDest o.entry) bs).loopWord (entDest o.entry) 1) 32 32 = 0 →
        Answers (.playoutLoadDone true) s fun t => t.play.pending = true ∧ t.play.loading = false ∧ t.storeOp = none ∧
          ∃ cm, t.cyc.pend = s.cyc.pend ++ [cm] ∧ cm.origin = 2))) ∧
  (∀ (s : State) (seat : SeatNo), s.May seat pEvt → Answers (.playoutStop seat) s fun t =>
    t.play = (if s.play.running then Playout.idle else s.play)) ∧
  (∀ (s : State) (seat : SeatNo), s.May seat pEmber →
    (s.refuse 1 false = 0 → Answers (.standbyRequest seat) s fun t => t.powerReq = some false ∧ t.pstate = 1) ∧
    (∀ low, s.refuse 2 low = 0 → Answers (.sleepRequest seat low) s fun t => t.powerReq = some true ∧ t.pstate = 1) ∧
    (viewsOn s.force ≠ [] → Answers (.standbyRequest seat) s (fun t => t.fld pEmber F.EMBER_STAT_REFUSE = 1 ∧ t.powerReq = s.powerReq) ∧
      ∀ low, Answers (.sleepRequest seat low) s fun t => t.fld pEmber F.EMBER_STAT_REFUSE = 1 ∧ t.powerReq = s.powerReq) ∧
    (s.pstate ≠ 0 → Answers (.standbyRequest seat) s fun t => t.powerReq = s.powerReq ∧ t.pstate = s.pstate ∧
      t.fld pEmber F.EMBER_STAT_REFUSE ≠ 0) ∧
    (s.pstate = 2 → Answers (.activeRequest seat) s fun t => t.pstate = 3 ∧ t.fld pEmber F.EMBER_STAT_WAKE_CAUSE = 3) ∧
    (s.pstate ≠ 2 → Answers (.activeRequest seat) s fun t => t.pstate = s.pstate ∧ t.fld pEmber F.EMBER_STAT_REFUSE = 6)) ∧
  (∀ s : State, s.powerReq = some false → s.rateChanging = false → Answers .standbyEnter s fun t => t.powerReq = none ∧ t.pstate = 2 ∧
    (t.drive 0).linkUp = false ∧ (t.drive 1).linkUp = false ∧ (s.memOff = false → t.memState = 5) ∧
    t.fld pEmber F.EMBER_STBY_CNT_STBY_CNT = countUp 32 (s.fld pEmber F.EMBER_STBY_CNT_STBY_CNT) 1) ∧
  (∀ s : State, s.rateChanging = true → exec .standbyEnter s = .next s ∧ exec .sleepEnter s = .next s) ∧
  (∀ s : State, s.powerReq = some true → s.rateChanging = false → Answers .sleepEnter s fun t => t.fld pEmber F.EMBER_STAT_IMAGE_VALID = 1 ∧
    t.pow.up = false ∧ t.pow.sleeping = true ∧ t.ready = false ∧
    t.fld pEmber F.EMBER_SLEEP_CNT_SLEEP_CNT = countUp 32 (s.fld pEmber F.EMBER_SLEEP_CNT_SLEEP_CNT) 1 ∧
    ∃ i, t.image = some i ∧ i.force = s.force ∧ i.rings = s.rings ∧ i.resp = s.resp ∧
      ∀ a, a ≠ pEmber + 0x11C → look 0 i.regs a = look 0 s.regs a) ∧
  (∀ (s : State) (ns : Nat),
    (ns < 1000 → exec (.wakeNEvent ns) s = .next s) ∧
    (1000 ≤ ns → s.fld pEmber F.EMBER_WAKE_CFG_WAKE_N_EN = 1 →
      (s.pow.sleeping = false → s.pstate = 2 → Answers (.wakeNEvent ns) s fun t =>
        t.pstate = 3 ∧ t.fld pEmber F.EMBER_STAT_WAKE_CAUSE = 1) ∧
      (s.pow.sleeping = true → s.pow.up = false → Answers (.wakeNEvent ns) s fun t =>
        t.pow.up = true ∧ t.fld pEmber F.EMBER_STAT_WAKE_CAUSE = 1)) ∧
    (s.fld pEmber F.EMBER_WAKE_CFG_ALARM_EN = 1 →
      (s.pow.sleeping = false → s.pstate = 2 → Answers .alarmExpire s fun t =>
        t.pstate = 3 ∧ t.fld pEmber F.EMBER_STAT_WAKE_CAUSE = 2) ∧
      (s.pow.sleeping = true → s.pow.up = false → Answers .alarmExpire s fun t =>
        t.pow.up = true ∧ t.fld pEmber F.EMBER_STAT_WAKE_CAUSE = 2))) ∧
  (∀ (s : State) (us : Word) (memOk : Bool) (fail : BitVec 32) (trims : List ChanTrim), s.pstate = 3 →
    Answers (.standbyReturnDone us memOk fail trims) s fun t => t.pstate = 0 ∧ t.fld pEmber F.EMBER_WAKE_TIME_US = us.toNat ∧
      t.cyc.resume = s.now + 40000 ∧
      (s.memOff = false → (memOk = true ∨ fail = 0 → t.memState = 2 ∧ t.memOff = false) ∧
        (memOk = false → fail ≠ 0 → t.memState = 3 ∧ t.memOff = true)))

/-- With no operation running and no shutdown begun, STAGE of a good range starts an operation that writes its bytes
into the staging area; FULL writes the spare slot of a confirmed slot, or, unconfigured, slot 0 or 1 as named; APPLY
writes what the staged patch builds into the spare slot; CONFIRM and REJECT program a flag of the unconfirmed booted
slot. The first step leaves, FLASH_OP shows the operation and the contents are as they were. A running operation
refuses each with FLASH_ERR 1, an unconfirmed slot 2, an unsound patch 3, a wrong base 4, a bad range 5, no booted
slot 6, no unconfirmed slot to mark 9. A step that is done erases its range to 0xFF, or clears bits of its bytes, and
nothing else; the next leaves, or the operation ends with the CRC of its content and UPD condition 0. A step that
times out fails the operation with 7 and condition 1. -/
def Obligations.FlashCommandsAndSteps : Prop :=
  (∀ (s : State) (seat : SeatNo), s.May seat pUpd →
    let err (c : Instr) (n : Nat) : Prop := Answers c s fun t => t.fld pUpd F.UPD_STAT_FLASH_ERR = n ∧ t.flashOp = s.flashOp
    let starts (c : Instr) (op k len : Nat) (steps : List FlashStep) : Prop := Answers c s fun t =>
      t.flashOp = some ⟨op, steps, regionAt k, len⟩ ∧ t.fld pUpd F.UPD_STAT_FLASH_OP = op ∧ t.fld pUpd F.UPD_PROGRESS_BYTES = 0 ∧
      t.flashMem = s.flashMem ∧ ∃ f, steps.head? = some f ∧ Out.flash f ∈ t.out
    let bs := s.mem.bytes s.updSrc s.updLen
    (s.flashOp ≠ none → err (.stage seat) 1 ∧ err (.apply seat) 1 ∧ (∀ k, err (.full seat k) 1) ∧ err (.confirm seat) 1 ∧
      err (.reject seat) 1) ∧
    (s.flashOp = none → s.updBad = true → err (.stage seat) 5) ∧
    (s.flashOp = none → s.booted < 2 →
      (s.confirmed = true → err (.confirm seat) 9 ∧ err (.reject seat) 9 ∧
        (s.patchSound = false → err (.apply seat) 3) ∧
        (s.patchSound = true → s.patchBase s.booted = false → err (.apply seat) 4) ∧
        (s.updBad = true → ∀ k, err (.full seat k) 5)) ∧
      (s.confirmed = false → err (.apply seat) 2 ∧ ∀ k, err (.full seat k) 2)) ∧
    (s.flashOp = none → 2 ≤ s.booted → err (.apply seat) 6 ∧ err (.confirm seat) 9 ∧ err (.reject seat) 9) ∧
    (s.flashOp = none → s.pow.shutting = false →
      (s.updBad = false → starts (.stage seat) 1 2 s.updLen (writeSteps 2 bs) ∧
        (s.booted < 2 → s.confirmed = true → ∀ k, starts (.full seat k) 3 (1 - s.booted) s.updLen (writeSteps (1 - s.booted) bs)) ∧
        (2 ≤ s.booted → ∀ k : Fin 4, k.val < 2 → starts (.full seat k) 3 k.val s.updLen (writeSteps k.val bs))) ∧
      (∀ x, s.booted < 2 → s.confirmed = true → s.patchSound = true → s.patchBase s.booted = true →
        s.patchResult s.booted = some x → starts (.apply seat) 2 (1 - s.booted) x.length (writeSteps (1 - s.booted) x)) ∧
      (s.booted < 2 → s.confirmed = false → starts (.confirm seat) 4 s.booted 0 [.program (flagsAt s.booted + 4) [0]] ∧
        starts (.reject seat) 5 s.booted 0 [.program (flagsAt s.booted + 5) [0]]))) ∧
  (∀ (s : State) (o : FlashOp) (f : FlashStep) (rest : List FlashStep), s.flashOp = some o → o.steps = f :: rest →
    Answers .flashStepDone s (fun t =>
      (∀ a n, f = .erase a n → ∀ b, t.flashByte b = (if a ≤ b ∧ b < a + n then 0xFF else s.flashByte b)) ∧
      (∀ a x, f = .program a [x] → ∀ b, t.flashByte b = (if b = a then s.flashByte a &&& x else s.flashByte b)) ∧
      (∀ g l, rest = g :: l → s.pow.shutting = false → t.flashOp = some { o with steps := rest } ∧ Out.flash g ∈ t.out) ∧
      (rest = [] → t.flashOp = none ∧ t.fld pUpd F.UPD_STAT_FLASH_OP = 0 ∧ t.cond pUpd 0 ∧
        (o.len ≠ 0 → t.fld pUpd F.UPD_RESULT_CRC_CRC = crc32c (t.flashBytes o.at0 o.len) % 2 ^ 32))) ∧
    Answers .flashStepTimeout s (fun t => t.flashOp = none ∧ t.fld pUpd F.UPD_STAT_FLASH_OP = 0 ∧
      t.fld pUpd F.UPD_STAT_FLASH_ERR = 7 ∧ t.cond pUpd 1))

/-- With no operation running, READ, WRITE, DELETE, FORMAT and RESYNC start when nothing refuses them: BUSY is 1 and
NVME_PROGRESS 0; otherwise ERR gives the reason, and with one running ERR is 1 and it goes on. At its end, with no
change of pin rate and for the others no shutdown in progress, a READ has its extent's bytes in its buffer, with NVME
condition 0 when their CRC-32C is the entry's, else ERR 6 and condition 1; a WRITE has its buffer's bytes on every
drive that writes go to; a WRITE, DELETE, FORMAT and RESYNC end with condition 0. An operation that no drive is left
for ends with ERR 7 and condition 1. Then nothing runs, when nothing waits. -/
def Obligations.StoreCommandsRunOrAreRefused : Prop :=
  (∀ (s : State) (seat : SeatNo), s.May seat pNvme →
    let judged (c : Instr) (op e buf : Nat) (en : List Byte) : Prop :=
      (s.storeOp ≠ none → Answers c s fun t => t.fld pNvme F.NVME_STAT_ERR = 1 ∧ t.storeOp = s.storeOp) ∧
      (s.storeOp = none → s.nvmeReason seat op e buf ≠ 0 → Answers c s fun t =>
        t.fld pNvme F.NVME_STAT_ERR = s.nvmeReason seat op e buf ∧ t.storeOp = none) ∧
      (s.storeOp = none → s.nvmeReason seat op e buf = 0 → Answers c s fun t =>
        t.storeOp = some ⟨op, e, buf, 0, en, 0, false⟩ ∧ t.fld pNvme F.NVME_STAT_BUSY = 1 ∧
        t.pair pNvme F.NVME_PROGRESS_LO_BYTES F.NVME_PROGRESS_HI_BYTES = 0)
    (∀ (e : Byte) (d : Bool), judged (.read seat e d) 1 e.toNat
      (if d then entDest ((s.extent e.toNat).getD []) else s.nvmeBuf) ((s.extent e.toNat).getD [])) ∧
    (∀ e : Byte, judged (.write seat e) 2 e.toNat s.nvmeBuf s.template) ∧
    (∀ e : Byte, judged (.delete seat e) 3 e.toNat s.nvmeBuf ((s.extent e.toNat).getD [])) ∧
    judged (.format seat) 4 0 s.nvmeBuf ((s.extent 0).getD []) ∧
    judged (.resync seat) 5 0 s.nvmeBuf ((s.extent 0).getD [])) ∧
  (∀ (s : State) (o : StoreOp), s.storeOp = some o → o.purpose = 0 → s.storeWait = [] → s.rateChanging = false →
    (o.failed = true → s.pow.shutting = false → Answers .storeOpDone s fun t => t.storeOp = none ∧
      t.fld pNvme F.NVME_STAT_BUSY = 0 ∧ t.fld pNvme F.NVME_STAT_ERR = 7 ∧ t.cond pNvme 1) ∧
    (∀ d ds, o.failed = false → o.op = 1 → o.moved = 0 → s.readers = d :: ds →
      let bs := (s.drive d).bytes (entStart o.entry * 2 ^ 20) (entLen o.entry)
      Answers .storeOpDone s fun t => t.storeOp = none ∧ t.fld pNvme F.NVME_STAT_BUSY = 0 ∧
        (∀ i, i < entLen o.entry → ¬ s.inEventRing false (o.buf + i) → some (t.mem.byte (o.buf + i)) = bs[i]?) ∧
        (crc32c bs = entCrc o.entry → t.cond pNvme 0 ∧ t.fld pNvme F.NVME_STAT_ERR = s.fld pNvme F.NVME_STAT_ERR) ∧
        (crc32c bs ≠ entCrc o.entry → t.cond pNvme 1 ∧ t.fld pNvme F.NVME_STAT_ERR = 6)) ∧
    (o.failed = false → s.pow.shutting = false → (o.op = 2 ∨ o.op = 3 ∨ o.op = 4 ∨ o.op = 5) → Answers .storeOpDone s fun t =>
      t.storeOp = none ∧ t.fld pNvme F.NVME_STAT_BUSY = 0 ∧ t.cond pNvme 0) ∧
    (o.failed = false → s.pow.shutting = false → o.op = 2 → o.moved = 0 → o.entry.length = 64 → 2 ≤ entStart o.entry →
      Answers .storeOpDone s fun t => ∀ d ∈ s.writers,
        (t.drive d).bytes (entStart o.entry * 2 ^ 20) (entLen o.entry) = s.mem.bytes o.buf (entLen o.entry)))

/-- DRIVE_LINK_UP of a port that was down, while the main domains run outside Standby, shows the link, makes the drive
initialising, asks it Identify and sets PCIE condition 1; DRIVE_LINK_DOWN makes it absent. A completion of Identify
moves the initialisation on; a drive that is not usable, or whose block size is not 512 or 4,096, fails; its capacity
is in MiB; the last directory read makes a drive READY when no other is. A completion of a READ's transfer moves at
most 128 KiB; during a change of pin rate a completion is held. The first failure or timeout of a command counts and
resets the controller; the second fails the drive; a reset that does not end counts and fails it. -/
def Obligations.DrivesComeAnswerAndGo : Prop :=
  (∀ (s : State) (d : Fin 2) (speed : Fin 6) (width : Fin 5), s.pow.up = true → s.pow.sleeping = false → s.pstate ≠ 2 →
    (s.drive d).linkUp = false → Answers (.driveLinkUp d speed width) s fun t => (t.drive d).linkUp = true ∧ (t.drive d).phase = 0 ∧
      t.driveState d = 1 ∧ Out.nvme d 0 ∈ t.out ∧ t.cond pPcie 1 ∧
      t.fld pPcie (if d = 0 then F.PCIE_STAT_RP0_UP else F.PCIE_STAT_RP1_UP) = 1) ∧
  (∀ (s : State) (d : Fin 2), (s.drive d).linkUp = true →
    Answers (.driveLinkDown d) s (fun t => (t.drive d).linkUp = false ∧ t.driveState d = 0 ∧ t.cond pPcie 1 ∧
      (t.drive d).cells = (s.drive d).cells ∧
      t.fld pPcie (if d = 0 then F.PCIE_STAT_RP0_UP else F.PCIE_STAT_RP1_UP) = 0) ∧
    (s.driveState d ≠ 4 → (s.drive d).phase < 7 →
      (∀ r : NvmeReply, s.rateChanging = false → r.ok = true →
        ((s.drive d).phase = 0 → r.usable = true → Answers (.nvmeCompletion d r) s fun t =>
          (t.drive d).phase = 1 ∧ Out.nvme d 1 ∈ t.out) ∧
        ((s.drive d).phase = 1 → r.usable = true → r.lbaBytes = 512 ∨ r.lbaBytes = 4096 → Answers (.nvmeCompletion d r) s fun t =>
          (t.drive d).phase = 2 ∧ (t.drive d).units = r.blocks * r.lbaBytes / 2 ^ 20 ∧ Out.nvme d 2 ∈ t.out) ∧
        ((s.drive d).phase ≤ 1 → r.usable = false → Answers (.nvmeCompletion d r) s fun t => t.driveState d = 4) ∧
        ((s.drive d).phase = 6 → s.driveState (1 - d.val) ≠ 2 → Answers (.nvmeCompletion d r) s fun t =>
          (t.drive d).phase = 7 ∧ t.driveState d = 2)) ∧
      ((s.drive d).resetOnce = false →
        (∀ r : NvmeReply, s.rateChanging = false → r.ok = false → Answers (.nvmeCompletion d r) s fun t => (t.drive d).resetOnce = true ∧ Out.nvme d 8 ∈ t.out ∧
          t.fld pNvme (errFld d) = countUp 32 (s.fld pNvme (errFld d)) 1) ∧
        Answers (.nvmeCmdTimeout d) s fun t => (t.drive d).resetOnce = true ∧ Out.nvme d 8 ∈ t.out ∧
          t.fld pNvme (errFld d) = countUp 32 (s.fld pNvme (errFld d)) 1) ∧
      ((s.drive d).resetOnce = true →
        Answers (.nvmeCmdTimeout d) s (fun t => t.driveState d = 4 ∧
          t.fld pNvme (errFld d) = countUp 32 (s.fld pNvme (errFld d)) 1) ∧
        Answers (.nvmeResetTimeout d) s (fun t => t.driveState d = 4 ∧
          t.fld pNvme (errFld d) = countUp 32 (s.fld pNvme (errFld d)) 1)))) ∧
  (∀ (s : State) (d : Fin 2) (ds : List Nat) (o : StoreOp) (r : NvmeReply), (s.drive d).linkUp = true → (s.drive d).phase = 7 →
    s.storeOp = some o → o.op = 1 → o.moved < o.total → s.readers = d.val :: ds → r.ok = true → s.rateChanging = false →
    Answers (.nvmeCompletion d r) s fun t =>
      t.storeOp = some { o with moved := o.moved + min 0x20000 (o.total - o.moved) } ∧
      t.pair pNvme F.NVME_PROGRESS_LO_BYTES F.NVME_PROGRESS_HI_BYTES = (o.moved + min 0x20000 (o.total - o.moved)) % 2 ^ 64) ∧
  (∀ (s : State) (d : Fin 2) (r : NvmeReply), s.rateChanging = true → exec (.nvmeCompletion d r) s = .next s)
end

