-- ==== Sys2Proof/Laws/Maps.lean ====
section
/-!
SUPPORT. The laws of sparse maps: read after write, and the canonical form.
-/
namespace Sys2Proof.Machine

/-- Reading where no key is listed answers the default. -/
theorem look_unlist_same {α : Type} (d : α) (k : Nat) (m : Sparse α) : look d (unlist k m) k = d := by
  induction m with
  | nil => rfl
  | cons e t ih =>
    obtain ⟨k', v'⟩ := e
    by_cases h : k' = k
    · simpa [unlist, h] using ih
    · simpa [unlist, h, look] using ih

/-- Removing a key leaves every other key as it was. -/
theorem look_unlist_ne {α : Type} (d : α) {k j : Nat} (m : Sparse α) (h : j ≠ k) :
    look d (unlist k m) j = look d m j := by
  induction m with
  | nil => rfl
  | cons e t ih =>
    obtain ⟨k', v'⟩ := e
    by_cases hk : k' = k
    · have hj : ¬ k = j := fun e => h e.symm
      simpa [unlist, hk, look, hj] using ih
    · by_cases hj : k' = j
      · simp [unlist, look, hj, h]
      · simpa [unlist, hk, hj, look] using ih

/-- A placed key holds its value where no entry had the key. -/
theorem look_place_same {α : Type} (d : α) (k : Nat) (v : α) (m : Sparse α) (h : ∀ e ∈ m, e.1 ≠ k) :
    look d (place k v m) k = v := by
  induction m with
  | nil => simp [place, look]
  | cons e t ih =>
    obtain ⟨k', v'⟩ := e
    have hk : k' ≠ k := h (k', v') (by simp)
    by_cases hl : k < k'
    · simp [place, hl, look]
    · simpa [place, hl, look, hk] using ih (fun e he => h e (by simp [he]))

/-- Placing a key leaves every other key as it was. -/
theorem look_place_ne {α : Type} (d : α) {k j : Nat} (v : α) (m : Sparse α) (h : j ≠ k) :
    look d (place k v m) j = look d m j := by
  induction m with
  | nil => simp [place, look, Ne.symm h]
  | cons e t ih =>
    obtain ⟨k', v'⟩ := e
    by_cases hl : k < k'
    · simp [place, hl, look, Ne.symm h]
    · rw [place, if_neg hl, look, look]
      split
      · rfl
      · exact ih

/-- Read after write, same key. -/
@[simp] theorem look_ins_same {α : Type} [DecidableEq α] (d : α) (k : Nat) (v : α) (m : Sparse α) :
    look d (ins d k v m) k = v := by
  by_cases h : v = d
  · subst h; simp [ins, look_unlist_same]
  · rw [ins, if_neg h]
    exact look_place_same d k v _ (fun e he => by simpa [unlist] using (List.mem_filter.mp he).2)

/-- Read after write, another key; the two defaults may differ. -/
theorem look_ins_ne {α : Type} [DecidableEq α] (d d' : α) {k j : Nat} (v : α) (m : Sparse α) (h : j ≠ k) :
    look d (ins d' k v m) j = look d m j := by
  by_cases hv : v = d'
  · simp [ins, hv, look_unlist_ne d m h]
  · rw [ins, if_neg hv, look_place_ne d v _ h, look_unlist_ne d m h]

/-- Read after write. -/
theorem look_ins {α : Type} [DecidableEq α] (d : α) (k j : Nat) (v : α) (m : Sparse α) :
    look d (ins d k v m) j = if j = k then v else look d m j := by
  split
  · next h => subst h; simp
  · next h => exact look_ins_ne d d v m h

/-- Raising the bound below the keys. -/
theorem rising_mono {α : Type} (m : Sparse α) {lo lo' : Option Nat}
    (h : ∀ l ∈ lo', ∃ l' ∈ lo, l ≤ l') (hm : rising lo m = true) : rising lo' m = true := by
  cases m with
  | nil => rfl
  | cons e t =>
    obtain ⟨k, v⟩ := e
    simp only [rising, Bool.and_eq_true] at hm ⊢
    refine ⟨?_, hm.2⟩
    cases lo' with
    | none => rfl
    | some l =>
      obtain ⟨l', hl', hle⟩ := h l rfl
      cases hl'
      have hlt := of_decide_eq_true hm.1
      exact decide_eq_true (Nat.lt_of_le_of_lt hle hlt)

/-- A sublist keeps rising keys. -/
theorem rising_filter {α : Type} (p : Nat × α → Bool) (m : Sparse α) (lo : Option Nat) (h : rising lo m = true) :
    rising lo (m.filter p) = true := by
  induction m generalizing lo with
  | nil => exact h
  | cons e t ih =>
    obtain ⟨k, v⟩ := e
    simp only [rising, Bool.and_eq_true] at h
    by_cases hp : p (k, v) = true
    · rw [List.filter_cons_of_pos hp]
      simp only [rising, Bool.and_eq_true]
      exact ⟨h.1, ih _ h.2⟩
    · rw [List.filter_cons_of_neg hp]
      refine ih lo (rising_mono t ?_ h.2)
      intro l hl
      cases lo with
      | none => cases hl
      | some l0 =>
        cases hl
        exact ⟨k, rfl, Nat.le_of_lt (of_decide_eq_true h.1)⟩

/-- Placing an unlisted key keeps rising keys. -/
theorem rising_place {α : Type} (k : Nat) (v : α) (m : Sparse α) (lo : Option Nat) (h : rising lo m = true)
    (hk : ∀ e ∈ m, e.1 ≠ k) (hl : ∀ l ∈ lo, l < k) : rising lo (place k v m) = true := by
  induction m generalizing lo with
  | nil =>
    cases lo with
    | none => rfl
    | some l => simpa [place, rising] using hl l rfl
  | cons e t ih =>
    obtain ⟨k', v'⟩ := e
    have h0 := h
    simp only [rising, Bool.and_eq_true] at h
    have hne : k' ≠ k := hk (k', v') (by simp)
    by_cases hlt : k < k'
    · rw [place, if_pos hlt]
      simp only [rising, Bool.and_eq_true]
      refine ⟨?_, decide_eq_true hlt, h.2⟩
      cases lo with
      | none => rfl
      | some l => exact decide_eq_true (hl l rfl)
    · simp only [place, hlt, if_false, rising, Bool.and_eq_true]
      refine ⟨h.1, ih _ h.2 (fun e he => hk e (by simp [he])) ?_⟩
      intro l hl'
      cases hl'
      omega

/-- A write keeps rising keys. -/
theorem rising_ins {α : Type} [DecidableEq α] (d : α) (k : Nat) (v : α) (m : Sparse α) (h : rising none m = true) :
    rising none (ins d k v m) = true := by
  by_cases hv : v = d
  · simpa [ins, hv, unlist] using rising_filter _ m none h
  · rw [ins, if_neg hv]
    refine rising_place k v _ none (rising_filter _ m none h) (fun e he => ?_) (fun l hl => by cases hl)
    simpa [unlist] using (List.mem_filter.mp he).2

/-- What a write lists was listed before, or is the entry written. -/
theorem mem_ins {α : Type} [DecidableEq α] {d : α} {k : Nat} {v : α} {m : Sparse α} {e : Nat × α}
    (h : e ∈ ins d k v m) : (e = (k, v) ∧ v ≠ d) ∨ e ∈ m := by
  by_cases hv : v = d
  · rw [ins, if_pos hv] at h
    exact .inr (List.mem_filter.mp h).1
  · rw [ins, if_neg hv] at h
    suffices hp : ∀ l : Sparse α, e ∈ place k v l → e = (k, v) ∨ e ∈ l by
      rcases hp _ h with h | h
      · exact .inl ⟨h, hv⟩
      · exact .inr (List.mem_filter.mp h).1
    intro l
    induction l with
    | nil => simp [place]
    | cons x t ih =>
      obtain ⟨k', v'⟩ := x
      intro h
      by_cases hlt : k < k'
      · simp only [place, hlt, if_true, List.mem_cons] at h
        rcases h with h | h | h <;> simp [h]
      · simp only [place, hlt, if_false, List.mem_cons] at h
        rcases h with h | h
        · simp [h]
        · rcases ih h with h | h <;> simp [h]

end Sys2Proof.Machine
end

