-- ==== Sys2Proof/Laws/Memory.lean ====
section
/-!
SUPPORT. The laws of GDDR6 contents: read after write, and the canonical form under every memory operation.
-/
namespace Sys2Proof.Machine

/-- A write leaves the open regions as they are. -/
@[simp] theorem default_put (m : Mem) (a b : Nat) (v : Byte) : (m.put a v).default b = m.default b := rfl

/-- Read after write, same address. -/
@[simp] theorem byte_put_same (m : Mem) (a : Nat) (v : Byte) : (m.put a v).byte a = v := by
  simp [Mem.byte, Mem.put, Mem.default]

/-- Read after write, another address. -/
theorem byte_put_ne (m : Mem) {a b : Nat} (v : Byte) (h : b ≠ a) : (m.put a v).byte b = m.byte b := by
  simp only [Mem.byte, Mem.put]
  exact look_ins_ne _ _ _ _ h

/-- Bytes below a written range. -/
theorem byte_putAll_below (l : List Byte) (m : Mem) (a b : Nat) (h : b < a) : (m.putAll a l).byte b = m.byte b := by
  induction l generalizing m a with
  | nil => rfl
  | cons x t ih =>
    rw [Mem.putAll, ih _ _ (by omega), byte_put_ne _ _ (by omega)]

/-- Bytes above a written range. -/
theorem byte_putAll_above (l : List Byte) (m : Mem) (a b : Nat) (h : a + l.length ≤ b) :
    (m.putAll a l).byte b = m.byte b := by
  induction l generalizing m a with
  | nil => rfl
  | cons x t ih =>
    have h' : a + t.length + 1 ≤ b := by simpa [Nat.add_assoc] using h
    rw [Mem.putAll, ih _ _ (by omega), byte_put_ne _ _ (by omega)]

/-- A byte of a written range. -/
theorem byte_putAll_at (l : List Byte) (m : Mem) (a i : Nat) (h : i < l.length) :
    (m.putAll a l).byte (a + i) = l[i] := by
  induction l generalizing m a i with
  | nil => simp at h
  | cons x t ih =>
    cases i with
    | zero => rw [Mem.putAll, byte_putAll_below t _ _ _ (by omega)]; simp
    | succ i =>
      have := ih (m.put a x) (a + 1) i (by simpa using h)
      rw [Mem.putAll]
      simpa [Nat.add_assoc, Nat.add_comm 1 i] using this

/-- What was written reads back. -/
theorem bytes_putAll (m : Mem) (a : Nat) (l : List Byte) : (m.putAll a l).bytes a l.length = l := by
  apply List.ext_getElem
  · simp [Mem.bytes]
  · intro i h1 h2
    simp [Mem.bytes, byte_putAll_at l m a i h2]

/-- A range that no written byte touches. -/
theorem bytes_putAll_apart (m : Mem) (a b n : Nat) (l : List Byte) (h : b + n ≤ a ∨ a + l.length ≤ b) :
    (m.putAll a l).bytes b n = m.bytes b n := by
  simp only [Mem.bytes]
  apply List.map_congr_left
  intro i hi
  have hi' : i < n := by simpa using hi
  rcases h with h | h
  · exact byte_putAll_below _ _ _ _ (by omega)
  · exact byte_putAll_above _ _ _ _ (by omega)

/-- Writes leave the open regions as they are. -/
theorem lost_putAll (m : Mem) (a : Nat) (l : List Byte) : (m.putAll a l).lost = m.lost := by
  induction l generalizing m a with
  | nil => rfl
  | cons x t ih => rw [Mem.putAll, ih]; rfl

/-- The canonical form in two parts. -/
theorem wf_iff (m : Mem) : m.wf = true ↔ rising none m.cells = true ∧ ∀ c ∈ m.cells, c.2 ≠ m.default c.1 := by
  simp [Mem.wf]

/-- One byte written keeps the canonical form. -/
theorem wf_put (m : Mem) (a : Nat) (v : Byte) (h : m.wf = true) : (m.put a v).wf = true := by
  rw [wf_iff] at h ⊢
  refine ⟨rising_ins _ _ _ _ h.1, fun c hc => ?_⟩
  rcases mem_ins hc with ⟨rfl, hv⟩ | hc
  · exact hv
  · exact h.2 c hc

/-- Bytes written keep the canonical form. -/
theorem wf_putAll (l : List Byte) (m : Mem) (a : Nat) (h : m.wf = true) : (m.putAll a l).wf = true := by
  induction l generalizing m a with
  | nil => exact h
  | cons x t ih => exact ih _ _ (wf_put m a x h)

/-- Opening a region keeps the canonical form. -/
theorem wf_lose (m : Mem) (lo hi k : Nat) (h : m.wf = true) : (m.lose lo hi k).wf = true := by
  rw [wf_iff] at h ⊢
  refine ⟨rising_filter _ _ _ h.1, fun c hc => ?_⟩
  obtain ⟨hc, hp⟩ := List.mem_filter.mp hc
  have hd : (m.lose lo hi k).default c.1 = m.default c.1 := by
    have hp' : ¬ (lo ≤ c.1 ∧ c.1 < hi) := by simp at hp; omega
    simp [Mem.default, Mem.lose, hp']
  rw [hd]
  exact h.2 c hc

end Sys2Proof.Machine
end

