-- ==== Sys2Proof/Laws/Registers.lean ====
section
/-!
SUPPORT. The laws of register words and bit fields: what a field reads after a field has been set.
-/
namespace Sys2Proof.Machine

/-- A number by its low part, a field and its high part. -/
theorem split_field (n lo w : Nat) :
    n = n / 2 ^ (lo + w) * 2 ^ (lo + w) + bitsOf n lo w * 2 ^ lo + n % 2 ^ lo := by
  have h1 := Nat.div_add_mod n (2 ^ lo)
  have h2 := Nat.div_add_mod (n / 2 ^ lo) (2 ^ w)
  rw [Nat.div_div_eq_div_mul, ← Nat.pow_add] at h2
  rw [bitsOf, Nat.shiftRight_eq_div_pow]
  calc n = 2 ^ lo * (n / 2 ^ lo) + n % 2 ^ lo := h1.symm
    _ = 2 ^ lo * (2 ^ w * (n / 2 ^ (lo + w)) + n / 2 ^ lo % 2 ^ w) + n % 2 ^ lo := by rw [h2]
    _ = _ := by rw [Nat.mul_add, ← Nat.mul_assoc, ← Nat.pow_add]; simp only [Nat.mul_comm]

/-- A field is below its width. -/
theorem bitsOf_lt (n lo w : Nat) : bitsOf n lo w < 2 ^ w := Nat.mod_lt _ (Nat.two_pow_pos w)

/-- A field of 6 bits (a position on a link) is below 64. -/
theorem bitsOf_lt64 (n lo : Nat) : bitsOf n lo 6 < 64 := Nat.mod_lt _ (by decide)

/-- What replacing a field makes of the parts. -/
theorem setBits_eq (n lo w v : Nat) :
    setBits n lo w v = n / 2 ^ (lo + w) * 2 ^ (lo + w) + (v % 2 ^ w) * 2 ^ lo + n % 2 ^ lo := by
  have h := split_field n lo w
  rw [setBits]
  generalize n / 2 ^ (lo + w) * 2 ^ (lo + w) = q at *
  generalize bitsOf n lo w * 2 ^ lo = m at *
  generalize v % 2 ^ w * 2 ^ lo = x at *
  omega

/-- The parts of a number given by its parts: the low one. -/
theorem low_of_parts (q m r lo w : Nat) (hr : r < 2 ^ lo) :
    (q * 2 ^ (lo + w) + m * 2 ^ lo + r) % 2 ^ lo = r := by
  rw [Nat.pow_add, Nat.mul_comm (2 ^ lo) (2 ^ w), ← Nat.mul_assoc, ← Nat.add_mul, Nat.add_comm, Nat.add_mul_mod_self_right]
  exact Nat.mod_eq_of_lt hr

/-- The field. -/
theorem mid_of_parts (q m r lo w : Nat) (hm : m < 2 ^ w) (hr : r < 2 ^ lo) :
    bitsOf (q * 2 ^ (lo + w) + m * 2 ^ lo + r) lo w = m := by
  rw [bitsOf, Nat.shiftRight_eq_div_pow, Nat.pow_add, Nat.mul_comm (2 ^ lo) (2 ^ w), ← Nat.mul_assoc, ← Nat.add_mul,
    Nat.add_comm, Nat.add_mul_div_right _ _ (Nat.two_pow_pos lo), Nat.div_eq_of_lt hr, Nat.zero_add, Nat.add_comm,
    Nat.add_mul_mod_self_right]
  exact Nat.mod_eq_of_lt hm

/-- The high one. -/
theorem high_of_parts (q m r lo w : Nat) (hm : m < 2 ^ w) (hr : r < 2 ^ lo) :
    (q * 2 ^ (lo + w) + m * 2 ^ lo + r) / 2 ^ (lo + w) = q := by
  have hs : m * 2 ^ lo + r < 2 ^ (lo + w) := by
    calc m * 2 ^ lo + r < m * 2 ^ lo + 2 ^ lo := by omega
      _ = (m + 1) * 2 ^ lo := by rw [Nat.add_mul, Nat.one_mul]
      _ ≤ 2 ^ w * 2 ^ lo := Nat.mul_le_mul_right _ hm
      _ = 2 ^ (lo + w) := by rw [← Nat.pow_add, Nat.add_comm]
  rw [Nat.add_assoc, Nat.add_comm, Nat.add_mul_div_right _ _ (Nat.two_pow_pos _), Nat.div_eq_of_lt hs, Nat.zero_add]

/-- A field set reads what was set, cut to its width. -/
theorem bitsOf_setBits_same (n lo w v : Nat) : bitsOf (setBits n lo w v) lo w = v % 2 ^ w := by
  rw [setBits_eq]
  exact mid_of_parts _ _ _ _ _ (Nat.mod_lt _ (Nat.two_pow_pos w)) (Nat.mod_lt _ (Nat.two_pow_pos lo))

/-- A field below the one set is as it was. -/
theorem bitsOf_setBits_below (n lo w v lo' w' : Nat) (h : lo' + w' ≤ lo) :
    bitsOf (setBits n lo w v) lo' w' = bitsOf n lo' w' := by
  have hl := low_of_parts (n / 2 ^ (lo + w)) (v % 2 ^ w) (n % 2 ^ lo) lo w (Nat.mod_lt _ (Nat.two_pow_pos lo))
  rw [← setBits_eq] at hl
  have key : ∀ x : Nat, bitsOf x lo' w' = bitsOf (x % 2 ^ lo) lo' w' := by
    intro x
    apply Nat.eq_of_testBit_eq
    intro i
    simp only [bitsOf, Nat.testBit_mod_two_pow, Nat.testBit_shiftRight]
    by_cases hi : i < w'
    · have h2 : lo' + i < lo := by omega
      simp [hi, h2]
    · simp [hi]
  rw [key, hl, ← key]

/-- A field above the one set is as it was. -/
theorem bitsOf_setBits_above (n lo w v lo' w' : Nat) (h : lo + w ≤ lo') :
    bitsOf (setBits n lo w v) lo' w' = bitsOf n lo' w' := by
  have hh := high_of_parts (n / 2 ^ (lo + w)) (v % 2 ^ w) (n % 2 ^ lo) lo w (Nat.mod_lt _ (Nat.two_pow_pos w))
    (Nat.mod_lt _ (Nat.two_pow_pos lo))
  rw [← setBits_eq] at hh
  obtain ⟨d, rfl⟩ := Nat.exists_eq_add_of_le h
  simp only [bitsOf, Nat.shiftRight_eq_div_pow, Nat.pow_add _ (lo + w) d, ← Nat.div_div_eq_div_mul, hh]

/-- Replacing a field of a 32-bit word leaves a 32-bit word. -/
theorem setBits_lt (n lo w v b : Nat) (hn : n < 2 ^ b) (h : lo + w ≤ b) : setBits n lo w v < 2 ^ b := by
  apply Nat.lt_pow_two_of_testBit
  intro i hi
  have hq : n.testBit i = false := Nat.testBit_lt_two_pow (Nat.lt_of_lt_of_le hn (Nat.pow_le_pow_right (by decide) hi))
  have := bitsOf_setBits_above n lo w v i 1 (by omega)
  simp only [bitsOf, Nat.shiftRight_eq_div_pow] at this
  rw [Nat.testBit_eq_decide_div_mod_eq] at hq ⊢
  rw [Nat.pow_one] at this
  rw [this]
  exact hq

/-- A register after a write to it. -/
@[simp] theorem reg_setReg_same (s : State) (a : Nat) (v : Word) : (s.setReg a v).reg a = v := by
  simp [State.reg, State.setReg]

/-- A register after a write to another. -/
theorem reg_setReg_ne (s : State) {a b : Nat} (v : Word) (h : b ≠ a) : (s.setReg a v).reg b = s.reg b := by
  simp [State.reg, State.setReg, look_ins_ne _ _ _ _ h]

/-- The address of a field of a page. -/
def faddr (p : Nat) (f : Fld) (i : Nat := 0) : Nat := p + f.off + i * f.stride

/-- A field after it has been set. -/
theorem fld_setFld_same (s : State) (p : Nat) (f : Fld) (v i : Nat) (h : f.lo + f.w ≤ 32) :
    (s.setFld p f v i).fld p f i = v % 2 ^ f.w := by
  have hb := setBits_lt (s.reg (p + f.off + i * f.stride)).toNat f.lo f.w v 32 (BitVec.isLt _) h
  unfold State.fld State.setFld
  rw [reg_setReg_same, BitVec.toNat_ofNat, Nat.mod_eq_of_lt hb, bitsOf_setBits_same]

/-- A field of another register after a field has been set. -/
theorem fld_setFld_ne (s : State) {p q : Nat} {f g : Fld} (v : Nat) {i j : Nat} (h : faddr q g j ≠ faddr p f i) :
    (s.setFld p f v i).fld q g j = s.fld q g j := by
  have h' : q + g.off + j * g.stride ≠ p + f.off + i * f.stride := h
  simp [State.fld, State.setFld, reg_setReg_ne s _ h']

/-- Another field of the same register. -/
theorem fld_setFld_apart (s : State) {p q : Nat} {f g : Fld} (v : Nat) {i j : Nat} (h : faddr q g j = faddr p f i)
    (hf : f.lo + f.w ≤ 32) (ha : g.lo + g.w ≤ f.lo ∨ f.lo + f.w ≤ g.lo) :
    (s.setFld p f v i).fld q g j = s.fld q g j := by
  have h' : q + g.off + j * g.stride = p + f.off + i * f.stride := h
  have hb := setBits_lt (s.reg (p + f.off + i * f.stride)).toNat f.lo f.w v 32 (BitVec.isLt _) hf
  simp only [State.fld, State.setFld, h', reg_setReg_same, BitVec.toNat_ofNat, Nat.mod_eq_of_lt hb]
  rcases ha with ha | ha
  · exact bitsOf_setBits_below _ _ _ _ _ _ ha
  · exact bitsOf_setBits_above _ _ _ _ _ _ ha

/-- Every other register word after a field has been set. -/
theorem reg_setFld_ne (s : State) (p : Nat) (f : Fld) (v i : Nat) {a : Nat} (h : a ≠ faddr p f i) :
    (s.setFld p f v i).reg a = s.reg a := reg_setReg_ne s _ h

/-- Counting in a counter changes its field and no other word. -/
theorem fld_inc_same (s : State) (p : Nat) (f : Fld) (i n : Nat) (h : f.lo + f.w ≤ 32) :
    (s.inc p f i n).fld p f i = countUp f.w (s.fld p f i) n := by
  rw [State.inc, fld_setFld_same s p f _ i h, Nat.mod_eq_of_lt]
  have := Nat.two_pow_pos f.w
  exact Nat.lt_of_le_of_lt (Nat.min_le_right _ _) (by omega)

/-- Every other register word after a count. -/
theorem reg_inc_ne (s : State) (p : Nat) (f : Fld) (i n : Nat) {a : Nat} (h : a ≠ faddr p f i) :
    (s.inc p f i n).reg a = s.reg a := reg_setFld_ne s p f _ i h

/-- Setting a condition changes _EVT_PEND of its page and no other word. -/
theorem reg_setCond_ne (s : State) (p k : Nat) {a : Nat} (h : a ≠ p + 0x10) :
    (s.setReg (p + 0x10) (BitVec.ofNat 32 (setBits (s.reg (p + 0x10)).toNat k 1 1))).reg a = s.reg a := reg_setReg_ne s _ h

end Sys2Proof.Machine
end

