-- ==== Sys2Proof/Laws/State.lean ====
section
/-!
SUPPORT. One lemma per field of the state for each of its updates, so that no proof unfolds an update.
-/
namespace Sys2Proof.Machine

@[simp] theorem State.setReg_pending (s : State) (a : Nat) (v : Word) : (s.setReg a v).pending = s.pending := (rfl)
@[simp] theorem State.setReg_free (s : State) (a : Nat) (v : Word) : (s.setReg a v).free = s.free := (rfl)
@[simp] theorem State.setReg_out (s : State) (a : Nat) (v : Word) : (s.setReg a v).out = s.out := (rfl)
@[simp] theorem State.setReg_regs (s : State) (a : Nat) (v : Word) : (s.setReg a v).regs = ins (resetWord a) a v s.regs := (rfl)
@[simp] theorem State.setReg_force (s : State) (a : Nat) (v : Word) : (s.setReg a v).force = s.force := (rfl)
@[simp] theorem State.setReg_latch (s : State) (a : Nat) (v : Word) : (s.setReg a v).latch = s.latch := (rfl)
@[simp] theorem State.setReg_lowHalf (s : State) (a : Nat) (v : Word) : (s.setReg a v).lowHalf = s.lowHalf := (rfl)
@[simp] theorem State.setReg_mem (s : State) (a : Nat) (v : Word) : (s.setReg a v).mem = s.mem := (rfl)
@[simp] theorem State.setReg_hostMem (s : State) (a : Nat) (v : Word) : (s.setReg a v).hostMem = s.hostMem := (rfl)
@[simp] theorem State.setReg_rings (s : State) (a : Nat) (v : Word) : (s.setReg a v).rings = s.rings := (rfl)
@[simp] theorem State.setReg_stale (s : State) (a : Nat) (v : Word) : (s.setReg a v).stale = s.stale := (rfl)
@[simp] theorem State.setReg_commands (s : State) (a : Nat) (v : Word) : (s.setReg a v).commands = s.commands := (rfl)
@[simp] theorem State.setReg_clk (s : State) (a : Nat) (v : Word) : (s.setReg a v).clk = s.clk := (rfl)
@[simp] theorem State.setReg_pow (s : State) (a : Nat) (v : Word) : (s.setReg a v).pow = s.pow := (rfl)
@[simp] theorem State.setReg_cyc (s : State) (a : Nat) (v : Word) : (s.setReg a v).cyc = s.cyc := (rfl)
@[simp] theorem State.setReg_flows (s : State) (a : Nat) (v : Word) : (s.setReg a v).flows = s.flows := (rfl)
@[simp] theorem State.setReg_ports (s : State) (a : Nat) (v : Word) : (s.setReg a v).ports = s.ports := (rfl)
@[simp] theorem State.setReg_views (s : State) (a : Nat) (v : Word) : (s.setReg a v).views = s.views := (rfl)
@[simp] theorem State.setReg_feeds (s : State) (a : Nat) (v : Word) : (s.setReg a v).feeds = s.feeds := (rfl)
@[simp] theorem State.setReg_lanes (s : State) (a : Nat) (v : Word) : (s.setReg a v).lanes = s.lanes := (rfl)
@[simp] theorem State.setReg_busy (s : State) (a : Nat) (v : Word) : (s.setReg a v).busy = s.busy := (rfl)
@[simp] theorem State.setReg_chans (s : State) (a : Nat) (v : Word) : (s.setReg a v).chans = s.chans := (rfl)
@[simp] theorem State.setReg_credits (s : State) (a : Nat) (v : Word) : (s.setReg a v).credits = s.credits := (rfl)
@[simp] theorem State.setReg_house (s : State) (a : Nat) (v : Word) : (s.setReg a v).house = s.house := (rfl)
@[simp] theorem State.setReg_ptp (s : State) (a : Nat) (v : Word) : (s.setReg a v).ptp = s.ptp := (rfl)
@[simp] theorem State.setReg_touts (s : State) (a : Nat) (v : Word) : (s.setReg a v).touts = s.touts := (rfl)
@[simp] theorem State.setReg_tcaps (s : State) (a : Nat) (v : Word) : (s.setReg a v).tcaps = s.tcaps := (rfl)
@[simp] theorem State.setReg_ppsHigh (s : State) (a : Nat) (v : Word) : (s.setReg a v).ppsHigh = s.ppsHigh := (rfl)
@[simp] theorem State.setReg_servos (s : State) (a : Nat) (v : Word) : (s.setReg a v).servos = s.servos := (rfl)
@[simp] theorem State.setReg_evt (s : State) (a : Nat) (v : Word) : (s.setReg a v).evt = s.evt := (rfl)
@[simp] theorem State.setReg_dgs (s : State) (a : Nat) (v : Word) : (s.setReg a v).dgs = s.dgs := (rfl)
@[simp] theorem State.setReg_resp (s : State) (a : Nat) (v : Word) : (s.setReg a v).resp = s.resp := (rfl)
@[simp] theorem State.setReg_respLoad (s : State) (a : Nat) (v : Word) : (s.setReg a v).respLoad = s.respLoad := (rfl)
@[simp] theorem State.setReg_cap (s : State) (a : Nat) (v : Word) : (s.setReg a v).cap = s.cap := (rfl)
@[simp] theorem State.setReg_corrTouched (s : State) (a : Nat) (v : Word) : (s.setReg a v).corrTouched = s.corrTouched := (rfl)
@[simp] theorem State.setReg_play (s : State) (a : Nat) (v : Word) : (s.setReg a v).play = s.play := (rfl)
@[simp] theorem State.setReg_flashMem (s : State) (a : Nat) (v : Word) : (s.setReg a v).flashMem = s.flashMem := (rfl)
@[simp] theorem State.setReg_flashOp (s : State) (a : Nat) (v : Word) : (s.setReg a v).flashOp = s.flashOp := (rfl)
@[simp] theorem State.setReg_drives (s : State) (a : Nat) (v : Word) : (s.setReg a v).drives = s.drives := (rfl)
@[simp] theorem State.setReg_storeOp (s : State) (a : Nat) (v : Word) : (s.setReg a v).storeOp = s.storeOp := (rfl)
@[simp] theorem State.setReg_storeWait (s : State) (a : Nat) (v : Word) : (s.setReg a v).storeWait = s.storeWait := (rfl)
@[simp] theorem State.setReg_job (s : State) (a : Nat) (v : Word) : (s.setReg a v).job = s.job := (rfl)
@[simp] theorem State.setReg_aborts (s : State) (a : Nat) (v : Word) : (s.setReg a v).aborts = s.aborts := (rfl)
@[simp] theorem State.setReg_panic (s : State) (a : Nat) (v : Word) : (s.setReg a v).panic = s.panic := (rfl)
@[simp] theorem State.setReg_rateWait (s : State) (a : Nat) (v : Word) : (s.setReg a v).rateWait = s.rateWait := (rfl)
@[simp] theorem State.setReg_powerReq (s : State) (a : Nat) (v : Word) : (s.setReg a v).powerReq = s.powerReq := (rfl)
@[simp] theorem State.setReg_image (s : State) (a : Nat) (v : Word) : (s.setReg a v).image = s.image := (rfl)
@[simp] theorem State.setReg_bar4 (s : State) (a : Nat) (v : Word) : (s.setReg a v).bar4 = s.bar4 := (rfl)
@[simp] theorem State.setReg_cfgSpace (s : State) (a : Nat) (v : Word) : (s.setReg a v).cfgSpace = s.cfgSpace := (rfl)
@[simp] theorem State.setReg_tap (s : State) (a : Nat) (v : Word) : (s.setReg a v).tap = s.tap := (rfl)
@[simp] theorem State.setReg_lines (s : State) (a : Nat) (v : Word) : (s.setReg a v).lines = s.lines := (rfl)
@[simp] theorem State.setReg_linkRt (s : State) (a : Nat) (v : Word) : (s.setReg a v).linkRt = s.linkRt := (rfl)
@[simp] theorem State.setReg_rateTo (s : State) (a : Nat) (v : Word) : (s.setReg a v).rateTo = s.rateTo := (rfl)
@[simp] theorem State.setReg_bar2Held (s : State) (a : Nat) (v : Word) : (s.setReg a v).bar2Held = s.bar2Held := (rfl)
@[simp] theorem State.setReg_ff (s : State) (a : Nat) (v : Word) (q : Nat) (g : Fld) (m : Nat) : (s.setReg a v).ff q g m = s.ff q g m := (rfl)
@[simp] theorem State.setReg_now (s : State) (a : Nat) (v : Word) : (s.setReg a v).now = s.now := (rfl)
@[simp] theorem State.setReg_ring (s : State) (a : Nat) (v : Word) (n' : Nat) : (s.setReg a v).ring n' = s.ring n' := (rfl)
@[simp] theorem State.setFld_pending (s : State) (p : Nat) (f : Fld) (v i : Nat) : (s.setFld p f v i).pending = s.pending := (rfl)
@[simp] theorem State.setFld_free (s : State) (p : Nat) (f : Fld) (v i : Nat) : (s.setFld p f v i).free = s.free := (rfl)
@[simp] theorem State.setFld_out (s : State) (p : Nat) (f : Fld) (v i : Nat) : (s.setFld p f v i).out = s.out := (rfl)
@[simp] theorem State.setFld_force (s : State) (p : Nat) (f : Fld) (v i : Nat) : (s.setFld p f v i).force = s.force := (rfl)
@[simp] theorem State.setFld_latch (s : State) (p : Nat) (f : Fld) (v i : Nat) : (s.setFld p f v i).latch = s.latch := (rfl)
@[simp] theorem State.setFld_lowHalf (s : State) (p : Nat) (f : Fld) (v i : Nat) : (s.setFld p f v i).lowHalf = s.lowHalf := (rfl)
@[simp] theorem State.setFld_mem (s : State) (p : Nat) (f : Fld) (v i : Nat) : (s.setFld p f v i).mem = s.mem := (rfl)
@[simp] theorem State.setFld_hostMem (s : State) (p : Nat) (f : Fld) (v i : Nat) : (s.setFld p f v i).hostMem = s.hostMem := (rfl)
@[simp] theorem State.setFld_rings (s : State) (p : Nat) (f : Fld) (v i : Nat) : (s.setFld p f v i).rings = s.rings := (rfl)
@[simp] theorem State.setFld_stale (s : State) (p : Nat) (f : Fld) (v i : Nat) : (s.setFld p f v i).stale = s.stale := (rfl)
@[simp] theorem State.setFld_commands (s : State) (p : Nat) (f : Fld) (v i : Nat) : (s.setFld p f v i).commands = s.commands := (rfl)
@[simp] theorem State.setFld_clk (s : State) (p : Nat) (f : Fld) (v i : Nat) : (s.setFld p f v i).clk = s.clk := (rfl)
@[simp] theorem State.setFld_pow (s : State) (p : Nat) (f : Fld) (v i : Nat) : (s.setFld p f v i).pow = s.pow := (rfl)
@[simp] theorem State.setFld_cyc (s : State) (p : Nat) (f : Fld) (v i : Nat) : (s.setFld p f v i).cyc = s.cyc := (rfl)
@[simp] theorem State.setFld_flows (s : State) (p : Nat) (f : Fld) (v i : Nat) : (s.setFld p f v i).flows = s.flows := (rfl)
@[simp] theorem State.setFld_ports (s : State) (p : Nat) (f : Fld) (v i : Nat) : (s.setFld p f v i).ports = s.ports := (rfl)
@[simp] theorem State.setFld_views (s : State) (p : Nat) (f : Fld) (v i : Nat) : (s.setFld p f v i).views = s.views := (rfl)
@[simp] theorem State.setFld_feeds (s : State) (p : Nat) (f : Fld) (v i : Nat) : (s.setFld p f v i).feeds = s.feeds := (rfl)
@[simp] theorem State.setFld_lanes (s : State) (p : Nat) (f : Fld) (v i : Nat) : (s.setFld p f v i).lanes = s.lanes := (rfl)
@[simp] theorem State.setFld_busy (s : State) (p : Nat) (f : Fld) (v i : Nat) : (s.setFld p f v i).busy = s.busy := (rfl)
@[simp] theorem State.setFld_chans (s : State) (p : Nat) (f : Fld) (v i : Nat) : (s.setFld p f v i).chans = s.chans := (rfl)
@[simp] theorem State.setFld_credits (s : State) (p : Nat) (f : Fld) (v i : Nat) : (s.setFld p f v i).credits = s.credits := (rfl)
@[simp] theorem State.setFld_house (s : State) (p : Nat) (f : Fld) (v i : Nat) : (s.setFld p f v i).house = s.house := (rfl)
@[simp] theorem State.setFld_ptp (s : State) (p : Nat) (f : Fld) (v i : Nat) : (s.setFld p f v i).ptp = s.ptp := (rfl)
@[simp] theorem State.setFld_touts (s : State) (p : Nat) (f : Fld) (v i : Nat) : (s.setFld p f v i).touts = s.touts := (rfl)
@[simp] theorem State.setFld_tcaps (s : State) (p : Nat) (f : Fld) (v i : Nat) : (s.setFld p f v i).tcaps = s.tcaps := (rfl)
@[simp] theorem State.setFld_ppsHigh (s : State) (p : Nat) (f : Fld) (v i : Nat) : (s.setFld p f v i).ppsHigh = s.ppsHigh := (rfl)
@[simp] theorem State.setFld_servos (s : State) (p : Nat) (f : Fld) (v i : Nat) : (s.setFld p f v i).servos = s.servos := (rfl)
@[simp] theorem State.setFld_evt (s : State) (p : Nat) (f : Fld) (v i : Nat) : (s.setFld p f v i).evt = s.evt := (rfl)
@[simp] theorem State.setFld_dgs (s : State) (p : Nat) (f : Fld) (v i : Nat) : (s.setFld p f v i).dgs = s.dgs := (rfl)
@[simp] theorem State.setFld_resp (s : State) (p : Nat) (f : Fld) (v i : Nat) : (s.setFld p f v i).resp = s.resp := (rfl)
@[simp] theorem State.setFld_respLoad (s : State) (p : Nat) (f : Fld) (v i : Nat) : (s.setFld p f v i).respLoad = s.respLoad := (rfl)
@[simp] theorem State.setFld_cap (s : State) (p : Nat) (f : Fld) (v i : Nat) : (s.setFld p f v i).cap = s.cap := (rfl)
@[simp] theorem State.setFld_corrTouched (s : State) (p : Nat) (f : Fld) (v i : Nat) : (s.setFld p f v i).corrTouched = s.corrTouched := (rfl)
@[simp] theorem State.setFld_play (s : State) (p : Nat) (f : Fld) (v i : Nat) : (s.setFld p f v i).play = s.play := (rfl)
@[simp] theorem State.setFld_flashMem (s : State) (p : Nat) (f : Fld) (v i : Nat) : (s.setFld p f v i).flashMem = s.flashMem := (rfl)
@[simp] theorem State.setFld_flashOp (s : State) (p : Nat) (f : Fld) (v i : Nat) : (s.setFld p f v i).flashOp = s.flashOp := (rfl)
@[simp] theorem State.setFld_drives (s : State) (p : Nat) (f : Fld) (v i : Nat) : (s.setFld p f v i).drives = s.drives := (rfl)
@[simp] theorem State.setFld_storeOp (s : State) (p : Nat) (f : Fld) (v i : Nat) : (s.setFld p f v i).storeOp = s.storeOp := (rfl)
@[simp] theorem State.setFld_storeWait (s : State) (p : Nat) (f : Fld) (v i : Nat) : (s.setFld p f v i).storeWait = s.storeWait := (rfl)
@[simp] theorem State.setFld_job (s : State) (p : Nat) (f : Fld) (v i : Nat) : (s.setFld p f v i).job = s.job := (rfl)
@[simp] theorem State.setFld_aborts (s : State) (p : Nat) (f : Fld) (v i : Nat) : (s.setFld p f v i).aborts = s.aborts := (rfl)
@[simp] theorem State.setFld_panic (s : State) (p : Nat) (f : Fld) (v i : Nat) : (s.setFld p f v i).panic = s.panic := (rfl)
@[simp] theorem State.setFld_rateWait (s : State) (p : Nat) (f : Fld) (v i : Nat) : (s.setFld p f v i).rateWait = s.rateWait := (rfl)
@[simp] theorem State.setFld_powerReq (s : State) (p : Nat) (f : Fld) (v i : Nat) : (s.setFld p f v i).powerReq = s.powerReq := (rfl)
@[simp] theorem State.setFld_image (s : State) (p : Nat) (f : Fld) (v i : Nat) : (s.setFld p f v i).image = s.image := (rfl)
@[simp] theorem State.setFld_bar4 (s : State) (p : Nat) (f : Fld) (v i : Nat) : (s.setFld p f v i).bar4 = s.bar4 := (rfl)
@[simp] theorem State.setFld_cfgSpace (s : State) (p : Nat) (f : Fld) (v i : Nat) : (s.setFld p f v i).cfgSpace = s.cfgSpace := (rfl)
@[simp] theorem State.setFld_tap (s : State) (p : Nat) (f : Fld) (v i : Nat) : (s.setFld p f v i).tap = s.tap := (rfl)
@[simp] theorem State.setFld_lines (s : State) (p : Nat) (f : Fld) (v i : Nat) : (s.setFld p f v i).lines = s.lines := (rfl)
@[simp] theorem State.setFld_linkRt (s : State) (p : Nat) (f : Fld) (v i : Nat) : (s.setFld p f v i).linkRt = s.linkRt := (rfl)
@[simp] theorem State.setFld_rateTo (s : State) (p : Nat) (f : Fld) (v i : Nat) : (s.setFld p f v i).rateTo = s.rateTo := (rfl)
@[simp] theorem State.setFld_bar2Held (s : State) (p : Nat) (f : Fld) (v i : Nat) : (s.setFld p f v i).bar2Held = s.bar2Held := (rfl)
@[simp] theorem State.setFld_ff (s : State) (p : Nat) (f : Fld) (v i : Nat) (q : Nat) (g : Fld) (m : Nat) : (s.setFld p f v i).ff q g m = s.ff q g m := (rfl)
@[simp] theorem State.setFld_now (s : State) (p : Nat) (f : Fld) (v i : Nat) : (s.setFld p f v i).now = s.now := (rfl)
@[simp] theorem State.setFld_ring (s : State) (p : Nat) (f : Fld) (v i : Nat) (n' : Nat) : (s.setFld p f v i).ring n' = s.ring n' := (rfl)
@[simp] theorem State.setS_pending (s : State) (p : Nat) (f : Fld) (v : Int) (i : Nat) : (s.setS p f v i).pending = s.pending := (rfl)
@[simp] theorem State.setS_free (s : State) (p : Nat) (f : Fld) (v : Int) (i : Nat) : (s.setS p f v i).free = s.free := (rfl)
@[simp] theorem State.setS_out (s : State) (p : Nat) (f : Fld) (v : Int) (i : Nat) : (s.setS p f v i).out = s.out := (rfl)
@[simp] theorem State.setS_force (s : State) (p : Nat) (f : Fld) (v : Int) (i : Nat) : (s.setS p f v i).force = s.force := (rfl)
@[simp] theorem State.setS_latch (s : State) (p : Nat) (f : Fld) (v : Int) (i : Nat) : (s.setS p f v i).latch = s.latch := (rfl)
@[simp] theorem State.setS_lowHalf (s : State) (p : Nat) (f : Fld) (v : Int) (i : Nat) : (s.setS p f v i).lowHalf = s.lowHalf := (rfl)
@[simp] theorem State.setS_mem (s : State) (p : Nat) (f : Fld) (v : Int) (i : Nat) : (s.setS p f v i).mem = s.mem := (rfl)
@[simp] theorem State.setS_hostMem (s : State) (p : Nat) (f : Fld) (v : Int) (i : Nat) : (s.setS p f v i).hostMem = s.hostMem := (rfl)
@[simp] theorem State.setS_rings (s : State) (p : Nat) (f : Fld) (v : Int) (i : Nat) : (s.setS p f v i).rings = s.rings := (rfl)
@[simp] theorem State.setS_stale (s : State) (p : Nat) (f : Fld) (v : Int) (i : Nat) : (s.setS p f v i).stale = s.stale := (rfl)
@[simp] theorem State.setS_commands (s : State) (p : Nat) (f : Fld) (v : Int) (i : Nat) : (s.setS p f v i).commands = s.commands := (rfl)
@[simp] theorem State.setS_clk (s : State) (p : Nat) (f : Fld) (v : Int) (i : Nat) : (s.setS p f v i).clk = s.clk := (rfl)
@[simp] theorem State.setS_pow (s : State) (p : Nat) (f : Fld) (v : Int) (i : Nat) : (s.setS p f v i).pow = s.pow := (rfl)
@[simp] theorem State.setS_cyc (s : State) (p : Nat) (f : Fld) (v : Int) (i : Nat) : (s.setS p f v i).cyc = s.cyc := (rfl)
@[simp] theorem State.setS_flows (s : State) (p : Nat) (f : Fld) (v : Int) (i : Nat) : (s.setS p f v i).flows = s.flows := (rfl)
@[simp] theorem State.setS_ports (s : State) (p : Nat) (f : Fld) (v : Int) (i : Nat) : (s.setS p f v i).ports = s.ports := (rfl)
@[simp] theorem State.setS_views (s : State) (p : Nat) (f : Fld) (v : Int) (i : Nat) : (s.setS p f v i).views = s.views := (rfl)
@[simp] theorem State.setS_feeds (s : State) (p : Nat) (f : Fld) (v : Int) (i : Nat) : (s.setS p f v i).feeds = s.feeds := (rfl)
@[simp] theorem State.setS_lanes (s : State) (p : Nat) (f : Fld) (v : Int) (i : Nat) : (s.setS p f v i).lanes = s.lanes := (rfl)
@[simp] theorem State.setS_busy (s : State) (p : Nat) (f : Fld) (v : Int) (i : Nat) : (s.setS p f v i).busy = s.busy := (rfl)
@[simp] theorem State.setS_chans (s : State) (p : Nat) (f : Fld) (v : Int) (i : Nat) : (s.setS p f v i).chans = s.chans := (rfl)
@[simp] theorem State.setS_credits (s : State) (p : Nat) (f : Fld) (v : Int) (i : Nat) : (s.setS p f v i).credits = s.credits := (rfl)
@[simp] theorem State.setS_house (s : State) (p : Nat) (f : Fld) (v : Int) (i : Nat) : (s.setS p f v i).house = s.house := (rfl)
@[simp] theorem State.setS_ptp (s : State) (p : Nat) (f : Fld) (v : Int) (i : Nat) : (s.setS p f v i).ptp = s.ptp := (rfl)
@[simp] theorem State.setS_touts (s : State) (p : Nat) (f : Fld) (v : Int) (i : Nat) : (s.setS p f v i).touts = s.touts := (rfl)
@[simp] theorem State.setS_tcaps (s : State) (p : Nat) (f : Fld) (v : Int) (i : Nat) : (s.setS p f v i).tcaps = s.tcaps := (rfl)
@[simp] theorem State.setS_ppsHigh (s : State) (p : Nat) (f : Fld) (v : Int) (i : Nat) : (s.setS p f v i).ppsHigh = s.ppsHigh := (rfl)
@[simp] theorem State.setS_servos (s : State) (p : Nat) (f : Fld) (v : Int) (i : Nat) : (s.setS p f v i).servos = s.servos := (rfl)
@[simp] theorem State.setS_evt (s : State) (p : Nat) (f : Fld) (v : Int) (i : Nat) : (s.setS p f v i).evt = s.evt := (rfl)
@[simp] theorem State.setS_dgs (s : State) (p : Nat) (f : Fld) (v : Int) (i : Nat) : (s.setS p f v i).dgs = s.dgs := (rfl)
@[simp] theorem State.setS_resp (s : State) (p : Nat) (f : Fld) (v : Int) (i : Nat) : (s.setS p f v i).resp = s.resp := (rfl)
@[simp] theorem State.setS_respLoad (s : State) (p : Nat) (f : Fld) (v : Int) (i : Nat) : (s.setS p f v i).respLoad = s.respLoad := (rfl)
@[simp] theorem State.setS_cap (s : State) (p : Nat) (f : Fld) (v : Int) (i : Nat) : (s.setS p f v i).cap = s.cap := (rfl)
@[simp] theorem State.setS_corrTouched (s : State) (p : Nat) (f : Fld) (v : Int) (i : Nat) : (s.setS p f v i).corrTouched = s.corrTouched := (rfl)
@[simp] theorem State.setS_play (s : State) (p : Nat) (f : Fld) (v : Int) (i : Nat) : (s.setS p f v i).play = s.play := (rfl)
@[simp] theorem State.setS_flashMem (s : State) (p : Nat) (f : Fld) (v : Int) (i : Nat) : (s.setS p f v i).flashMem = s.flashMem := (rfl)
@[simp] theorem State.setS_flashOp (s : State) (p : Nat) (f : Fld) (v : Int) (i : Nat) : (s.setS p f v i).flashOp = s.flashOp := (rfl)
@[simp] theorem State.setS_drives (s : State) (p : Nat) (f : Fld) (v : Int) (i : Nat) : (s.setS p f v i).drives = s.drives := (rfl)
@[simp] theorem State.setS_storeOp (s : State) (p : Nat) (f : Fld) (v : Int) (i : Nat) : (s.setS p f v i).storeOp = s.storeOp := (rfl)
@[simp] theorem State.setS_storeWait (s : State) (p : Nat) (f : Fld) (v : Int) (i : Nat) : (s.setS p f v i).storeWait = s.storeWait := (rfl)
@[simp] theorem State.setS_job (s : State) (p : Nat) (f : Fld) (v : Int) (i : Nat) : (s.setS p f v i).job = s.job := (rfl)
@[simp] theorem State.setS_aborts (s : State) (p : Nat) (f : Fld) (v : Int) (i : Nat) : (s.setS p f v i).aborts = s.aborts := (rfl)
@[simp] theorem State.setS_panic (s : State) (p : Nat) (f : Fld) (v : Int) (i : Nat) : (s.setS p f v i).panic = s.panic := (rfl)
@[simp] theorem State.setS_rateWait (s : State) (p : Nat) (f : Fld) (v : Int) (i : Nat) : (s.setS p f v i).rateWait = s.rateWait := (rfl)
@[simp] theorem State.setS_powerReq (s : State) (p : Nat) (f : Fld) (v : Int) (i : Nat) : (s.setS p f v i).powerReq = s.powerReq := (rfl)
@[simp] theorem State.setS_image (s : State) (p : Nat) (f : Fld) (v : Int) (i : Nat) : (s.setS p f v i).image = s.image := (rfl)
@[simp] theorem State.setS_bar4 (s : State) (p : Nat) (f : Fld) (v : Int) (i : Nat) : (s.setS p f v i).bar4 = s.bar4 := (rfl)
@[simp] theorem State.setS_cfgSpace (s : State) (p : Nat) (f : Fld) (v : Int) (i : Nat) : (s.setS p f v i).cfgSpace = s.cfgSpace := (rfl)
@[simp] theorem State.setS_tap (s : State) (p : Nat) (f : Fld) (v : Int) (i : Nat) : (s.setS p f v i).tap = s.tap := (rfl)
@[simp] theorem State.setS_lines (s : State) (p : Nat) (f : Fld) (v : Int) (i : Nat) : (s.setS p f v i).lines = s.lines := (rfl)
@[simp] theorem State.setS_linkRt (s : State) (p : Nat) (f : Fld) (v : Int) (i : Nat) : (s.setS p f v i).linkRt = s.linkRt := (rfl)
@[simp] theorem State.setS_rateTo (s : State) (p : Nat) (f : Fld) (v : Int) (i : Nat) : (s.setS p f v i).rateTo = s.rateTo := (rfl)
@[simp] theorem State.setS_bar2Held (s : State) (p : Nat) (f : Fld) (v : Int) (i : Nat) : (s.setS p f v i).bar2Held = s.bar2Held := (rfl)
@[simp] theorem State.setS_ff (s : State) (p : Nat) (f : Fld) (v : Int) (i : Nat) (q : Nat) (g : Fld) (m : Nat) : (s.setS p f v i).ff q g m = s.ff q g m := (rfl)
@[simp] theorem State.setS_now (s : State) (p : Nat) (f : Fld) (v : Int) (i : Nat) : (s.setS p f v i).now = s.now := (rfl)
@[simp] theorem State.setS_ring (s : State) (p : Nat) (f : Fld) (v : Int) (i : Nat) (n' : Nat) : (s.setS p f v i).ring n' = s.ring n' := (rfl)
@[simp] theorem State.inc_pending (s : State) (p : Nat) (f : Fld) (i n : Nat) : (s.inc p f i n).pending = s.pending := (rfl)
@[simp] theorem State.inc_free (s : State) (p : Nat) (f : Fld) (i n : Nat) : (s.inc p f i n).free = s.free := (rfl)
@[simp] theorem State.inc_out (s : State) (p : Nat) (f : Fld) (i n : Nat) : (s.inc p f i n).out = s.out := (rfl)
@[simp] theorem State.inc_force (s : State) (p : Nat) (f : Fld) (i n : Nat) : (s.inc p f i n).force = s.force := (rfl)
@[simp] theorem State.inc_latch (s : State) (p : Nat) (f : Fld) (i n : Nat) : (s.inc p f i n).latch = s.latch := (rfl)
@[simp] theorem State.inc_lowHalf (s : State) (p : Nat) (f : Fld) (i n : Nat) : (s.inc p f i n).lowHalf = s.lowHalf := (rfl)
@[simp] theorem State.inc_mem (s : State) (p : Nat) (f : Fld) (i n : Nat) : (s.inc p f i n).mem = s.mem := (rfl)
@[simp] theorem State.inc_hostMem (s : State) (p : Nat) (f : Fld) (i n : Nat) : (s.inc p f i n).hostMem = s.hostMem := (rfl)
@[simp] theorem State.inc_rings (s : State) (p : Nat) (f : Fld) (i n : Nat) : (s.inc p f i n).rings = s.rings := (rfl)
@[simp] theorem State.inc_stale (s : State) (p : Nat) (f : Fld) (i n : Nat) : (s.inc p f i n).stale = s.stale := (rfl)
@[simp] theorem State.inc_commands (s : State) (p : Nat) (f : Fld) (i n : Nat) : (s.inc p f i n).commands = s.commands := (rfl)
@[simp] theorem State.inc_clk (s : State) (p : Nat) (f : Fld) (i n : Nat) : (s.inc p f i n).clk = s.clk := (rfl)
@[simp] theorem State.inc_pow (s : State) (p : Nat) (f : Fld) (i n : Nat) : (s.inc p f i n).pow = s.pow := (rfl)
@[simp] theorem State.inc_cyc (s : State) (p : Nat) (f : Fld) (i n : Nat) : (s.inc p f i n).cyc = s.cyc := (rfl)
@[simp] theorem State.inc_flows (s : State) (p : Nat) (f : Fld) (i n : Nat) : (s.inc p f i n).flows = s.flows := (rfl)
@[simp] theorem State.inc_ports (s : State) (p : Nat) (f : Fld) (i n : Nat) : (s.inc p f i n).ports = s.ports := (rfl)
@[simp] theorem State.inc_views (s : State) (p : Nat) (f : Fld) (i n : Nat) : (s.inc p f i n).views = s.views := (rfl)
@[simp] theorem State.inc_feeds (s : State) (p : Nat) (f : Fld) (i n : Nat) : (s.inc p f i n).feeds = s.feeds := (rfl)
@[simp] theorem State.inc_lanes (s : State) (p : Nat) (f : Fld) (i n : Nat) : (s.inc p f i n).lanes = s.lanes := (rfl)
@[simp] theorem State.inc_busy (s : State) (p : Nat) (f : Fld) (i n : Nat) : (s.inc p f i n).busy = s.busy := (rfl)
@[simp] theorem State.inc_chans (s : State) (p : Nat) (f : Fld) (i n : Nat) : (s.inc p f i n).chans = s.chans := (rfl)
@[simp] theorem State.inc_credits (s : State) (p : Nat) (f : Fld) (i n : Nat) : (s.inc p f i n).credits = s.credits := (rfl)
@[simp] theorem State.inc_house (s : State) (p : Nat) (f : Fld) (i n : Nat) : (s.inc p f i n).house = s.house := (rfl)
@[simp] theorem State.inc_ptp (s : State) (p : Nat) (f : Fld) (i n : Nat) : (s.inc p f i n).ptp = s.ptp := (rfl)
@[simp] theorem State.inc_touts (s : State) (p : Nat) (f : Fld) (i n : Nat) : (s.inc p f i n).touts = s.touts := (rfl)
@[simp] theorem State.inc_tcaps (s : State) (p : Nat) (f : Fld) (i n : Nat) : (s.inc p f i n).tcaps = s.tcaps := (rfl)
@[simp] theorem State.inc_ppsHigh (s : State) (p : Nat) (f : Fld) (i n : Nat) : (s.inc p f i n).ppsHigh = s.ppsHigh := (rfl)
@[simp] theorem State.inc_servos (s : State) (p : Nat) (f : Fld) (i n : Nat) : (s.inc p f i n).servos = s.servos := (rfl)
@[simp] theorem State.inc_evt (s : State) (p : Nat) (f : Fld) (i n : Nat) : (s.inc p f i n).evt = s.evt := (rfl)
@[simp] theorem State.inc_dgs (s : State) (p : Nat) (f : Fld) (i n : Nat) : (s.inc p f i n).dgs = s.dgs := (rfl)
@[simp] theorem State.inc_resp (s : State) (p : Nat) (f : Fld) (i n : Nat) : (s.inc p f i n).resp = s.resp := (rfl)
@[simp] theorem State.inc_respLoad (s : State) (p : Nat) (f : Fld) (i n : Nat) : (s.inc p f i n).respLoad = s.respLoad := (rfl)
@[simp] theorem State.inc_cap (s : State) (p : Nat) (f : Fld) (i n : Nat) : (s.inc p f i n).cap = s.cap := (rfl)
@[simp] theorem State.inc_corrTouched (s : State) (p : Nat) (f : Fld) (i n : Nat) : (s.inc p f i n).corrTouched = s.corrTouched := (rfl)
@[simp] theorem State.inc_play (s : State) (p : Nat) (f : Fld) (i n : Nat) : (s.inc p f i n).play = s.play := (rfl)
@[simp] theorem State.inc_flashMem (s : State) (p : Nat) (f : Fld) (i n : Nat) : (s.inc p f i n).flashMem = s.flashMem := (rfl)
@[simp] theorem State.inc_flashOp (s : State) (p : Nat) (f : Fld) (i n : Nat) : (s.inc p f i n).flashOp = s.flashOp := (rfl)
@[simp] theorem State.inc_drives (s : State) (p : Nat) (f : Fld) (i n : Nat) : (s.inc p f i n).drives = s.drives := (rfl)
@[simp] theorem State.inc_storeOp (s : State) (p : Nat) (f : Fld) (i n : Nat) : (s.inc p f i n).storeOp = s.storeOp := (rfl)
@[simp] theorem State.inc_storeWait (s : State) (p : Nat) (f : Fld) (i n : Nat) : (s.inc p f i n).storeWait = s.storeWait := (rfl)
@[simp] theorem State.inc_job (s : State) (p : Nat) (f : Fld) (i n : Nat) : (s.inc p f i n).job = s.job := (rfl)
@[simp] theorem State.inc_aborts (s : State) (p : Nat) (f : Fld) (i n : Nat) : (s.inc p f i n).aborts = s.aborts := (rfl)
@[simp] theorem State.inc_panic (s : State) (p : Nat) (f : Fld) (i n : Nat) : (s.inc p f i n).panic = s.panic := (rfl)
@[simp] theorem State.inc_rateWait (s : State) (p : Nat) (f : Fld) (i n : Nat) : (s.inc p f i n).rateWait = s.rateWait := (rfl)
@[simp] theorem State.inc_powerReq (s : State) (p : Nat) (f : Fld) (i n : Nat) : (s.inc p f i n).powerReq = s.powerReq := (rfl)
@[simp] theorem State.inc_image (s : State) (p : Nat) (f : Fld) (i n : Nat) : (s.inc p f i n).image = s.image := (rfl)
@[simp] theorem State.inc_bar4 (s : State) (p : Nat) (f : Fld) (i n : Nat) : (s.inc p f i n).bar4 = s.bar4 := (rfl)
@[simp] theorem State.inc_cfgSpace (s : State) (p : Nat) (f : Fld) (i n : Nat) : (s.inc p f i n).cfgSpace = s.cfgSpace := (rfl)
@[simp] theorem State.inc_tap (s : State) (p : Nat) (f : Fld) (i n : Nat) : (s.inc p f i n).tap = s.tap := (rfl)
@[simp] theorem State.inc_lines (s : State) (p : Nat) (f : Fld) (i n : Nat) : (s.inc p f i n).lines = s.lines := (rfl)
@[simp] theorem State.inc_linkRt (s : State) (p : Nat) (f : Fld) (i n : Nat) : (s.inc p f i n).linkRt = s.linkRt := (rfl)
@[simp] theorem State.inc_rateTo (s : State) (p : Nat) (f : Fld) (i n : Nat) : (s.inc p f i n).rateTo = s.rateTo := (rfl)
@[simp] theorem State.inc_bar2Held (s : State) (p : Nat) (f : Fld) (i n : Nat) : (s.inc p f i n).bar2Held = s.bar2Held := (rfl)
@[simp] theorem State.inc_ff (s : State) (p : Nat) (f : Fld) (i n : Nat) (q : Nat) (g : Fld) (m : Nat) : (s.inc p f i n).ff q g m = s.ff q g m := (rfl)
@[simp] theorem State.inc_now (s : State) (p : Nat) (f : Fld) (i n : Nat) : (s.inc p f i n).now = s.now := (rfl)
@[simp] theorem State.inc_ring (s : State) (p : Nat) (f : Fld) (i n : Nat) (n' : Nat) : (s.inc p f i n).ring n' = s.ring n' := (rfl)
@[simp] theorem State.setPair_pending (s : State) (p : Nat) (lo hi : Fld) (v i : Nat) : (s.setPair p lo hi v i).pending = s.pending := (rfl)
@[simp] theorem State.setPair_free (s : State) (p : Nat) (lo hi : Fld) (v i : Nat) : (s.setPair p lo hi v i).free = s.free := (rfl)
@[simp] theorem State.setPair_out (s : State) (p : Nat) (lo hi : Fld) (v i : Nat) : (s.setPair p lo hi v i).out = s.out := (rfl)
@[simp] theorem State.setPair_force (s : State) (p : Nat) (lo hi : Fld) (v i : Nat) : (s.setPair p lo hi v i).force = s.force := (rfl)
@[simp] theorem State.setPair_latch (s : State) (p : Nat) (lo hi : Fld) (v i : Nat) : (s.setPair p lo hi v i).latch = s.latch := (rfl)
@[simp] theorem State.setPair_lowHalf (s : State) (p : Nat) (lo hi : Fld) (v i : Nat) : (s.setPair p lo hi v i).lowHalf = s.lowHalf := (rfl)
@[simp] theorem State.setPair_mem (s : State) (p : Nat) (lo hi : Fld) (v i : Nat) : (s.setPair p lo hi v i).mem = s.mem := (rfl)
@[simp] theorem State.setPair_hostMem (s : State) (p : Nat) (lo hi : Fld) (v i : Nat) : (s.setPair p lo hi v i).hostMem = s.hostMem := (rfl)
@[simp] theorem State.setPair_rings (s : State) (p : Nat) (lo hi : Fld) (v i : Nat) : (s.setPair p lo hi v i).rings = s.rings := (rfl)
@[simp] theorem State.setPair_stale (s : State) (p : Nat) (lo hi : Fld) (v i : Nat) : (s.setPair p lo hi v i).stale = s.stale := (rfl)
@[simp] theorem State.setPair_commands (s : State) (p : Nat) (lo hi : Fld) (v i : Nat) : (s.setPair p lo hi v i).commands = s.commands := (rfl)
@[simp] theorem State.setPair_clk (s : State) (p : Nat) (lo hi : Fld) (v i : Nat) : (s.setPair p lo hi v i).clk = s.clk := (rfl)
@[simp] theorem State.setPair_pow (s : State) (p : Nat) (lo hi : Fld) (v i : Nat) : (s.setPair p lo hi v i).pow = s.pow := (rfl)
@[simp] theorem State.setPair_cyc (s : State) (p : Nat) (lo hi : Fld) (v i : Nat) : (s.setPair p lo hi v i).cyc = s.cyc := (rfl)
@[simp] theorem State.setPair_flows (s : State) (p : Nat) (lo hi : Fld) (v i : Nat) : (s.setPair p lo hi v i).flows = s.flows := (rfl)
@[simp] theorem State.setPair_ports (s : State) (p : Nat) (lo hi : Fld) (v i : Nat) : (s.setPair p lo hi v i).ports = s.ports := (rfl)
@[simp] theorem State.setPair_views (s : State) (p : Nat) (lo hi : Fld) (v i : Nat) : (s.setPair p lo hi v i).views = s.views := (rfl)
@[simp] theorem State.setPair_feeds (s : State) (p : Nat) (lo hi : Fld) (v i : Nat) : (s.setPair p lo hi v i).feeds = s.feeds := (rfl)
@[simp] theorem State.setPair_lanes (s : State) (p : Nat) (lo hi : Fld) (v i : Nat) : (s.setPair p lo hi v i).lanes = s.lanes := (rfl)
@[simp] theorem State.setPair_busy (s : State) (p : Nat) (lo hi : Fld) (v i : Nat) : (s.setPair p lo hi v i).busy = s.busy := (rfl)
@[simp] theorem State.setPair_chans (s : State) (p : Nat) (lo hi : Fld) (v i : Nat) : (s.setPair p lo hi v i).chans = s.chans := (rfl)
@[simp] theorem State.setPair_credits (s : State) (p : Nat) (lo hi : Fld) (v i : Nat) : (s.setPair p lo hi v i).credits = s.credits := (rfl)
@[simp] theorem State.setPair_house (s : State) (p : Nat) (lo hi : Fld) (v i : Nat) : (s.setPair p lo hi v i).house = s.house := (rfl)
@[simp] theorem State.setPair_ptp (s : State) (p : Nat) (lo hi : Fld) (v i : Nat) : (s.setPair p lo hi v i).ptp = s.ptp := (rfl)
@[simp] theorem State.setPair_touts (s : State) (p : Nat) (lo hi : Fld) (v i : Nat) : (s.setPair p lo hi v i).touts = s.touts := (rfl)
@[simp] theorem State.setPair_tcaps (s : State) (p : Nat) (lo hi : Fld) (v i : Nat) : (s.setPair p lo hi v i).tcaps = s.tcaps := (rfl)
@[simp] theorem State.setPair_ppsHigh (s : State) (p : Nat) (lo hi : Fld) (v i : Nat) : (s.setPair p lo hi v i).ppsHigh = s.ppsHigh := (rfl)
@[simp] theorem State.setPair_servos (s : State) (p : Nat) (lo hi : Fld) (v i : Nat) : (s.setPair p lo hi v i).servos = s.servos := (rfl)
@[simp] theorem State.setPair_evt (s : State) (p : Nat) (lo hi : Fld) (v i : Nat) : (s.setPair p lo hi v i).evt = s.evt := (rfl)
@[simp] theorem State.setPair_dgs (s : State) (p : Nat) (lo hi : Fld) (v i : Nat) : (s.setPair p lo hi v i).dgs = s.dgs := (rfl)
@[simp] theorem State.setPair_resp (s : State) (p : Nat) (lo hi : Fld) (v i : Nat) : (s.setPair p lo hi v i).resp = s.resp := (rfl)
@[simp] theorem State.setPair_respLoad (s : State) (p : Nat) (lo hi : Fld) (v i : Nat) : (s.setPair p lo hi v i).respLoad = s.respLoad := (rfl)
@[simp] theorem State.setPair_cap (s : State) (p : Nat) (lo hi : Fld) (v i : Nat) : (s.setPair p lo hi v i).cap = s.cap := (rfl)
@[simp] theorem State.setPair_corrTouched (s : State) (p : Nat) (lo hi : Fld) (v i : Nat) : (s.setPair p lo hi v i).corrTouched = s.corrTouched := (rfl)
@[simp] theorem State.setPair_play (s : State) (p : Nat) (lo hi : Fld) (v i : Nat) : (s.setPair p lo hi v i).play = s.play := (rfl)
@[simp] theorem State.setPair_flashMem (s : State) (p : Nat) (lo hi : Fld) (v i : Nat) : (s.setPair p lo hi v i).flashMem = s.flashMem := (rfl)
@[simp] theorem State.setPair_flashOp (s : State) (p : Nat) (lo hi : Fld) (v i : Nat) : (s.setPair p lo hi v i).flashOp = s.flashOp := (rfl)
@[simp] theorem State.setPair_drives (s : State) (p : Nat) (lo hi : Fld) (v i : Nat) : (s.setPair p lo hi v i).drives = s.drives := (rfl)
@[simp] theorem State.setPair_storeOp (s : State) (p : Nat) (lo hi : Fld) (v i : Nat) : (s.setPair p lo hi v i).storeOp = s.storeOp := (rfl)
@[simp] theorem State.setPair_storeWait (s : State) (p : Nat) (lo hi : Fld) (v i : Nat) : (s.setPair p lo hi v i).storeWait = s.storeWait := (rfl)
@[simp] theorem State.setPair_job (s : State) (p : Nat) (lo hi : Fld) (v i : Nat) : (s.setPair p lo hi v i).job = s.job := (rfl)
@[simp] theorem State.setPair_aborts (s : State) (p : Nat) (lo hi : Fld) (v i : Nat) : (s.setPair p lo hi v i).aborts = s.aborts := (rfl)
@[simp] theorem State.setPair_panic (s : State) (p : Nat) (lo hi : Fld) (v i : Nat) : (s.setPair p lo hi v i).panic = s.panic := (rfl)
@[simp] theorem State.setPair_rateWait (s : State) (p : Nat) (lo hi : Fld) (v i : Nat) : (s.setPair p lo hi v i).rateWait = s.rateWait := (rfl)
@[simp] theorem State.setPair_powerReq (s : State) (p : Nat) (lo hi : Fld) (v i : Nat) : (s.setPair p lo hi v i).powerReq = s.powerReq := (rfl)
@[simp] theorem State.setPair_image (s : State) (p : Nat) (lo hi : Fld) (v i : Nat) : (s.setPair p lo hi v i).image = s.image := (rfl)
@[simp] theorem State.setPair_bar4 (s : State) (p : Nat) (lo hi : Fld) (v i : Nat) : (s.setPair p lo hi v i).bar4 = s.bar4 := (rfl)
@[simp] theorem State.setPair_cfgSpace (s : State) (p : Nat) (lo hi : Fld) (v i : Nat) : (s.setPair p lo hi v i).cfgSpace = s.cfgSpace := (rfl)
@[simp] theorem State.setPair_tap (s : State) (p : Nat) (lo hi : Fld) (v i : Nat) : (s.setPair p lo hi v i).tap = s.tap := (rfl)
@[simp] theorem State.setPair_lines (s : State) (p : Nat) (lo hi : Fld) (v i : Nat) : (s.setPair p lo hi v i).lines = s.lines := (rfl)
@[simp] theorem State.setPair_linkRt (s : State) (p : Nat) (lo hi : Fld) (v i : Nat) : (s.setPair p lo hi v i).linkRt = s.linkRt := (rfl)
@[simp] theorem State.setPair_rateTo (s : State) (p : Nat) (lo hi : Fld) (v i : Nat) : (s.setPair p lo hi v i).rateTo = s.rateTo := (rfl)
@[simp] theorem State.setPair_bar2Held (s : State) (p : Nat) (lo hi : Fld) (v i : Nat) : (s.setPair p lo hi v i).bar2Held = s.bar2Held := (rfl)
@[simp] theorem State.setPair_ff (s : State) (p : Nat) (lo hi : Fld) (v i : Nat) (q : Nat) (g : Fld) (m : Nat) : (s.setPair p lo hi v i).ff q g m = s.ff q g m := (rfl)
@[simp] theorem State.setPair_now (s : State) (p : Nat) (lo hi : Fld) (v i : Nat) : (s.setPair p lo hi v i).now = s.now := (rfl)
@[simp] theorem State.setPair_ring (s : State) (p : Nat) (lo hi : Fld) (v i : Nat) (n' : Nat) : (s.setPair p lo hi v i).ring n' = s.ring n' := (rfl)
@[simp] theorem State.setCond_pending (s : State) (p k : Nat) : (s.setCond p k).pending = s.pending := (rfl)
@[simp] theorem State.setCond_free (s : State) (p k : Nat) : (s.setCond p k).free = s.free := (rfl)
@[simp] theorem State.setCond_out (s : State) (p k : Nat) : (s.setCond p k).out = s.out := (rfl)
@[simp] theorem State.setCond_force (s : State) (p k : Nat) : (s.setCond p k).force = s.force := (rfl)
@[simp] theorem State.setCond_latch (s : State) (p k : Nat) : (s.setCond p k).latch = s.latch := (rfl)
@[simp] theorem State.setCond_lowHalf (s : State) (p k : Nat) : (s.setCond p k).lowHalf = s.lowHalf := (rfl)
@[simp] theorem State.setCond_mem (s : State) (p k : Nat) : (s.setCond p k).mem = s.mem := (rfl)
@[simp] theorem State.setCond_hostMem (s : State) (p k : Nat) : (s.setCond p k).hostMem = s.hostMem := (rfl)
@[simp] theorem State.setCond_rings (s : State) (p k : Nat) : (s.setCond p k).rings = s.rings := (rfl)
@[simp] theorem State.setCond_stale (s : State) (p k : Nat) : (s.setCond p k).stale = s.stale := (rfl)
@[simp] theorem State.setCond_commands (s : State) (p k : Nat) : (s.setCond p k).commands = s.commands := (rfl)
@[simp] theorem State.setCond_clk (s : State) (p k : Nat) : (s.setCond p k).clk = s.clk := (rfl)
@[simp] theorem State.setCond_pow (s : State) (p k : Nat) : (s.setCond p k).pow = s.pow := (rfl)
@[simp] theorem State.setCond_cyc (s : State) (p k : Nat) : (s.setCond p k).cyc = s.cyc := (rfl)
@[simp] theorem State.setCond_flows (s : State) (p k : Nat) : (s.setCond p k).flows = s.flows := (rfl)
@[simp] theorem State.setCond_ports (s : State) (p k : Nat) : (s.setCond p k).ports = s.ports := (rfl)
@[simp] theorem State.setCond_views (s : State) (p k : Nat) : (s.setCond p k).views = s.views := (rfl)
@[simp] theorem State.setCond_feeds (s : State) (p k : Nat) : (s.setCond p k).feeds = s.feeds := (rfl)
@[simp] theorem State.setCond_lanes (s : State) (p k : Nat) : (s.setCond p k).lanes = s.lanes := (rfl)
@[simp] theorem State.setCond_busy (s : State) (p k : Nat) : (s.setCond p k).busy = s.busy := (rfl)
@[simp] theorem State.setCond_chans (s : State) (p k : Nat) : (s.setCond p k).chans = s.chans := (rfl)
@[simp] theorem State.setCond_credits (s : State) (p k : Nat) : (s.setCond p k).credits = s.credits := (rfl)
@[simp] theorem State.setCond_house (s : State) (p k : Nat) : (s.setCond p k).house = s.house := (rfl)
@[simp] theorem State.setCond_ptp (s : State) (p k : Nat) : (s.setCond p k).ptp = s.ptp := (rfl)
@[simp] theorem State.setCond_touts (s : State) (p k : Nat) : (s.setCond p k).touts = s.touts := (rfl)
@[simp] theorem State.setCond_tcaps (s : State) (p k : Nat) : (s.setCond p k).tcaps = s.tcaps := (rfl)
@[simp] theorem State.setCond_ppsHigh (s : State) (p k : Nat) : (s.setCond p k).ppsHigh = s.ppsHigh := (rfl)
@[simp] theorem State.setCond_servos (s : State) (p k : Nat) : (s.setCond p k).servos = s.servos := (rfl)
@[simp] theorem State.setCond_evt (s : State) (p k : Nat) : (s.setCond p k).evt = s.evt := (rfl)
@[simp] theorem State.setCond_dgs (s : State) (p k : Nat) : (s.setCond p k).dgs = s.dgs := (rfl)
@[simp] theorem State.setCond_resp (s : State) (p k : Nat) : (s.setCond p k).resp = s.resp := (rfl)
@[simp] theorem State.setCond_respLoad (s : State) (p k : Nat) : (s.setCond p k).respLoad = s.respLoad := (rfl)
@[simp] theorem State.setCond_cap (s : State) (p k : Nat) : (s.setCond p k).cap = s.cap := (rfl)
@[simp] theorem State.setCond_corrTouched (s : State) (p k : Nat) : (s.setCond p k).corrTouched = s.corrTouched := (rfl)
@[simp] theorem State.setCond_play (s : State) (p k : Nat) : (s.setCond p k).play = s.play := (rfl)
@[simp] theorem State.setCond_flashMem (s : State) (p k : Nat) : (s.setCond p k).flashMem = s.flashMem := (rfl)
@[simp] theorem State.setCond_flashOp (s : State) (p k : Nat) : (s.setCond p k).flashOp = s.flashOp := (rfl)
@[simp] theorem State.setCond_drives (s : State) (p k : Nat) : (s.setCond p k).drives = s.drives := (rfl)
@[simp] theorem State.setCond_storeOp (s : State) (p k : Nat) : (s.setCond p k).storeOp = s.storeOp := (rfl)
@[simp] theorem State.setCond_storeWait (s : State) (p k : Nat) : (s.setCond p k).storeWait = s.storeWait := (rfl)
@[simp] theorem State.setCond_job (s : State) (p k : Nat) : (s.setCond p k).job = s.job := (rfl)
@[simp] theorem State.setCond_aborts (s : State) (p k : Nat) : (s.setCond p k).aborts = s.aborts := (rfl)
@[simp] theorem State.setCond_panic (s : State) (p k : Nat) : (s.setCond p k).panic = s.panic := (rfl)
@[simp] theorem State.setCond_rateWait (s : State) (p k : Nat) : (s.setCond p k).rateWait = s.rateWait := (rfl)
@[simp] theorem State.setCond_powerReq (s : State) (p k : Nat) : (s.setCond p k).powerReq = s.powerReq := (rfl)
@[simp] theorem State.setCond_image (s : State) (p k : Nat) : (s.setCond p k).image = s.image := (rfl)
@[simp] theorem State.setCond_bar4 (s : State) (p k : Nat) : (s.setCond p k).bar4 = s.bar4 := (rfl)
@[simp] theorem State.setCond_cfgSpace (s : State) (p k : Nat) : (s.setCond p k).cfgSpace = s.cfgSpace := (rfl)
@[simp] theorem State.setCond_tap (s : State) (p k : Nat) : (s.setCond p k).tap = s.tap := (rfl)
@[simp] theorem State.setCond_lines (s : State) (p k : Nat) : (s.setCond p k).lines = s.lines := (rfl)
@[simp] theorem State.setCond_linkRt (s : State) (p k : Nat) : (s.setCond p k).linkRt = s.linkRt := (rfl)
@[simp] theorem State.setCond_rateTo (s : State) (p k : Nat) : (s.setCond p k).rateTo = s.rateTo := (rfl)
@[simp] theorem State.setCond_bar2Held (s : State) (p k : Nat) : (s.setCond p k).bar2Held = s.bar2Held := (rfl)
@[simp] theorem State.setCond_ff (s : State) (p k : Nat) (q : Nat) (g : Fld) (m : Nat) : (s.setCond p k).ff q g m = s.ff q g m := (rfl)
@[simp] theorem State.setCond_now (s : State) (p k : Nat) : (s.setCond p k).now = s.now := (rfl)
@[simp] theorem State.setCond_ring (s : State) (p k : Nat) (n' : Nat) : (s.setCond p k).ring n' = s.ring n' := (rfl)
@[simp] theorem State.setPhase_pending (s : State) (n : Nat) : (s.setPhase n).pending = s.pending := State.setFld_pending s pSys F.SYS_STAT_BOOT_PHASE n 0
@[simp] theorem State.setPhase_free (s : State) (n : Nat) : (s.setPhase n).free = s.free := State.setFld_free s pSys F.SYS_STAT_BOOT_PHASE n 0
@[simp] theorem State.setPhase_out (s : State) (n : Nat) : (s.setPhase n).out = s.out := State.setFld_out s pSys F.SYS_STAT_BOOT_PHASE n 0
@[simp] theorem State.setPhase_force (s : State) (n : Nat) : (s.setPhase n).force = s.force := State.setFld_force s pSys F.SYS_STAT_BOOT_PHASE n 0
@[simp] theorem State.setPhase_latch (s : State) (n : Nat) : (s.setPhase n).latch = s.latch := State.setFld_latch s pSys F.SYS_STAT_BOOT_PHASE n 0
@[simp] theorem State.setPhase_lowHalf (s : State) (n : Nat) : (s.setPhase n).lowHalf = s.lowHalf := State.setFld_lowHalf s pSys F.SYS_STAT_BOOT_PHASE n 0
@[simp] theorem State.setPhase_mem (s : State) (n : Nat) : (s.setPhase n).mem = s.mem := State.setFld_mem s pSys F.SYS_STAT_BOOT_PHASE n 0
@[simp] theorem State.setPhase_hostMem (s : State) (n : Nat) : (s.setPhase n).hostMem = s.hostMem := State.setFld_hostMem s pSys F.SYS_STAT_BOOT_PHASE n 0
@[simp] theorem State.setPhase_rings (s : State) (n : Nat) : (s.setPhase n).rings = s.rings := State.setFld_rings s pSys F.SYS_STAT_BOOT_PHASE n 0
@[simp] theorem State.setPhase_stale (s : State) (n : Nat) : (s.setPhase n).stale = s.stale := State.setFld_stale s pSys F.SYS_STAT_BOOT_PHASE n 0
@[simp] theorem State.setPhase_commands (s : State) (n : Nat) : (s.setPhase n).commands = s.commands := State.setFld_commands s pSys F.SYS_STAT_BOOT_PHASE n 0
@[simp] theorem State.setPhase_clk (s : State) (n : Nat) : (s.setPhase n).clk = s.clk := State.setFld_clk s pSys F.SYS_STAT_BOOT_PHASE n 0
@[simp] theorem State.setPhase_pow (s : State) (n : Nat) : (s.setPhase n).pow = s.pow := State.setFld_pow s pSys F.SYS_STAT_BOOT_PHASE n 0
@[simp] theorem State.setPhase_cyc (s : State) (n : Nat) : (s.setPhase n).cyc = s.cyc := State.setFld_cyc s pSys F.SYS_STAT_BOOT_PHASE n 0
@[simp] theorem State.setPhase_flows (s : State) (n : Nat) : (s.setPhase n).flows = s.flows := State.setFld_flows s pSys F.SYS_STAT_BOOT_PHASE n 0
@[simp] theorem State.setPhase_ports (s : State) (n : Nat) : (s.setPhase n).ports = s.ports := State.setFld_ports s pSys F.SYS_STAT_BOOT_PHASE n 0
@[simp] theorem State.setPhase_views (s : State) (n : Nat) : (s.setPhase n).views = s.views := State.setFld_views s pSys F.SYS_STAT_BOOT_PHASE n 0
@[simp] theorem State.setPhase_feeds (s : State) (n : Nat) : (s.setPhase n).feeds = s.feeds := State.setFld_feeds s pSys F.SYS_STAT_BOOT_PHASE n 0
@[simp] theorem State.setPhase_lanes (s : State) (n : Nat) : (s.setPhase n).lanes = s.lanes := State.setFld_lanes s pSys F.SYS_STAT_BOOT_PHASE n 0
@[simp] theorem State.setPhase_busy (s : State) (n : Nat) : (s.setPhase n).busy = s.busy := State.setFld_busy s pSys F.SYS_STAT_BOOT_PHASE n 0
@[simp] theorem State.setPhase_chans (s : State) (n : Nat) : (s.setPhase n).chans = s.chans := State.setFld_chans s pSys F.SYS_STAT_BOOT_PHASE n 0
@[simp] theorem State.setPhase_credits (s : State) (n : Nat) : (s.setPhase n).credits = s.credits := State.setFld_credits s pSys F.SYS_STAT_BOOT_PHASE n 0
@[simp] theorem State.setPhase_house (s : State) (n : Nat) : (s.setPhase n).house = s.house := State.setFld_house s pSys F.SYS_STAT_BOOT_PHASE n 0
@[simp] theorem State.setPhase_ptp (s : State) (n : Nat) : (s.setPhase n).ptp = s.ptp := State.setFld_ptp s pSys F.SYS_STAT_BOOT_PHASE n 0
@[simp] theorem State.setPhase_touts (s : State) (n : Nat) : (s.setPhase n).touts = s.touts := State.setFld_touts s pSys F.SYS_STAT_BOOT_PHASE n 0
@[simp] theorem State.setPhase_tcaps (s : State) (n : Nat) : (s.setPhase n).tcaps = s.tcaps := State.setFld_tcaps s pSys F.SYS_STAT_BOOT_PHASE n 0
@[simp] theorem State.setPhase_ppsHigh (s : State) (n : Nat) : (s.setPhase n).ppsHigh = s.ppsHigh := State.setFld_ppsHigh s pSys F.SYS_STAT_BOOT_PHASE n 0
@[simp] theorem State.setPhase_servos (s : State) (n : Nat) : (s.setPhase n).servos = s.servos := State.setFld_servos s pSys F.SYS_STAT_BOOT_PHASE n 0
@[simp] theorem State.setPhase_evt (s : State) (n : Nat) : (s.setPhase n).evt = s.evt := State.setFld_evt s pSys F.SYS_STAT_BOOT_PHASE n 0
@[simp] theorem State.setPhase_dgs (s : State) (n : Nat) : (s.setPhase n).dgs = s.dgs := State.setFld_dgs s pSys F.SYS_STAT_BOOT_PHASE n 0
@[simp] theorem State.setPhase_resp (s : State) (n : Nat) : (s.setPhase n).resp = s.resp := State.setFld_resp s pSys F.SYS_STAT_BOOT_PHASE n 0
@[simp] theorem State.setPhase_respLoad (s : State) (n : Nat) : (s.setPhase n).respLoad = s.respLoad := State.setFld_respLoad s pSys F.SYS_STAT_BOOT_PHASE n 0
@[simp] theorem State.setPhase_cap (s : State) (n : Nat) : (s.setPhase n).cap = s.cap := State.setFld_cap s pSys F.SYS_STAT_BOOT_PHASE n 0
@[simp] theorem State.setPhase_corrTouched (s : State) (n : Nat) : (s.setPhase n).corrTouched = s.corrTouched := State.setFld_corrTouched s pSys F.SYS_STAT_BOOT_PHASE n 0
@[simp] theorem State.setPhase_play (s : State) (n : Nat) : (s.setPhase n).play = s.play := State.setFld_play s pSys F.SYS_STAT_BOOT_PHASE n 0
@[simp] theorem State.setPhase_flashMem (s : State) (n : Nat) : (s.setPhase n).flashMem = s.flashMem := State.setFld_flashMem s pSys F.SYS_STAT_BOOT_PHASE n 0
@[simp] theorem State.setPhase_flashOp (s : State) (n : Nat) : (s.setPhase n).flashOp = s.flashOp := State.setFld_flashOp s pSys F.SYS_STAT_BOOT_PHASE n 0
@[simp] theorem State.setPhase_drives (s : State) (n : Nat) : (s.setPhase n).drives = s.drives := State.setFld_drives s pSys F.SYS_STAT_BOOT_PHASE n 0
@[simp] theorem State.setPhase_storeOp (s : State) (n : Nat) : (s.setPhase n).storeOp = s.storeOp := State.setFld_storeOp s pSys F.SYS_STAT_BOOT_PHASE n 0
@[simp] theorem State.setPhase_storeWait (s : State) (n : Nat) : (s.setPhase n).storeWait = s.storeWait := State.setFld_storeWait s pSys F.SYS_STAT_BOOT_PHASE n 0
@[simp] theorem State.setPhase_job (s : State) (n : Nat) : (s.setPhase n).job = s.job := State.setFld_job s pSys F.SYS_STAT_BOOT_PHASE n 0
@[simp] theorem State.setPhase_aborts (s : State) (n : Nat) : (s.setPhase n).aborts = s.aborts := State.setFld_aborts s pSys F.SYS_STAT_BOOT_PHASE n 0
@[simp] theorem State.setPhase_panic (s : State) (n : Nat) : (s.setPhase n).panic = s.panic := State.setFld_panic s pSys F.SYS_STAT_BOOT_PHASE n 0
@[simp] theorem State.setPhase_rateWait (s : State) (n : Nat) : (s.setPhase n).rateWait = s.rateWait := State.setFld_rateWait s pSys F.SYS_STAT_BOOT_PHASE n 0
@[simp] theorem State.setPhase_powerReq (s : State) (n : Nat) : (s.setPhase n).powerReq = s.powerReq := State.setFld_powerReq s pSys F.SYS_STAT_BOOT_PHASE n 0
@[simp] theorem State.setPhase_image (s : State) (n : Nat) : (s.setPhase n).image = s.image := State.setFld_image s pSys F.SYS_STAT_BOOT_PHASE n 0
@[simp] theorem State.setPhase_bar4 (s : State) (n : Nat) : (s.setPhase n).bar4 = s.bar4 := State.setFld_bar4 s pSys F.SYS_STAT_BOOT_PHASE n 0
@[simp] theorem State.setPhase_cfgSpace (s : State) (n : Nat) : (s.setPhase n).cfgSpace = s.cfgSpace := State.setFld_cfgSpace s pSys F.SYS_STAT_BOOT_PHASE n 0
@[simp] theorem State.setPhase_tap (s : State) (n : Nat) : (s.setPhase n).tap = s.tap := State.setFld_tap s pSys F.SYS_STAT_BOOT_PHASE n 0
@[simp] theorem State.setPhase_lines (s : State) (n : Nat) : (s.setPhase n).lines = s.lines := State.setFld_lines s pSys F.SYS_STAT_BOOT_PHASE n 0
@[simp] theorem State.setPhase_linkRt (s : State) (n : Nat) : (s.setPhase n).linkRt = s.linkRt := State.setFld_linkRt s pSys F.SYS_STAT_BOOT_PHASE n 0
@[simp] theorem State.setPhase_rateTo (s : State) (n : Nat) : (s.setPhase n).rateTo = s.rateTo := State.setFld_rateTo s pSys F.SYS_STAT_BOOT_PHASE n 0
@[simp] theorem State.setPhase_bar2Held (s : State) (n : Nat) : (s.setPhase n).bar2Held = s.bar2Held := State.setFld_bar2Held s pSys F.SYS_STAT_BOOT_PHASE n 0
@[simp] theorem State.setPhase_ff (s : State) (n : Nat) (q : Nat) (g : Fld) (m : Nat) : (s.setPhase n).ff q g m = s.ff q g m := State.setFld_ff s pSys F.SYS_STAT_BOOT_PHASE n 0 q g m
@[simp] theorem State.setPhase_now (s : State) (n : Nat) : (s.setPhase n).now = s.now := State.setFld_now s pSys F.SYS_STAT_BOOT_PHASE n 0
@[simp] theorem State.setPhase_ring (s : State) (n : Nat) (n' : Nat) : (s.setPhase n).ring n' = s.ring n' := State.setFld_ring s pSys F.SYS_STAT_BOOT_PHASE n 0 n'
@[simp] theorem State.setPstate_pending (s : State) (n : Nat) : (s.setPstate n).pending = s.pending := State.setFld_pending s pEmber F.EMBER_STAT_PSTATE n 0
@[simp] theorem State.setPstate_free (s : State) (n : Nat) : (s.setPstate n).free = s.free := State.setFld_free s pEmber F.EMBER_STAT_PSTATE n 0
@[simp] theorem State.setPstate_out (s : State) (n : Nat) : (s.setPstate n).out = s.out := State.setFld_out s pEmber F.EMBER_STAT_PSTATE n 0
@[simp] theorem State.setPstate_force (s : State) (n : Nat) : (s.setPstate n).force = s.force := State.setFld_force s pEmber F.EMBER_STAT_PSTATE n 0
@[simp] theorem State.setPstate_latch (s : State) (n : Nat) : (s.setPstate n).latch = s.latch := State.setFld_latch s pEmber F.EMBER_STAT_PSTATE n 0
@[simp] theorem State.setPstate_lowHalf (s : State) (n : Nat) : (s.setPstate n).lowHalf = s.lowHalf := State.setFld_lowHalf s pEmber F.EMBER_STAT_PSTATE n 0
@[simp] theorem State.setPstate_mem (s : State) (n : Nat) : (s.setPstate n).mem = s.mem := State.setFld_mem s pEmber F.EMBER_STAT_PSTATE n 0
@[simp] theorem State.setPstate_hostMem (s : State) (n : Nat) : (s.setPstate n).hostMem = s.hostMem := State.setFld_hostMem s pEmber F.EMBER_STAT_PSTATE n 0
@[simp] theorem State.setPstate_rings (s : State) (n : Nat) : (s.setPstate n).rings = s.rings := State.setFld_rings s pEmber F.EMBER_STAT_PSTATE n 0
@[simp] theorem State.setPstate_stale (s : State) (n : Nat) : (s.setPstate n).stale = s.stale := State.setFld_stale s pEmber F.EMBER_STAT_PSTATE n 0
@[simp] theorem State.setPstate_commands (s : State) (n : Nat) : (s.setPstate n).commands = s.commands := State.setFld_commands s pEmber F.EMBER_STAT_PSTATE n 0
@[simp] theorem State.setPstate_clk (s : State) (n : Nat) : (s.setPstate n).clk = s.clk := State.setFld_clk s pEmber F.EMBER_STAT_PSTATE n 0
@[simp] theorem State.setPstate_pow (s : State) (n : Nat) : (s.setPstate n).pow = s.pow := State.setFld_pow s pEmber F.EMBER_STAT_PSTATE n 0
@[simp] theorem State.setPstate_cyc (s : State) (n : Nat) : (s.setPstate n).cyc = s.cyc := State.setFld_cyc s pEmber F.EMBER_STAT_PSTATE n 0
@[simp] theorem State.setPstate_flows (s : State) (n : Nat) : (s.setPstate n).flows = s.flows := State.setFld_flows s pEmber F.EMBER_STAT_PSTATE n 0
@[simp] theorem State.setPstate_ports (s : State) (n : Nat) : (s.setPstate n).ports = s.ports := State.setFld_ports s pEmber F.EMBER_STAT_PSTATE n 0
@[simp] theorem State.setPstate_views (s : State) (n : Nat) : (s.setPstate n).views = s.views := State.setFld_views s pEmber F.EMBER_STAT_PSTATE n 0
@[simp] theorem State.setPstate_feeds (s : State) (n : Nat) : (s.setPstate n).feeds = s.feeds := State.setFld_feeds s pEmber F.EMBER_STAT_PSTATE n 0
@[simp] theorem State.setPstate_lanes (s : State) (n : Nat) : (s.setPstate n).lanes = s.lanes := State.setFld_lanes s pEmber F.EMBER_STAT_PSTATE n 0
@[simp] theorem State.setPstate_busy (s : State) (n : Nat) : (s.setPstate n).busy = s.busy := State.setFld_busy s pEmber F.EMBER_STAT_PSTATE n 0
@[simp] theorem State.setPstate_chans (s : State) (n : Nat) : (s.setPstate n).chans = s.chans := State.setFld_chans s pEmber F.EMBER_STAT_PSTATE n 0
@[simp] theorem State.setPstate_credits (s : State) (n : Nat) : (s.setPstate n).credits = s.credits := State.setFld_credits s pEmber F.EMBER_STAT_PSTATE n 0
@[simp] theorem State.setPstate_house (s : State) (n : Nat) : (s.setPstate n).house = s.house := State.setFld_house s pEmber F.EMBER_STAT_PSTATE n 0
@[simp] theorem State.setPstate_ptp (s : State) (n : Nat) : (s.setPstate n).ptp = s.ptp := State.setFld_ptp s pEmber F.EMBER_STAT_PSTATE n 0
@[simp] theorem State.setPstate_touts (s : State) (n : Nat) : (s.setPstate n).touts = s.touts := State.setFld_touts s pEmber F.EMBER_STAT_PSTATE n 0
@[simp] theorem State.setPstate_tcaps (s : State) (n : Nat) : (s.setPstate n).tcaps = s.tcaps := State.setFld_tcaps s pEmber F.EMBER_STAT_PSTATE n 0
@[simp] theorem State.setPstate_ppsHigh (s : State) (n : Nat) : (s.setPstate n).ppsHigh = s.ppsHigh := State.setFld_ppsHigh s pEmber F.EMBER_STAT_PSTATE n 0
@[simp] theorem State.setPstate_servos (s : State) (n : Nat) : (s.setPstate n).servos = s.servos := State.setFld_servos s pEmber F.EMBER_STAT_PSTATE n 0
@[simp] theorem State.setPstate_evt (s : State) (n : Nat) : (s.setPstate n).evt = s.evt := State.setFld_evt s pEmber F.EMBER_STAT_PSTATE n 0
@[simp] theorem State.setPstate_dgs (s : State) (n : Nat) : (s.setPstate n).dgs = s.dgs := State.setFld_dgs s pEmber F.EMBER_STAT_PSTATE n 0
@[simp] theorem State.setPstate_resp (s : State) (n : Nat) : (s.setPstate n).resp = s.resp := State.setFld_resp s pEmber F.EMBER_STAT_PSTATE n 0
@[simp] theorem State.setPstate_respLoad (s : State) (n : Nat) : (s.setPstate n).respLoad = s.respLoad := State.setFld_respLoad s pEmber F.EMBER_STAT_PSTATE n 0
@[simp] theorem State.setPstate_cap (s : State) (n : Nat) : (s.setPstate n).cap = s.cap := State.setFld_cap s pEmber F.EMBER_STAT_PSTATE n 0
@[simp] theorem State.setPstate_corrTouched (s : State) (n : Nat) : (s.setPstate n).corrTouched = s.corrTouched := State.setFld_corrTouched s pEmber F.EMBER_STAT_PSTATE n 0
@[simp] theorem State.setPstate_play (s : State) (n : Nat) : (s.setPstate n).play = s.play := State.setFld_play s pEmber F.EMBER_STAT_PSTATE n 0
@[simp] theorem State.setPstate_flashMem (s : State) (n : Nat) : (s.setPstate n).flashMem = s.flashMem := State.setFld_flashMem s pEmber F.EMBER_STAT_PSTATE n 0
@[simp] theorem State.setPstate_flashOp (s : State) (n : Nat) : (s.setPstate n).flashOp = s.flashOp := State.setFld_flashOp s pEmber F.EMBER_STAT_PSTATE n 0
@[simp] theorem State.setPstate_drives (s : State) (n : Nat) : (s.setPstate n).drives = s.drives := State.setFld_drives s pEmber F.EMBER_STAT_PSTATE n 0
@[simp] theorem State.setPstate_storeOp (s : State) (n : Nat) : (s.setPstate n).storeOp = s.storeOp := State.setFld_storeOp s pEmber F.EMBER_STAT_PSTATE n 0
@[simp] theorem State.setPstate_storeWait (s : State) (n : Nat) : (s.setPstate n).storeWait = s.storeWait := State.setFld_storeWait s pEmber F.EMBER_STAT_PSTATE n 0
@[simp] theorem State.setPstate_job (s : State) (n : Nat) : (s.setPstate n).job = s.job := State.setFld_job s pEmber F.EMBER_STAT_PSTATE n 0
@[simp] theorem State.setPstate_aborts (s : State) (n : Nat) : (s.setPstate n).aborts = s.aborts := State.setFld_aborts s pEmber F.EMBER_STAT_PSTATE n 0
@[simp] theorem State.setPstate_panic (s : State) (n : Nat) : (s.setPstate n).panic = s.panic := State.setFld_panic s pEmber F.EMBER_STAT_PSTATE n 0
@[simp] theorem State.setPstate_rateWait (s : State) (n : Nat) : (s.setPstate n).rateWait = s.rateWait := State.setFld_rateWait s pEmber F.EMBER_STAT_PSTATE n 0
@[simp] theorem State.setPstate_powerReq (s : State) (n : Nat) : (s.setPstate n).powerReq = s.powerReq := State.setFld_powerReq s pEmber F.EMBER_STAT_PSTATE n 0
@[simp] theorem State.setPstate_image (s : State) (n : Nat) : (s.setPstate n).image = s.image := State.setFld_image s pEmber F.EMBER_STAT_PSTATE n 0
@[simp] theorem State.setPstate_bar4 (s : State) (n : Nat) : (s.setPstate n).bar4 = s.bar4 := State.setFld_bar4 s pEmber F.EMBER_STAT_PSTATE n 0
@[simp] theorem State.setPstate_cfgSpace (s : State) (n : Nat) : (s.setPstate n).cfgSpace = s.cfgSpace := State.setFld_cfgSpace s pEmber F.EMBER_STAT_PSTATE n 0
@[simp] theorem State.setPstate_tap (s : State) (n : Nat) : (s.setPstate n).tap = s.tap := State.setFld_tap s pEmber F.EMBER_STAT_PSTATE n 0
@[simp] theorem State.setPstate_lines (s : State) (n : Nat) : (s.setPstate n).lines = s.lines := State.setFld_lines s pEmber F.EMBER_STAT_PSTATE n 0
@[simp] theorem State.setPstate_linkRt (s : State) (n : Nat) : (s.setPstate n).linkRt = s.linkRt := State.setFld_linkRt s pEmber F.EMBER_STAT_PSTATE n 0
@[simp] theorem State.setPstate_rateTo (s : State) (n : Nat) : (s.setPstate n).rateTo = s.rateTo := State.setFld_rateTo s pEmber F.EMBER_STAT_PSTATE n 0
@[simp] theorem State.setPstate_bar2Held (s : State) (n : Nat) : (s.setPstate n).bar2Held = s.bar2Held := State.setFld_bar2Held s pEmber F.EMBER_STAT_PSTATE n 0
@[simp] theorem State.setPstate_ff (s : State) (n : Nat) (q : Nat) (g : Fld) (m : Nat) : (s.setPstate n).ff q g m = s.ff q g m := State.setFld_ff s pEmber F.EMBER_STAT_PSTATE n 0 q g m
@[simp] theorem State.setPstate_now (s : State) (n : Nat) : (s.setPstate n).now = s.now := State.setFld_now s pEmber F.EMBER_STAT_PSTATE n 0
@[simp] theorem State.setPstate_ring (s : State) (n : Nat) (n' : Nat) : (s.setPstate n).ring n' = s.ring n' := State.setFld_ring s pEmber F.EMBER_STAT_PSTATE n 0 n'
@[simp] theorem State.setLn_pending (s : State) (l : Nat) (f : Fld) (v : Nat) : (s.setLn l f v).pending = s.pending := State.setFld_pending s (pSer (l / 8)) f v (l % 8)
@[simp] theorem State.setLn_free (s : State) (l : Nat) (f : Fld) (v : Nat) : (s.setLn l f v).free = s.free := State.setFld_free s (pSer (l / 8)) f v (l % 8)
@[simp] theorem State.setLn_out (s : State) (l : Nat) (f : Fld) (v : Nat) : (s.setLn l f v).out = s.out := State.setFld_out s (pSer (l / 8)) f v (l % 8)
@[simp] theorem State.setLn_force (s : State) (l : Nat) (f : Fld) (v : Nat) : (s.setLn l f v).force = s.force := State.setFld_force s (pSer (l / 8)) f v (l % 8)
@[simp] theorem State.setLn_latch (s : State) (l : Nat) (f : Fld) (v : Nat) : (s.setLn l f v).latch = s.latch := State.setFld_latch s (pSer (l / 8)) f v (l % 8)
@[simp] theorem State.setLn_lowHalf (s : State) (l : Nat) (f : Fld) (v : Nat) : (s.setLn l f v).lowHalf = s.lowHalf := State.setFld_lowHalf s (pSer (l / 8)) f v (l % 8)
@[simp] theorem State.setLn_mem (s : State) (l : Nat) (f : Fld) (v : Nat) : (s.setLn l f v).mem = s.mem := State.setFld_mem s (pSer (l / 8)) f v (l % 8)
@[simp] theorem State.setLn_hostMem (s : State) (l : Nat) (f : Fld) (v : Nat) : (s.setLn l f v).hostMem = s.hostMem := State.setFld_hostMem s (pSer (l / 8)) f v (l % 8)
@[simp] theorem State.setLn_rings (s : State) (l : Nat) (f : Fld) (v : Nat) : (s.setLn l f v).rings = s.rings := State.setFld_rings s (pSer (l / 8)) f v (l % 8)
@[simp] theorem State.setLn_stale (s : State) (l : Nat) (f : Fld) (v : Nat) : (s.setLn l f v).stale = s.stale := State.setFld_stale s (pSer (l / 8)) f v (l % 8)
@[simp] theorem State.setLn_commands (s : State) (l : Nat) (f : Fld) (v : Nat) : (s.setLn l f v).commands = s.commands := State.setFld_commands s (pSer (l / 8)) f v (l % 8)
@[simp] theorem State.setLn_clk (s : State) (l : Nat) (f : Fld) (v : Nat) : (s.setLn l f v).clk = s.clk := State.setFld_clk s (pSer (l / 8)) f v (l % 8)
@[simp] theorem State.setLn_pow (s : State) (l : Nat) (f : Fld) (v : Nat) : (s.setLn l f v).pow = s.pow := State.setFld_pow s (pSer (l / 8)) f v (l % 8)
@[simp] theorem State.setLn_cyc (s : State) (l : Nat) (f : Fld) (v : Nat) : (s.setLn l f v).cyc = s.cyc := State.setFld_cyc s (pSer (l / 8)) f v (l % 8)
@[simp] theorem State.setLn_flows (s : State) (l : Nat) (f : Fld) (v : Nat) : (s.setLn l f v).flows = s.flows := State.setFld_flows s (pSer (l / 8)) f v (l % 8)
@[simp] theorem State.setLn_ports (s : State) (l : Nat) (f : Fld) (v : Nat) : (s.setLn l f v).ports = s.ports := State.setFld_ports s (pSer (l / 8)) f v (l % 8)
@[simp] theorem State.setLn_views (s : State) (l : Nat) (f : Fld) (v : Nat) : (s.setLn l f v).views = s.views := State.setFld_views s (pSer (l / 8)) f v (l % 8)
@[simp] theorem State.setLn_feeds (s : State) (l : Nat) (f : Fld) (v : Nat) : (s.setLn l f v).feeds = s.feeds := State.setFld_feeds s (pSer (l / 8)) f v (l % 8)
@[simp] theorem State.setLn_lanes (s : State) (l : Nat) (f : Fld) (v : Nat) : (s.setLn l f v).lanes = s.lanes := State.setFld_lanes s (pSer (l / 8)) f v (l % 8)
@[simp] theorem State.setLn_busy (s : State) (l : Nat) (f : Fld) (v : Nat) : (s.setLn l f v).busy = s.busy := State.setFld_busy s (pSer (l / 8)) f v (l % 8)
@[simp] theorem State.setLn_chans (s : State) (l : Nat) (f : Fld) (v : Nat) : (s.setLn l f v).chans = s.chans := State.setFld_chans s (pSer (l / 8)) f v (l % 8)
@[simp] theorem State.setLn_credits (s : State) (l : Nat) (f : Fld) (v : Nat) : (s.setLn l f v).credits = s.credits := State.setFld_credits s (pSer (l / 8)) f v (l % 8)
@[simp] theorem State.setLn_house (s : State) (l : Nat) (f : Fld) (v : Nat) : (s.setLn l f v).house = s.house := State.setFld_house s (pSer (l / 8)) f v (l % 8)
@[simp] theorem State.setLn_ptp (s : State) (l : Nat) (f : Fld) (v : Nat) : (s.setLn l f v).ptp = s.ptp := State.setFld_ptp s (pSer (l / 8)) f v (l % 8)
@[simp] theorem State.setLn_touts (s : State) (l : Nat) (f : Fld) (v : Nat) : (s.setLn l f v).touts = s.touts := State.setFld_touts s (pSer (l / 8)) f v (l % 8)
@[simp] theorem State.setLn_tcaps (s : State) (l : Nat) (f : Fld) (v : Nat) : (s.setLn l f v).tcaps = s.tcaps := State.setFld_tcaps s (pSer (l / 8)) f v (l % 8)
@[simp] theorem State.setLn_ppsHigh (s : State) (l : Nat) (f : Fld) (v : Nat) : (s.setLn l f v).ppsHigh = s.ppsHigh := State.setFld_ppsHigh s (pSer (l / 8)) f v (l % 8)
@[simp] theorem State.setLn_servos (s : State) (l : Nat) (f : Fld) (v : Nat) : (s.setLn l f v).servos = s.servos := State.setFld_servos s (pSer (l / 8)) f v (l % 8)
@[simp] theorem State.setLn_evt (s : State) (l : Nat) (f : Fld) (v : Nat) : (s.setLn l f v).evt = s.evt := State.setFld_evt s (pSer (l / 8)) f v (l % 8)
@[simp] theorem State.setLn_dgs (s : State) (l : Nat) (f : Fld) (v : Nat) : (s.setLn l f v).dgs = s.dgs := State.setFld_dgs s (pSer (l / 8)) f v (l % 8)
@[simp] theorem State.setLn_resp (s : State) (l : Nat) (f : Fld) (v : Nat) : (s.setLn l f v).resp = s.resp := State.setFld_resp s (pSer (l / 8)) f v (l % 8)
@[simp] theorem State.setLn_respLoad (s : State) (l : Nat) (f : Fld) (v : Nat) : (s.setLn l f v).respLoad = s.respLoad := State.setFld_respLoad s (pSer (l / 8)) f v (l % 8)
@[simp] theorem State.setLn_cap (s : State) (l : Nat) (f : Fld) (v : Nat) : (s.setLn l f v).cap = s.cap := State.setFld_cap s (pSer (l / 8)) f v (l % 8)
@[simp] theorem State.setLn_corrTouched (s : State) (l : Nat) (f : Fld) (v : Nat) : (s.setLn l f v).corrTouched = s.corrTouched := State.setFld_corrTouched s (pSer (l / 8)) f v (l % 8)
@[simp] theorem State.setLn_play (s : State) (l : Nat) (f : Fld) (v : Nat) : (s.setLn l f v).play = s.play := State.setFld_play s (pSer (l / 8)) f v (l % 8)
@[simp] theorem State.setLn_flashMem (s : State) (l : Nat) (f : Fld) (v : Nat) : (s.setLn l f v).flashMem = s.flashMem := State.setFld_flashMem s (pSer (l / 8)) f v (l % 8)
@[simp] theorem State.setLn_flashOp (s : State) (l : Nat) (f : Fld) (v : Nat) : (s.setLn l f v).flashOp = s.flashOp := State.setFld_flashOp s (pSer (l / 8)) f v (l % 8)
@[simp] theorem State.setLn_drives (s : State) (l : Nat) (f : Fld) (v : Nat) : (s.setLn l f v).drives = s.drives := State.setFld_drives s (pSer (l / 8)) f v (l % 8)
@[simp] theorem State.setLn_storeOp (s : State) (l : Nat) (f : Fld) (v : Nat) : (s.setLn l f v).storeOp = s.storeOp := State.setFld_storeOp s (pSer (l / 8)) f v (l % 8)
@[simp] theorem State.setLn_storeWait (s : State) (l : Nat) (f : Fld) (v : Nat) : (s.setLn l f v).storeWait = s.storeWait := State.setFld_storeWait s (pSer (l / 8)) f v (l % 8)
@[simp] theorem State.setLn_job (s : State) (l : Nat) (f : Fld) (v : Nat) : (s.setLn l f v).job = s.job := State.setFld_job s (pSer (l / 8)) f v (l % 8)
@[simp] theorem State.setLn_aborts (s : State) (l : Nat) (f : Fld) (v : Nat) : (s.setLn l f v).aborts = s.aborts := State.setFld_aborts s (pSer (l / 8)) f v (l % 8)
@[simp] theorem State.setLn_panic (s : State) (l : Nat) (f : Fld) (v : Nat) : (s.setLn l f v).panic = s.panic := State.setFld_panic s (pSer (l / 8)) f v (l % 8)
@[simp] theorem State.setLn_rateWait (s : State) (l : Nat) (f : Fld) (v : Nat) : (s.setLn l f v).rateWait = s.rateWait := State.setFld_rateWait s (pSer (l / 8)) f v (l % 8)
@[simp] theorem State.setLn_powerReq (s : State) (l : Nat) (f : Fld) (v : Nat) : (s.setLn l f v).powerReq = s.powerReq := State.setFld_powerReq s (pSer (l / 8)) f v (l % 8)
@[simp] theorem State.setLn_image (s : State) (l : Nat) (f : Fld) (v : Nat) : (s.setLn l f v).image = s.image := State.setFld_image s (pSer (l / 8)) f v (l % 8)
@[simp] theorem State.setLn_bar4 (s : State) (l : Nat) (f : Fld) (v : Nat) : (s.setLn l f v).bar4 = s.bar4 := State.setFld_bar4 s (pSer (l / 8)) f v (l % 8)
@[simp] theorem State.setLn_cfgSpace (s : State) (l : Nat) (f : Fld) (v : Nat) : (s.setLn l f v).cfgSpace = s.cfgSpace := State.setFld_cfgSpace s (pSer (l / 8)) f v (l % 8)
@[simp] theorem State.setLn_tap (s : State) (l : Nat) (f : Fld) (v : Nat) : (s.setLn l f v).tap = s.tap := State.setFld_tap s (pSer (l / 8)) f v (l % 8)
@[simp] theorem State.setLn_lines (s : State) (l : Nat) (f : Fld) (v : Nat) : (s.setLn l f v).lines = s.lines := State.setFld_lines s (pSer (l / 8)) f v (l % 8)
@[simp] theorem State.setLn_linkRt (s : State) (l : Nat) (f : Fld) (v : Nat) : (s.setLn l f v).linkRt = s.linkRt := State.setFld_linkRt s (pSer (l / 8)) f v (l % 8)
@[simp] theorem State.setLn_rateTo (s : State) (l : Nat) (f : Fld) (v : Nat) : (s.setLn l f v).rateTo = s.rateTo := State.setFld_rateTo s (pSer (l / 8)) f v (l % 8)
@[simp] theorem State.setLn_bar2Held (s : State) (l : Nat) (f : Fld) (v : Nat) : (s.setLn l f v).bar2Held = s.bar2Held := State.setFld_bar2Held s (pSer (l / 8)) f v (l % 8)
@[simp] theorem State.setLn_ff (s : State) (l : Nat) (f : Fld) (v : Nat) (q : Nat) (g : Fld) (m : Nat) : (s.setLn l f v).ff q g m = s.ff q g m := State.setFld_ff s (pSer (l / 8)) f v (l % 8) q g m
@[simp] theorem State.setLn_now (s : State) (l : Nat) (f : Fld) (v : Nat) : (s.setLn l f v).now = s.now := State.setFld_now s (pSer (l / 8)) f v (l % 8)
@[simp] theorem State.setLn_ring (s : State) (l : Nat) (f : Fld) (v : Nat) (n' : Nat) : (s.setLn l f v).ring n' = s.ring n' := State.setFld_ring s (pSer (l / 8)) f v (l % 8) n'
@[simp] theorem State.emit_pending (s : State) (o : Out) : (s.emit o).pending = s.pending := (rfl)
@[simp] theorem State.emit_free (s : State) (o : Out) : (s.emit o).free = s.free := (rfl)
@[simp] theorem State.emit_out (s : State) (o : Out) : (s.emit o).out = s.out ++ [o] := (rfl)
@[simp] theorem State.emit_regs (s : State) (o : Out) : (s.emit o).regs = s.regs := (rfl)
@[simp] theorem State.emit_force (s : State) (o : Out) : (s.emit o).force = s.force := (rfl)
@[simp] theorem State.emit_latch (s : State) (o : Out) : (s.emit o).latch = s.latch := (rfl)
@[simp] theorem State.emit_lowHalf (s : State) (o : Out) : (s.emit o).lowHalf = s.lowHalf := (rfl)
@[simp] theorem State.emit_mem (s : State) (o : Out) : (s.emit o).mem = s.mem := (rfl)
@[simp] theorem State.emit_hostMem (s : State) (o : Out) : (s.emit o).hostMem = s.hostMem := (rfl)
@[simp] theorem State.emit_rings (s : State) (o : Out) : (s.emit o).rings = s.rings := (rfl)
@[simp] theorem State.emit_stale (s : State) (o : Out) : (s.emit o).stale = s.stale := (rfl)
@[simp] theorem State.emit_commands (s : State) (o : Out) : (s.emit o).commands = s.commands := (rfl)
@[simp] theorem State.emit_clk (s : State) (o : Out) : (s.emit o).clk = s.clk := (rfl)
@[simp] theorem State.emit_pow (s : State) (o : Out) : (s.emit o).pow = s.pow := (rfl)
@[simp] theorem State.emit_cyc (s : State) (o : Out) : (s.emit o).cyc = s.cyc := (rfl)
@[simp] theorem State.emit_flows (s : State) (o : Out) : (s.emit o).flows = s.flows := (rfl)
@[simp] theorem State.emit_ports (s : State) (o : Out) : (s.emit o).ports = s.ports := (rfl)
@[simp] theorem State.emit_views (s : State) (o : Out) : (s.emit o).views = s.views := (rfl)
@[simp] theorem State.emit_feeds (s : State) (o : Out) : (s.emit o).feeds = s.feeds := (rfl)
@[simp] theorem State.emit_lanes (s : State) (o : Out) : (s.emit o).lanes = s.lanes := (rfl)
@[simp] theorem State.emit_busy (s : State) (o : Out) : (s.emit o).busy = s.busy := (rfl)
@[simp] theorem State.emit_chans (s : State) (o : Out) : (s.emit o).chans = s.chans := (rfl)
@[simp] theorem State.emit_credits (s : State) (o : Out) : (s.emit o).credits = s.credits := (rfl)
@[simp] theorem State.emit_house (s : State) (o : Out) : (s.emit o).house = s.house := (rfl)
@[simp] theorem State.emit_ptp (s : State) (o : Out) : (s.emit o).ptp = s.ptp := (rfl)
@[simp] theorem State.emit_touts (s : State) (o : Out) : (s.emit o).touts = s.touts := (rfl)
@[simp] theorem State.emit_tcaps (s : State) (o : Out) : (s.emit o).tcaps = s.tcaps := (rfl)
@[simp] theorem State.emit_ppsHigh (s : State) (o : Out) : (s.emit o).ppsHigh = s.ppsHigh := (rfl)
@[simp] theorem State.emit_servos (s : State) (o : Out) : (s.emit o).servos = s.servos := (rfl)
@[simp] theorem State.emit_evt (s : State) (o : Out) : (s.emit o).evt = s.evt := (rfl)
@[simp] theorem State.emit_dgs (s : State) (o : Out) : (s.emit o).dgs = s.dgs := (rfl)
@[simp] theorem State.emit_resp (s : State) (o : Out) : (s.emit o).resp = s.resp := (rfl)
@[simp] theorem State.emit_respLoad (s : State) (o : Out) : (s.emit o).respLoad = s.respLoad := (rfl)
@[simp] theorem State.emit_cap (s : State) (o : Out) : (s.emit o).cap = s.cap := (rfl)
@[simp] theorem State.emit_corrTouched (s : State) (o : Out) : (s.emit o).corrTouched = s.corrTouched := (rfl)
@[simp] theorem State.emit_play (s : State) (o : Out) : (s.emit o).play = s.play := (rfl)
@[simp] theorem State.emit_flashMem (s : State) (o : Out) : (s.emit o).flashMem = s.flashMem := (rfl)
@[simp] theorem State.emit_flashOp (s : State) (o : Out) : (s.emit o).flashOp = s.flashOp := (rfl)
@[simp] theorem State.emit_drives (s : State) (o : Out) : (s.emit o).drives = s.drives := (rfl)
@[simp] theorem State.emit_storeOp (s : State) (o : Out) : (s.emit o).storeOp = s.storeOp := (rfl)
@[simp] theorem State.emit_storeWait (s : State) (o : Out) : (s.emit o).storeWait = s.storeWait := (rfl)
@[simp] theorem State.emit_job (s : State) (o : Out) : (s.emit o).job = s.job := (rfl)
@[simp] theorem State.emit_aborts (s : State) (o : Out) : (s.emit o).aborts = s.aborts := (rfl)
@[simp] theorem State.emit_panic (s : State) (o : Out) : (s.emit o).panic = s.panic := (rfl)
@[simp] theorem State.emit_rateWait (s : State) (o : Out) : (s.emit o).rateWait = s.rateWait := (rfl)
@[simp] theorem State.emit_powerReq (s : State) (o : Out) : (s.emit o).powerReq = s.powerReq := (rfl)
@[simp] theorem State.emit_image (s : State) (o : Out) : (s.emit o).image = s.image := (rfl)
@[simp] theorem State.emit_bar4 (s : State) (o : Out) : (s.emit o).bar4 = s.bar4 := (rfl)
@[simp] theorem State.emit_cfgSpace (s : State) (o : Out) : (s.emit o).cfgSpace = s.cfgSpace := (rfl)
@[simp] theorem State.emit_tap (s : State) (o : Out) : (s.emit o).tap = s.tap := (rfl)
@[simp] theorem State.emit_lines (s : State) (o : Out) : (s.emit o).lines = s.lines := (rfl)
@[simp] theorem State.emit_linkRt (s : State) (o : Out) : (s.emit o).linkRt = s.linkRt := (rfl)
@[simp] theorem State.emit_rateTo (s : State) (o : Out) : (s.emit o).rateTo = s.rateTo := (rfl)
@[simp] theorem State.emit_bar2Held (s : State) (o : Out) : (s.emit o).bar2Held = s.bar2Held := (rfl)
@[simp] theorem State.emit_reg (s : State) (o : Out) (y : Nat) : (s.emit o).reg y = s.reg y := (rfl)
@[simp] theorem State.emit_fld (s : State) (o : Out) (q : Nat) (g : Fld) (m : Nat) : (s.emit o).fld q g m = s.fld q g m := (rfl)
@[simp] theorem State.emit_ff (s : State) (o : Out) (q : Nat) (g : Fld) (m : Nat) : (s.emit o).ff q g m = s.ff q g m := (rfl)
@[simp] theorem State.emit_now (s : State) (o : Out) : (s.emit o).now = s.now := (rfl)
@[simp] theorem State.emit_ring (s : State) (o : Out) (n' : Nat) : (s.emit o).ring n' = s.ring n' := (rfl)
@[simp] theorem State.poke_pending (s : State) (a : Nat) (b : List Byte) : (s.poke a b).pending = s.pending := (rfl)
@[simp] theorem State.poke_free (s : State) (a : Nat) (b : List Byte) : (s.poke a b).free = s.free := (rfl)
@[simp] theorem State.poke_out (s : State) (a : Nat) (b : List Byte) : (s.poke a b).out = s.out := (rfl)
@[simp] theorem State.poke_regs (s : State) (a : Nat) (b : List Byte) : (s.poke a b).regs = s.regs := (rfl)
@[simp] theorem State.poke_force (s : State) (a : Nat) (b : List Byte) : (s.poke a b).force = s.force := (rfl)
@[simp] theorem State.poke_latch (s : State) (a : Nat) (b : List Byte) : (s.poke a b).latch = s.latch := (rfl)
@[simp] theorem State.poke_lowHalf (s : State) (a : Nat) (b : List Byte) : (s.poke a b).lowHalf = s.lowHalf := (rfl)
@[simp] theorem State.poke_mem (s : State) (a : Nat) (b : List Byte) : (s.poke a b).mem = s.mem.putAll a b := (rfl)
@[simp] theorem State.poke_hostMem (s : State) (a : Nat) (b : List Byte) : (s.poke a b).hostMem = s.hostMem := (rfl)
@[simp] theorem State.poke_rings (s : State) (a : Nat) (b : List Byte) : (s.poke a b).rings = s.rings := (rfl)
@[simp] theorem State.poke_stale (s : State) (a : Nat) (b : List Byte) : (s.poke a b).stale = s.stale := (rfl)
@[simp] theorem State.poke_commands (s : State) (a : Nat) (b : List Byte) : (s.poke a b).commands = s.commands := (rfl)
@[simp] theorem State.poke_clk (s : State) (a : Nat) (b : List Byte) : (s.poke a b).clk = s.clk := (rfl)
@[simp] theorem State.poke_pow (s : State) (a : Nat) (b : List Byte) : (s.poke a b).pow = s.pow := (rfl)
@[simp] theorem State.poke_cyc (s : State) (a : Nat) (b : List Byte) : (s.poke a b).cyc = s.cyc := (rfl)
@[simp] theorem State.poke_flows (s : State) (a : Nat) (b : List Byte) : (s.poke a b).flows = s.flows := (rfl)
@[simp] theorem State.poke_ports (s : State) (a : Nat) (b : List Byte) : (s.poke a b).ports = s.ports := (rfl)
@[simp] theorem State.poke_views (s : State) (a : Nat) (b : List Byte) : (s.poke a b).views = s.views := (rfl)
@[simp] theorem State.poke_feeds (s : State) (a : Nat) (b : List Byte) : (s.poke a b).feeds = s.feeds := (rfl)
@[simp] theorem State.poke_lanes (s : State) (a : Nat) (b : List Byte) : (s.poke a b).lanes = s.lanes := (rfl)
@[simp] theorem State.poke_busy (s : State) (a : Nat) (b : List Byte) : (s.poke a b).busy = s.busy := (rfl)
@[simp] theorem State.poke_chans (s : State) (a : Nat) (b : List Byte) : (s.poke a b).chans = s.chans := (rfl)
@[simp] theorem State.poke_credits (s : State) (a : Nat) (b : List Byte) : (s.poke a b).credits = s.credits := (rfl)
@[simp] theorem State.poke_house (s : State) (a : Nat) (b : List Byte) : (s.poke a b).house = s.house := (rfl)
@[simp] theorem State.poke_ptp (s : State) (a : Nat) (b : List Byte) : (s.poke a b).ptp = s.ptp := (rfl)
@[simp] theorem State.poke_touts (s : State) (a : Nat) (b : List Byte) : (s.poke a b).touts = s.touts := (rfl)
@[simp] theorem State.poke_tcaps (s : State) (a : Nat) (b : List Byte) : (s.poke a b).tcaps = s.tcaps := (rfl)
@[simp] theorem State.poke_ppsHigh (s : State) (a : Nat) (b : List Byte) : (s.poke a b).ppsHigh = s.ppsHigh := (rfl)
@[simp] theorem State.poke_servos (s : State) (a : Nat) (b : List Byte) : (s.poke a b).servos = s.servos := (rfl)
@[simp] theorem State.poke_evt (s : State) (a : Nat) (b : List Byte) : (s.poke a b).evt = s.evt := (rfl)
@[simp] theorem State.poke_dgs (s : State) (a : Nat) (b : List Byte) : (s.poke a b).dgs = s.dgs := (rfl)
@[simp] theorem State.poke_resp (s : State) (a : Nat) (b : List Byte) : (s.poke a b).resp = s.resp := (rfl)
@[simp] theorem State.poke_respLoad (s : State) (a : Nat) (b : List Byte) : (s.poke a b).respLoad = s.respLoad := (rfl)
@[simp] theorem State.poke_cap (s : State) (a : Nat) (b : List Byte) : (s.poke a b).cap = s.cap := (rfl)
@[simp] theorem State.poke_corrTouched (s : State) (a : Nat) (b : List Byte) : (s.poke a b).corrTouched = s.corrTouched := (rfl)
@[simp] theorem State.poke_play (s : State) (a : Nat) (b : List Byte) : (s.poke a b).play = s.play := (rfl)
@[simp] theorem State.poke_flashMem (s : State) (a : Nat) (b : List Byte) : (s.poke a b).flashMem = s.flashMem := (rfl)
@[simp] theorem State.poke_flashOp (s : State) (a : Nat) (b : List Byte) : (s.poke a b).flashOp = s.flashOp := (rfl)
@[simp] theorem State.poke_drives (s : State) (a : Nat) (b : List Byte) : (s.poke a b).drives = s.drives := (rfl)
@[simp] theorem State.poke_storeOp (s : State) (a : Nat) (b : List Byte) : (s.poke a b).storeOp = s.storeOp := (rfl)
@[simp] theorem State.poke_storeWait (s : State) (a : Nat) (b : List Byte) : (s.poke a b).storeWait = s.storeWait := (rfl)
@[simp] theorem State.poke_job (s : State) (a : Nat) (b : List Byte) : (s.poke a b).job = s.job := (rfl)
@[simp] theorem State.poke_aborts (s : State) (a : Nat) (b : List Byte) : (s.poke a b).aborts = s.aborts := (rfl)
@[simp] theorem State.poke_panic (s : State) (a : Nat) (b : List Byte) : (s.poke a b).panic = s.panic := (rfl)
@[simp] theorem State.poke_rateWait (s : State) (a : Nat) (b : List Byte) : (s.poke a b).rateWait = s.rateWait := (rfl)
@[simp] theorem State.poke_powerReq (s : State) (a : Nat) (b : List Byte) : (s.poke a b).powerReq = s.powerReq := (rfl)
@[simp] theorem State.poke_image (s : State) (a : Nat) (b : List Byte) : (s.poke a b).image = s.image := (rfl)
@[simp] theorem State.poke_bar4 (s : State) (a : Nat) (b : List Byte) : (s.poke a b).bar4 = s.bar4 := (rfl)
@[simp] theorem State.poke_cfgSpace (s : State) (a : Nat) (b : List Byte) : (s.poke a b).cfgSpace = s.cfgSpace := (rfl)
@[simp] theorem State.poke_tap (s : State) (a : Nat) (b : List Byte) : (s.poke a b).tap = s.tap := (rfl)
@[simp] theorem State.poke_lines (s : State) (a : Nat) (b : List Byte) : (s.poke a b).lines = s.lines := (rfl)
@[simp] theorem State.poke_linkRt (s : State) (a : Nat) (b : List Byte) : (s.poke a b).linkRt = s.linkRt := (rfl)
@[simp] theorem State.poke_rateTo (s : State) (a : Nat) (b : List Byte) : (s.poke a b).rateTo = s.rateTo := (rfl)
@[simp] theorem State.poke_bar2Held (s : State) (a : Nat) (b : List Byte) : (s.poke a b).bar2Held = s.bar2Held := (rfl)
@[simp] theorem State.poke_reg (s : State) (a : Nat) (b : List Byte) (y : Nat) : (s.poke a b).reg y = s.reg y := (rfl)
@[simp] theorem State.poke_fld (s : State) (a : Nat) (b : List Byte) (q : Nat) (g : Fld) (m : Nat) : (s.poke a b).fld q g m = s.fld q g m := (rfl)
@[simp] theorem State.poke_ff (s : State) (a : Nat) (b : List Byte) (q : Nat) (g : Fld) (m : Nat) : (s.poke a b).ff q g m = s.ff q g m := (rfl)
@[simp] theorem State.poke_now (s : State) (a : Nat) (b : List Byte) : (s.poke a b).now = s.now := (rfl)
@[simp] theorem State.poke_ring (s : State) (a : Nat) (b : List Byte) (n' : Nat) : (s.poke a b).ring n' = s.ring n' := (rfl)
@[simp] theorem State.setRing_pending (s : State) (n : Nat) (r : Ring) : (s.setRing n r).pending = s.pending := (rfl)
@[simp] theorem State.setRing_free (s : State) (n : Nat) (r : Ring) : (s.setRing n r).free = s.free := (rfl)
@[simp] theorem State.setRing_out (s : State) (n : Nat) (r : Ring) : (s.setRing n r).out = s.out := (rfl)
@[simp] theorem State.setRing_regs (s : State) (n : Nat) (r : Ring) : (s.setRing n r).regs = s.regs := (rfl)
@[simp] theorem State.setRing_force (s : State) (n : Nat) (r : Ring) : (s.setRing n r).force = s.force := (rfl)
@[simp] theorem State.setRing_latch (s : State) (n : Nat) (r : Ring) : (s.setRing n r).latch = s.latch := (rfl)
@[simp] theorem State.setRing_lowHalf (s : State) (n : Nat) (r : Ring) : (s.setRing n r).lowHalf = s.lowHalf := (rfl)
@[simp] theorem State.setRing_mem (s : State) (n : Nat) (r : Ring) : (s.setRing n r).mem = s.mem := (rfl)
@[simp] theorem State.setRing_hostMem (s : State) (n : Nat) (r : Ring) : (s.setRing n r).hostMem = s.hostMem := (rfl)
@[simp] theorem State.setRing_rings (s : State) (n : Nat) (r : Ring) : (s.setRing n r).rings = ins (ringReset n) n r s.rings := (rfl)
@[simp] theorem State.setRing_stale (s : State) (n : Nat) (r : Ring) : (s.setRing n r).stale = s.stale := (rfl)
@[simp] theorem State.setRing_commands (s : State) (n : Nat) (r : Ring) : (s.setRing n r).commands = s.commands := (rfl)
@[simp] theorem State.setRing_clk (s : State) (n : Nat) (r : Ring) : (s.setRing n r).clk = s.clk := (rfl)
@[simp] theorem State.setRing_pow (s : State) (n : Nat) (r : Ring) : (s.setRing n r).pow = s.pow := (rfl)
@[simp] theorem State.setRing_cyc (s : State) (n : Nat) (r : Ring) : (s.setRing n r).cyc = s.cyc := (rfl)
@[simp] theorem State.setRing_flows (s : State) (n : Nat) (r : Ring) : (s.setRing n r).flows = s.flows := (rfl)
@[simp] theorem State.setRing_ports (s : State) (n : Nat) (r : Ring) : (s.setRing n r).ports = s.ports := (rfl)
@[simp] theorem State.setRing_views (s : State) (n : Nat) (r : Ring) : (s.setRing n r).views = s.views := (rfl)
@[simp] theorem State.setRing_feeds (s : State) (n : Nat) (r : Ring) : (s.setRing n r).feeds = s.feeds := (rfl)
@[simp] theorem State.setRing_lanes (s : State) (n : Nat) (r : Ring) : (s.setRing n r).lanes = s.lanes := (rfl)
@[simp] theorem State.setRing_busy (s : State) (n : Nat) (r : Ring) : (s.setRing n r).busy = s.busy := (rfl)
@[simp] theorem State.setRing_chans (s : State) (n : Nat) (r : Ring) : (s.setRing n r).chans = s.chans := (rfl)
@[simp] theorem State.setRing_credits (s : State) (n : Nat) (r : Ring) : (s.setRing n r).credits = s.credits := (rfl)
@[simp] theorem State.setRing_house (s : State) (n : Nat) (r : Ring) : (s.setRing n r).house = s.house := (rfl)
@[simp] theorem State.setRing_ptp (s : State) (n : Nat) (r : Ring) : (s.setRing n r).ptp = s.ptp := (rfl)
@[simp] theorem State.setRing_touts (s : State) (n : Nat) (r : Ring) : (s.setRing n r).touts = s.touts := (rfl)
@[simp] theorem State.setRing_tcaps (s : State) (n : Nat) (r : Ring) : (s.setRing n r).tcaps = s.tcaps := (rfl)
@[simp] theorem State.setRing_ppsHigh (s : State) (n : Nat) (r : Ring) : (s.setRing n r).ppsHigh = s.ppsHigh := (rfl)
@[simp] theorem State.setRing_servos (s : State) (n : Nat) (r : Ring) : (s.setRing n r).servos = s.servos := (rfl)
@[simp] theorem State.setRing_evt (s : State) (n : Nat) (r : Ring) : (s.setRing n r).evt = s.evt := (rfl)
@[simp] theorem State.setRing_dgs (s : State) (n : Nat) (r : Ring) : (s.setRing n r).dgs = s.dgs := (rfl)
@[simp] theorem State.setRing_resp (s : State) (n : Nat) (r : Ring) : (s.setRing n r).resp = s.resp := (rfl)
@[simp] theorem State.setRing_respLoad (s : State) (n : Nat) (r : Ring) : (s.setRing n r).respLoad = s.respLoad := (rfl)
@[simp] theorem State.setRing_cap (s : State) (n : Nat) (r : Ring) : (s.setRing n r).cap = s.cap := (rfl)
@[simp] theorem State.setRing_corrTouched (s : State) (n : Nat) (r : Ring) : (s.setRing n r).corrTouched = s.corrTouched := (rfl)
@[simp] theorem State.setRing_play (s : State) (n : Nat) (r : Ring) : (s.setRing n r).play = s.play := (rfl)
@[simp] theorem State.setRing_flashMem (s : State) (n : Nat) (r : Ring) : (s.setRing n r).flashMem = s.flashMem := (rfl)
@[simp] theorem State.setRing_flashOp (s : State) (n : Nat) (r : Ring) : (s.setRing n r).flashOp = s.flashOp := (rfl)
@[simp] theorem State.setRing_drives (s : State) (n : Nat) (r : Ring) : (s.setRing n r).drives = s.drives := (rfl)
@[simp] theorem State.setRing_storeOp (s : State) (n : Nat) (r : Ring) : (s.setRing n r).storeOp = s.storeOp := (rfl)
@[simp] theorem State.setRing_storeWait (s : State) (n : Nat) (r : Ring) : (s.setRing n r).storeWait = s.storeWait := (rfl)
@[simp] theorem State.setRing_job (s : State) (n : Nat) (r : Ring) : (s.setRing n r).job = s.job := (rfl)
@[simp] theorem State.setRing_aborts (s : State) (n : Nat) (r : Ring) : (s.setRing n r).aborts = s.aborts := (rfl)
@[simp] theorem State.setRing_panic (s : State) (n : Nat) (r : Ring) : (s.setRing n r).panic = s.panic := (rfl)
@[simp] theorem State.setRing_rateWait (s : State) (n : Nat) (r : Ring) : (s.setRing n r).rateWait = s.rateWait := (rfl)
@[simp] theorem State.setRing_powerReq (s : State) (n : Nat) (r : Ring) : (s.setRing n r).powerReq = s.powerReq := (rfl)
@[simp] theorem State.setRing_image (s : State) (n : Nat) (r : Ring) : (s.setRing n r).image = s.image := (rfl)
@[simp] theorem State.setRing_bar4 (s : State) (n : Nat) (r : Ring) : (s.setRing n r).bar4 = s.bar4 := (rfl)
@[simp] theorem State.setRing_cfgSpace (s : State) (n : Nat) (r : Ring) : (s.setRing n r).cfgSpace = s.cfgSpace := (rfl)
@[simp] theorem State.setRing_tap (s : State) (n : Nat) (r : Ring) : (s.setRing n r).tap = s.tap := (rfl)
@[simp] theorem State.setRing_lines (s : State) (n : Nat) (r : Ring) : (s.setRing n r).lines = s.lines := (rfl)
@[simp] theorem State.setRing_linkRt (s : State) (n : Nat) (r : Ring) : (s.setRing n r).linkRt = s.linkRt := (rfl)
@[simp] theorem State.setRing_rateTo (s : State) (n : Nat) (r : Ring) : (s.setRing n r).rateTo = s.rateTo := (rfl)
@[simp] theorem State.setRing_bar2Held (s : State) (n : Nat) (r : Ring) : (s.setRing n r).bar2Held = s.bar2Held := (rfl)
@[simp] theorem State.setRing_reg (s : State) (n : Nat) (r : Ring) (y : Nat) : (s.setRing n r).reg y = s.reg y := (rfl)
@[simp] theorem State.setRing_fld (s : State) (n : Nat) (r : Ring) (q : Nat) (g : Fld) (m : Nat) : (s.setRing n r).fld q g m = s.fld q g m := (rfl)
@[simp] theorem State.setRing_ff (s : State) (n : Nat) (r : Ring) (q : Nat) (g : Fld) (m : Nat) : (s.setRing n r).ff q g m = s.ff q g m := (rfl)
@[simp] theorem State.setRing_now (s : State) (n : Nat) (r : Ring) : (s.setRing n r).now = s.now := (rfl)
@[simp] theorem State.setRate_pending (s : State) (r : Int) : (s.setRate r).pending = s.pending := (rfl)
@[simp] theorem State.setRate_free (s : State) (r : Int) : (s.setRate r).free = s.free := (rfl)
@[simp] theorem State.setRate_out (s : State) (r : Int) : (s.setRate r).out = s.out := (rfl)
@[simp] theorem State.setRate_regs (s : State) (r : Int) : (s.setRate r).regs = s.regs := (rfl)
@[simp] theorem State.setRate_force (s : State) (r : Int) : (s.setRate r).force = s.force := (rfl)
@[simp] theorem State.setRate_latch (s : State) (r : Int) : (s.setRate r).latch = s.latch := (rfl)
@[simp] theorem State.setRate_lowHalf (s : State) (r : Int) : (s.setRate r).lowHalf = s.lowHalf := (rfl)
@[simp] theorem State.setRate_mem (s : State) (r : Int) : (s.setRate r).mem = s.mem := (rfl)
@[simp] theorem State.setRate_hostMem (s : State) (r : Int) : (s.setRate r).hostMem = s.hostMem := (rfl)
@[simp] theorem State.setRate_rings (s : State) (r : Int) : (s.setRate r).rings = s.rings := (rfl)
@[simp] theorem State.setRate_stale (s : State) (r : Int) : (s.setRate r).stale = s.stale := (rfl)
@[simp] theorem State.setRate_commands (s : State) (r : Int) : (s.setRate r).commands = s.commands := (rfl)
@[simp] theorem State.setRate_clk (s : State) (r : Int) : (s.setRate r).clk = { s.clk with offset := s.clk.time, anchor := s.clk.free, rate := r } := (rfl)
@[simp] theorem State.setRate_pow (s : State) (r : Int) : (s.setRate r).pow = s.pow := (rfl)
@[simp] theorem State.setRate_cyc (s : State) (r : Int) : (s.setRate r).cyc = s.cyc := (rfl)
@[simp] theorem State.setRate_flows (s : State) (r : Int) : (s.setRate r).flows = s.flows := (rfl)
@[simp] theorem State.setRate_ports (s : State) (r : Int) : (s.setRate r).ports = s.ports := (rfl)
@[simp] theorem State.setRate_views (s : State) (r : Int) : (s.setRate r).views = s.views := (rfl)
@[simp] theorem State.setRate_feeds (s : State) (r : Int) : (s.setRate r).feeds = s.feeds := (rfl)
@[simp] theorem State.setRate_lanes (s : State) (r : Int) : (s.setRate r).lanes = s.lanes := (rfl)
@[simp] theorem State.setRate_busy (s : State) (r : Int) : (s.setRate r).busy = s.busy := (rfl)
@[simp] theorem State.setRate_chans (s : State) (r : Int) : (s.setRate r).chans = s.chans := (rfl)
@[simp] theorem State.setRate_credits (s : State) (r : Int) : (s.setRate r).credits = s.credits := (rfl)
@[simp] theorem State.setRate_house (s : State) (r : Int) : (s.setRate r).house = s.house := (rfl)
@[simp] theorem State.setRate_ptp (s : State) (r : Int) : (s.setRate r).ptp = s.ptp := (rfl)
@[simp] theorem State.setRate_touts (s : State) (r : Int) : (s.setRate r).touts = s.touts := (rfl)
@[simp] theorem State.setRate_tcaps (s : State) (r : Int) : (s.setRate r).tcaps = s.tcaps := (rfl)
@[simp] theorem State.setRate_ppsHigh (s : State) (r : Int) : (s.setRate r).ppsHigh = s.ppsHigh := (rfl)
@[simp] theorem State.setRate_servos (s : State) (r : Int) : (s.setRate r).servos = s.servos := (rfl)
@[simp] theorem State.setRate_evt (s : State) (r : Int) : (s.setRate r).evt = s.evt := (rfl)
@[simp] theorem State.setRate_dgs (s : State) (r : Int) : (s.setRate r).dgs = s.dgs := (rfl)
@[simp] theorem State.setRate_resp (s : State) (r : Int) : (s.setRate r).resp = s.resp := (rfl)
@[simp] theorem State.setRate_respLoad (s : State) (r : Int) : (s.setRate r).respLoad = s.respLoad := (rfl)
@[simp] theorem State.setRate_cap (s : State) (r : Int) : (s.setRate r).cap = s.cap := (rfl)
@[simp] theorem State.setRate_corrTouched (s : State) (r : Int) : (s.setRate r).corrTouched = s.corrTouched := (rfl)
@[simp] theorem State.setRate_play (s : State) (r : Int) : (s.setRate r).play = s.play := (rfl)
@[simp] theorem State.setRate_flashMem (s : State) (r : Int) : (s.setRate r).flashMem = s.flashMem := (rfl)
@[simp] theorem State.setRate_flashOp (s : State) (r : Int) : (s.setRate r).flashOp = s.flashOp := (rfl)
@[simp] theorem State.setRate_drives (s : State) (r : Int) : (s.setRate r).drives = s.drives := (rfl)
@[simp] theorem State.setRate_storeOp (s : State) (r : Int) : (s.setRate r).storeOp = s.storeOp := (rfl)
@[simp] theorem State.setRate_storeWait (s : State) (r : Int) : (s.setRate r).storeWait = s.storeWait := (rfl)
@[simp] theorem State.setRate_job (s : State) (r : Int) : (s.setRate r).job = s.job := (rfl)
@[simp] theorem State.setRate_aborts (s : State) (r : Int) : (s.setRate r).aborts = s.aborts := (rfl)
@[simp] theorem State.setRate_panic (s : State) (r : Int) : (s.setRate r).panic = s.panic := (rfl)
@[simp] theorem State.setRate_rateWait (s : State) (r : Int) : (s.setRate r).rateWait = s.rateWait := (rfl)
@[simp] theorem State.setRate_powerReq (s : State) (r : Int) : (s.setRate r).powerReq = s.powerReq := (rfl)
@[simp] theorem State.setRate_image (s : State) (r : Int) : (s.setRate r).image = s.image := (rfl)
@[simp] theorem State.setRate_bar4 (s : State) (r : Int) : (s.setRate r).bar4 = s.bar4 := (rfl)
@[simp] theorem State.setRate_cfgSpace (s : State) (r : Int) : (s.setRate r).cfgSpace = s.cfgSpace := (rfl)
@[simp] theorem State.setRate_tap (s : State) (r : Int) : (s.setRate r).tap = s.tap := (rfl)
@[simp] theorem State.setRate_lines (s : State) (r : Int) : (s.setRate r).lines = s.lines := (rfl)
@[simp] theorem State.setRate_linkRt (s : State) (r : Int) : (s.setRate r).linkRt = s.linkRt := (rfl)
@[simp] theorem State.setRate_rateTo (s : State) (r : Int) : (s.setRate r).rateTo = s.rateTo := (rfl)
@[simp] theorem State.setRate_bar2Held (s : State) (r : Int) : (s.setRate r).bar2Held = s.bar2Held := (rfl)
@[simp] theorem State.setRate_reg (s : State) (r : Int) (y : Nat) : (s.setRate r).reg y = s.reg y := (rfl)
@[simp] theorem State.setRate_fld (s : State) (r : Int) (q : Nat) (g : Fld) (m : Nat) : (s.setRate r).fld q g m = s.fld q g m := (rfl)
@[simp] theorem State.setRate_ff (s : State) (r : Int) (q : Nat) (g : Fld) (m : Nat) : (s.setRate r).ff q g m = s.ff q g m := (rfl)
@[simp] theorem State.setRate_ring (s : State) (r : Int) (n' : Nat) : (s.setRate r).ring n' = s.ring n' := (rfl)
@[simp] theorem State.setBar4_pending (s : State) (a : Nat) (w : Word) : (s.setBar4 a w).pending = s.pending := (rfl)
@[simp] theorem State.setBar4_free (s : State) (a : Nat) (w : Word) : (s.setBar4 a w).free = s.free := (rfl)
@[simp] theorem State.setBar4_out (s : State) (a : Nat) (w : Word) : (s.setBar4 a w).out = s.out := (rfl)
@[simp] theorem State.setBar4_regs (s : State) (a : Nat) (w : Word) : (s.setBar4 a w).regs = s.regs := (rfl)
@[simp] theorem State.setBar4_force (s : State) (a : Nat) (w : Word) : (s.setBar4 a w).force = s.force := (rfl)
@[simp] theorem State.setBar4_latch (s : State) (a : Nat) (w : Word) : (s.setBar4 a w).latch = s.latch := (rfl)
@[simp] theorem State.setBar4_lowHalf (s : State) (a : Nat) (w : Word) : (s.setBar4 a w).lowHalf = s.lowHalf := (rfl)
@[simp] theorem State.setBar4_mem (s : State) (a : Nat) (w : Word) : (s.setBar4 a w).mem = s.mem := (rfl)
@[simp] theorem State.setBar4_hostMem (s : State) (a : Nat) (w : Word) : (s.setBar4 a w).hostMem = s.hostMem := (rfl)
@[simp] theorem State.setBar4_rings (s : State) (a : Nat) (w : Word) : (s.setBar4 a w).rings = s.rings := (rfl)
@[simp] theorem State.setBar4_stale (s : State) (a : Nat) (w : Word) : (s.setBar4 a w).stale = s.stale := (rfl)
@[simp] theorem State.setBar4_commands (s : State) (a : Nat) (w : Word) : (s.setBar4 a w).commands = s.commands := (rfl)
@[simp] theorem State.setBar4_clk (s : State) (a : Nat) (w : Word) : (s.setBar4 a w).clk = s.clk := (rfl)
@[simp] theorem State.setBar4_pow (s : State) (a : Nat) (w : Word) : (s.setBar4 a w).pow = s.pow := (rfl)
@[simp] theorem State.setBar4_cyc (s : State) (a : Nat) (w : Word) : (s.setBar4 a w).cyc = s.cyc := (rfl)
@[simp] theorem State.setBar4_flows (s : State) (a : Nat) (w : Word) : (s.setBar4 a w).flows = s.flows := (rfl)
@[simp] theorem State.setBar4_ports (s : State) (a : Nat) (w : Word) : (s.setBar4 a w).ports = s.ports := (rfl)
@[simp] theorem State.setBar4_views (s : State) (a : Nat) (w : Word) : (s.setBar4 a w).views = s.views := (rfl)
@[simp] theorem State.setBar4_feeds (s : State) (a : Nat) (w : Word) : (s.setBar4 a w).feeds = s.feeds := (rfl)
@[simp] theorem State.setBar4_lanes (s : State) (a : Nat) (w : Word) : (s.setBar4 a w).lanes = s.lanes := (rfl)
@[simp] theorem State.setBar4_busy (s : State) (a : Nat) (w : Word) : (s.setBar4 a w).busy = s.busy := (rfl)
@[simp] theorem State.setBar4_chans (s : State) (a : Nat) (w : Word) : (s.setBar4 a w).chans = s.chans := (rfl)
@[simp] theorem State.setBar4_credits (s : State) (a : Nat) (w : Word) : (s.setBar4 a w).credits = s.credits := (rfl)
@[simp] theorem State.setBar4_house (s : State) (a : Nat) (w : Word) : (s.setBar4 a w).house = s.house := (rfl)
@[simp] theorem State.setBar4_ptp (s : State) (a : Nat) (w : Word) : (s.setBar4 a w).ptp = s.ptp := (rfl)
@[simp] theorem State.setBar4_touts (s : State) (a : Nat) (w : Word) : (s.setBar4 a w).touts = s.touts := (rfl)
@[simp] theorem State.setBar4_tcaps (s : State) (a : Nat) (w : Word) : (s.setBar4 a w).tcaps = s.tcaps := (rfl)
@[simp] theorem State.setBar4_ppsHigh (s : State) (a : Nat) (w : Word) : (s.setBar4 a w).ppsHigh = s.ppsHigh := (rfl)
@[simp] theorem State.setBar4_servos (s : State) (a : Nat) (w : Word) : (s.setBar4 a w).servos = s.servos := (rfl)
@[simp] theorem State.setBar4_evt (s : State) (a : Nat) (w : Word) : (s.setBar4 a w).evt = s.evt := (rfl)
@[simp] theorem State.setBar4_dgs (s : State) (a : Nat) (w : Word) : (s.setBar4 a w).dgs = s.dgs := (rfl)
@[simp] theorem State.setBar4_resp (s : State) (a : Nat) (w : Word) : (s.setBar4 a w).resp = s.resp := (rfl)
@[simp] theorem State.setBar4_respLoad (s : State) (a : Nat) (w : Word) : (s.setBar4 a w).respLoad = s.respLoad := (rfl)
@[simp] theorem State.setBar4_cap (s : State) (a : Nat) (w : Word) : (s.setBar4 a w).cap = s.cap := (rfl)
@[simp] theorem State.setBar4_corrTouched (s : State) (a : Nat) (w : Word) : (s.setBar4 a w).corrTouched = s.corrTouched := (rfl)
@[simp] theorem State.setBar4_play (s : State) (a : Nat) (w : Word) : (s.setBar4 a w).play = s.play := (rfl)
@[simp] theorem State.setBar4_flashMem (s : State) (a : Nat) (w : Word) : (s.setBar4 a w).flashMem = s.flashMem := (rfl)
@[simp] theorem State.setBar4_flashOp (s : State) (a : Nat) (w : Word) : (s.setBar4 a w).flashOp = s.flashOp := (rfl)
@[simp] theorem State.setBar4_drives (s : State) (a : Nat) (w : Word) : (s.setBar4 a w).drives = s.drives := (rfl)
@[simp] theorem State.setBar4_storeOp (s : State) (a : Nat) (w : Word) : (s.setBar4 a w).storeOp = s.storeOp := (rfl)
@[simp] theorem State.setBar4_storeWait (s : State) (a : Nat) (w : Word) : (s.setBar4 a w).storeWait = s.storeWait := (rfl)
@[simp] theorem State.setBar4_job (s : State) (a : Nat) (w : Word) : (s.setBar4 a w).job = s.job := (rfl)
@[simp] theorem State.setBar4_aborts (s : State) (a : Nat) (w : Word) : (s.setBar4 a w).aborts = s.aborts := (rfl)
@[simp] theorem State.setBar4_panic (s : State) (a : Nat) (w : Word) : (s.setBar4 a w).panic = s.panic := (rfl)
@[simp] theorem State.setBar4_rateWait (s : State) (a : Nat) (w : Word) : (s.setBar4 a w).rateWait = s.rateWait := (rfl)
@[simp] theorem State.setBar4_powerReq (s : State) (a : Nat) (w : Word) : (s.setBar4 a w).powerReq = s.powerReq := (rfl)
@[simp] theorem State.setBar4_image (s : State) (a : Nat) (w : Word) : (s.setBar4 a w).image = s.image := (rfl)
@[simp] theorem State.setBar4_bar4 (s : State) (a : Nat) (w : Word) : (s.setBar4 a w).bar4 = ins (bar4Reset a) a w s.bar4 := (rfl)
@[simp] theorem State.setBar4_cfgSpace (s : State) (a : Nat) (w : Word) : (s.setBar4 a w).cfgSpace = s.cfgSpace := (rfl)
@[simp] theorem State.setBar4_tap (s : State) (a : Nat) (w : Word) : (s.setBar4 a w).tap = s.tap := (rfl)
@[simp] theorem State.setBar4_lines (s : State) (a : Nat) (w : Word) : (s.setBar4 a w).lines = s.lines := (rfl)
@[simp] theorem State.setBar4_linkRt (s : State) (a : Nat) (w : Word) : (s.setBar4 a w).linkRt = s.linkRt := (rfl)
@[simp] theorem State.setBar4_rateTo (s : State) (a : Nat) (w : Word) : (s.setBar4 a w).rateTo = s.rateTo := (rfl)
@[simp] theorem State.setBar4_bar2Held (s : State) (a : Nat) (w : Word) : (s.setBar4 a w).bar2Held = s.bar2Held := (rfl)
@[simp] theorem State.setBar4_reg (s : State) (a : Nat) (w : Word) (y : Nat) : (s.setBar4 a w).reg y = s.reg y := (rfl)
@[simp] theorem State.setBar4_fld (s : State) (a : Nat) (w : Word) (q : Nat) (g : Fld) (m : Nat) : (s.setBar4 a w).fld q g m = s.fld q g m := (rfl)
@[simp] theorem State.setBar4_ff (s : State) (a : Nat) (w : Word) (q : Nat) (g : Fld) (m : Nat) : (s.setBar4 a w).ff q g m = s.ff q g m := (rfl)
@[simp] theorem State.setBar4_now (s : State) (a : Nat) (w : Word) : (s.setBar4 a w).now = s.now := (rfl)
@[simp] theorem State.setBar4_ring (s : State) (a : Nat) (w : Word) (n' : Nat) : (s.setBar4 a w).ring n' = s.ring n' := (rfl)
@[simp] theorem State.setPort_pending (s : State) (p : Nat) (r : PortRt) : (s.setPort p r).pending = s.pending := (rfl)
@[simp] theorem State.setPort_free (s : State) (p : Nat) (r : PortRt) : (s.setPort p r).free = s.free := (rfl)
@[simp] theorem State.setPort_out (s : State) (p : Nat) (r : PortRt) : (s.setPort p r).out = s.out := (rfl)
@[simp] theorem State.setPort_regs (s : State) (p : Nat) (r : PortRt) : (s.setPort p r).regs = s.regs := (rfl)
@[simp] theorem State.setPort_force (s : State) (p : Nat) (r : PortRt) : (s.setPort p r).force = s.force := (rfl)
@[simp] theorem State.setPort_latch (s : State) (p : Nat) (r : PortRt) : (s.setPort p r).latch = s.latch := (rfl)
@[simp] theorem State.setPort_lowHalf (s : State) (p : Nat) (r : PortRt) : (s.setPort p r).lowHalf = s.lowHalf := (rfl)
@[simp] theorem State.setPort_mem (s : State) (p : Nat) (r : PortRt) : (s.setPort p r).mem = s.mem := (rfl)
@[simp] theorem State.setPort_hostMem (s : State) (p : Nat) (r : PortRt) : (s.setPort p r).hostMem = s.hostMem := (rfl)
@[simp] theorem State.setPort_rings (s : State) (p : Nat) (r : PortRt) : (s.setPort p r).rings = s.rings := (rfl)
@[simp] theorem State.setPort_stale (s : State) (p : Nat) (r : PortRt) : (s.setPort p r).stale = s.stale := (rfl)
@[simp] theorem State.setPort_commands (s : State) (p : Nat) (r : PortRt) : (s.setPort p r).commands = s.commands := (rfl)
@[simp] theorem State.setPort_clk (s : State) (p : Nat) (r : PortRt) : (s.setPort p r).clk = s.clk := (rfl)
@[simp] theorem State.setPort_pow (s : State) (p : Nat) (r : PortRt) : (s.setPort p r).pow = s.pow := (rfl)
@[simp] theorem State.setPort_cyc (s : State) (p : Nat) (r : PortRt) : (s.setPort p r).cyc = s.cyc := (rfl)
@[simp] theorem State.setPort_flows (s : State) (p : Nat) (r : PortRt) : (s.setPort p r).flows = s.flows := (rfl)
@[simp] theorem State.setPort_ports (s : State) (p : Nat) (r : PortRt) : (s.setPort p r).ports = ins PortRt.idle p r s.ports := (rfl)
@[simp] theorem State.setPort_views (s : State) (p : Nat) (r : PortRt) : (s.setPort p r).views = s.views := (rfl)
@[simp] theorem State.setPort_feeds (s : State) (p : Nat) (r : PortRt) : (s.setPort p r).feeds = s.feeds := (rfl)
@[simp] theorem State.setPort_lanes (s : State) (p : Nat) (r : PortRt) : (s.setPort p r).lanes = s.lanes := (rfl)
@[simp] theorem State.setPort_busy (s : State) (p : Nat) (r : PortRt) : (s.setPort p r).busy = s.busy := (rfl)
@[simp] theorem State.setPort_chans (s : State) (p : Nat) (r : PortRt) : (s.setPort p r).chans = s.chans := (rfl)
@[simp] theorem State.setPort_credits (s : State) (p : Nat) (r : PortRt) : (s.setPort p r).credits = s.credits := (rfl)
@[simp] theorem State.setPort_house (s : State) (p : Nat) (r : PortRt) : (s.setPort p r).house = s.house := (rfl)
@[simp] theorem State.setPort_ptp (s : State) (p : Nat) (r : PortRt) : (s.setPort p r).ptp = s.ptp := (rfl)
@[simp] theorem State.setPort_touts (s : State) (p : Nat) (r : PortRt) : (s.setPort p r).touts = s.touts := (rfl)
@[simp] theorem State.setPort_tcaps (s : State) (p : Nat) (r : PortRt) : (s.setPort p r).tcaps = s.tcaps := (rfl)
@[simp] theorem State.setPort_ppsHigh (s : State) (p : Nat) (r : PortRt) : (s.setPort p r).ppsHigh = s.ppsHigh := (rfl)
@[simp] theorem State.setPort_servos (s : State) (p : Nat) (r : PortRt) : (s.setPort p r).servos = s.servos := (rfl)
@[simp] theorem State.setPort_evt (s : State) (p : Nat) (r : PortRt) : (s.setPort p r).evt = s.evt := (rfl)
@[simp] theorem State.setPort_dgs (s : State) (p : Nat) (r : PortRt) : (s.setPort p r).dgs = s.dgs := (rfl)
@[simp] theorem State.setPort_resp (s : State) (p : Nat) (r : PortRt) : (s.setPort p r).resp = s.resp := (rfl)
@[simp] theorem State.setPort_respLoad (s : State) (p : Nat) (r : PortRt) : (s.setPort p r).respLoad = s.respLoad := (rfl)
@[simp] theorem State.setPort_cap (s : State) (p : Nat) (r : PortRt) : (s.setPort p r).cap = s.cap := (rfl)
@[simp] theorem State.setPort_corrTouched (s : State) (p : Nat) (r : PortRt) : (s.setPort p r).corrTouched = s.corrTouched := (rfl)
@[simp] theorem State.setPort_play (s : State) (p : Nat) (r : PortRt) : (s.setPort p r).play = s.play := (rfl)
@[simp] theorem State.setPort_flashMem (s : State) (p : Nat) (r : PortRt) : (s.setPort p r).flashMem = s.flashMem := (rfl)
@[simp] theorem State.setPort_flashOp (s : State) (p : Nat) (r : PortRt) : (s.setPort p r).flashOp = s.flashOp := (rfl)
@[simp] theorem State.setPort_drives (s : State) (p : Nat) (r : PortRt) : (s.setPort p r).drives = s.drives := (rfl)
@[simp] theorem State.setPort_storeOp (s : State) (p : Nat) (r : PortRt) : (s.setPort p r).storeOp = s.storeOp := (rfl)
@[simp] theorem State.setPort_storeWait (s : State) (p : Nat) (r : PortRt) : (s.setPort p r).storeWait = s.storeWait := (rfl)
@[simp] theorem State.setPort_job (s : State) (p : Nat) (r : PortRt) : (s.setPort p r).job = s.job := (rfl)
@[simp] theorem State.setPort_aborts (s : State) (p : Nat) (r : PortRt) : (s.setPort p r).aborts = s.aborts := (rfl)
@[simp] theorem State.setPort_panic (s : State) (p : Nat) (r : PortRt) : (s.setPort p r).panic = s.panic := (rfl)
@[simp] theorem State.setPort_rateWait (s : State) (p : Nat) (r : PortRt) : (s.setPort p r).rateWait = s.rateWait := (rfl)
@[simp] theorem State.setPort_powerReq (s : State) (p : Nat) (r : PortRt) : (s.setPort p r).powerReq = s.powerReq := (rfl)
@[simp] theorem State.setPort_image (s : State) (p : Nat) (r : PortRt) : (s.setPort p r).image = s.image := (rfl)
@[simp] theorem State.setPort_bar4 (s : State) (p : Nat) (r : PortRt) : (s.setPort p r).bar4 = s.bar4 := (rfl)
@[simp] theorem State.setPort_cfgSpace (s : State) (p : Nat) (r : PortRt) : (s.setPort p r).cfgSpace = s.cfgSpace := (rfl)
@[simp] theorem State.setPort_tap (s : State) (p : Nat) (r : PortRt) : (s.setPort p r).tap = s.tap := (rfl)
@[simp] theorem State.setPort_lines (s : State) (p : Nat) (r : PortRt) : (s.setPort p r).lines = s.lines := (rfl)
@[simp] theorem State.setPort_linkRt (s : State) (p : Nat) (r : PortRt) : (s.setPort p r).linkRt = s.linkRt := (rfl)
@[simp] theorem State.setPort_rateTo (s : State) (p : Nat) (r : PortRt) : (s.setPort p r).rateTo = s.rateTo := (rfl)
@[simp] theorem State.setPort_bar2Held (s : State) (p : Nat) (r : PortRt) : (s.setPort p r).bar2Held = s.bar2Held := (rfl)
@[simp] theorem State.setPort_reg (s : State) (p : Nat) (r : PortRt) (y : Nat) : (s.setPort p r).reg y = s.reg y := (rfl)
@[simp] theorem State.setPort_fld (s : State) (p : Nat) (r : PortRt) (q : Nat) (g : Fld) (m : Nat) : (s.setPort p r).fld q g m = s.fld q g m := (rfl)
@[simp] theorem State.setPort_ff (s : State) (p : Nat) (r : PortRt) (q : Nat) (g : Fld) (m : Nat) : (s.setPort p r).ff q g m = s.ff q g m := (rfl)
@[simp] theorem State.setPort_now (s : State) (p : Nat) (r : PortRt) : (s.setPort p r).now = s.now := (rfl)
@[simp] theorem State.setPort_ring (s : State) (p : Nat) (r : PortRt) (n' : Nat) : (s.setPort p r).ring n' = s.ring n' := (rfl)
@[simp] theorem State.setEvt_pending (s : State) (e : Events) : (s.setEvt e).pending = s.pending := (rfl)
@[simp] theorem State.setEvt_free (s : State) (e : Events) : (s.setEvt e).free = s.free := (rfl)
@[simp] theorem State.setEvt_out (s : State) (e : Events) : (s.setEvt e).out = s.out := (rfl)
@[simp] theorem State.setEvt_regs (s : State) (e : Events) : (s.setEvt e).regs = s.regs := (rfl)
@[simp] theorem State.setEvt_force (s : State) (e : Events) : (s.setEvt e).force = s.force := (rfl)
@[simp] theorem State.setEvt_latch (s : State) (e : Events) : (s.setEvt e).latch = s.latch := (rfl)
@[simp] theorem State.setEvt_lowHalf (s : State) (e : Events) : (s.setEvt e).lowHalf = s.lowHalf := (rfl)
@[simp] theorem State.setEvt_mem (s : State) (e : Events) : (s.setEvt e).mem = s.mem := (rfl)
@[simp] theorem State.setEvt_hostMem (s : State) (e : Events) : (s.setEvt e).hostMem = s.hostMem := (rfl)
@[simp] theorem State.setEvt_rings (s : State) (e : Events) : (s.setEvt e).rings = s.rings := (rfl)
@[simp] theorem State.setEvt_stale (s : State) (e : Events) : (s.setEvt e).stale = s.stale := (rfl)
@[simp] theorem State.setEvt_commands (s : State) (e : Events) : (s.setEvt e).commands = s.commands := (rfl)
@[simp] theorem State.setEvt_clk (s : State) (e : Events) : (s.setEvt e).clk = s.clk := (rfl)
@[simp] theorem State.setEvt_pow (s : State) (e : Events) : (s.setEvt e).pow = s.pow := (rfl)
@[simp] theorem State.setEvt_cyc (s : State) (e : Events) : (s.setEvt e).cyc = s.cyc := (rfl)
@[simp] theorem State.setEvt_flows (s : State) (e : Events) : (s.setEvt e).flows = s.flows := (rfl)
@[simp] theorem State.setEvt_ports (s : State) (e : Events) : (s.setEvt e).ports = s.ports := (rfl)
@[simp] theorem State.setEvt_views (s : State) (e : Events) : (s.setEvt e).views = s.views := (rfl)
@[simp] theorem State.setEvt_feeds (s : State) (e : Events) : (s.setEvt e).feeds = s.feeds := (rfl)
@[simp] theorem State.setEvt_lanes (s : State) (e : Events) : (s.setEvt e).lanes = s.lanes := (rfl)
@[simp] theorem State.setEvt_busy (s : State) (e : Events) : (s.setEvt e).busy = s.busy := (rfl)
@[simp] theorem State.setEvt_chans (s : State) (e : Events) : (s.setEvt e).chans = s.chans := (rfl)
@[simp] theorem State.setEvt_credits (s : State) (e : Events) : (s.setEvt e).credits = s.credits := (rfl)
@[simp] theorem State.setEvt_house (s : State) (e : Events) : (s.setEvt e).house = s.house := (rfl)
@[simp] theorem State.setEvt_ptp (s : State) (e : Events) : (s.setEvt e).ptp = s.ptp := (rfl)
@[simp] theorem State.setEvt_touts (s : State) (e : Events) : (s.setEvt e).touts = s.touts := (rfl)
@[simp] theorem State.setEvt_tcaps (s : State) (e : Events) : (s.setEvt e).tcaps = s.tcaps := (rfl)
@[simp] theorem State.setEvt_ppsHigh (s : State) (e : Events) : (s.setEvt e).ppsHigh = s.ppsHigh := (rfl)
@[simp] theorem State.setEvt_servos (s : State) (e : Events) : (s.setEvt e).servos = s.servos := (rfl)
@[simp] theorem State.setEvt_evt (s : State) (e : Events) : (s.setEvt e).evt = e := (rfl)
@[simp] theorem State.setEvt_dgs (s : State) (e : Events) : (s.setEvt e).dgs = s.dgs := (rfl)
@[simp] theorem State.setEvt_resp (s : State) (e : Events) : (s.setEvt e).resp = s.resp := (rfl)
@[simp] theorem State.setEvt_respLoad (s : State) (e : Events) : (s.setEvt e).respLoad = s.respLoad := (rfl)
@[simp] theorem State.setEvt_cap (s : State) (e : Events) : (s.setEvt e).cap = s.cap := (rfl)
@[simp] theorem State.setEvt_corrTouched (s : State) (e : Events) : (s.setEvt e).corrTouched = s.corrTouched := (rfl)
@[simp] theorem State.setEvt_play (s : State) (e : Events) : (s.setEvt e).play = s.play := (rfl)
@[simp] theorem State.setEvt_flashMem (s : State) (e : Events) : (s.setEvt e).flashMem = s.flashMem := (rfl)
@[simp] theorem State.setEvt_flashOp (s : State) (e : Events) : (s.setEvt e).flashOp = s.flashOp := (rfl)
@[simp] theorem State.setEvt_drives (s : State) (e : Events) : (s.setEvt e).drives = s.drives := (rfl)
@[simp] theorem State.setEvt_storeOp (s : State) (e : Events) : (s.setEvt e).storeOp = s.storeOp := (rfl)
@[simp] theorem State.setEvt_storeWait (s : State) (e : Events) : (s.setEvt e).storeWait = s.storeWait := (rfl)
@[simp] theorem State.setEvt_job (s : State) (e : Events) : (s.setEvt e).job = s.job := (rfl)
@[simp] theorem State.setEvt_aborts (s : State) (e : Events) : (s.setEvt e).aborts = s.aborts := (rfl)
@[simp] theorem State.setEvt_panic (s : State) (e : Events) : (s.setEvt e).panic = s.panic := (rfl)
@[simp] theorem State.setEvt_rateWait (s : State) (e : Events) : (s.setEvt e).rateWait = s.rateWait := (rfl)
@[simp] theorem State.setEvt_powerReq (s : State) (e : Events) : (s.setEvt e).powerReq = s.powerReq := (rfl)
@[simp] theorem State.setEvt_image (s : State) (e : Events) : (s.setEvt e).image = s.image := (rfl)
@[simp] theorem State.setEvt_bar4 (s : State) (e : Events) : (s.setEvt e).bar4 = s.bar4 := (rfl)
@[simp] theorem State.setEvt_cfgSpace (s : State) (e : Events) : (s.setEvt e).cfgSpace = s.cfgSpace := (rfl)
@[simp] theorem State.setEvt_tap (s : State) (e : Events) : (s.setEvt e).tap = s.tap := (rfl)
@[simp] theorem State.setEvt_lines (s : State) (e : Events) : (s.setEvt e).lines = s.lines := (rfl)
@[simp] theorem State.setEvt_linkRt (s : State) (e : Events) : (s.setEvt e).linkRt = s.linkRt := (rfl)
@[simp] theorem State.setEvt_rateTo (s : State) (e : Events) : (s.setEvt e).rateTo = s.rateTo := (rfl)
@[simp] theorem State.setEvt_bar2Held (s : State) (e : Events) : (s.setEvt e).bar2Held = s.bar2Held := (rfl)
@[simp] theorem State.setEvt_reg (s : State) (e : Events) (y : Nat) : (s.setEvt e).reg y = s.reg y := (rfl)
@[simp] theorem State.setEvt_fld (s : State) (e : Events) (q : Nat) (g : Fld) (m : Nat) : (s.setEvt e).fld q g m = s.fld q g m := (rfl)
@[simp] theorem State.setEvt_ff (s : State) (e : Events) (q : Nat) (g : Fld) (m : Nat) : (s.setEvt e).ff q g m = s.ff q g m := (rfl)
@[simp] theorem State.setEvt_now (s : State) (e : Events) : (s.setEvt e).now = s.now := (rfl)
@[simp] theorem State.setEvt_ring (s : State) (e : Events) (n' : Nat) : (s.setEvt e).ring n' = s.ring n' := (rfl)
@[simp] theorem State.dropCommand_pending (s : State) (n : Nat) : (s.dropCommand n).pending = s.pending := (rfl)
@[simp] theorem State.dropCommand_free (s : State) (n : Nat) : (s.dropCommand n).free = s.free := (rfl)
@[simp] theorem State.dropCommand_out (s : State) (n : Nat) : (s.dropCommand n).out = s.out := (rfl)
@[simp] theorem State.dropCommand_regs (s : State) (n : Nat) : (s.dropCommand n).regs = s.regs := (rfl)
@[simp] theorem State.dropCommand_force (s : State) (n : Nat) : (s.dropCommand n).force = s.force := (rfl)
@[simp] theorem State.dropCommand_latch (s : State) (n : Nat) : (s.dropCommand n).latch = s.latch := (rfl)
@[simp] theorem State.dropCommand_lowHalf (s : State) (n : Nat) : (s.dropCommand n).lowHalf = s.lowHalf := (rfl)
@[simp] theorem State.dropCommand_mem (s : State) (n : Nat) : (s.dropCommand n).mem = s.mem := (rfl)
@[simp] theorem State.dropCommand_hostMem (s : State) (n : Nat) : (s.dropCommand n).hostMem = s.hostMem := (rfl)
@[simp] theorem State.dropCommand_rings (s : State) (n : Nat) : (s.dropCommand n).rings = s.rings := (rfl)
@[simp] theorem State.dropCommand_stale (s : State) (n : Nat) : (s.dropCommand n).stale = s.stale := (rfl)
@[simp] theorem State.dropCommand_commands (s : State) (n : Nat) : (s.dropCommand n).commands = ins none n none s.commands := (rfl)
@[simp] theorem State.dropCommand_clk (s : State) (n : Nat) : (s.dropCommand n).clk = s.clk := (rfl)
@[simp] theorem State.dropCommand_pow (s : State) (n : Nat) : (s.dropCommand n).pow = s.pow := (rfl)
@[simp] theorem State.dropCommand_cyc (s : State) (n : Nat) : (s.dropCommand n).cyc = s.cyc := (rfl)
@[simp] theorem State.dropCommand_flows (s : State) (n : Nat) : (s.dropCommand n).flows = s.flows := (rfl)
@[simp] theorem State.dropCommand_ports (s : State) (n : Nat) : (s.dropCommand n).ports = s.ports := (rfl)
@[simp] theorem State.dropCommand_views (s : State) (n : Nat) : (s.dropCommand n).views = s.views := (rfl)
@[simp] theorem State.dropCommand_feeds (s : State) (n : Nat) : (s.dropCommand n).feeds = s.feeds := (rfl)
@[simp] theorem State.dropCommand_lanes (s : State) (n : Nat) : (s.dropCommand n).lanes = s.lanes := (rfl)
@[simp] theorem State.dropCommand_busy (s : State) (n : Nat) : (s.dropCommand n).busy = s.busy := (rfl)
@[simp] theorem State.dropCommand_chans (s : State) (n : Nat) : (s.dropCommand n).chans = s.chans := (rfl)
@[simp] theorem State.dropCommand_credits (s : State) (n : Nat) : (s.dropCommand n).credits = s.credits := (rfl)
@[simp] theorem State.dropCommand_house (s : State) (n : Nat) : (s.dropCommand n).house = s.house := (rfl)
@[simp] theorem State.dropCommand_ptp (s : State) (n : Nat) : (s.dropCommand n).ptp = s.ptp := (rfl)
@[simp] theorem State.dropCommand_touts (s : State) (n : Nat) : (s.dropCommand n).touts = s.touts := (rfl)
@[simp] theorem State.dropCommand_tcaps (s : State) (n : Nat) : (s.dropCommand n).tcaps = s.tcaps := (rfl)
@[simp] theorem State.dropCommand_ppsHigh (s : State) (n : Nat) : (s.dropCommand n).ppsHigh = s.ppsHigh := (rfl)
@[simp] theorem State.dropCommand_servos (s : State) (n : Nat) : (s.dropCommand n).servos = s.servos := (rfl)
@[simp] theorem State.dropCommand_evt (s : State) (n : Nat) : (s.dropCommand n).evt = s.evt := (rfl)
@[simp] theorem State.dropCommand_dgs (s : State) (n : Nat) : (s.dropCommand n).dgs = s.dgs := (rfl)
@[simp] theorem State.dropCommand_resp (s : State) (n : Nat) : (s.dropCommand n).resp = s.resp := (rfl)
@[simp] theorem State.dropCommand_respLoad (s : State) (n : Nat) : (s.dropCommand n).respLoad = s.respLoad := (rfl)
@[simp] theorem State.dropCommand_cap (s : State) (n : Nat) : (s.dropCommand n).cap = s.cap := (rfl)
@[simp] theorem State.dropCommand_corrTouched (s : State) (n : Nat) : (s.dropCommand n).corrTouched = s.corrTouched := (rfl)
@[simp] theorem State.dropCommand_play (s : State) (n : Nat) : (s.dropCommand n).play = s.play := (rfl)
@[simp] theorem State.dropCommand_flashMem (s : State) (n : Nat) : (s.dropCommand n).flashMem = s.flashMem := (rfl)
@[simp] theorem State.dropCommand_flashOp (s : State) (n : Nat) : (s.dropCommand n).flashOp = s.flashOp := (rfl)
@[simp] theorem State.dropCommand_drives (s : State) (n : Nat) : (s.dropCommand n).drives = s.drives := (rfl)
@[simp] theorem State.dropCommand_storeOp (s : State) (n : Nat) : (s.dropCommand n).storeOp = s.storeOp := (rfl)
@[simp] theorem State.dropCommand_storeWait (s : State) (n : Nat) : (s.dropCommand n).storeWait = s.storeWait := (rfl)
@[simp] theorem State.dropCommand_job (s : State) (n : Nat) : (s.dropCommand n).job = s.job := (rfl)
@[simp] theorem State.dropCommand_aborts (s : State) (n : Nat) : (s.dropCommand n).aborts = s.aborts := (rfl)
@[simp] theorem State.dropCommand_panic (s : State) (n : Nat) : (s.dropCommand n).panic = s.panic := (rfl)
@[simp] theorem State.dropCommand_rateWait (s : State) (n : Nat) : (s.dropCommand n).rateWait = s.rateWait := (rfl)
@[simp] theorem State.dropCommand_powerReq (s : State) (n : Nat) : (s.dropCommand n).powerReq = s.powerReq := (rfl)
@[simp] theorem State.dropCommand_image (s : State) (n : Nat) : (s.dropCommand n).image = s.image := (rfl)
@[simp] theorem State.dropCommand_bar4 (s : State) (n : Nat) : (s.dropCommand n).bar4 = s.bar4 := (rfl)
@[simp] theorem State.dropCommand_cfgSpace (s : State) (n : Nat) : (s.dropCommand n).cfgSpace = s.cfgSpace := (rfl)
@[simp] theorem State.dropCommand_tap (s : State) (n : Nat) : (s.dropCommand n).tap = s.tap := (rfl)
@[simp] theorem State.dropCommand_lines (s : State) (n : Nat) : (s.dropCommand n).lines = s.lines := (rfl)
@[simp] theorem State.dropCommand_linkRt (s : State) (n : Nat) : (s.dropCommand n).linkRt = s.linkRt := (rfl)
@[simp] theorem State.dropCommand_rateTo (s : State) (n : Nat) : (s.dropCommand n).rateTo = s.rateTo := (rfl)
@[simp] theorem State.dropCommand_bar2Held (s : State) (n : Nat) : (s.dropCommand n).bar2Held = s.bar2Held := (rfl)
@[simp] theorem State.dropCommand_reg (s : State) (n : Nat) (y : Nat) : (s.dropCommand n).reg y = s.reg y := (rfl)
@[simp] theorem State.dropCommand_fld (s : State) (n : Nat) (q : Nat) (g : Fld) (m : Nat) : (s.dropCommand n).fld q g m = s.fld q g m := (rfl)
@[simp] theorem State.dropCommand_ff (s : State) (n : Nat) (q : Nat) (g : Fld) (m : Nat) : (s.dropCommand n).ff q g m = s.ff q g m := (rfl)
@[simp] theorem State.dropCommand_now (s : State) (n : Nat) : (s.dropCommand n).now = s.now := (rfl)
@[simp] theorem State.dropCommand_ring (s : State) (n : Nat) (n' : Nat) : (s.dropCommand n).ring n' = s.ring n' := (rfl)
@[simp] theorem State.setServo_pending (s : State) (n : Nat) (x : Servo) : (s.setServo n x).pending = s.pending := (rfl)
@[simp] theorem State.setServo_free (s : State) (n : Nat) (x : Servo) : (s.setServo n x).free = s.free := (rfl)
@[simp] theorem State.setServo_out (s : State) (n : Nat) (x : Servo) : (s.setServo n x).out = s.out := (rfl)
@[simp] theorem State.setServo_regs (s : State) (n : Nat) (x : Servo) : (s.setServo n x).regs = s.regs := (rfl)
@[simp] theorem State.setServo_force (s : State) (n : Nat) (x : Servo) : (s.setServo n x).force = s.force := (rfl)
@[simp] theorem State.setServo_latch (s : State) (n : Nat) (x : Servo) : (s.setServo n x).latch = s.latch := (rfl)
@[simp] theorem State.setServo_lowHalf (s : State) (n : Nat) (x : Servo) : (s.setServo n x).lowHalf = s.lowHalf := (rfl)
@[simp] theorem State.setServo_mem (s : State) (n : Nat) (x : Servo) : (s.setServo n x).mem = s.mem := (rfl)
@[simp] theorem State.setServo_hostMem (s : State) (n : Nat) (x : Servo) : (s.setServo n x).hostMem = s.hostMem := (rfl)
@[simp] theorem State.setServo_rings (s : State) (n : Nat) (x : Servo) : (s.setServo n x).rings = s.rings := (rfl)
@[simp] theorem State.setServo_stale (s : State) (n : Nat) (x : Servo) : (s.setServo n x).stale = s.stale := (rfl)
@[simp] theorem State.setServo_commands (s : State) (n : Nat) (x : Servo) : (s.setServo n x).commands = s.commands := (rfl)
@[simp] theorem State.setServo_clk (s : State) (n : Nat) (x : Servo) : (s.setServo n x).clk = s.clk := (rfl)
@[simp] theorem State.setServo_pow (s : State) (n : Nat) (x : Servo) : (s.setServo n x).pow = s.pow := (rfl)
@[simp] theorem State.setServo_cyc (s : State) (n : Nat) (x : Servo) : (s.setServo n x).cyc = s.cyc := (rfl)
@[simp] theorem State.setServo_flows (s : State) (n : Nat) (x : Servo) : (s.setServo n x).flows = s.flows := (rfl)
@[simp] theorem State.setServo_ports (s : State) (n : Nat) (x : Servo) : (s.setServo n x).ports = s.ports := (rfl)
@[simp] theorem State.setServo_views (s : State) (n : Nat) (x : Servo) : (s.setServo n x).views = s.views := (rfl)
@[simp] theorem State.setServo_feeds (s : State) (n : Nat) (x : Servo) : (s.setServo n x).feeds = s.feeds := (rfl)
@[simp] theorem State.setServo_lanes (s : State) (n : Nat) (x : Servo) : (s.setServo n x).lanes = s.lanes := (rfl)
@[simp] theorem State.setServo_busy (s : State) (n : Nat) (x : Servo) : (s.setServo n x).busy = s.busy := (rfl)
@[simp] theorem State.setServo_chans (s : State) (n : Nat) (x : Servo) : (s.setServo n x).chans = s.chans := (rfl)
@[simp] theorem State.setServo_credits (s : State) (n : Nat) (x : Servo) : (s.setServo n x).credits = s.credits := (rfl)
@[simp] theorem State.setServo_house (s : State) (n : Nat) (x : Servo) : (s.setServo n x).house = s.house := (rfl)
@[simp] theorem State.setServo_ptp (s : State) (n : Nat) (x : Servo) : (s.setServo n x).ptp = s.ptp := (rfl)
@[simp] theorem State.setServo_touts (s : State) (n : Nat) (x : Servo) : (s.setServo n x).touts = s.touts := (rfl)
@[simp] theorem State.setServo_tcaps (s : State) (n : Nat) (x : Servo) : (s.setServo n x).tcaps = s.tcaps := (rfl)
@[simp] theorem State.setServo_ppsHigh (s : State) (n : Nat) (x : Servo) : (s.setServo n x).ppsHigh = s.ppsHigh := (rfl)
@[simp] theorem State.setServo_evt (s : State) (n : Nat) (x : Servo) : (s.setServo n x).evt = s.evt := (rfl)
@[simp] theorem State.setServo_dgs (s : State) (n : Nat) (x : Servo) : (s.setServo n x).dgs = s.dgs := (rfl)
@[simp] theorem State.setServo_resp (s : State) (n : Nat) (x : Servo) : (s.setServo n x).resp = s.resp := (rfl)
@[simp] theorem State.setServo_respLoad (s : State) (n : Nat) (x : Servo) : (s.setServo n x).respLoad = s.respLoad := (rfl)
@[simp] theorem State.setServo_cap (s : State) (n : Nat) (x : Servo) : (s.setServo n x).cap = s.cap := (rfl)
@[simp] theorem State.setServo_corrTouched (s : State) (n : Nat) (x : Servo) : (s.setServo n x).corrTouched = s.corrTouched := (rfl)
@[simp] theorem State.setServo_play (s : State) (n : Nat) (x : Servo) : (s.setServo n x).play = s.play := (rfl)
@[simp] theorem State.setServo_flashMem (s : State) (n : Nat) (x : Servo) : (s.setServo n x).flashMem = s.flashMem := (rfl)
@[simp] theorem State.setServo_flashOp (s : State) (n : Nat) (x : Servo) : (s.setServo n x).flashOp = s.flashOp := (rfl)
@[simp] theorem State.setServo_drives (s : State) (n : Nat) (x : Servo) : (s.setServo n x).drives = s.drives := (rfl)
@[simp] theorem State.setServo_storeOp (s : State) (n : Nat) (x : Servo) : (s.setServo n x).storeOp = s.storeOp := (rfl)
@[simp] theorem State.setServo_storeWait (s : State) (n : Nat) (x : Servo) : (s.setServo n x).storeWait = s.storeWait := (rfl)
@[simp] theorem State.setServo_job (s : State) (n : Nat) (x : Servo) : (s.setServo n x).job = s.job := (rfl)
@[simp] theorem State.setServo_aborts (s : State) (n : Nat) (x : Servo) : (s.setServo n x).aborts = s.aborts := (rfl)
@[simp] theorem State.setServo_panic (s : State) (n : Nat) (x : Servo) : (s.setServo n x).panic = s.panic := (rfl)
@[simp] theorem State.setServo_rateWait (s : State) (n : Nat) (x : Servo) : (s.setServo n x).rateWait = s.rateWait := (rfl)
@[simp] theorem State.setServo_powerReq (s : State) (n : Nat) (x : Servo) : (s.setServo n x).powerReq = s.powerReq := (rfl)
@[simp] theorem State.setServo_image (s : State) (n : Nat) (x : Servo) : (s.setServo n x).image = s.image := (rfl)
@[simp] theorem State.setServo_bar4 (s : State) (n : Nat) (x : Servo) : (s.setServo n x).bar4 = s.bar4 := (rfl)
@[simp] theorem State.setServo_cfgSpace (s : State) (n : Nat) (x : Servo) : (s.setServo n x).cfgSpace = s.cfgSpace := (rfl)
@[simp] theorem State.setServo_tap (s : State) (n : Nat) (x : Servo) : (s.setServo n x).tap = s.tap := (rfl)
@[simp] theorem State.setServo_lines (s : State) (n : Nat) (x : Servo) : (s.setServo n x).lines = s.lines := (rfl)
@[simp] theorem State.setServo_linkRt (s : State) (n : Nat) (x : Servo) : (s.setServo n x).linkRt = s.linkRt := (rfl)
@[simp] theorem State.setServo_rateTo (s : State) (n : Nat) (x : Servo) : (s.setServo n x).rateTo = s.rateTo := (rfl)
@[simp] theorem State.setServo_bar2Held (s : State) (n : Nat) (x : Servo) : (s.setServo n x).bar2Held = s.bar2Held := (rfl)
@[simp] theorem State.setServo_reg (s : State) (n : Nat) (x : Servo) (y : Nat) : (s.setServo n x).reg y = s.reg y := (rfl)
@[simp] theorem State.setServo_fld (s : State) (n : Nat) (x : Servo) (q : Nat) (g : Fld) (m : Nat) : (s.setServo n x).fld q g m = s.fld q g m := (rfl)
@[simp] theorem State.setServo_ff (s : State) (n : Nat) (x : Servo) (q : Nat) (g : Fld) (m : Nat) : (s.setServo n x).ff q g m = s.ff q g m := (rfl)
@[simp] theorem State.setServo_now (s : State) (n : Nat) (x : Servo) : (s.setServo n x).now = s.now := (rfl)
@[simp] theorem State.setServo_ring (s : State) (n : Nat) (x : Servo) (n' : Nat) : (s.setServo n x).ring n' = s.ring n' := (rfl)
@[simp] theorem State.setCyc_pending (s : State) (c : Cycles) : (s.setCyc c).pending = s.pending := (rfl)
@[simp] theorem State.setCyc_free (s : State) (c : Cycles) : (s.setCyc c).free = s.free := (rfl)
@[simp] theorem State.setCyc_out (s : State) (c : Cycles) : (s.setCyc c).out = s.out := (rfl)
@[simp] theorem State.setCyc_regs (s : State) (c : Cycles) : (s.setCyc c).regs = s.regs := (rfl)
@[simp] theorem State.setCyc_force (s : State) (c : Cycles) : (s.setCyc c).force = s.force := (rfl)
@[simp] theorem State.setCyc_latch (s : State) (c : Cycles) : (s.setCyc c).latch = s.latch := (rfl)
@[simp] theorem State.setCyc_lowHalf (s : State) (c : Cycles) : (s.setCyc c).lowHalf = s.lowHalf := (rfl)
@[simp] theorem State.setCyc_mem (s : State) (c : Cycles) : (s.setCyc c).mem = s.mem := (rfl)
@[simp] theorem State.setCyc_hostMem (s : State) (c : Cycles) : (s.setCyc c).hostMem = s.hostMem := (rfl)
@[simp] theorem State.setCyc_rings (s : State) (c : Cycles) : (s.setCyc c).rings = s.rings := (rfl)
@[simp] theorem State.setCyc_stale (s : State) (c : Cycles) : (s.setCyc c).stale = s.stale := (rfl)
@[simp] theorem State.setCyc_commands (s : State) (c : Cycles) : (s.setCyc c).commands = s.commands := (rfl)
@[simp] theorem State.setCyc_clk (s : State) (c : Cycles) : (s.setCyc c).clk = s.clk := (rfl)
@[simp] theorem State.setCyc_pow (s : State) (c : Cycles) : (s.setCyc c).pow = s.pow := (rfl)
@[simp] theorem State.setCyc_cyc (s : State) (c : Cycles) : (s.setCyc c).cyc = c := (rfl)
@[simp] theorem State.setCyc_flows (s : State) (c : Cycles) : (s.setCyc c).flows = s.flows := (rfl)
@[simp] theorem State.setCyc_ports (s : State) (c : Cycles) : (s.setCyc c).ports = s.ports := (rfl)
@[simp] theorem State.setCyc_views (s : State) (c : Cycles) : (s.setCyc c).views = s.views := (rfl)
@[simp] theorem State.setCyc_feeds (s : State) (c : Cycles) : (s.setCyc c).feeds = s.feeds := (rfl)
@[simp] theorem State.setCyc_lanes (s : State) (c : Cycles) : (s.setCyc c).lanes = s.lanes := (rfl)
@[simp] theorem State.setCyc_busy (s : State) (c : Cycles) : (s.setCyc c).busy = s.busy := (rfl)
@[simp] theorem State.setCyc_chans (s : State) (c : Cycles) : (s.setCyc c).chans = s.chans := (rfl)
@[simp] theorem State.setCyc_credits (s : State) (c : Cycles) : (s.setCyc c).credits = s.credits := (rfl)
@[simp] theorem State.setCyc_house (s : State) (c : Cycles) : (s.setCyc c).house = s.house := (rfl)
@[simp] theorem State.setCyc_ptp (s : State) (c : Cycles) : (s.setCyc c).ptp = s.ptp := (rfl)
@[simp] theorem State.setCyc_touts (s : State) (c : Cycles) : (s.setCyc c).touts = s.touts := (rfl)
@[simp] theorem State.setCyc_tcaps (s : State) (c : Cycles) : (s.setCyc c).tcaps = s.tcaps := (rfl)
@[simp] theorem State.setCyc_ppsHigh (s : State) (c : Cycles) : (s.setCyc c).ppsHigh = s.ppsHigh := (rfl)
@[simp] theorem State.setCyc_servos (s : State) (c : Cycles) : (s.setCyc c).servos = s.servos := (rfl)
@[simp] theorem State.setCyc_evt (s : State) (c : Cycles) : (s.setCyc c).evt = s.evt := (rfl)
@[simp] theorem State.setCyc_dgs (s : State) (c : Cycles) : (s.setCyc c).dgs = s.dgs := (rfl)
@[simp] theorem State.setCyc_resp (s : State) (c : Cycles) : (s.setCyc c).resp = s.resp := (rfl)
@[simp] theorem State.setCyc_respLoad (s : State) (c : Cycles) : (s.setCyc c).respLoad = s.respLoad := (rfl)
@[simp] theorem State.setCyc_cap (s : State) (c : Cycles) : (s.setCyc c).cap = s.cap := (rfl)
@[simp] theorem State.setCyc_corrTouched (s : State) (c : Cycles) : (s.setCyc c).corrTouched = s.corrTouched := (rfl)
@[simp] theorem State.setCyc_play (s : State) (c : Cycles) : (s.setCyc c).play = s.play := (rfl)
@[simp] theorem State.setCyc_flashMem (s : State) (c : Cycles) : (s.setCyc c).flashMem = s.flashMem := (rfl)
@[simp] theorem State.setCyc_flashOp (s : State) (c : Cycles) : (s.setCyc c).flashOp = s.flashOp := (rfl)
@[simp] theorem State.setCyc_drives (s : State) (c : Cycles) : (s.setCyc c).drives = s.drives := (rfl)
@[simp] theorem State.setCyc_storeOp (s : State) (c : Cycles) : (s.setCyc c).storeOp = s.storeOp := (rfl)
@[simp] theorem State.setCyc_storeWait (s : State) (c : Cycles) : (s.setCyc c).storeWait = s.storeWait := (rfl)
@[simp] theorem State.setCyc_job (s : State) (c : Cycles) : (s.setCyc c).job = s.job := (rfl)
@[simp] theorem State.setCyc_aborts (s : State) (c : Cycles) : (s.setCyc c).aborts = s.aborts := (rfl)
@[simp] theorem State.setCyc_panic (s : State) (c : Cycles) : (s.setCyc c).panic = s.panic := (rfl)
@[simp] theorem State.setCyc_rateWait (s : State) (c : Cycles) : (s.setCyc c).rateWait = s.rateWait := (rfl)
@[simp] theorem State.setCyc_powerReq (s : State) (c : Cycles) : (s.setCyc c).powerReq = s.powerReq := (rfl)
@[simp] theorem State.setCyc_image (s : State) (c : Cycles) : (s.setCyc c).image = s.image := (rfl)
@[simp] theorem State.setCyc_bar4 (s : State) (c : Cycles) : (s.setCyc c).bar4 = s.bar4 := (rfl)
@[simp] theorem State.setCyc_cfgSpace (s : State) (c : Cycles) : (s.setCyc c).cfgSpace = s.cfgSpace := (rfl)
@[simp] theorem State.setCyc_tap (s : State) (c : Cycles) : (s.setCyc c).tap = s.tap := (rfl)
@[simp] theorem State.setCyc_lines (s : State) (c : Cycles) : (s.setCyc c).lines = s.lines := (rfl)
@[simp] theorem State.setCyc_linkRt (s : State) (c : Cycles) : (s.setCyc c).linkRt = s.linkRt := (rfl)
@[simp] theorem State.setCyc_rateTo (s : State) (c : Cycles) : (s.setCyc c).rateTo = s.rateTo := (rfl)
@[simp] theorem State.setCyc_bar2Held (s : State) (c : Cycles) : (s.setCyc c).bar2Held = s.bar2Held := (rfl)
@[simp] theorem State.setCyc_reg (s : State) (c : Cycles) (y : Nat) : (s.setCyc c).reg y = s.reg y := (rfl)
@[simp] theorem State.setCyc_fld (s : State) (c : Cycles) (q : Nat) (g : Fld) (m : Nat) : (s.setCyc c).fld q g m = s.fld q g m := (rfl)
@[simp] theorem State.setCyc_ff (s : State) (c : Cycles) (q : Nat) (g : Fld) (m : Nat) : (s.setCyc c).ff q g m = s.ff q g m := (rfl)
@[simp] theorem State.setCyc_now (s : State) (c : Cycles) : (s.setCyc c).now = s.now := (rfl)
@[simp] theorem State.setCyc_ring (s : State) (c : Cycles) (n' : Nat) : (s.setCyc c).ring n' = s.ring n' := (rfl)
@[simp] theorem State.setPtp_pending (s : State) (p : Ptp) : (s.setPtp p).pending = s.pending := (rfl)
@[simp] theorem State.setPtp_free (s : State) (p : Ptp) : (s.setPtp p).free = s.free := (rfl)
@[simp] theorem State.setPtp_out (s : State) (p : Ptp) : (s.setPtp p).out = s.out := (rfl)
@[simp] theorem State.setPtp_regs (s : State) (p : Ptp) : (s.setPtp p).regs = s.regs := (rfl)
@[simp] theorem State.setPtp_force (s : State) (p : Ptp) : (s.setPtp p).force = s.force := (rfl)
@[simp] theorem State.setPtp_latch (s : State) (p : Ptp) : (s.setPtp p).latch = s.latch := (rfl)
@[simp] theorem State.setPtp_lowHalf (s : State) (p : Ptp) : (s.setPtp p).lowHalf = s.lowHalf := (rfl)
@[simp] theorem State.setPtp_mem (s : State) (p : Ptp) : (s.setPtp p).mem = s.mem := (rfl)
@[simp] theorem State.setPtp_hostMem (s : State) (p : Ptp) : (s.setPtp p).hostMem = s.hostMem := (rfl)
@[simp] theorem State.setPtp_rings (s : State) (p : Ptp) : (s.setPtp p).rings = s.rings := (rfl)
@[simp] theorem State.setPtp_stale (s : State) (p : Ptp) : (s.setPtp p).stale = s.stale := (rfl)
@[simp] theorem State.setPtp_commands (s : State) (p : Ptp) : (s.setPtp p).commands = s.commands := (rfl)
@[simp] theorem State.setPtp_clk (s : State) (p : Ptp) : (s.setPtp p).clk = s.clk := (rfl)
@[simp] theorem State.setPtp_pow (s : State) (p : Ptp) : (s.setPtp p).pow = s.pow := (rfl)
@[simp] theorem State.setPtp_cyc (s : State) (p : Ptp) : (s.setPtp p).cyc = s.cyc := (rfl)
@[simp] theorem State.setPtp_flows (s : State) (p : Ptp) : (s.setPtp p).flows = s.flows := (rfl)
@[simp] theorem State.setPtp_ports (s : State) (p : Ptp) : (s.setPtp p).ports = s.ports := (rfl)
@[simp] theorem State.setPtp_views (s : State) (p : Ptp) : (s.setPtp p).views = s.views := (rfl)
@[simp] theorem State.setPtp_feeds (s : State) (p : Ptp) : (s.setPtp p).feeds = s.feeds := (rfl)
@[simp] theorem State.setPtp_lanes (s : State) (p : Ptp) : (s.setPtp p).lanes = s.lanes := (rfl)
@[simp] theorem State.setPtp_busy (s : State) (p : Ptp) : (s.setPtp p).busy = s.busy := (rfl)
@[simp] theorem State.setPtp_chans (s : State) (p : Ptp) : (s.setPtp p).chans = s.chans := (rfl)
@[simp] theorem State.setPtp_credits (s : State) (p : Ptp) : (s.setPtp p).credits = s.credits := (rfl)
@[simp] theorem State.setPtp_house (s : State) (p : Ptp) : (s.setPtp p).house = s.house := (rfl)
@[simp] theorem State.setPtp_ptp (s : State) (p : Ptp) : (s.setPtp p).ptp = p := (rfl)
@[simp] theorem State.setPtp_touts (s : State) (p : Ptp) : (s.setPtp p).touts = s.touts := (rfl)
@[simp] theorem State.setPtp_tcaps (s : State) (p : Ptp) : (s.setPtp p).tcaps = s.tcaps := (rfl)
@[simp] theorem State.setPtp_ppsHigh (s : State) (p : Ptp) : (s.setPtp p).ppsHigh = s.ppsHigh := (rfl)
@[simp] theorem State.setPtp_servos (s : State) (p : Ptp) : (s.setPtp p).servos = s.servos := (rfl)
@[simp] theorem State.setPtp_evt (s : State) (p : Ptp) : (s.setPtp p).evt = s.evt := (rfl)
@[simp] theorem State.setPtp_dgs (s : State) (p : Ptp) : (s.setPtp p).dgs = s.dgs := (rfl)
@[simp] theorem State.setPtp_resp (s : State) (p : Ptp) : (s.setPtp p).resp = s.resp := (rfl)
@[simp] theorem State.setPtp_respLoad (s : State) (p : Ptp) : (s.setPtp p).respLoad = s.respLoad := (rfl)
@[simp] theorem State.setPtp_cap (s : State) (p : Ptp) : (s.setPtp p).cap = s.cap := (rfl)
@[simp] theorem State.setPtp_corrTouched (s : State) (p : Ptp) : (s.setPtp p).corrTouched = s.corrTouched := (rfl)
@[simp] theorem State.setPtp_play (s : State) (p : Ptp) : (s.setPtp p).play = s.play := (rfl)
@[simp] theorem State.setPtp_flashMem (s : State) (p : Ptp) : (s.setPtp p).flashMem = s.flashMem := (rfl)
@[simp] theorem State.setPtp_flashOp (s : State) (p : Ptp) : (s.setPtp p).flashOp = s.flashOp := (rfl)
@[simp] theorem State.setPtp_drives (s : State) (p : Ptp) : (s.setPtp p).drives = s.drives := (rfl)
@[simp] theorem State.setPtp_storeOp (s : State) (p : Ptp) : (s.setPtp p).storeOp = s.storeOp := (rfl)
@[simp] theorem State.setPtp_storeWait (s : State) (p : Ptp) : (s.setPtp p).storeWait = s.storeWait := (rfl)
@[simp] theorem State.setPtp_job (s : State) (p : Ptp) : (s.setPtp p).job = s.job := (rfl)
@[simp] theorem State.setPtp_aborts (s : State) (p : Ptp) : (s.setPtp p).aborts = s.aborts := (rfl)
@[simp] theorem State.setPtp_panic (s : State) (p : Ptp) : (s.setPtp p).panic = s.panic := (rfl)
@[simp] theorem State.setPtp_rateWait (s : State) (p : Ptp) : (s.setPtp p).rateWait = s.rateWait := (rfl)
@[simp] theorem State.setPtp_powerReq (s : State) (p : Ptp) : (s.setPtp p).powerReq = s.powerReq := (rfl)
@[simp] theorem State.setPtp_image (s : State) (p : Ptp) : (s.setPtp p).image = s.image := (rfl)
@[simp] theorem State.setPtp_bar4 (s : State) (p : Ptp) : (s.setPtp p).bar4 = s.bar4 := (rfl)
@[simp] theorem State.setPtp_cfgSpace (s : State) (p : Ptp) : (s.setPtp p).cfgSpace = s.cfgSpace := (rfl)
@[simp] theorem State.setPtp_tap (s : State) (p : Ptp) : (s.setPtp p).tap = s.tap := (rfl)
@[simp] theorem State.setPtp_lines (s : State) (p : Ptp) : (s.setPtp p).lines = s.lines := (rfl)
@[simp] theorem State.setPtp_linkRt (s : State) (p : Ptp) : (s.setPtp p).linkRt = s.linkRt := (rfl)
@[simp] theorem State.setPtp_rateTo (s : State) (p : Ptp) : (s.setPtp p).rateTo = s.rateTo := (rfl)
@[simp] theorem State.setPtp_bar2Held (s : State) (p : Ptp) : (s.setPtp p).bar2Held = s.bar2Held := (rfl)
@[simp] theorem State.setPtp_reg (s : State) (p : Ptp) (y : Nat) : (s.setPtp p).reg y = s.reg y := (rfl)
@[simp] theorem State.setPtp_fld (s : State) (p : Ptp) (q : Nat) (g : Fld) (m : Nat) : (s.setPtp p).fld q g m = s.fld q g m := (rfl)
@[simp] theorem State.setPtp_ff (s : State) (p : Ptp) (q : Nat) (g : Fld) (m : Nat) : (s.setPtp p).ff q g m = s.ff q g m := (rfl)
@[simp] theorem State.setPtp_now (s : State) (p : Ptp) : (s.setPtp p).now = s.now := (rfl)
@[simp] theorem State.setPtp_ring (s : State) (p : Ptp) (n' : Nat) : (s.setPtp p).ring n' = s.ring n' := (rfl)
@[simp] theorem State.setTout_pending (s : State) (k : Nat) (t : Tout) : (s.setTout k t).pending = s.pending := (rfl)
@[simp] theorem State.setTout_free (s : State) (k : Nat) (t : Tout) : (s.setTout k t).free = s.free := (rfl)
@[simp] theorem State.setTout_out (s : State) (k : Nat) (t : Tout) : (s.setTout k t).out = s.out := (rfl)
@[simp] theorem State.setTout_regs (s : State) (k : Nat) (t : Tout) : (s.setTout k t).regs = s.regs := (rfl)
@[simp] theorem State.setTout_force (s : State) (k : Nat) (t : Tout) : (s.setTout k t).force = s.force := (rfl)
@[simp] theorem State.setTout_latch (s : State) (k : Nat) (t : Tout) : (s.setTout k t).latch = s.latch := (rfl)
@[simp] theorem State.setTout_lowHalf (s : State) (k : Nat) (t : Tout) : (s.setTout k t).lowHalf = s.lowHalf := (rfl)
@[simp] theorem State.setTout_mem (s : State) (k : Nat) (t : Tout) : (s.setTout k t).mem = s.mem := (rfl)
@[simp] theorem State.setTout_hostMem (s : State) (k : Nat) (t : Tout) : (s.setTout k t).hostMem = s.hostMem := (rfl)
@[simp] theorem State.setTout_rings (s : State) (k : Nat) (t : Tout) : (s.setTout k t).rings = s.rings := (rfl)
@[simp] theorem State.setTout_stale (s : State) (k : Nat) (t : Tout) : (s.setTout k t).stale = s.stale := (rfl)
@[simp] theorem State.setTout_commands (s : State) (k : Nat) (t : Tout) : (s.setTout k t).commands = s.commands := (rfl)
@[simp] theorem State.setTout_clk (s : State) (k : Nat) (t : Tout) : (s.setTout k t).clk = s.clk := (rfl)
@[simp] theorem State.setTout_pow (s : State) (k : Nat) (t : Tout) : (s.setTout k t).pow = s.pow := (rfl)
@[simp] theorem State.setTout_cyc (s : State) (k : Nat) (t : Tout) : (s.setTout k t).cyc = s.cyc := (rfl)
@[simp] theorem State.setTout_flows (s : State) (k : Nat) (t : Tout) : (s.setTout k t).flows = s.flows := (rfl)
@[simp] theorem State.setTout_ports (s : State) (k : Nat) (t : Tout) : (s.setTout k t).ports = s.ports := (rfl)
@[simp] theorem State.setTout_views (s : State) (k : Nat) (t : Tout) : (s.setTout k t).views = s.views := (rfl)
@[simp] theorem State.setTout_feeds (s : State) (k : Nat) (t : Tout) : (s.setTout k t).feeds = s.feeds := (rfl)
@[simp] theorem State.setTout_lanes (s : State) (k : Nat) (t : Tout) : (s.setTout k t).lanes = s.lanes := (rfl)
@[simp] theorem State.setTout_busy (s : State) (k : Nat) (t : Tout) : (s.setTout k t).busy = s.busy := (rfl)
@[simp] theorem State.setTout_chans (s : State) (k : Nat) (t : Tout) : (s.setTout k t).chans = s.chans := (rfl)
@[simp] theorem State.setTout_credits (s : State) (k : Nat) (t : Tout) : (s.setTout k t).credits = s.credits := (rfl)
@[simp] theorem State.setTout_house (s : State) (k : Nat) (t : Tout) : (s.setTout k t).house = s.house := (rfl)
@[simp] theorem State.setTout_ptp (s : State) (k : Nat) (t : Tout) : (s.setTout k t).ptp = s.ptp := (rfl)
@[simp] theorem State.setTout_touts (s : State) (k : Nat) (t : Tout) : (s.setTout k t).touts = ins Tout.off k t s.touts := (rfl)
@[simp] theorem State.setTout_tcaps (s : State) (k : Nat) (t : Tout) : (s.setTout k t).tcaps = s.tcaps := (rfl)
@[simp] theorem State.setTout_ppsHigh (s : State) (k : Nat) (t : Tout) : (s.setTout k t).ppsHigh = s.ppsHigh := (rfl)
@[simp] theorem State.setTout_servos (s : State) (k : Nat) (t : Tout) : (s.setTout k t).servos = s.servos := (rfl)
@[simp] theorem State.setTout_evt (s : State) (k : Nat) (t : Tout) : (s.setTout k t).evt = s.evt := (rfl)
@[simp] theorem State.setTout_dgs (s : State) (k : Nat) (t : Tout) : (s.setTout k t).dgs = s.dgs := (rfl)
@[simp] theorem State.setTout_resp (s : State) (k : Nat) (t : Tout) : (s.setTout k t).resp = s.resp := (rfl)
@[simp] theorem State.setTout_respLoad (s : State) (k : Nat) (t : Tout) : (s.setTout k t).respLoad = s.respLoad := (rfl)
@[simp] theorem State.setTout_cap (s : State) (k : Nat) (t : Tout) : (s.setTout k t).cap = s.cap := (rfl)
@[simp] theorem State.setTout_corrTouched (s : State) (k : Nat) (t : Tout) : (s.setTout k t).corrTouched = s.corrTouched := (rfl)
@[simp] theorem State.setTout_play (s : State) (k : Nat) (t : Tout) : (s.setTout k t).play = s.play := (rfl)
@[simp] theorem State.setTout_flashMem (s : State) (k : Nat) (t : Tout) : (s.setTout k t).flashMem = s.flashMem := (rfl)
@[simp] theorem State.setTout_flashOp (s : State) (k : Nat) (t : Tout) : (s.setTout k t).flashOp = s.flashOp := (rfl)
@[simp] theorem State.setTout_drives (s : State) (k : Nat) (t : Tout) : (s.setTout k t).drives = s.drives := (rfl)
@[simp] theorem State.setTout_storeOp (s : State) (k : Nat) (t : Tout) : (s.setTout k t).storeOp = s.storeOp := (rfl)
@[simp] theorem State.setTout_storeWait (s : State) (k : Nat) (t : Tout) : (s.setTout k t).storeWait = s.storeWait := (rfl)
@[simp] theorem State.setTout_job (s : State) (k : Nat) (t : Tout) : (s.setTout k t).job = s.job := (rfl)
@[simp] theorem State.setTout_aborts (s : State) (k : Nat) (t : Tout) : (s.setTout k t).aborts = s.aborts := (rfl)
@[simp] theorem State.setTout_panic (s : State) (k : Nat) (t : Tout) : (s.setTout k t).panic = s.panic := (rfl)
@[simp] theorem State.setTout_rateWait (s : State) (k : Nat) (t : Tout) : (s.setTout k t).rateWait = s.rateWait := (rfl)
@[simp] theorem State.setTout_powerReq (s : State) (k : Nat) (t : Tout) : (s.setTout k t).powerReq = s.powerReq := (rfl)
@[simp] theorem State.setTout_image (s : State) (k : Nat) (t : Tout) : (s.setTout k t).image = s.image := (rfl)
@[simp] theorem State.setTout_bar4 (s : State) (k : Nat) (t : Tout) : (s.setTout k t).bar4 = s.bar4 := (rfl)
@[simp] theorem State.setTout_cfgSpace (s : State) (k : Nat) (t : Tout) : (s.setTout k t).cfgSpace = s.cfgSpace := (rfl)
@[simp] theorem State.setTout_tap (s : State) (k : Nat) (t : Tout) : (s.setTout k t).tap = s.tap := (rfl)
@[simp] theorem State.setTout_lines (s : State) (k : Nat) (t : Tout) : (s.setTout k t).lines = s.lines := (rfl)
@[simp] theorem State.setTout_linkRt (s : State) (k : Nat) (t : Tout) : (s.setTout k t).linkRt = s.linkRt := (rfl)
@[simp] theorem State.setTout_rateTo (s : State) (k : Nat) (t : Tout) : (s.setTout k t).rateTo = s.rateTo := (rfl)
@[simp] theorem State.setTout_bar2Held (s : State) (k : Nat) (t : Tout) : (s.setTout k t).bar2Held = s.bar2Held := (rfl)
@[simp] theorem State.setTout_reg (s : State) (k : Nat) (t : Tout) (y : Nat) : (s.setTout k t).reg y = s.reg y := (rfl)
@[simp] theorem State.setTout_fld (s : State) (k : Nat) (t : Tout) (q : Nat) (g : Fld) (m : Nat) : (s.setTout k t).fld q g m = s.fld q g m := (rfl)
@[simp] theorem State.setTout_ff (s : State) (k : Nat) (t : Tout) (q : Nat) (g : Fld) (m : Nat) : (s.setTout k t).ff q g m = s.ff q g m := (rfl)
@[simp] theorem State.setTout_now (s : State) (k : Nat) (t : Tout) : (s.setTout k t).now = s.now := (rfl)
@[simp] theorem State.setTout_ring (s : State) (k : Nat) (t : Tout) (n' : Nat) : (s.setTout k t).ring n' = s.ring n' := (rfl)
@[simp] theorem State.setTcap_pending (s : State) (k : Nat) (t : Tcap) : (s.setTcap k t).pending = s.pending := (rfl)
@[simp] theorem State.setTcap_free (s : State) (k : Nat) (t : Tcap) : (s.setTcap k t).free = s.free := (rfl)
@[simp] theorem State.setTcap_out (s : State) (k : Nat) (t : Tcap) : (s.setTcap k t).out = s.out := (rfl)
@[simp] theorem State.setTcap_regs (s : State) (k : Nat) (t : Tcap) : (s.setTcap k t).regs = s.regs := (rfl)
@[simp] theorem State.setTcap_force (s : State) (k : Nat) (t : Tcap) : (s.setTcap k t).force = s.force := (rfl)
@[simp] theorem State.setTcap_latch (s : State) (k : Nat) (t : Tcap) : (s.setTcap k t).latch = s.latch := (rfl)
@[simp] theorem State.setTcap_lowHalf (s : State) (k : Nat) (t : Tcap) : (s.setTcap k t).lowHalf = s.lowHalf := (rfl)
@[simp] theorem State.setTcap_mem (s : State) (k : Nat) (t : Tcap) : (s.setTcap k t).mem = s.mem := (rfl)
@[simp] theorem State.setTcap_hostMem (s : State) (k : Nat) (t : Tcap) : (s.setTcap k t).hostMem = s.hostMem := (rfl)
@[simp] theorem State.setTcap_rings (s : State) (k : Nat) (t : Tcap) : (s.setTcap k t).rings = s.rings := (rfl)
@[simp] theorem State.setTcap_stale (s : State) (k : Nat) (t : Tcap) : (s.setTcap k t).stale = s.stale := (rfl)
@[simp] theorem State.setTcap_commands (s : State) (k : Nat) (t : Tcap) : (s.setTcap k t).commands = s.commands := (rfl)
@[simp] theorem State.setTcap_clk (s : State) (k : Nat) (t : Tcap) : (s.setTcap k t).clk = s.clk := (rfl)
@[simp] theorem State.setTcap_pow (s : State) (k : Nat) (t : Tcap) : (s.setTcap k t).pow = s.pow := (rfl)
@[simp] theorem State.setTcap_cyc (s : State) (k : Nat) (t : Tcap) : (s.setTcap k t).cyc = s.cyc := (rfl)
@[simp] theorem State.setTcap_flows (s : State) (k : Nat) (t : Tcap) : (s.setTcap k t).flows = s.flows := (rfl)
@[simp] theorem State.setTcap_ports (s : State) (k : Nat) (t : Tcap) : (s.setTcap k t).ports = s.ports := (rfl)
@[simp] theorem State.setTcap_views (s : State) (k : Nat) (t : Tcap) : (s.setTcap k t).views = s.views := (rfl)
@[simp] theorem State.setTcap_feeds (s : State) (k : Nat) (t : Tcap) : (s.setTcap k t).feeds = s.feeds := (rfl)
@[simp] theorem State.setTcap_lanes (s : State) (k : Nat) (t : Tcap) : (s.setTcap k t).lanes = s.lanes := (rfl)
@[simp] theorem State.setTcap_busy (s : State) (k : Nat) (t : Tcap) : (s.setTcap k t).busy = s.busy := (rfl)
@[simp] theorem State.setTcap_chans (s : State) (k : Nat) (t : Tcap) : (s.setTcap k t).chans = s.chans := (rfl)
@[simp] theorem State.setTcap_credits (s : State) (k : Nat) (t : Tcap) : (s.setTcap k t).credits = s.credits := (rfl)
@[simp] theorem State.setTcap_house (s : State) (k : Nat) (t : Tcap) : (s.setTcap k t).house = s.house := (rfl)
@[simp] theorem State.setTcap_ptp (s : State) (k : Nat) (t : Tcap) : (s.setTcap k t).ptp = s.ptp := (rfl)
@[simp] theorem State.setTcap_touts (s : State) (k : Nat) (t : Tcap) : (s.setTcap k t).touts = s.touts := (rfl)
@[simp] theorem State.setTcap_ppsHigh (s : State) (k : Nat) (t : Tcap) : (s.setTcap k t).ppsHigh = s.ppsHigh := (rfl)
@[simp] theorem State.setTcap_servos (s : State) (k : Nat) (t : Tcap) : (s.setTcap k t).servos = s.servos := (rfl)
@[simp] theorem State.setTcap_evt (s : State) (k : Nat) (t : Tcap) : (s.setTcap k t).evt = s.evt := (rfl)
@[simp] theorem State.setTcap_dgs (s : State) (k : Nat) (t : Tcap) : (s.setTcap k t).dgs = s.dgs := (rfl)
@[simp] theorem State.setTcap_resp (s : State) (k : Nat) (t : Tcap) : (s.setTcap k t).resp = s.resp := (rfl)
@[simp] theorem State.setTcap_respLoad (s : State) (k : Nat) (t : Tcap) : (s.setTcap k t).respLoad = s.respLoad := (rfl)
@[simp] theorem State.setTcap_cap (s : State) (k : Nat) (t : Tcap) : (s.setTcap k t).cap = s.cap := (rfl)
@[simp] theorem State.setTcap_corrTouched (s : State) (k : Nat) (t : Tcap) : (s.setTcap k t).corrTouched = s.corrTouched := (rfl)
@[simp] theorem State.setTcap_play (s : State) (k : Nat) (t : Tcap) : (s.setTcap k t).play = s.play := (rfl)
@[simp] theorem State.setTcap_flashMem (s : State) (k : Nat) (t : Tcap) : (s.setTcap k t).flashMem = s.flashMem := (rfl)
@[simp] theorem State.setTcap_flashOp (s : State) (k : Nat) (t : Tcap) : (s.setTcap k t).flashOp = s.flashOp := (rfl)
@[simp] theorem State.setTcap_drives (s : State) (k : Nat) (t : Tcap) : (s.setTcap k t).drives = s.drives := (rfl)
@[simp] theorem State.setTcap_storeOp (s : State) (k : Nat) (t : Tcap) : (s.setTcap k t).storeOp = s.storeOp := (rfl)
@[simp] theorem State.setTcap_storeWait (s : State) (k : Nat) (t : Tcap) : (s.setTcap k t).storeWait = s.storeWait := (rfl)
@[simp] theorem State.setTcap_job (s : State) (k : Nat) (t : Tcap) : (s.setTcap k t).job = s.job := (rfl)
@[simp] theorem State.setTcap_aborts (s : State) (k : Nat) (t : Tcap) : (s.setTcap k t).aborts = s.aborts := (rfl)
@[simp] theorem State.setTcap_panic (s : State) (k : Nat) (t : Tcap) : (s.setTcap k t).panic = s.panic := (rfl)
@[simp] theorem State.setTcap_rateWait (s : State) (k : Nat) (t : Tcap) : (s.setTcap k t).rateWait = s.rateWait := (rfl)
@[simp] theorem State.setTcap_powerReq (s : State) (k : Nat) (t : Tcap) : (s.setTcap k t).powerReq = s.powerReq := (rfl)
@[simp] theorem State.setTcap_image (s : State) (k : Nat) (t : Tcap) : (s.setTcap k t).image = s.image := (rfl)
@[simp] theorem State.setTcap_bar4 (s : State) (k : Nat) (t : Tcap) : (s.setTcap k t).bar4 = s.bar4 := (rfl)
@[simp] theorem State.setTcap_cfgSpace (s : State) (k : Nat) (t : Tcap) : (s.setTcap k t).cfgSpace = s.cfgSpace := (rfl)
@[simp] theorem State.setTcap_tap (s : State) (k : Nat) (t : Tcap) : (s.setTcap k t).tap = s.tap := (rfl)
@[simp] theorem State.setTcap_lines (s : State) (k : Nat) (t : Tcap) : (s.setTcap k t).lines = s.lines := (rfl)
@[simp] theorem State.setTcap_linkRt (s : State) (k : Nat) (t : Tcap) : (s.setTcap k t).linkRt = s.linkRt := (rfl)
@[simp] theorem State.setTcap_rateTo (s : State) (k : Nat) (t : Tcap) : (s.setTcap k t).rateTo = s.rateTo := (rfl)
@[simp] theorem State.setTcap_bar2Held (s : State) (k : Nat) (t : Tcap) : (s.setTcap k t).bar2Held = s.bar2Held := (rfl)
@[simp] theorem State.setTcap_reg (s : State) (k : Nat) (t : Tcap) (y : Nat) : (s.setTcap k t).reg y = s.reg y := (rfl)
@[simp] theorem State.setTcap_fld (s : State) (k : Nat) (t : Tcap) (q : Nat) (g : Fld) (m : Nat) : (s.setTcap k t).fld q g m = s.fld q g m := (rfl)
@[simp] theorem State.setTcap_ff (s : State) (k : Nat) (t : Tcap) (q : Nat) (g : Fld) (m : Nat) : (s.setTcap k t).ff q g m = s.ff q g m := (rfl)
@[simp] theorem State.setTcap_now (s : State) (k : Nat) (t : Tcap) : (s.setTcap k t).now = s.now := (rfl)
@[simp] theorem State.setTcap_ring (s : State) (k : Nat) (t : Tcap) (n' : Nat) : (s.setTcap k t).ring n' = s.ring n' := (rfl)
@[simp] theorem State.setCredit_pending (s : State) (t : Nat) (c : Credit) : (s.setCredit t c).pending = s.pending := (rfl)
@[simp] theorem State.setCredit_free (s : State) (t : Nat) (c : Credit) : (s.setCredit t c).free = s.free := (rfl)
@[simp] theorem State.setCredit_out (s : State) (t : Nat) (c : Credit) : (s.setCredit t c).out = s.out := (rfl)
@[simp] theorem State.setCredit_regs (s : State) (t : Nat) (c : Credit) : (s.setCredit t c).regs = s.regs := (rfl)
@[simp] theorem State.setCredit_force (s : State) (t : Nat) (c : Credit) : (s.setCredit t c).force = s.force := (rfl)
@[simp] theorem State.setCredit_latch (s : State) (t : Nat) (c : Credit) : (s.setCredit t c).latch = s.latch := (rfl)
@[simp] theorem State.setCredit_lowHalf (s : State) (t : Nat) (c : Credit) : (s.setCredit t c).lowHalf = s.lowHalf := (rfl)
@[simp] theorem State.setCredit_mem (s : State) (t : Nat) (c : Credit) : (s.setCredit t c).mem = s.mem := (rfl)
@[simp] theorem State.setCredit_hostMem (s : State) (t : Nat) (c : Credit) : (s.setCredit t c).hostMem = s.hostMem := (rfl)
@[simp] theorem State.setCredit_rings (s : State) (t : Nat) (c : Credit) : (s.setCredit t c).rings = s.rings := (rfl)
@[simp] theorem State.setCredit_stale (s : State) (t : Nat) (c : Credit) : (s.setCredit t c).stale = s.stale := (rfl)
@[simp] theorem State.setCredit_commands (s : State) (t : Nat) (c : Credit) : (s.setCredit t c).commands = s.commands := (rfl)
@[simp] theorem State.setCredit_clk (s : State) (t : Nat) (c : Credit) : (s.setCredit t c).clk = s.clk := (rfl)
@[simp] theorem State.setCredit_pow (s : State) (t : Nat) (c : Credit) : (s.setCredit t c).pow = s.pow := (rfl)
@[simp] theorem State.setCredit_cyc (s : State) (t : Nat) (c : Credit) : (s.setCredit t c).cyc = s.cyc := (rfl)
@[simp] theorem State.setCredit_flows (s : State) (t : Nat) (c : Credit) : (s.setCredit t c).flows = s.flows := (rfl)
@[simp] theorem State.setCredit_ports (s : State) (t : Nat) (c : Credit) : (s.setCredit t c).ports = s.ports := (rfl)
@[simp] theorem State.setCredit_views (s : State) (t : Nat) (c : Credit) : (s.setCredit t c).views = s.views := (rfl)
@[simp] theorem State.setCredit_feeds (s : State) (t : Nat) (c : Credit) : (s.setCredit t c).feeds = s.feeds := (rfl)
@[simp] theorem State.setCredit_lanes (s : State) (t : Nat) (c : Credit) : (s.setCredit t c).lanes = s.lanes := (rfl)
@[simp] theorem State.setCredit_busy (s : State) (t : Nat) (c : Credit) : (s.setCredit t c).busy = s.busy := (rfl)
@[simp] theorem State.setCredit_chans (s : State) (t : Nat) (c : Credit) : (s.setCredit t c).chans = s.chans := (rfl)
@[simp] theorem State.setCredit_house (s : State) (t : Nat) (c : Credit) : (s.setCredit t c).house = s.house := (rfl)
@[simp] theorem State.setCredit_ptp (s : State) (t : Nat) (c : Credit) : (s.setCredit t c).ptp = s.ptp := (rfl)
@[simp] theorem State.setCredit_touts (s : State) (t : Nat) (c : Credit) : (s.setCredit t c).touts = s.touts := (rfl)
@[simp] theorem State.setCredit_tcaps (s : State) (t : Nat) (c : Credit) : (s.setCredit t c).tcaps = s.tcaps := (rfl)
@[simp] theorem State.setCredit_ppsHigh (s : State) (t : Nat) (c : Credit) : (s.setCredit t c).ppsHigh = s.ppsHigh := (rfl)
@[simp] theorem State.setCredit_servos (s : State) (t : Nat) (c : Credit) : (s.setCredit t c).servos = s.servos := (rfl)
@[simp] theorem State.setCredit_evt (s : State) (t : Nat) (c : Credit) : (s.setCredit t c).evt = s.evt := (rfl)
@[simp] theorem State.setCredit_dgs (s : State) (t : Nat) (c : Credit) : (s.setCredit t c).dgs = s.dgs := (rfl)
@[simp] theorem State.setCredit_resp (s : State) (t : Nat) (c : Credit) : (s.setCredit t c).resp = s.resp := (rfl)
@[simp] theorem State.setCredit_respLoad (s : State) (t : Nat) (c : Credit) : (s.setCredit t c).respLoad = s.respLoad := (rfl)
@[simp] theorem State.setCredit_cap (s : State) (t : Nat) (c : Credit) : (s.setCredit t c).cap = s.cap := (rfl)
@[simp] theorem State.setCredit_corrTouched (s : State) (t : Nat) (c : Credit) : (s.setCredit t c).corrTouched = s.corrTouched := (rfl)
@[simp] theorem State.setCredit_play (s : State) (t : Nat) (c : Credit) : (s.setCredit t c).play = s.play := (rfl)
@[simp] theorem State.setCredit_flashMem (s : State) (t : Nat) (c : Credit) : (s.setCredit t c).flashMem = s.flashMem := (rfl)
@[simp] theorem State.setCredit_flashOp (s : State) (t : Nat) (c : Credit) : (s.setCredit t c).flashOp = s.flashOp := (rfl)
@[simp] theorem State.setCredit_drives (s : State) (t : Nat) (c : Credit) : (s.setCredit t c).drives = s.drives := (rfl)
@[simp] theorem State.setCredit_storeOp (s : State) (t : Nat) (c : Credit) : (s.setCredit t c).storeOp = s.storeOp := (rfl)
@[simp] theorem State.setCredit_storeWait (s : State) (t : Nat) (c : Credit) : (s.setCredit t c).storeWait = s.storeWait := (rfl)
@[simp] theorem State.setCredit_job (s : State) (t : Nat) (c : Credit) : (s.setCredit t c).job = s.job := (rfl)
@[simp] theorem State.setCredit_aborts (s : State) (t : Nat) (c : Credit) : (s.setCredit t c).aborts = s.aborts := (rfl)
@[simp] theorem State.setCredit_panic (s : State) (t : Nat) (c : Credit) : (s.setCredit t c).panic = s.panic := (rfl)
@[simp] theorem State.setCredit_rateWait (s : State) (t : Nat) (c : Credit) : (s.setCredit t c).rateWait = s.rateWait := (rfl)
@[simp] theorem State.setCredit_powerReq (s : State) (t : Nat) (c : Credit) : (s.setCredit t c).powerReq = s.powerReq := (rfl)
@[simp] theorem State.setCredit_image (s : State) (t : Nat) (c : Credit) : (s.setCredit t c).image = s.image := (rfl)
@[simp] theorem State.setCredit_bar4 (s : State) (t : Nat) (c : Credit) : (s.setCredit t c).bar4 = s.bar4 := (rfl)
@[simp] theorem State.setCredit_cfgSpace (s : State) (t : Nat) (c : Credit) : (s.setCredit t c).cfgSpace = s.cfgSpace := (rfl)
@[simp] theorem State.setCredit_tap (s : State) (t : Nat) (c : Credit) : (s.setCredit t c).tap = s.tap := (rfl)
@[simp] theorem State.setCredit_lines (s : State) (t : Nat) (c : Credit) : (s.setCredit t c).lines = s.lines := (rfl)
@[simp] theorem State.setCredit_linkRt (s : State) (t : Nat) (c : Credit) : (s.setCredit t c).linkRt = s.linkRt := (rfl)
@[simp] theorem State.setCredit_rateTo (s : State) (t : Nat) (c : Credit) : (s.setCredit t c).rateTo = s.rateTo := (rfl)
@[simp] theorem State.setCredit_bar2Held (s : State) (t : Nat) (c : Credit) : (s.setCredit t c).bar2Held = s.bar2Held := (rfl)
@[simp] theorem State.setCredit_reg (s : State) (t : Nat) (c : Credit) (y : Nat) : (s.setCredit t c).reg y = s.reg y := (rfl)
@[simp] theorem State.setCredit_fld (s : State) (t : Nat) (c : Credit) (q : Nat) (g : Fld) (m : Nat) : (s.setCredit t c).fld q g m = s.fld q g m := (rfl)
@[simp] theorem State.setCredit_ff (s : State) (t : Nat) (c : Credit) (q : Nat) (g : Fld) (m : Nat) : (s.setCredit t c).ff q g m = s.ff q g m := (rfl)
@[simp] theorem State.setCredit_now (s : State) (t : Nat) (c : Credit) : (s.setCredit t c).now = s.now := (rfl)
@[simp] theorem State.setCredit_ring (s : State) (t : Nat) (c : Credit) (n' : Nat) : (s.setCredit t c).ring n' = s.ring n' := (rfl)
@[simp] theorem State.setLink_pending (s : State) (link : Nat) (l : LinkRt) : (s.setLink link l).pending = s.pending := (rfl)
@[simp] theorem State.setLink_free (s : State) (link : Nat) (l : LinkRt) : (s.setLink link l).free = s.free := (rfl)
@[simp] theorem State.setLink_out (s : State) (link : Nat) (l : LinkRt) : (s.setLink link l).out = s.out := (rfl)
@[simp] theorem State.setLink_regs (s : State) (link : Nat) (l : LinkRt) : (s.setLink link l).regs = s.regs := (rfl)
@[simp] theorem State.setLink_force (s : State) (link : Nat) (l : LinkRt) : (s.setLink link l).force = s.force := (rfl)
@[simp] theorem State.setLink_latch (s : State) (link : Nat) (l : LinkRt) : (s.setLink link l).latch = s.latch := (rfl)
@[simp] theorem State.setLink_lowHalf (s : State) (link : Nat) (l : LinkRt) : (s.setLink link l).lowHalf = s.lowHalf := (rfl)
@[simp] theorem State.setLink_mem (s : State) (link : Nat) (l : LinkRt) : (s.setLink link l).mem = s.mem := (rfl)
@[simp] theorem State.setLink_hostMem (s : State) (link : Nat) (l : LinkRt) : (s.setLink link l).hostMem = s.hostMem := (rfl)
@[simp] theorem State.setLink_rings (s : State) (link : Nat) (l : LinkRt) : (s.setLink link l).rings = s.rings := (rfl)
@[simp] theorem State.setLink_stale (s : State) (link : Nat) (l : LinkRt) : (s.setLink link l).stale = s.stale := (rfl)
@[simp] theorem State.setLink_commands (s : State) (link : Nat) (l : LinkRt) : (s.setLink link l).commands = s.commands := (rfl)
@[simp] theorem State.setLink_clk (s : State) (link : Nat) (l : LinkRt) : (s.setLink link l).clk = s.clk := (rfl)
@[simp] theorem State.setLink_pow (s : State) (link : Nat) (l : LinkRt) : (s.setLink link l).pow = s.pow := (rfl)
@[simp] theorem State.setLink_cyc (s : State) (link : Nat) (l : LinkRt) : (s.setLink link l).cyc = s.cyc := (rfl)
@[simp] theorem State.setLink_flows (s : State) (link : Nat) (l : LinkRt) : (s.setLink link l).flows = s.flows := (rfl)
@[simp] theorem State.setLink_ports (s : State) (link : Nat) (l : LinkRt) : (s.setLink link l).ports = s.ports := (rfl)
@[simp] theorem State.setLink_views (s : State) (link : Nat) (l : LinkRt) : (s.setLink link l).views = s.views := (rfl)
@[simp] theorem State.setLink_feeds (s : State) (link : Nat) (l : LinkRt) : (s.setLink link l).feeds = s.feeds := (rfl)
@[simp] theorem State.setLink_lanes (s : State) (link : Nat) (l : LinkRt) : (s.setLink link l).lanes = s.lanes := (rfl)
@[simp] theorem State.setLink_busy (s : State) (link : Nat) (l : LinkRt) : (s.setLink link l).busy = s.busy := (rfl)
@[simp] theorem State.setLink_chans (s : State) (link : Nat) (l : LinkRt) : (s.setLink link l).chans = s.chans := (rfl)
@[simp] theorem State.setLink_credits (s : State) (link : Nat) (l : LinkRt) : (s.setLink link l).credits = s.credits := (rfl)
@[simp] theorem State.setLink_house (s : State) (link : Nat) (l : LinkRt) : (s.setLink link l).house = s.house := (rfl)
@[simp] theorem State.setLink_ptp (s : State) (link : Nat) (l : LinkRt) : (s.setLink link l).ptp = s.ptp := (rfl)
@[simp] theorem State.setLink_touts (s : State) (link : Nat) (l : LinkRt) : (s.setLink link l).touts = s.touts := (rfl)
@[simp] theorem State.setLink_tcaps (s : State) (link : Nat) (l : LinkRt) : (s.setLink link l).tcaps = s.tcaps := (rfl)
@[simp] theorem State.setLink_ppsHigh (s : State) (link : Nat) (l : LinkRt) : (s.setLink link l).ppsHigh = s.ppsHigh := (rfl)
@[simp] theorem State.setLink_servos (s : State) (link : Nat) (l : LinkRt) : (s.setLink link l).servos = s.servos := (rfl)
@[simp] theorem State.setLink_evt (s : State) (link : Nat) (l : LinkRt) : (s.setLink link l).evt = s.evt := (rfl)
@[simp] theorem State.setLink_dgs (s : State) (link : Nat) (l : LinkRt) : (s.setLink link l).dgs = s.dgs := (rfl)
@[simp] theorem State.setLink_resp (s : State) (link : Nat) (l : LinkRt) : (s.setLink link l).resp = s.resp := (rfl)
@[simp] theorem State.setLink_respLoad (s : State) (link : Nat) (l : LinkRt) : (s.setLink link l).respLoad = s.respLoad := (rfl)
@[simp] theorem State.setLink_cap (s : State) (link : Nat) (l : LinkRt) : (s.setLink link l).cap = s.cap := (rfl)
@[simp] theorem State.setLink_corrTouched (s : State) (link : Nat) (l : LinkRt) : (s.setLink link l).corrTouched = s.corrTouched := (rfl)
@[simp] theorem State.setLink_play (s : State) (link : Nat) (l : LinkRt) : (s.setLink link l).play = s.play := (rfl)
@[simp] theorem State.setLink_flashMem (s : State) (link : Nat) (l : LinkRt) : (s.setLink link l).flashMem = s.flashMem := (rfl)
@[simp] theorem State.setLink_flashOp (s : State) (link : Nat) (l : LinkRt) : (s.setLink link l).flashOp = s.flashOp := (rfl)
@[simp] theorem State.setLink_drives (s : State) (link : Nat) (l : LinkRt) : (s.setLink link l).drives = s.drives := (rfl)
@[simp] theorem State.setLink_storeOp (s : State) (link : Nat) (l : LinkRt) : (s.setLink link l).storeOp = s.storeOp := (rfl)
@[simp] theorem State.setLink_storeWait (s : State) (link : Nat) (l : LinkRt) : (s.setLink link l).storeWait = s.storeWait := (rfl)
@[simp] theorem State.setLink_job (s : State) (link : Nat) (l : LinkRt) : (s.setLink link l).job = s.job := (rfl)
@[simp] theorem State.setLink_aborts (s : State) (link : Nat) (l : LinkRt) : (s.setLink link l).aborts = s.aborts := (rfl)
@[simp] theorem State.setLink_panic (s : State) (link : Nat) (l : LinkRt) : (s.setLink link l).panic = s.panic := (rfl)
@[simp] theorem State.setLink_rateWait (s : State) (link : Nat) (l : LinkRt) : (s.setLink link l).rateWait = s.rateWait := (rfl)
@[simp] theorem State.setLink_powerReq (s : State) (link : Nat) (l : LinkRt) : (s.setLink link l).powerReq = s.powerReq := (rfl)
@[simp] theorem State.setLink_image (s : State) (link : Nat) (l : LinkRt) : (s.setLink link l).image = s.image := (rfl)
@[simp] theorem State.setLink_bar4 (s : State) (link : Nat) (l : LinkRt) : (s.setLink link l).bar4 = s.bar4 := (rfl)
@[simp] theorem State.setLink_cfgSpace (s : State) (link : Nat) (l : LinkRt) : (s.setLink link l).cfgSpace = s.cfgSpace := (rfl)
@[simp] theorem State.setLink_tap (s : State) (link : Nat) (l : LinkRt) : (s.setLink link l).tap = s.tap := (rfl)
@[simp] theorem State.setLink_lines (s : State) (link : Nat) (l : LinkRt) : (s.setLink link l).lines = s.lines := (rfl)
@[simp] theorem State.setLink_linkRt (s : State) (link : Nat) (l : LinkRt) : (s.setLink link l).linkRt = ins LinkRt.idle link l s.linkRt := (rfl)
@[simp] theorem State.setLink_rateTo (s : State) (link : Nat) (l : LinkRt) : (s.setLink link l).rateTo = s.rateTo := (rfl)
@[simp] theorem State.setLink_bar2Held (s : State) (link : Nat) (l : LinkRt) : (s.setLink link l).bar2Held = s.bar2Held := (rfl)
@[simp] theorem State.setLink_reg (s : State) (link : Nat) (l : LinkRt) (y : Nat) : (s.setLink link l).reg y = s.reg y := (rfl)
@[simp] theorem State.setLink_fld (s : State) (link : Nat) (l : LinkRt) (q : Nat) (g : Fld) (m : Nat) : (s.setLink link l).fld q g m = s.fld q g m := (rfl)
@[simp] theorem State.setLink_ff (s : State) (link : Nat) (l : LinkRt) (q : Nat) (g : Fld) (m : Nat) : (s.setLink link l).ff q g m = s.ff q g m := (rfl)
@[simp] theorem State.setLink_now (s : State) (link : Nat) (l : LinkRt) : (s.setLink link l).now = s.now := (rfl)
@[simp] theorem State.setLink_ring (s : State) (link : Nat) (l : LinkRt) (n' : Nat) : (s.setLink link l).ring n' = s.ring n' := (rfl)
@[simp] theorem State.setPos_pending (s : State) (link pos : Nat) (r : PosRt) : (s.setPos link pos r).pending = s.pending := (rfl)
@[simp] theorem State.setPos_free (s : State) (link pos : Nat) (r : PosRt) : (s.setPos link pos r).free = s.free := (rfl)
@[simp] theorem State.setPos_out (s : State) (link pos : Nat) (r : PosRt) : (s.setPos link pos r).out = s.out := (rfl)
@[simp] theorem State.setPos_regs (s : State) (link pos : Nat) (r : PosRt) : (s.setPos link pos r).regs = s.regs := (rfl)
@[simp] theorem State.setPos_force (s : State) (link pos : Nat) (r : PosRt) : (s.setPos link pos r).force = s.force := (rfl)
@[simp] theorem State.setPos_latch (s : State) (link pos : Nat) (r : PosRt) : (s.setPos link pos r).latch = s.latch := (rfl)
@[simp] theorem State.setPos_lowHalf (s : State) (link pos : Nat) (r : PosRt) : (s.setPos link pos r).lowHalf = s.lowHalf := (rfl)
@[simp] theorem State.setPos_mem (s : State) (link pos : Nat) (r : PosRt) : (s.setPos link pos r).mem = s.mem := (rfl)
@[simp] theorem State.setPos_hostMem (s : State) (link pos : Nat) (r : PosRt) : (s.setPos link pos r).hostMem = s.hostMem := (rfl)
@[simp] theorem State.setPos_rings (s : State) (link pos : Nat) (r : PosRt) : (s.setPos link pos r).rings = s.rings := (rfl)
@[simp] theorem State.setPos_stale (s : State) (link pos : Nat) (r : PosRt) : (s.setPos link pos r).stale = s.stale := (rfl)
@[simp] theorem State.setPos_commands (s : State) (link pos : Nat) (r : PosRt) : (s.setPos link pos r).commands = s.commands := (rfl)
@[simp] theorem State.setPos_clk (s : State) (link pos : Nat) (r : PosRt) : (s.setPos link pos r).clk = s.clk := (rfl)
@[simp] theorem State.setPos_pow (s : State) (link pos : Nat) (r : PosRt) : (s.setPos link pos r).pow = s.pow := (rfl)
@[simp] theorem State.setPos_cyc (s : State) (link pos : Nat) (r : PosRt) : (s.setPos link pos r).cyc = s.cyc := (rfl)
@[simp] theorem State.setPos_flows (s : State) (link pos : Nat) (r : PosRt) : (s.setPos link pos r).flows = s.flows := (rfl)
@[simp] theorem State.setPos_ports (s : State) (link pos : Nat) (r : PosRt) : (s.setPos link pos r).ports = s.ports := (rfl)
@[simp] theorem State.setPos_views (s : State) (link pos : Nat) (r : PosRt) : (s.setPos link pos r).views = s.views := (rfl)
@[simp] theorem State.setPos_feeds (s : State) (link pos : Nat) (r : PosRt) : (s.setPos link pos r).feeds = s.feeds := (rfl)
@[simp] theorem State.setPos_lanes (s : State) (link pos : Nat) (r : PosRt) : (s.setPos link pos r).lanes = s.lanes := (rfl)
@[simp] theorem State.setPos_busy (s : State) (link pos : Nat) (r : PosRt) : (s.setPos link pos r).busy = s.busy := (rfl)
@[simp] theorem State.setPos_chans (s : State) (link pos : Nat) (r : PosRt) : (s.setPos link pos r).chans = s.chans := (rfl)
@[simp] theorem State.setPos_credits (s : State) (link pos : Nat) (r : PosRt) : (s.setPos link pos r).credits = s.credits := (rfl)
@[simp] theorem State.setPos_house (s : State) (link pos : Nat) (r : PosRt) : (s.setPos link pos r).house = s.house := (rfl)
@[simp] theorem State.setPos_ptp (s : State) (link pos : Nat) (r : PosRt) : (s.setPos link pos r).ptp = s.ptp := (rfl)
@[simp] theorem State.setPos_touts (s : State) (link pos : Nat) (r : PosRt) : (s.setPos link pos r).touts = s.touts := (rfl)
@[simp] theorem State.setPos_tcaps (s : State) (link pos : Nat) (r : PosRt) : (s.setPos link pos r).tcaps = s.tcaps := (rfl)
@[simp] theorem State.setPos_ppsHigh (s : State) (link pos : Nat) (r : PosRt) : (s.setPos link pos r).ppsHigh = s.ppsHigh := (rfl)
@[simp] theorem State.setPos_servos (s : State) (link pos : Nat) (r : PosRt) : (s.setPos link pos r).servos = s.servos := (rfl)
@[simp] theorem State.setPos_evt (s : State) (link pos : Nat) (r : PosRt) : (s.setPos link pos r).evt = s.evt := (rfl)
@[simp] theorem State.setPos_dgs (s : State) (link pos : Nat) (r : PosRt) : (s.setPos link pos r).dgs = s.dgs := (rfl)
@[simp] theorem State.setPos_resp (s : State) (link pos : Nat) (r : PosRt) : (s.setPos link pos r).resp = s.resp := (rfl)
@[simp] theorem State.setPos_respLoad (s : State) (link pos : Nat) (r : PosRt) : (s.setPos link pos r).respLoad = s.respLoad := (rfl)
@[simp] theorem State.setPos_cap (s : State) (link pos : Nat) (r : PosRt) : (s.setPos link pos r).cap = s.cap := (rfl)
@[simp] theorem State.setPos_corrTouched (s : State) (link pos : Nat) (r : PosRt) : (s.setPos link pos r).corrTouched = s.corrTouched := (rfl)
@[simp] theorem State.setPos_play (s : State) (link pos : Nat) (r : PosRt) : (s.setPos link pos r).play = s.play := (rfl)
@[simp] theorem State.setPos_flashMem (s : State) (link pos : Nat) (r : PosRt) : (s.setPos link pos r).flashMem = s.flashMem := (rfl)
@[simp] theorem State.setPos_flashOp (s : State) (link pos : Nat) (r : PosRt) : (s.setPos link pos r).flashOp = s.flashOp := (rfl)
@[simp] theorem State.setPos_drives (s : State) (link pos : Nat) (r : PosRt) : (s.setPos link pos r).drives = s.drives := (rfl)
@[simp] theorem State.setPos_storeOp (s : State) (link pos : Nat) (r : PosRt) : (s.setPos link pos r).storeOp = s.storeOp := (rfl)
@[simp] theorem State.setPos_storeWait (s : State) (link pos : Nat) (r : PosRt) : (s.setPos link pos r).storeWait = s.storeWait := (rfl)
@[simp] theorem State.setPos_job (s : State) (link pos : Nat) (r : PosRt) : (s.setPos link pos r).job = s.job := (rfl)
@[simp] theorem State.setPos_aborts (s : State) (link pos : Nat) (r : PosRt) : (s.setPos link pos r).aborts = s.aborts := (rfl)
@[simp] theorem State.setPos_panic (s : State) (link pos : Nat) (r : PosRt) : (s.setPos link pos r).panic = s.panic := (rfl)
@[simp] theorem State.setPos_rateWait (s : State) (link pos : Nat) (r : PosRt) : (s.setPos link pos r).rateWait = s.rateWait := (rfl)
@[simp] theorem State.setPos_powerReq (s : State) (link pos : Nat) (r : PosRt) : (s.setPos link pos r).powerReq = s.powerReq := (rfl)
@[simp] theorem State.setPos_image (s : State) (link pos : Nat) (r : PosRt) : (s.setPos link pos r).image = s.image := (rfl)
@[simp] theorem State.setPos_bar4 (s : State) (link pos : Nat) (r : PosRt) : (s.setPos link pos r).bar4 = s.bar4 := (rfl)
@[simp] theorem State.setPos_cfgSpace (s : State) (link pos : Nat) (r : PosRt) : (s.setPos link pos r).cfgSpace = s.cfgSpace := (rfl)
@[simp] theorem State.setPos_tap (s : State) (link pos : Nat) (r : PosRt) : (s.setPos link pos r).tap = s.tap := (rfl)
@[simp] theorem State.setPos_lines (s : State) (link pos : Nat) (r : PosRt) : (s.setPos link pos r).lines = s.lines := (rfl)
@[simp] theorem State.setPos_rateTo (s : State) (link pos : Nat) (r : PosRt) : (s.setPos link pos r).rateTo = s.rateTo := (rfl)
@[simp] theorem State.setPos_bar2Held (s : State) (link pos : Nat) (r : PosRt) : (s.setPos link pos r).bar2Held = s.bar2Held := (rfl)
@[simp] theorem State.setPos_reg (s : State) (link pos : Nat) (r : PosRt) (y : Nat) : (s.setPos link pos r).reg y = s.reg y := (rfl)
@[simp] theorem State.setPos_fld (s : State) (link pos : Nat) (r : PosRt) (q : Nat) (g : Fld) (m : Nat) : (s.setPos link pos r).fld q g m = s.fld q g m := (rfl)
@[simp] theorem State.setPos_ff (s : State) (link pos : Nat) (r : PosRt) (q : Nat) (g : Fld) (m : Nat) : (s.setPos link pos r).ff q g m = s.ff q g m := (rfl)
@[simp] theorem State.setPos_now (s : State) (link pos : Nat) (r : PosRt) : (s.setPos link pos r).now = s.now := (rfl)
@[simp] theorem State.setPos_ring (s : State) (link pos : Nat) (r : PosRt) (n' : Nat) : (s.setPos link pos r).ring n' = s.ring n' := (rfl)
@[simp] theorem State.setLine_pending (s : State) (k : Nat) (l : LineRt) : (s.setLine k l).pending = s.pending := (rfl)
@[simp] theorem State.setLine_free (s : State) (k : Nat) (l : LineRt) : (s.setLine k l).free = s.free := (rfl)
@[simp] theorem State.setLine_out (s : State) (k : Nat) (l : LineRt) : (s.setLine k l).out = s.out := (rfl)
@[simp] theorem State.setLine_regs (s : State) (k : Nat) (l : LineRt) : (s.setLine k l).regs = s.regs := (rfl)
@[simp] theorem State.setLine_force (s : State) (k : Nat) (l : LineRt) : (s.setLine k l).force = s.force := (rfl)
@[simp] theorem State.setLine_latch (s : State) (k : Nat) (l : LineRt) : (s.setLine k l).latch = s.latch := (rfl)
@[simp] theorem State.setLine_lowHalf (s : State) (k : Nat) (l : LineRt) : (s.setLine k l).lowHalf = s.lowHalf := (rfl)
@[simp] theorem State.setLine_mem (s : State) (k : Nat) (l : LineRt) : (s.setLine k l).mem = s.mem := (rfl)
@[simp] theorem State.setLine_hostMem (s : State) (k : Nat) (l : LineRt) : (s.setLine k l).hostMem = s.hostMem := (rfl)
@[simp] theorem State.setLine_rings (s : State) (k : Nat) (l : LineRt) : (s.setLine k l).rings = s.rings := (rfl)
@[simp] theorem State.setLine_stale (s : State) (k : Nat) (l : LineRt) : (s.setLine k l).stale = s.stale := (rfl)
@[simp] theorem State.setLine_commands (s : State) (k : Nat) (l : LineRt) : (s.setLine k l).commands = s.commands := (rfl)
@[simp] theorem State.setLine_clk (s : State) (k : Nat) (l : LineRt) : (s.setLine k l).clk = s.clk := (rfl)
@[simp] theorem State.setLine_pow (s : State) (k : Nat) (l : LineRt) : (s.setLine k l).pow = s.pow := (rfl)
@[simp] theorem State.setLine_cyc (s : State) (k : Nat) (l : LineRt) : (s.setLine k l).cyc = s.cyc := (rfl)
@[simp] theorem State.setLine_flows (s : State) (k : Nat) (l : LineRt) : (s.setLine k l).flows = s.flows := (rfl)
@[simp] theorem State.setLine_ports (s : State) (k : Nat) (l : LineRt) : (s.setLine k l).ports = s.ports := (rfl)
@[simp] theorem State.setLine_views (s : State) (k : Nat) (l : LineRt) : (s.setLine k l).views = s.views := (rfl)
@[simp] theorem State.setLine_feeds (s : State) (k : Nat) (l : LineRt) : (s.setLine k l).feeds = s.feeds := (rfl)
@[simp] theorem State.setLine_lanes (s : State) (k : Nat) (l : LineRt) : (s.setLine k l).lanes = s.lanes := (rfl)
@[simp] theorem State.setLine_busy (s : State) (k : Nat) (l : LineRt) : (s.setLine k l).busy = s.busy := (rfl)
@[simp] theorem State.setLine_chans (s : State) (k : Nat) (l : LineRt) : (s.setLine k l).chans = s.chans := (rfl)
@[simp] theorem State.setLine_credits (s : State) (k : Nat) (l : LineRt) : (s.setLine k l).credits = s.credits := (rfl)
@[simp] theorem State.setLine_house (s : State) (k : Nat) (l : LineRt) : (s.setLine k l).house = s.house := (rfl)
@[simp] theorem State.setLine_ptp (s : State) (k : Nat) (l : LineRt) : (s.setLine k l).ptp = s.ptp := (rfl)
@[simp] theorem State.setLine_touts (s : State) (k : Nat) (l : LineRt) : (s.setLine k l).touts = s.touts := (rfl)
@[simp] theorem State.setLine_tcaps (s : State) (k : Nat) (l : LineRt) : (s.setLine k l).tcaps = s.tcaps := (rfl)
@[simp] theorem State.setLine_ppsHigh (s : State) (k : Nat) (l : LineRt) : (s.setLine k l).ppsHigh = s.ppsHigh := (rfl)
@[simp] theorem State.setLine_servos (s : State) (k : Nat) (l : LineRt) : (s.setLine k l).servos = s.servos := (rfl)
@[simp] theorem State.setLine_evt (s : State) (k : Nat) (l : LineRt) : (s.setLine k l).evt = s.evt := (rfl)
@[simp] theorem State.setLine_dgs (s : State) (k : Nat) (l : LineRt) : (s.setLine k l).dgs = s.dgs := (rfl)
@[simp] theorem State.setLine_resp (s : State) (k : Nat) (l : LineRt) : (s.setLine k l).resp = s.resp := (rfl)
@[simp] theorem State.setLine_respLoad (s : State) (k : Nat) (l : LineRt) : (s.setLine k l).respLoad = s.respLoad := (rfl)
@[simp] theorem State.setLine_cap (s : State) (k : Nat) (l : LineRt) : (s.setLine k l).cap = s.cap := (rfl)
@[simp] theorem State.setLine_corrTouched (s : State) (k : Nat) (l : LineRt) : (s.setLine k l).corrTouched = s.corrTouched := (rfl)
@[simp] theorem State.setLine_play (s : State) (k : Nat) (l : LineRt) : (s.setLine k l).play = s.play := (rfl)
@[simp] theorem State.setLine_flashMem (s : State) (k : Nat) (l : LineRt) : (s.setLine k l).flashMem = s.flashMem := (rfl)
@[simp] theorem State.setLine_flashOp (s : State) (k : Nat) (l : LineRt) : (s.setLine k l).flashOp = s.flashOp := (rfl)
@[simp] theorem State.setLine_drives (s : State) (k : Nat) (l : LineRt) : (s.setLine k l).drives = s.drives := (rfl)
@[simp] theorem State.setLine_storeOp (s : State) (k : Nat) (l : LineRt) : (s.setLine k l).storeOp = s.storeOp := (rfl)
@[simp] theorem State.setLine_storeWait (s : State) (k : Nat) (l : LineRt) : (s.setLine k l).storeWait = s.storeWait := (rfl)
@[simp] theorem State.setLine_job (s : State) (k : Nat) (l : LineRt) : (s.setLine k l).job = s.job := (rfl)
@[simp] theorem State.setLine_aborts (s : State) (k : Nat) (l : LineRt) : (s.setLine k l).aborts = s.aborts := (rfl)
@[simp] theorem State.setLine_panic (s : State) (k : Nat) (l : LineRt) : (s.setLine k l).panic = s.panic := (rfl)
@[simp] theorem State.setLine_rateWait (s : State) (k : Nat) (l : LineRt) : (s.setLine k l).rateWait = s.rateWait := (rfl)
@[simp] theorem State.setLine_powerReq (s : State) (k : Nat) (l : LineRt) : (s.setLine k l).powerReq = s.powerReq := (rfl)
@[simp] theorem State.setLine_image (s : State) (k : Nat) (l : LineRt) : (s.setLine k l).image = s.image := (rfl)
@[simp] theorem State.setLine_bar4 (s : State) (k : Nat) (l : LineRt) : (s.setLine k l).bar4 = s.bar4 := (rfl)
@[simp] theorem State.setLine_cfgSpace (s : State) (k : Nat) (l : LineRt) : (s.setLine k l).cfgSpace = s.cfgSpace := (rfl)
@[simp] theorem State.setLine_tap (s : State) (k : Nat) (l : LineRt) : (s.setLine k l).tap = s.tap := (rfl)
@[simp] theorem State.setLine_lines (s : State) (k : Nat) (l : LineRt) : (s.setLine k l).lines = ins LineRt.idle k l s.lines := (rfl)
@[simp] theorem State.setLine_linkRt (s : State) (k : Nat) (l : LineRt) : (s.setLine k l).linkRt = s.linkRt := (rfl)
@[simp] theorem State.setLine_rateTo (s : State) (k : Nat) (l : LineRt) : (s.setLine k l).rateTo = s.rateTo := (rfl)
@[simp] theorem State.setLine_bar2Held (s : State) (k : Nat) (l : LineRt) : (s.setLine k l).bar2Held = s.bar2Held := (rfl)
@[simp] theorem State.setLine_reg (s : State) (k : Nat) (l : LineRt) (y : Nat) : (s.setLine k l).reg y = s.reg y := (rfl)
@[simp] theorem State.setLine_fld (s : State) (k : Nat) (l : LineRt) (q : Nat) (g : Fld) (m : Nat) : (s.setLine k l).fld q g m = s.fld q g m := (rfl)
@[simp] theorem State.setLine_ff (s : State) (k : Nat) (l : LineRt) (q : Nat) (g : Fld) (m : Nat) : (s.setLine k l).ff q g m = s.ff q g m := (rfl)
@[simp] theorem State.setLine_now (s : State) (k : Nat) (l : LineRt) : (s.setLine k l).now = s.now := (rfl)
@[simp] theorem State.setLine_ring (s : State) (k : Nat) (l : LineRt) (n' : Nat) : (s.setLine k l).ring n' = s.ring n' := (rfl)
@[simp] theorem State.setHouse_pending (s : State) (h : House) : (s.setHouse h).pending = s.pending := (rfl)
@[simp] theorem State.setHouse_free (s : State) (h : House) : (s.setHouse h).free = s.free := (rfl)
@[simp] theorem State.setHouse_out (s : State) (h : House) : (s.setHouse h).out = s.out := (rfl)
@[simp] theorem State.setHouse_regs (s : State) (h : House) : (s.setHouse h).regs = s.regs := (rfl)
@[simp] theorem State.setHouse_force (s : State) (h : House) : (s.setHouse h).force = s.force := (rfl)
@[simp] theorem State.setHouse_latch (s : State) (h : House) : (s.setHouse h).latch = s.latch := (rfl)
@[simp] theorem State.setHouse_lowHalf (s : State) (h : House) : (s.setHouse h).lowHalf = s.lowHalf := (rfl)
@[simp] theorem State.setHouse_mem (s : State) (h : House) : (s.setHouse h).mem = s.mem := (rfl)
@[simp] theorem State.setHouse_hostMem (s : State) (h : House) : (s.setHouse h).hostMem = s.hostMem := (rfl)
@[simp] theorem State.setHouse_rings (s : State) (h : House) : (s.setHouse h).rings = s.rings := (rfl)
@[simp] theorem State.setHouse_stale (s : State) (h : House) : (s.setHouse h).stale = s.stale := (rfl)
@[simp] theorem State.setHouse_commands (s : State) (h : House) : (s.setHouse h).commands = s.commands := (rfl)
@[simp] theorem State.setHouse_clk (s : State) (h : House) : (s.setHouse h).clk = s.clk := (rfl)
@[simp] theorem State.setHouse_pow (s : State) (h : House) : (s.setHouse h).pow = s.pow := (rfl)
@[simp] theorem State.setHouse_cyc (s : State) (h : House) : (s.setHouse h).cyc = s.cyc := (rfl)
@[simp] theorem State.setHouse_flows (s : State) (h : House) : (s.setHouse h).flows = s.flows := (rfl)
@[simp] theorem State.setHouse_ports (s : State) (h : House) : (s.setHouse h).ports = s.ports := (rfl)
@[simp] theorem State.setHouse_views (s : State) (h : House) : (s.setHouse h).views = s.views := (rfl)
@[simp] theorem State.setHouse_feeds (s : State) (h : House) : (s.setHouse h).feeds = s.feeds := (rfl)
@[simp] theorem State.setHouse_lanes (s : State) (h : House) : (s.setHouse h).lanes = s.lanes := (rfl)
@[simp] theorem State.setHouse_busy (s : State) (h : House) : (s.setHouse h).busy = s.busy := (rfl)
@[simp] theorem State.setHouse_chans (s : State) (h : House) : (s.setHouse h).chans = s.chans := (rfl)
@[simp] theorem State.setHouse_credits (s : State) (h : House) : (s.setHouse h).credits = s.credits := (rfl)
@[simp] theorem State.setHouse_house (s : State) (h : House) : (s.setHouse h).house = h := (rfl)
@[simp] theorem State.setHouse_ptp (s : State) (h : House) : (s.setHouse h).ptp = s.ptp := (rfl)
@[simp] theorem State.setHouse_touts (s : State) (h : House) : (s.setHouse h).touts = s.touts := (rfl)
@[simp] theorem State.setHouse_tcaps (s : State) (h : House) : (s.setHouse h).tcaps = s.tcaps := (rfl)
@[simp] theorem State.setHouse_ppsHigh (s : State) (h : House) : (s.setHouse h).ppsHigh = s.ppsHigh := (rfl)
@[simp] theorem State.setHouse_servos (s : State) (h : House) : (s.setHouse h).servos = s.servos := (rfl)
@[simp] theorem State.setHouse_evt (s : State) (h : House) : (s.setHouse h).evt = s.evt := (rfl)
@[simp] theorem State.setHouse_dgs (s : State) (h : House) : (s.setHouse h).dgs = s.dgs := (rfl)
@[simp] theorem State.setHouse_resp (s : State) (h : House) : (s.setHouse h).resp = s.resp := (rfl)
@[simp] theorem State.setHouse_respLoad (s : State) (h : House) : (s.setHouse h).respLoad = s.respLoad := (rfl)
@[simp] theorem State.setHouse_cap (s : State) (h : House) : (s.setHouse h).cap = s.cap := (rfl)
@[simp] theorem State.setHouse_corrTouched (s : State) (h : House) : (s.setHouse h).corrTouched = s.corrTouched := (rfl)
@[simp] theorem State.setHouse_play (s : State) (h : House) : (s.setHouse h).play = s.play := (rfl)
@[simp] theorem State.setHouse_flashMem (s : State) (h : House) : (s.setHouse h).flashMem = s.flashMem := (rfl)
@[simp] theorem State.setHouse_flashOp (s : State) (h : House) : (s.setHouse h).flashOp = s.flashOp := (rfl)
@[simp] theorem State.setHouse_drives (s : State) (h : House) : (s.setHouse h).drives = s.drives := (rfl)
@[simp] theorem State.setHouse_storeOp (s : State) (h : House) : (s.setHouse h).storeOp = s.storeOp := (rfl)
@[simp] theorem State.setHouse_storeWait (s : State) (h : House) : (s.setHouse h).storeWait = s.storeWait := (rfl)
@[simp] theorem State.setHouse_job (s : State) (h : House) : (s.setHouse h).job = s.job := (rfl)
@[simp] theorem State.setHouse_aborts (s : State) (h : House) : (s.setHouse h).aborts = s.aborts := (rfl)
@[simp] theorem State.setHouse_panic (s : State) (h : House) : (s.setHouse h).panic = s.panic := (rfl)
@[simp] theorem State.setHouse_rateWait (s : State) (h : House) : (s.setHouse h).rateWait = s.rateWait := (rfl)
@[simp] theorem State.setHouse_powerReq (s : State) (h : House) : (s.setHouse h).powerReq = s.powerReq := (rfl)
@[simp] theorem State.setHouse_image (s : State) (h : House) : (s.setHouse h).image = s.image := (rfl)
@[simp] theorem State.setHouse_bar4 (s : State) (h : House) : (s.setHouse h).bar4 = s.bar4 := (rfl)
@[simp] theorem State.setHouse_cfgSpace (s : State) (h : House) : (s.setHouse h).cfgSpace = s.cfgSpace := (rfl)
@[simp] theorem State.setHouse_tap (s : State) (h : House) : (s.setHouse h).tap = s.tap := (rfl)
@[simp] theorem State.setHouse_lines (s : State) (h : House) : (s.setHouse h).lines = s.lines := (rfl)
@[simp] theorem State.setHouse_linkRt (s : State) (h : House) : (s.setHouse h).linkRt = s.linkRt := (rfl)
@[simp] theorem State.setHouse_rateTo (s : State) (h : House) : (s.setHouse h).rateTo = s.rateTo := (rfl)
@[simp] theorem State.setHouse_bar2Held (s : State) (h : House) : (s.setHouse h).bar2Held = s.bar2Held := (rfl)
@[simp] theorem State.setHouse_reg (s : State) (h : House) (y : Nat) : (s.setHouse h).reg y = s.reg y := (rfl)
@[simp] theorem State.setHouse_fld (s : State) (h : House) (q : Nat) (g : Fld) (m : Nat) : (s.setHouse h).fld q g m = s.fld q g m := (rfl)
@[simp] theorem State.setHouse_ff (s : State) (h : House) (q : Nat) (g : Fld) (m : Nat) : (s.setHouse h).ff q g m = s.ff q g m := (rfl)
@[simp] theorem State.setHouse_now (s : State) (h : House) : (s.setHouse h).now = s.now := (rfl)
@[simp] theorem State.setHouse_ring (s : State) (h : House) (n' : Nat) : (s.setHouse h).ring n' = s.ring n' := (rfl)
@[simp] theorem State.setTele_pending (s : State) (t : Nat) (r : TileRt) : (s.setTele t r).pending = s.pending := (rfl)
@[simp] theorem State.setTele_free (s : State) (t : Nat) (r : TileRt) : (s.setTele t r).free = s.free := (rfl)
@[simp] theorem State.setTele_out (s : State) (t : Nat) (r : TileRt) : (s.setTele t r).out = s.out := (rfl)
@[simp] theorem State.setTele_regs (s : State) (t : Nat) (r : TileRt) : (s.setTele t r).regs = s.regs := (rfl)
@[simp] theorem State.setTele_force (s : State) (t : Nat) (r : TileRt) : (s.setTele t r).force = s.force := (rfl)
@[simp] theorem State.setTele_latch (s : State) (t : Nat) (r : TileRt) : (s.setTele t r).latch = s.latch := (rfl)
@[simp] theorem State.setTele_lowHalf (s : State) (t : Nat) (r : TileRt) : (s.setTele t r).lowHalf = s.lowHalf := (rfl)
@[simp] theorem State.setTele_mem (s : State) (t : Nat) (r : TileRt) : (s.setTele t r).mem = s.mem := (rfl)
@[simp] theorem State.setTele_hostMem (s : State) (t : Nat) (r : TileRt) : (s.setTele t r).hostMem = s.hostMem := (rfl)
@[simp] theorem State.setTele_rings (s : State) (t : Nat) (r : TileRt) : (s.setTele t r).rings = s.rings := (rfl)
@[simp] theorem State.setTele_stale (s : State) (t : Nat) (r : TileRt) : (s.setTele t r).stale = s.stale := (rfl)
@[simp] theorem State.setTele_commands (s : State) (t : Nat) (r : TileRt) : (s.setTele t r).commands = s.commands := (rfl)
@[simp] theorem State.setTele_clk (s : State) (t : Nat) (r : TileRt) : (s.setTele t r).clk = s.clk := (rfl)
@[simp] theorem State.setTele_pow (s : State) (t : Nat) (r : TileRt) : (s.setTele t r).pow = s.pow := (rfl)
@[simp] theorem State.setTele_cyc (s : State) (t : Nat) (r : TileRt) : (s.setTele t r).cyc = s.cyc := (rfl)
@[simp] theorem State.setTele_flows (s : State) (t : Nat) (r : TileRt) : (s.setTele t r).flows = s.flows := (rfl)
@[simp] theorem State.setTele_ports (s : State) (t : Nat) (r : TileRt) : (s.setTele t r).ports = s.ports := (rfl)
@[simp] theorem State.setTele_views (s : State) (t : Nat) (r : TileRt) : (s.setTele t r).views = s.views := (rfl)
@[simp] theorem State.setTele_feeds (s : State) (t : Nat) (r : TileRt) : (s.setTele t r).feeds = s.feeds := (rfl)
@[simp] theorem State.setTele_lanes (s : State) (t : Nat) (r : TileRt) : (s.setTele t r).lanes = s.lanes := (rfl)
@[simp] theorem State.setTele_busy (s : State) (t : Nat) (r : TileRt) : (s.setTele t r).busy = s.busy := (rfl)
@[simp] theorem State.setTele_chans (s : State) (t : Nat) (r : TileRt) : (s.setTele t r).chans = s.chans := (rfl)
@[simp] theorem State.setTele_credits (s : State) (t : Nat) (r : TileRt) : (s.setTele t r).credits = s.credits := (rfl)
@[simp] theorem State.setTele_ptp (s : State) (t : Nat) (r : TileRt) : (s.setTele t r).ptp = s.ptp := (rfl)
@[simp] theorem State.setTele_touts (s : State) (t : Nat) (r : TileRt) : (s.setTele t r).touts = s.touts := (rfl)
@[simp] theorem State.setTele_tcaps (s : State) (t : Nat) (r : TileRt) : (s.setTele t r).tcaps = s.tcaps := (rfl)
@[simp] theorem State.setTele_ppsHigh (s : State) (t : Nat) (r : TileRt) : (s.setTele t r).ppsHigh = s.ppsHigh := (rfl)
@[simp] theorem State.setTele_servos (s : State) (t : Nat) (r : TileRt) : (s.setTele t r).servos = s.servos := (rfl)
@[simp] theorem State.setTele_evt (s : State) (t : Nat) (r : TileRt) : (s.setTele t r).evt = s.evt := (rfl)
@[simp] theorem State.setTele_dgs (s : State) (t : Nat) (r : TileRt) : (s.setTele t r).dgs = s.dgs := (rfl)
@[simp] theorem State.setTele_resp (s : State) (t : Nat) (r : TileRt) : (s.setTele t r).resp = s.resp := (rfl)
@[simp] theorem State.setTele_respLoad (s : State) (t : Nat) (r : TileRt) : (s.setTele t r).respLoad = s.respLoad := (rfl)
@[simp] theorem State.setTele_cap (s : State) (t : Nat) (r : TileRt) : (s.setTele t r).cap = s.cap := (rfl)
@[simp] theorem State.setTele_corrTouched (s : State) (t : Nat) (r : TileRt) : (s.setTele t r).corrTouched = s.corrTouched := (rfl)
@[simp] theorem State.setTele_play (s : State) (t : Nat) (r : TileRt) : (s.setTele t r).play = s.play := (rfl)
@[simp] theorem State.setTele_flashMem (s : State) (t : Nat) (r : TileRt) : (s.setTele t r).flashMem = s.flashMem := (rfl)
@[simp] theorem State.setTele_flashOp (s : State) (t : Nat) (r : TileRt) : (s.setTele t r).flashOp = s.flashOp := (rfl)
@[simp] theorem State.setTele_drives (s : State) (t : Nat) (r : TileRt) : (s.setTele t r).drives = s.drives := (rfl)
@[simp] theorem State.setTele_storeOp (s : State) (t : Nat) (r : TileRt) : (s.setTele t r).storeOp = s.storeOp := (rfl)
@[simp] theorem State.setTele_storeWait (s : State) (t : Nat) (r : TileRt) : (s.setTele t r).storeWait = s.storeWait := (rfl)
@[simp] theorem State.setTele_job (s : State) (t : Nat) (r : TileRt) : (s.setTele t r).job = s.job := (rfl)
@[simp] theorem State.setTele_aborts (s : State) (t : Nat) (r : TileRt) : (s.setTele t r).aborts = s.aborts := (rfl)
@[simp] theorem State.setTele_panic (s : State) (t : Nat) (r : TileRt) : (s.setTele t r).panic = s.panic := (rfl)
@[simp] theorem State.setTele_rateWait (s : State) (t : Nat) (r : TileRt) : (s.setTele t r).rateWait = s.rateWait := (rfl)
@[simp] theorem State.setTele_powerReq (s : State) (t : Nat) (r : TileRt) : (s.setTele t r).powerReq = s.powerReq := (rfl)
@[simp] theorem State.setTele_image (s : State) (t : Nat) (r : TileRt) : (s.setTele t r).image = s.image := (rfl)
@[simp] theorem State.setTele_bar4 (s : State) (t : Nat) (r : TileRt) : (s.setTele t r).bar4 = s.bar4 := (rfl)
@[simp] theorem State.setTele_cfgSpace (s : State) (t : Nat) (r : TileRt) : (s.setTele t r).cfgSpace = s.cfgSpace := (rfl)
@[simp] theorem State.setTele_tap (s : State) (t : Nat) (r : TileRt) : (s.setTele t r).tap = s.tap := (rfl)
@[simp] theorem State.setTele_lines (s : State) (t : Nat) (r : TileRt) : (s.setTele t r).lines = s.lines := (rfl)
@[simp] theorem State.setTele_linkRt (s : State) (t : Nat) (r : TileRt) : (s.setTele t r).linkRt = s.linkRt := (rfl)
@[simp] theorem State.setTele_rateTo (s : State) (t : Nat) (r : TileRt) : (s.setTele t r).rateTo = s.rateTo := (rfl)
@[simp] theorem State.setTele_bar2Held (s : State) (t : Nat) (r : TileRt) : (s.setTele t r).bar2Held = s.bar2Held := (rfl)
@[simp] theorem State.setTele_reg (s : State) (t : Nat) (r : TileRt) (y : Nat) : (s.setTele t r).reg y = s.reg y := (rfl)
@[simp] theorem State.setTele_fld (s : State) (t : Nat) (r : TileRt) (q : Nat) (g : Fld) (m : Nat) : (s.setTele t r).fld q g m = s.fld q g m := (rfl)
@[simp] theorem State.setTele_ff (s : State) (t : Nat) (r : TileRt) (q : Nat) (g : Fld) (m : Nat) : (s.setTele t r).ff q g m = s.ff q g m := (rfl)
@[simp] theorem State.setTele_now (s : State) (t : Nat) (r : TileRt) : (s.setTele t r).now = s.now := (rfl)
@[simp] theorem State.setTele_ring (s : State) (t : Nat) (r : TileRt) (n' : Nat) : (s.setTele t r).ring n' = s.ring n' := (rfl)
@[simp] theorem State.setJob_pending (s : State) (j : Option TileJob) : (s.setJob j).pending = s.pending := (rfl)
@[simp] theorem State.setJob_free (s : State) (j : Option TileJob) : (s.setJob j).free = s.free := (rfl)
@[simp] theorem State.setJob_out (s : State) (j : Option TileJob) : (s.setJob j).out = s.out := (rfl)
@[simp] theorem State.setJob_regs (s : State) (j : Option TileJob) : (s.setJob j).regs = s.regs := (rfl)
@[simp] theorem State.setJob_force (s : State) (j : Option TileJob) : (s.setJob j).force = s.force := (rfl)
@[simp] theorem State.setJob_latch (s : State) (j : Option TileJob) : (s.setJob j).latch = s.latch := (rfl)
@[simp] theorem State.setJob_lowHalf (s : State) (j : Option TileJob) : (s.setJob j).lowHalf = s.lowHalf := (rfl)
@[simp] theorem State.setJob_mem (s : State) (j : Option TileJob) : (s.setJob j).mem = s.mem := (rfl)
@[simp] theorem State.setJob_hostMem (s : State) (j : Option TileJob) : (s.setJob j).hostMem = s.hostMem := (rfl)
@[simp] theorem State.setJob_rings (s : State) (j : Option TileJob) : (s.setJob j).rings = s.rings := (rfl)
@[simp] theorem State.setJob_stale (s : State) (j : Option TileJob) : (s.setJob j).stale = s.stale := (rfl)
@[simp] theorem State.setJob_commands (s : State) (j : Option TileJob) : (s.setJob j).commands = s.commands := (rfl)
@[simp] theorem State.setJob_clk (s : State) (j : Option TileJob) : (s.setJob j).clk = s.clk := (rfl)
@[simp] theorem State.setJob_pow (s : State) (j : Option TileJob) : (s.setJob j).pow = s.pow := (rfl)
@[simp] theorem State.setJob_cyc (s : State) (j : Option TileJob) : (s.setJob j).cyc = s.cyc := (rfl)
@[simp] theorem State.setJob_flows (s : State) (j : Option TileJob) : (s.setJob j).flows = s.flows := (rfl)
@[simp] theorem State.setJob_ports (s : State) (j : Option TileJob) : (s.setJob j).ports = s.ports := (rfl)
@[simp] theorem State.setJob_views (s : State) (j : Option TileJob) : (s.setJob j).views = s.views := (rfl)
@[simp] theorem State.setJob_feeds (s : State) (j : Option TileJob) : (s.setJob j).feeds = s.feeds := (rfl)
@[simp] theorem State.setJob_lanes (s : State) (j : Option TileJob) : (s.setJob j).lanes = s.lanes := (rfl)
@[simp] theorem State.setJob_busy (s : State) (j : Option TileJob) : (s.setJob j).busy = s.busy := (rfl)
@[simp] theorem State.setJob_chans (s : State) (j : Option TileJob) : (s.setJob j).chans = s.chans := (rfl)
@[simp] theorem State.setJob_credits (s : State) (j : Option TileJob) : (s.setJob j).credits = s.credits := (rfl)
@[simp] theorem State.setJob_house (s : State) (j : Option TileJob) : (s.setJob j).house = s.house := (rfl)
@[simp] theorem State.setJob_ptp (s : State) (j : Option TileJob) : (s.setJob j).ptp = s.ptp := (rfl)
@[simp] theorem State.setJob_touts (s : State) (j : Option TileJob) : (s.setJob j).touts = s.touts := (rfl)
@[simp] theorem State.setJob_tcaps (s : State) (j : Option TileJob) : (s.setJob j).tcaps = s.tcaps := (rfl)
@[simp] theorem State.setJob_ppsHigh (s : State) (j : Option TileJob) : (s.setJob j).ppsHigh = s.ppsHigh := (rfl)
@[simp] theorem State.setJob_servos (s : State) (j : Option TileJob) : (s.setJob j).servos = s.servos := (rfl)
@[simp] theorem State.setJob_evt (s : State) (j : Option TileJob) : (s.setJob j).evt = s.evt := (rfl)
@[simp] theorem State.setJob_dgs (s : State) (j : Option TileJob) : (s.setJob j).dgs = s.dgs := (rfl)
@[simp] theorem State.setJob_resp (s : State) (j : Option TileJob) : (s.setJob j).resp = s.resp := (rfl)
@[simp] theorem State.setJob_respLoad (s : State) (j : Option TileJob) : (s.setJob j).respLoad = s.respLoad := (rfl)
@[simp] theorem State.setJob_cap (s : State) (j : Option TileJob) : (s.setJob j).cap = s.cap := (rfl)
@[simp] theorem State.setJob_corrTouched (s : State) (j : Option TileJob) : (s.setJob j).corrTouched = s.corrTouched := (rfl)
@[simp] theorem State.setJob_play (s : State) (j : Option TileJob) : (s.setJob j).play = s.play := (rfl)
@[simp] theorem State.setJob_flashMem (s : State) (j : Option TileJob) : (s.setJob j).flashMem = s.flashMem := (rfl)
@[simp] theorem State.setJob_flashOp (s : State) (j : Option TileJob) : (s.setJob j).flashOp = s.flashOp := (rfl)
@[simp] theorem State.setJob_drives (s : State) (j : Option TileJob) : (s.setJob j).drives = s.drives := (rfl)
@[simp] theorem State.setJob_storeOp (s : State) (j : Option TileJob) : (s.setJob j).storeOp = s.storeOp := (rfl)
@[simp] theorem State.setJob_storeWait (s : State) (j : Option TileJob) : (s.setJob j).storeWait = s.storeWait := (rfl)
@[simp] theorem State.setJob_job (s : State) (j : Option TileJob) : (s.setJob j).job = j := (rfl)
@[simp] theorem State.setJob_aborts (s : State) (j : Option TileJob) : (s.setJob j).aborts = s.aborts := (rfl)
@[simp] theorem State.setJob_panic (s : State) (j : Option TileJob) : (s.setJob j).panic = s.panic := (rfl)
@[simp] theorem State.setJob_rateWait (s : State) (j : Option TileJob) : (s.setJob j).rateWait = s.rateWait := (rfl)
@[simp] theorem State.setJob_powerReq (s : State) (j : Option TileJob) : (s.setJob j).powerReq = s.powerReq := (rfl)
@[simp] theorem State.setJob_image (s : State) (j : Option TileJob) : (s.setJob j).image = s.image := (rfl)
@[simp] theorem State.setJob_bar4 (s : State) (j : Option TileJob) : (s.setJob j).bar4 = s.bar4 := (rfl)
@[simp] theorem State.setJob_cfgSpace (s : State) (j : Option TileJob) : (s.setJob j).cfgSpace = s.cfgSpace := (rfl)
@[simp] theorem State.setJob_tap (s : State) (j : Option TileJob) : (s.setJob j).tap = s.tap := (rfl)
@[simp] theorem State.setJob_lines (s : State) (j : Option TileJob) : (s.setJob j).lines = s.lines := (rfl)
@[simp] theorem State.setJob_linkRt (s : State) (j : Option TileJob) : (s.setJob j).linkRt = s.linkRt := (rfl)
@[simp] theorem State.setJob_rateTo (s : State) (j : Option TileJob) : (s.setJob j).rateTo = s.rateTo := (rfl)
@[simp] theorem State.setJob_bar2Held (s : State) (j : Option TileJob) : (s.setJob j).bar2Held = s.bar2Held := (rfl)
@[simp] theorem State.setJob_reg (s : State) (j : Option TileJob) (y : Nat) : (s.setJob j).reg y = s.reg y := (rfl)
@[simp] theorem State.setJob_fld (s : State) (j : Option TileJob) (q : Nat) (g : Fld) (m : Nat) : (s.setJob j).fld q g m = s.fld q g m := (rfl)
@[simp] theorem State.setJob_ff (s : State) (j : Option TileJob) (q : Nat) (g : Fld) (m : Nat) : (s.setJob j).ff q g m = s.ff q g m := (rfl)
@[simp] theorem State.setJob_now (s : State) (j : Option TileJob) : (s.setJob j).now = s.now := (rfl)
@[simp] theorem State.setJob_ring (s : State) (j : Option TileJob) (n' : Nat) : (s.setJob j).ring n' = s.ring n' := (rfl)
@[simp] theorem State.setFlow_pending (s : State) (f : Nat) (r : FlowRt) : (s.setFlow f r).pending = s.pending := (rfl)
@[simp] theorem State.setFlow_free (s : State) (f : Nat) (r : FlowRt) : (s.setFlow f r).free = s.free := (rfl)
@[simp] theorem State.setFlow_out (s : State) (f : Nat) (r : FlowRt) : (s.setFlow f r).out = s.out := (rfl)
@[simp] theorem State.setFlow_regs (s : State) (f : Nat) (r : FlowRt) : (s.setFlow f r).regs = s.regs := (rfl)
@[simp] theorem State.setFlow_force (s : State) (f : Nat) (r : FlowRt) : (s.setFlow f r).force = s.force := (rfl)
@[simp] theorem State.setFlow_latch (s : State) (f : Nat) (r : FlowRt) : (s.setFlow f r).latch = s.latch := (rfl)
@[simp] theorem State.setFlow_lowHalf (s : State) (f : Nat) (r : FlowRt) : (s.setFlow f r).lowHalf = s.lowHalf := (rfl)
@[simp] theorem State.setFlow_mem (s : State) (f : Nat) (r : FlowRt) : (s.setFlow f r).mem = s.mem := (rfl)
@[simp] theorem State.setFlow_hostMem (s : State) (f : Nat) (r : FlowRt) : (s.setFlow f r).hostMem = s.hostMem := (rfl)
@[simp] theorem State.setFlow_rings (s : State) (f : Nat) (r : FlowRt) : (s.setFlow f r).rings = s.rings := (rfl)
@[simp] theorem State.setFlow_stale (s : State) (f : Nat) (r : FlowRt) : (s.setFlow f r).stale = s.stale := (rfl)
@[simp] theorem State.setFlow_commands (s : State) (f : Nat) (r : FlowRt) : (s.setFlow f r).commands = s.commands := (rfl)
@[simp] theorem State.setFlow_clk (s : State) (f : Nat) (r : FlowRt) : (s.setFlow f r).clk = s.clk := (rfl)
@[simp] theorem State.setFlow_pow (s : State) (f : Nat) (r : FlowRt) : (s.setFlow f r).pow = s.pow := (rfl)
@[simp] theorem State.setFlow_cyc (s : State) (f : Nat) (r : FlowRt) : (s.setFlow f r).cyc = s.cyc := (rfl)
@[simp] theorem State.setFlow_flows (s : State) (f : Nat) (r : FlowRt) : (s.setFlow f r).flows = ins FlowRt.idle f r s.flows := (rfl)
@[simp] theorem State.setFlow_ports (s : State) (f : Nat) (r : FlowRt) : (s.setFlow f r).ports = s.ports := (rfl)
@[simp] theorem State.setFlow_views (s : State) (f : Nat) (r : FlowRt) : (s.setFlow f r).views = s.views := (rfl)
@[simp] theorem State.setFlow_feeds (s : State) (f : Nat) (r : FlowRt) : (s.setFlow f r).feeds = s.feeds := (rfl)
@[simp] theorem State.setFlow_lanes (s : State) (f : Nat) (r : FlowRt) : (s.setFlow f r).lanes = s.lanes := (rfl)
@[simp] theorem State.setFlow_busy (s : State) (f : Nat) (r : FlowRt) : (s.setFlow f r).busy = s.busy := (rfl)
@[simp] theorem State.setFlow_chans (s : State) (f : Nat) (r : FlowRt) : (s.setFlow f r).chans = s.chans := (rfl)
@[simp] theorem State.setFlow_credits (s : State) (f : Nat) (r : FlowRt) : (s.setFlow f r).credits = s.credits := (rfl)
@[simp] theorem State.setFlow_house (s : State) (f : Nat) (r : FlowRt) : (s.setFlow f r).house = s.house := (rfl)
@[simp] theorem State.setFlow_ptp (s : State) (f : Nat) (r : FlowRt) : (s.setFlow f r).ptp = s.ptp := (rfl)
@[simp] theorem State.setFlow_touts (s : State) (f : Nat) (r : FlowRt) : (s.setFlow f r).touts = s.touts := (rfl)
@[simp] theorem State.setFlow_tcaps (s : State) (f : Nat) (r : FlowRt) : (s.setFlow f r).tcaps = s.tcaps := (rfl)
@[simp] theorem State.setFlow_ppsHigh (s : State) (f : Nat) (r : FlowRt) : (s.setFlow f r).ppsHigh = s.ppsHigh := (rfl)
@[simp] theorem State.setFlow_servos (s : State) (f : Nat) (r : FlowRt) : (s.setFlow f r).servos = s.servos := (rfl)
@[simp] theorem State.setFlow_evt (s : State) (f : Nat) (r : FlowRt) : (s.setFlow f r).evt = s.evt := (rfl)
@[simp] theorem State.setFlow_dgs (s : State) (f : Nat) (r : FlowRt) : (s.setFlow f r).dgs = s.dgs := (rfl)
@[simp] theorem State.setFlow_resp (s : State) (f : Nat) (r : FlowRt) : (s.setFlow f r).resp = s.resp := (rfl)
@[simp] theorem State.setFlow_respLoad (s : State) (f : Nat) (r : FlowRt) : (s.setFlow f r).respLoad = s.respLoad := (rfl)
@[simp] theorem State.setFlow_cap (s : State) (f : Nat) (r : FlowRt) : (s.setFlow f r).cap = s.cap := (rfl)
@[simp] theorem State.setFlow_corrTouched (s : State) (f : Nat) (r : FlowRt) : (s.setFlow f r).corrTouched = s.corrTouched := (rfl)
@[simp] theorem State.setFlow_play (s : State) (f : Nat) (r : FlowRt) : (s.setFlow f r).play = s.play := (rfl)
@[simp] theorem State.setFlow_flashMem (s : State) (f : Nat) (r : FlowRt) : (s.setFlow f r).flashMem = s.flashMem := (rfl)
@[simp] theorem State.setFlow_flashOp (s : State) (f : Nat) (r : FlowRt) : (s.setFlow f r).flashOp = s.flashOp := (rfl)
@[simp] theorem State.setFlow_drives (s : State) (f : Nat) (r : FlowRt) : (s.setFlow f r).drives = s.drives := (rfl)
@[simp] theorem State.setFlow_storeOp (s : State) (f : Nat) (r : FlowRt) : (s.setFlow f r).storeOp = s.storeOp := (rfl)
@[simp] theorem State.setFlow_storeWait (s : State) (f : Nat) (r : FlowRt) : (s.setFlow f r).storeWait = s.storeWait := (rfl)
@[simp] theorem State.setFlow_job (s : State) (f : Nat) (r : FlowRt) : (s.setFlow f r).job = s.job := (rfl)
@[simp] theorem State.setFlow_aborts (s : State) (f : Nat) (r : FlowRt) : (s.setFlow f r).aborts = s.aborts := (rfl)
@[simp] theorem State.setFlow_panic (s : State) (f : Nat) (r : FlowRt) : (s.setFlow f r).panic = s.panic := (rfl)
@[simp] theorem State.setFlow_rateWait (s : State) (f : Nat) (r : FlowRt) : (s.setFlow f r).rateWait = s.rateWait := (rfl)
@[simp] theorem State.setFlow_powerReq (s : State) (f : Nat) (r : FlowRt) : (s.setFlow f r).powerReq = s.powerReq := (rfl)
@[simp] theorem State.setFlow_image (s : State) (f : Nat) (r : FlowRt) : (s.setFlow f r).image = s.image := (rfl)
@[simp] theorem State.setFlow_bar4 (s : State) (f : Nat) (r : FlowRt) : (s.setFlow f r).bar4 = s.bar4 := (rfl)
@[simp] theorem State.setFlow_cfgSpace (s : State) (f : Nat) (r : FlowRt) : (s.setFlow f r).cfgSpace = s.cfgSpace := (rfl)
@[simp] theorem State.setFlow_tap (s : State) (f : Nat) (r : FlowRt) : (s.setFlow f r).tap = s.tap := (rfl)
@[simp] theorem State.setFlow_lines (s : State) (f : Nat) (r : FlowRt) : (s.setFlow f r).lines = s.lines := (rfl)
@[simp] theorem State.setFlow_linkRt (s : State) (f : Nat) (r : FlowRt) : (s.setFlow f r).linkRt = s.linkRt := (rfl)
@[simp] theorem State.setFlow_rateTo (s : State) (f : Nat) (r : FlowRt) : (s.setFlow f r).rateTo = s.rateTo := (rfl)
@[simp] theorem State.setFlow_bar2Held (s : State) (f : Nat) (r : FlowRt) : (s.setFlow f r).bar2Held = s.bar2Held := (rfl)
@[simp] theorem State.setFlow_reg (s : State) (f : Nat) (r : FlowRt) (y : Nat) : (s.setFlow f r).reg y = s.reg y := (rfl)
@[simp] theorem State.setFlow_fld (s : State) (f : Nat) (r : FlowRt) (q : Nat) (g : Fld) (m : Nat) : (s.setFlow f r).fld q g m = s.fld q g m := (rfl)
@[simp] theorem State.setFlow_ff (s : State) (f : Nat) (r : FlowRt) (q : Nat) (g : Fld) (m : Nat) : (s.setFlow f r).ff q g m = s.ff q g m := (rfl)
@[simp] theorem State.setFlow_now (s : State) (f : Nat) (r : FlowRt) : (s.setFlow f r).now = s.now := (rfl)
@[simp] theorem State.setFlow_ring (s : State) (f : Nat) (r : FlowRt) (n' : Nat) : (s.setFlow f r).ring n' = s.ring n' := (rfl)
@[simp] theorem State.setView_pending (s : State) (v : Nat) (r : ViewRt) : (s.setView v r).pending = s.pending := (rfl)
@[simp] theorem State.setView_free (s : State) (v : Nat) (r : ViewRt) : (s.setView v r).free = s.free := (rfl)
@[simp] theorem State.setView_out (s : State) (v : Nat) (r : ViewRt) : (s.setView v r).out = s.out := (rfl)
@[simp] theorem State.setView_regs (s : State) (v : Nat) (r : ViewRt) : (s.setView v r).regs = s.regs := (rfl)
@[simp] theorem State.setView_force (s : State) (v : Nat) (r : ViewRt) : (s.setView v r).force = s.force := (rfl)
@[simp] theorem State.setView_latch (s : State) (v : Nat) (r : ViewRt) : (s.setView v r).latch = s.latch := (rfl)
@[simp] theorem State.setView_lowHalf (s : State) (v : Nat) (r : ViewRt) : (s.setView v r).lowHalf = s.lowHalf := (rfl)
@[simp] theorem State.setView_mem (s : State) (v : Nat) (r : ViewRt) : (s.setView v r).mem = s.mem := (rfl)
@[simp] theorem State.setView_hostMem (s : State) (v : Nat) (r : ViewRt) : (s.setView v r).hostMem = s.hostMem := (rfl)
@[simp] theorem State.setView_rings (s : State) (v : Nat) (r : ViewRt) : (s.setView v r).rings = s.rings := (rfl)
@[simp] theorem State.setView_stale (s : State) (v : Nat) (r : ViewRt) : (s.setView v r).stale = s.stale := (rfl)
@[simp] theorem State.setView_commands (s : State) (v : Nat) (r : ViewRt) : (s.setView v r).commands = s.commands := (rfl)
@[simp] theorem State.setView_clk (s : State) (v : Nat) (r : ViewRt) : (s.setView v r).clk = s.clk := (rfl)
@[simp] theorem State.setView_pow (s : State) (v : Nat) (r : ViewRt) : (s.setView v r).pow = s.pow := (rfl)
@[simp] theorem State.setView_cyc (s : State) (v : Nat) (r : ViewRt) : (s.setView v r).cyc = s.cyc := (rfl)
@[simp] theorem State.setView_flows (s : State) (v : Nat) (r : ViewRt) : (s.setView v r).flows = s.flows := (rfl)
@[simp] theorem State.setView_ports (s : State) (v : Nat) (r : ViewRt) : (s.setView v r).ports = s.ports := (rfl)
@[simp] theorem State.setView_views (s : State) (v : Nat) (r : ViewRt) : (s.setView v r).views = ins ViewRt.idle v r s.views := (rfl)
@[simp] theorem State.setView_feeds (s : State) (v : Nat) (r : ViewRt) : (s.setView v r).feeds = s.feeds := (rfl)
@[simp] theorem State.setView_lanes (s : State) (v : Nat) (r : ViewRt) : (s.setView v r).lanes = s.lanes := (rfl)
@[simp] theorem State.setView_busy (s : State) (v : Nat) (r : ViewRt) : (s.setView v r).busy = s.busy := (rfl)
@[simp] theorem State.setView_chans (s : State) (v : Nat) (r : ViewRt) : (s.setView v r).chans = s.chans := (rfl)
@[simp] theorem State.setView_credits (s : State) (v : Nat) (r : ViewRt) : (s.setView v r).credits = s.credits := (rfl)
@[simp] theorem State.setView_house (s : State) (v : Nat) (r : ViewRt) : (s.setView v r).house = s.house := (rfl)
@[simp] theorem State.setView_ptp (s : State) (v : Nat) (r : ViewRt) : (s.setView v r).ptp = s.ptp := (rfl)
@[simp] theorem State.setView_touts (s : State) (v : Nat) (r : ViewRt) : (s.setView v r).touts = s.touts := (rfl)
@[simp] theorem State.setView_tcaps (s : State) (v : Nat) (r : ViewRt) : (s.setView v r).tcaps = s.tcaps := (rfl)
@[simp] theorem State.setView_ppsHigh (s : State) (v : Nat) (r : ViewRt) : (s.setView v r).ppsHigh = s.ppsHigh := (rfl)
@[simp] theorem State.setView_servos (s : State) (v : Nat) (r : ViewRt) : (s.setView v r).servos = s.servos := (rfl)
@[simp] theorem State.setView_evt (s : State) (v : Nat) (r : ViewRt) : (s.setView v r).evt = s.evt := (rfl)
@[simp] theorem State.setView_dgs (s : State) (v : Nat) (r : ViewRt) : (s.setView v r).dgs = s.dgs := (rfl)
@[simp] theorem State.setView_resp (s : State) (v : Nat) (r : ViewRt) : (s.setView v r).resp = s.resp := (rfl)
@[simp] theorem State.setView_respLoad (s : State) (v : Nat) (r : ViewRt) : (s.setView v r).respLoad = s.respLoad := (rfl)
@[simp] theorem State.setView_cap (s : State) (v : Nat) (r : ViewRt) : (s.setView v r).cap = s.cap := (rfl)
@[simp] theorem State.setView_corrTouched (s : State) (v : Nat) (r : ViewRt) : (s.setView v r).corrTouched = s.corrTouched := (rfl)
@[simp] theorem State.setView_play (s : State) (v : Nat) (r : ViewRt) : (s.setView v r).play = s.play := (rfl)
@[simp] theorem State.setView_flashMem (s : State) (v : Nat) (r : ViewRt) : (s.setView v r).flashMem = s.flashMem := (rfl)
@[simp] theorem State.setView_flashOp (s : State) (v : Nat) (r : ViewRt) : (s.setView v r).flashOp = s.flashOp := (rfl)
@[simp] theorem State.setView_drives (s : State) (v : Nat) (r : ViewRt) : (s.setView v r).drives = s.drives := (rfl)
@[simp] theorem State.setView_storeOp (s : State) (v : Nat) (r : ViewRt) : (s.setView v r).storeOp = s.storeOp := (rfl)
@[simp] theorem State.setView_storeWait (s : State) (v : Nat) (r : ViewRt) : (s.setView v r).storeWait = s.storeWait := (rfl)
@[simp] theorem State.setView_job (s : State) (v : Nat) (r : ViewRt) : (s.setView v r).job = s.job := (rfl)
@[simp] theorem State.setView_aborts (s : State) (v : Nat) (r : ViewRt) : (s.setView v r).aborts = s.aborts := (rfl)
@[simp] theorem State.setView_panic (s : State) (v : Nat) (r : ViewRt) : (s.setView v r).panic = s.panic := (rfl)
@[simp] theorem State.setView_rateWait (s : State) (v : Nat) (r : ViewRt) : (s.setView v r).rateWait = s.rateWait := (rfl)
@[simp] theorem State.setView_powerReq (s : State) (v : Nat) (r : ViewRt) : (s.setView v r).powerReq = s.powerReq := (rfl)
@[simp] theorem State.setView_image (s : State) (v : Nat) (r : ViewRt) : (s.setView v r).image = s.image := (rfl)
@[simp] theorem State.setView_bar4 (s : State) (v : Nat) (r : ViewRt) : (s.setView v r).bar4 = s.bar4 := (rfl)
@[simp] theorem State.setView_cfgSpace (s : State) (v : Nat) (r : ViewRt) : (s.setView v r).cfgSpace = s.cfgSpace := (rfl)
@[simp] theorem State.setView_tap (s : State) (v : Nat) (r : ViewRt) : (s.setView v r).tap = s.tap := (rfl)
@[simp] theorem State.setView_lines (s : State) (v : Nat) (r : ViewRt) : (s.setView v r).lines = s.lines := (rfl)
@[simp] theorem State.setView_linkRt (s : State) (v : Nat) (r : ViewRt) : (s.setView v r).linkRt = s.linkRt := (rfl)
@[simp] theorem State.setView_rateTo (s : State) (v : Nat) (r : ViewRt) : (s.setView v r).rateTo = s.rateTo := (rfl)
@[simp] theorem State.setView_bar2Held (s : State) (v : Nat) (r : ViewRt) : (s.setView v r).bar2Held = s.bar2Held := (rfl)
@[simp] theorem State.setView_reg (s : State) (v : Nat) (r : ViewRt) (y : Nat) : (s.setView v r).reg y = s.reg y := (rfl)
@[simp] theorem State.setView_fld (s : State) (v : Nat) (r : ViewRt) (q : Nat) (g : Fld) (m : Nat) : (s.setView v r).fld q g m = s.fld q g m := (rfl)
@[simp] theorem State.setView_ff (s : State) (v : Nat) (r : ViewRt) (q : Nat) (g : Fld) (m : Nat) : (s.setView v r).ff q g m = s.ff q g m := (rfl)
@[simp] theorem State.setView_now (s : State) (v : Nat) (r : ViewRt) : (s.setView v r).now = s.now := (rfl)
@[simp] theorem State.setView_ring (s : State) (v : Nat) (r : ViewRt) (n' : Nat) : (s.setView v r).ring n' = s.ring n' := (rfl)
@[simp] theorem State.setPlay_pending (s : State) (p : Playout) : (s.setPlay p).pending = s.pending := (rfl)
@[simp] theorem State.setPlay_free (s : State) (p : Playout) : (s.setPlay p).free = s.free := (rfl)
@[simp] theorem State.setPlay_out (s : State) (p : Playout) : (s.setPlay p).out = s.out := (rfl)
@[simp] theorem State.setPlay_regs (s : State) (p : Playout) : (s.setPlay p).regs = s.regs := (rfl)
@[simp] theorem State.setPlay_force (s : State) (p : Playout) : (s.setPlay p).force = s.force := (rfl)
@[simp] theorem State.setPlay_latch (s : State) (p : Playout) : (s.setPlay p).latch = s.latch := (rfl)
@[simp] theorem State.setPlay_lowHalf (s : State) (p : Playout) : (s.setPlay p).lowHalf = s.lowHalf := (rfl)
@[simp] theorem State.setPlay_mem (s : State) (p : Playout) : (s.setPlay p).mem = s.mem := (rfl)
@[simp] theorem State.setPlay_hostMem (s : State) (p : Playout) : (s.setPlay p).hostMem = s.hostMem := (rfl)
@[simp] theorem State.setPlay_rings (s : State) (p : Playout) : (s.setPlay p).rings = s.rings := (rfl)
@[simp] theorem State.setPlay_stale (s : State) (p : Playout) : (s.setPlay p).stale = s.stale := (rfl)
@[simp] theorem State.setPlay_commands (s : State) (p : Playout) : (s.setPlay p).commands = s.commands := (rfl)
@[simp] theorem State.setPlay_clk (s : State) (p : Playout) : (s.setPlay p).clk = s.clk := (rfl)
@[simp] theorem State.setPlay_pow (s : State) (p : Playout) : (s.setPlay p).pow = s.pow := (rfl)
@[simp] theorem State.setPlay_cyc (s : State) (p : Playout) : (s.setPlay p).cyc = s.cyc := (rfl)
@[simp] theorem State.setPlay_flows (s : State) (p : Playout) : (s.setPlay p).flows = s.flows := (rfl)
@[simp] theorem State.setPlay_ports (s : State) (p : Playout) : (s.setPlay p).ports = s.ports := (rfl)
@[simp] theorem State.setPlay_views (s : State) (p : Playout) : (s.setPlay p).views = s.views := (rfl)
@[simp] theorem State.setPlay_feeds (s : State) (p : Playout) : (s.setPlay p).feeds = s.feeds := (rfl)
@[simp] theorem State.setPlay_lanes (s : State) (p : Playout) : (s.setPlay p).lanes = s.lanes := (rfl)
@[simp] theorem State.setPlay_busy (s : State) (p : Playout) : (s.setPlay p).busy = s.busy := (rfl)
@[simp] theorem State.setPlay_chans (s : State) (p : Playout) : (s.setPlay p).chans = s.chans := (rfl)
@[simp] theorem State.setPlay_credits (s : State) (p : Playout) : (s.setPlay p).credits = s.credits := (rfl)
@[simp] theorem State.setPlay_house (s : State) (p : Playout) : (s.setPlay p).house = s.house := (rfl)
@[simp] theorem State.setPlay_ptp (s : State) (p : Playout) : (s.setPlay p).ptp = s.ptp := (rfl)
@[simp] theorem State.setPlay_touts (s : State) (p : Playout) : (s.setPlay p).touts = s.touts := (rfl)
@[simp] theorem State.setPlay_tcaps (s : State) (p : Playout) : (s.setPlay p).tcaps = s.tcaps := (rfl)
@[simp] theorem State.setPlay_ppsHigh (s : State) (p : Playout) : (s.setPlay p).ppsHigh = s.ppsHigh := (rfl)
@[simp] theorem State.setPlay_servos (s : State) (p : Playout) : (s.setPlay p).servos = s.servos := (rfl)
@[simp] theorem State.setPlay_evt (s : State) (p : Playout) : (s.setPlay p).evt = s.evt := (rfl)
@[simp] theorem State.setPlay_dgs (s : State) (p : Playout) : (s.setPlay p).dgs = s.dgs := (rfl)
@[simp] theorem State.setPlay_resp (s : State) (p : Playout) : (s.setPlay p).resp = s.resp := (rfl)
@[simp] theorem State.setPlay_respLoad (s : State) (p : Playout) : (s.setPlay p).respLoad = s.respLoad := (rfl)
@[simp] theorem State.setPlay_cap (s : State) (p : Playout) : (s.setPlay p).cap = s.cap := (rfl)
@[simp] theorem State.setPlay_corrTouched (s : State) (p : Playout) : (s.setPlay p).corrTouched = s.corrTouched := (rfl)
@[simp] theorem State.setPlay_play (s : State) (p : Playout) : (s.setPlay p).play = p := (rfl)
@[simp] theorem State.setPlay_flashMem (s : State) (p : Playout) : (s.setPlay p).flashMem = s.flashMem := (rfl)
@[simp] theorem State.setPlay_flashOp (s : State) (p : Playout) : (s.setPlay p).flashOp = s.flashOp := (rfl)
@[simp] theorem State.setPlay_drives (s : State) (p : Playout) : (s.setPlay p).drives = s.drives := (rfl)
@[simp] theorem State.setPlay_storeOp (s : State) (p : Playout) : (s.setPlay p).storeOp = s.storeOp := (rfl)
@[simp] theorem State.setPlay_storeWait (s : State) (p : Playout) : (s.setPlay p).storeWait = s.storeWait := (rfl)
@[simp] theorem State.setPlay_job (s : State) (p : Playout) : (s.setPlay p).job = s.job := (rfl)
@[simp] theorem State.setPlay_aborts (s : State) (p : Playout) : (s.setPlay p).aborts = s.aborts := (rfl)
@[simp] theorem State.setPlay_panic (s : State) (p : Playout) : (s.setPlay p).panic = s.panic := (rfl)
@[simp] theorem State.setPlay_rateWait (s : State) (p : Playout) : (s.setPlay p).rateWait = s.rateWait := (rfl)
@[simp] theorem State.setPlay_powerReq (s : State) (p : Playout) : (s.setPlay p).powerReq = s.powerReq := (rfl)
@[simp] theorem State.setPlay_image (s : State) (p : Playout) : (s.setPlay p).image = s.image := (rfl)
@[simp] theorem State.setPlay_bar4 (s : State) (p : Playout) : (s.setPlay p).bar4 = s.bar4 := (rfl)
@[simp] theorem State.setPlay_cfgSpace (s : State) (p : Playout) : (s.setPlay p).cfgSpace = s.cfgSpace := (rfl)
@[simp] theorem State.setPlay_tap (s : State) (p : Playout) : (s.setPlay p).tap = s.tap := (rfl)
@[simp] theorem State.setPlay_lines (s : State) (p : Playout) : (s.setPlay p).lines = s.lines := (rfl)
@[simp] theorem State.setPlay_linkRt (s : State) (p : Playout) : (s.setPlay p).linkRt = s.linkRt := (rfl)
@[simp] theorem State.setPlay_rateTo (s : State) (p : Playout) : (s.setPlay p).rateTo = s.rateTo := (rfl)
@[simp] theorem State.setPlay_bar2Held (s : State) (p : Playout) : (s.setPlay p).bar2Held = s.bar2Held := (rfl)
@[simp] theorem State.setPlay_reg (s : State) (p : Playout) (y : Nat) : (s.setPlay p).reg y = s.reg y := (rfl)
@[simp] theorem State.setPlay_fld (s : State) (p : Playout) (q : Nat) (g : Fld) (m : Nat) : (s.setPlay p).fld q g m = s.fld q g m := (rfl)
@[simp] theorem State.setPlay_ff (s : State) (p : Playout) (q : Nat) (g : Fld) (m : Nat) : (s.setPlay p).ff q g m = s.ff q g m := (rfl)
@[simp] theorem State.setPlay_now (s : State) (p : Playout) : (s.setPlay p).now = s.now := (rfl)
@[simp] theorem State.setPlay_ring (s : State) (p : Playout) (n' : Nat) : (s.setPlay p).ring n' = s.ring n' := (rfl)
@[simp] theorem State.setPow_pending (s : State) (p : Power) : (s.setPow p).pending = s.pending := (rfl)
@[simp] theorem State.setPow_free (s : State) (p : Power) : (s.setPow p).free = s.free := (rfl)
@[simp] theorem State.setPow_out (s : State) (p : Power) : (s.setPow p).out = s.out := (rfl)
@[simp] theorem State.setPow_regs (s : State) (p : Power) : (s.setPow p).regs = s.regs := (rfl)
@[simp] theorem State.setPow_force (s : State) (p : Power) : (s.setPow p).force = s.force := (rfl)
@[simp] theorem State.setPow_latch (s : State) (p : Power) : (s.setPow p).latch = s.latch := (rfl)
@[simp] theorem State.setPow_lowHalf (s : State) (p : Power) : (s.setPow p).lowHalf = s.lowHalf := (rfl)
@[simp] theorem State.setPow_mem (s : State) (p : Power) : (s.setPow p).mem = s.mem := (rfl)
@[simp] theorem State.setPow_hostMem (s : State) (p : Power) : (s.setPow p).hostMem = s.hostMem := (rfl)
@[simp] theorem State.setPow_rings (s : State) (p : Power) : (s.setPow p).rings = s.rings := (rfl)
@[simp] theorem State.setPow_stale (s : State) (p : Power) : (s.setPow p).stale = s.stale := (rfl)
@[simp] theorem State.setPow_commands (s : State) (p : Power) : (s.setPow p).commands = s.commands := (rfl)
@[simp] theorem State.setPow_clk (s : State) (p : Power) : (s.setPow p).clk = s.clk := (rfl)
@[simp] theorem State.setPow_pow (s : State) (p : Power) : (s.setPow p).pow = p := (rfl)
@[simp] theorem State.setPow_cyc (s : State) (p : Power) : (s.setPow p).cyc = s.cyc := (rfl)
@[simp] theorem State.setPow_flows (s : State) (p : Power) : (s.setPow p).flows = s.flows := (rfl)
@[simp] theorem State.setPow_ports (s : State) (p : Power) : (s.setPow p).ports = s.ports := (rfl)
@[simp] theorem State.setPow_views (s : State) (p : Power) : (s.setPow p).views = s.views := (rfl)
@[simp] theorem State.setPow_feeds (s : State) (p : Power) : (s.setPow p).feeds = s.feeds := (rfl)
@[simp] theorem State.setPow_lanes (s : State) (p : Power) : (s.setPow p).lanes = s.lanes := (rfl)
@[simp] theorem State.setPow_busy (s : State) (p : Power) : (s.setPow p).busy = s.busy := (rfl)
@[simp] theorem State.setPow_chans (s : State) (p : Power) : (s.setPow p).chans = s.chans := (rfl)
@[simp] theorem State.setPow_credits (s : State) (p : Power) : (s.setPow p).credits = s.credits := (rfl)
@[simp] theorem State.setPow_house (s : State) (p : Power) : (s.setPow p).house = s.house := (rfl)
@[simp] theorem State.setPow_ptp (s : State) (p : Power) : (s.setPow p).ptp = s.ptp := (rfl)
@[simp] theorem State.setPow_touts (s : State) (p : Power) : (s.setPow p).touts = s.touts := (rfl)
@[simp] theorem State.setPow_tcaps (s : State) (p : Power) : (s.setPow p).tcaps = s.tcaps := (rfl)
@[simp] theorem State.setPow_ppsHigh (s : State) (p : Power) : (s.setPow p).ppsHigh = s.ppsHigh := (rfl)
@[simp] theorem State.setPow_servos (s : State) (p : Power) : (s.setPow p).servos = s.servos := (rfl)
@[simp] theorem State.setPow_evt (s : State) (p : Power) : (s.setPow p).evt = s.evt := (rfl)
@[simp] theorem State.setPow_dgs (s : State) (p : Power) : (s.setPow p).dgs = s.dgs := (rfl)
@[simp] theorem State.setPow_resp (s : State) (p : Power) : (s.setPow p).resp = s.resp := (rfl)
@[simp] theorem State.setPow_respLoad (s : State) (p : Power) : (s.setPow p).respLoad = s.respLoad := (rfl)
@[simp] theorem State.setPow_cap (s : State) (p : Power) : (s.setPow p).cap = s.cap := (rfl)
@[simp] theorem State.setPow_corrTouched (s : State) (p : Power) : (s.setPow p).corrTouched = s.corrTouched := (rfl)
@[simp] theorem State.setPow_play (s : State) (p : Power) : (s.setPow p).play = s.play := (rfl)
@[simp] theorem State.setPow_flashMem (s : State) (p : Power) : (s.setPow p).flashMem = s.flashMem := (rfl)
@[simp] theorem State.setPow_flashOp (s : State) (p : Power) : (s.setPow p).flashOp = s.flashOp := (rfl)
@[simp] theorem State.setPow_drives (s : State) (p : Power) : (s.setPow p).drives = s.drives := (rfl)
@[simp] theorem State.setPow_storeOp (s : State) (p : Power) : (s.setPow p).storeOp = s.storeOp := (rfl)
@[simp] theorem State.setPow_storeWait (s : State) (p : Power) : (s.setPow p).storeWait = s.storeWait := (rfl)
@[simp] theorem State.setPow_job (s : State) (p : Power) : (s.setPow p).job = s.job := (rfl)
@[simp] theorem State.setPow_aborts (s : State) (p : Power) : (s.setPow p).aborts = s.aborts := (rfl)
@[simp] theorem State.setPow_panic (s : State) (p : Power) : (s.setPow p).panic = s.panic := (rfl)
@[simp] theorem State.setPow_rateWait (s : State) (p : Power) : (s.setPow p).rateWait = s.rateWait := (rfl)
@[simp] theorem State.setPow_powerReq (s : State) (p : Power) : (s.setPow p).powerReq = s.powerReq := (rfl)
@[simp] theorem State.setPow_image (s : State) (p : Power) : (s.setPow p).image = s.image := (rfl)
@[simp] theorem State.setPow_bar4 (s : State) (p : Power) : (s.setPow p).bar4 = s.bar4 := (rfl)
@[simp] theorem State.setPow_cfgSpace (s : State) (p : Power) : (s.setPow p).cfgSpace = s.cfgSpace := (rfl)
@[simp] theorem State.setPow_tap (s : State) (p : Power) : (s.setPow p).tap = s.tap := (rfl)
@[simp] theorem State.setPow_lines (s : State) (p : Power) : (s.setPow p).lines = s.lines := (rfl)
@[simp] theorem State.setPow_linkRt (s : State) (p : Power) : (s.setPow p).linkRt = s.linkRt := (rfl)
@[simp] theorem State.setPow_rateTo (s : State) (p : Power) : (s.setPow p).rateTo = s.rateTo := (rfl)
@[simp] theorem State.setPow_bar2Held (s : State) (p : Power) : (s.setPow p).bar2Held = s.bar2Held := (rfl)
@[simp] theorem State.setPow_reg (s : State) (p : Power) (y : Nat) : (s.setPow p).reg y = s.reg y := (rfl)
@[simp] theorem State.setPow_fld (s : State) (p : Power) (q : Nat) (g : Fld) (m : Nat) : (s.setPow p).fld q g m = s.fld q g m := (rfl)
@[simp] theorem State.setPow_ff (s : State) (p : Power) (q : Nat) (g : Fld) (m : Nat) : (s.setPow p).ff q g m = s.ff q g m := (rfl)
@[simp] theorem State.setPow_now (s : State) (p : Power) : (s.setPow p).now = s.now := (rfl)
@[simp] theorem State.setPow_ring (s : State) (p : Power) (n' : Nat) : (s.setPow p).ring n' = s.ring n' := (rfl)
@[simp] theorem State.setDrive_pending (s : State) (d : Nat) (x : Drive) : (s.setDrive d x).pending = s.pending := (rfl)
@[simp] theorem State.setDrive_free (s : State) (d : Nat) (x : Drive) : (s.setDrive d x).free = s.free := (rfl)
@[simp] theorem State.setDrive_out (s : State) (d : Nat) (x : Drive) : (s.setDrive d x).out = s.out := (rfl)
@[simp] theorem State.setDrive_regs (s : State) (d : Nat) (x : Drive) : (s.setDrive d x).regs = s.regs := (rfl)
@[simp] theorem State.setDrive_force (s : State) (d : Nat) (x : Drive) : (s.setDrive d x).force = s.force := (rfl)
@[simp] theorem State.setDrive_latch (s : State) (d : Nat) (x : Drive) : (s.setDrive d x).latch = s.latch := (rfl)
@[simp] theorem State.setDrive_lowHalf (s : State) (d : Nat) (x : Drive) : (s.setDrive d x).lowHalf = s.lowHalf := (rfl)
@[simp] theorem State.setDrive_mem (s : State) (d : Nat) (x : Drive) : (s.setDrive d x).mem = s.mem := (rfl)
@[simp] theorem State.setDrive_hostMem (s : State) (d : Nat) (x : Drive) : (s.setDrive d x).hostMem = s.hostMem := (rfl)
@[simp] theorem State.setDrive_rings (s : State) (d : Nat) (x : Drive) : (s.setDrive d x).rings = s.rings := (rfl)
@[simp] theorem State.setDrive_stale (s : State) (d : Nat) (x : Drive) : (s.setDrive d x).stale = s.stale := (rfl)
@[simp] theorem State.setDrive_commands (s : State) (d : Nat) (x : Drive) : (s.setDrive d x).commands = s.commands := (rfl)
@[simp] theorem State.setDrive_clk (s : State) (d : Nat) (x : Drive) : (s.setDrive d x).clk = s.clk := (rfl)
@[simp] theorem State.setDrive_pow (s : State) (d : Nat) (x : Drive) : (s.setDrive d x).pow = s.pow := (rfl)
@[simp] theorem State.setDrive_cyc (s : State) (d : Nat) (x : Drive) : (s.setDrive d x).cyc = s.cyc := (rfl)
@[simp] theorem State.setDrive_flows (s : State) (d : Nat) (x : Drive) : (s.setDrive d x).flows = s.flows := (rfl)
@[simp] theorem State.setDrive_ports (s : State) (d : Nat) (x : Drive) : (s.setDrive d x).ports = s.ports := (rfl)
@[simp] theorem State.setDrive_views (s : State) (d : Nat) (x : Drive) : (s.setDrive d x).views = s.views := (rfl)
@[simp] theorem State.setDrive_feeds (s : State) (d : Nat) (x : Drive) : (s.setDrive d x).feeds = s.feeds := (rfl)
@[simp] theorem State.setDrive_lanes (s : State) (d : Nat) (x : Drive) : (s.setDrive d x).lanes = s.lanes := (rfl)
@[simp] theorem State.setDrive_busy (s : State) (d : Nat) (x : Drive) : (s.setDrive d x).busy = s.busy := (rfl)
@[simp] theorem State.setDrive_chans (s : State) (d : Nat) (x : Drive) : (s.setDrive d x).chans = s.chans := (rfl)
@[simp] theorem State.setDrive_credits (s : State) (d : Nat) (x : Drive) : (s.setDrive d x).credits = s.credits := (rfl)
@[simp] theorem State.setDrive_house (s : State) (d : Nat) (x : Drive) : (s.setDrive d x).house = s.house := (rfl)
@[simp] theorem State.setDrive_ptp (s : State) (d : Nat) (x : Drive) : (s.setDrive d x).ptp = s.ptp := (rfl)
@[simp] theorem State.setDrive_touts (s : State) (d : Nat) (x : Drive) : (s.setDrive d x).touts = s.touts := (rfl)
@[simp] theorem State.setDrive_tcaps (s : State) (d : Nat) (x : Drive) : (s.setDrive d x).tcaps = s.tcaps := (rfl)
@[simp] theorem State.setDrive_ppsHigh (s : State) (d : Nat) (x : Drive) : (s.setDrive d x).ppsHigh = s.ppsHigh := (rfl)
@[simp] theorem State.setDrive_servos (s : State) (d : Nat) (x : Drive) : (s.setDrive d x).servos = s.servos := (rfl)
@[simp] theorem State.setDrive_evt (s : State) (d : Nat) (x : Drive) : (s.setDrive d x).evt = s.evt := (rfl)
@[simp] theorem State.setDrive_dgs (s : State) (d : Nat) (x : Drive) : (s.setDrive d x).dgs = s.dgs := (rfl)
@[simp] theorem State.setDrive_resp (s : State) (d : Nat) (x : Drive) : (s.setDrive d x).resp = s.resp := (rfl)
@[simp] theorem State.setDrive_respLoad (s : State) (d : Nat) (x : Drive) : (s.setDrive d x).respLoad = s.respLoad := (rfl)
@[simp] theorem State.setDrive_cap (s : State) (d : Nat) (x : Drive) : (s.setDrive d x).cap = s.cap := (rfl)
@[simp] theorem State.setDrive_corrTouched (s : State) (d : Nat) (x : Drive) : (s.setDrive d x).corrTouched = s.corrTouched := (rfl)
@[simp] theorem State.setDrive_play (s : State) (d : Nat) (x : Drive) : (s.setDrive d x).play = s.play := (rfl)
@[simp] theorem State.setDrive_flashMem (s : State) (d : Nat) (x : Drive) : (s.setDrive d x).flashMem = s.flashMem := (rfl)
@[simp] theorem State.setDrive_flashOp (s : State) (d : Nat) (x : Drive) : (s.setDrive d x).flashOp = s.flashOp := (rfl)
@[simp] theorem State.setDrive_drives (s : State) (d : Nat) (x : Drive) : (s.setDrive d x).drives = ins Drive.away d x s.drives := (rfl)
@[simp] theorem State.setDrive_storeOp (s : State) (d : Nat) (x : Drive) : (s.setDrive d x).storeOp = s.storeOp := (rfl)
@[simp] theorem State.setDrive_storeWait (s : State) (d : Nat) (x : Drive) : (s.setDrive d x).storeWait = s.storeWait := (rfl)
@[simp] theorem State.setDrive_job (s : State) (d : Nat) (x : Drive) : (s.setDrive d x).job = s.job := (rfl)
@[simp] theorem State.setDrive_aborts (s : State) (d : Nat) (x : Drive) : (s.setDrive d x).aborts = s.aborts := (rfl)
@[simp] theorem State.setDrive_panic (s : State) (d : Nat) (x : Drive) : (s.setDrive d x).panic = s.panic := (rfl)
@[simp] theorem State.setDrive_rateWait (s : State) (d : Nat) (x : Drive) : (s.setDrive d x).rateWait = s.rateWait := (rfl)
@[simp] theorem State.setDrive_powerReq (s : State) (d : Nat) (x : Drive) : (s.setDrive d x).powerReq = s.powerReq := (rfl)
@[simp] theorem State.setDrive_image (s : State) (d : Nat) (x : Drive) : (s.setDrive d x).image = s.image := (rfl)
@[simp] theorem State.setDrive_bar4 (s : State) (d : Nat) (x : Drive) : (s.setDrive d x).bar4 = s.bar4 := (rfl)
@[simp] theorem State.setDrive_cfgSpace (s : State) (d : Nat) (x : Drive) : (s.setDrive d x).cfgSpace = s.cfgSpace := (rfl)
@[simp] theorem State.setDrive_tap (s : State) (d : Nat) (x : Drive) : (s.setDrive d x).tap = s.tap := (rfl)
@[simp] theorem State.setDrive_lines (s : State) (d : Nat) (x : Drive) : (s.setDrive d x).lines = s.lines := (rfl)
@[simp] theorem State.setDrive_linkRt (s : State) (d : Nat) (x : Drive) : (s.setDrive d x).linkRt = s.linkRt := (rfl)
@[simp] theorem State.setDrive_rateTo (s : State) (d : Nat) (x : Drive) : (s.setDrive d x).rateTo = s.rateTo := (rfl)
@[simp] theorem State.setDrive_bar2Held (s : State) (d : Nat) (x : Drive) : (s.setDrive d x).bar2Held = s.bar2Held := (rfl)
@[simp] theorem State.setDrive_reg (s : State) (d : Nat) (x : Drive) (y : Nat) : (s.setDrive d x).reg y = s.reg y := (rfl)
@[simp] theorem State.setDrive_fld (s : State) (d : Nat) (x : Drive) (q : Nat) (g : Fld) (m : Nat) : (s.setDrive d x).fld q g m = s.fld q g m := (rfl)
@[simp] theorem State.setDrive_ff (s : State) (d : Nat) (x : Drive) (q : Nat) (g : Fld) (m : Nat) : (s.setDrive d x).ff q g m = s.ff q g m := (rfl)
@[simp] theorem State.setDrive_now (s : State) (d : Nat) (x : Drive) : (s.setDrive d x).now = s.now := (rfl)
@[simp] theorem State.setDrive_ring (s : State) (d : Nat) (x : Drive) (n' : Nat) : (s.setDrive d x).ring n' = s.ring n' := (rfl)
@[simp] theorem State.setLatch_pending (s : State) (seat a v : Nat) : (s.setLatch seat a v).pending = s.pending := (rfl)
@[simp] theorem State.setLatch_free (s : State) (seat a v : Nat) : (s.setLatch seat a v).free = s.free := (rfl)
@[simp] theorem State.setLatch_out (s : State) (seat a v : Nat) : (s.setLatch seat a v).out = s.out := (rfl)
@[simp] theorem State.setLatch_regs (s : State) (seat a v : Nat) : (s.setLatch seat a v).regs = s.regs := (rfl)
@[simp] theorem State.setLatch_force (s : State) (seat a v : Nat) : (s.setLatch seat a v).force = s.force := (rfl)
@[simp] theorem State.setLatch_lowHalf (s : State) (seat a v : Nat) : (s.setLatch seat a v).lowHalf = s.lowHalf := (rfl)
@[simp] theorem State.setLatch_mem (s : State) (seat a v : Nat) : (s.setLatch seat a v).mem = s.mem := (rfl)
@[simp] theorem State.setLatch_hostMem (s : State) (seat a v : Nat) : (s.setLatch seat a v).hostMem = s.hostMem := (rfl)
@[simp] theorem State.setLatch_rings (s : State) (seat a v : Nat) : (s.setLatch seat a v).rings = s.rings := (rfl)
@[simp] theorem State.setLatch_stale (s : State) (seat a v : Nat) : (s.setLatch seat a v).stale = s.stale := (rfl)
@[simp] theorem State.setLatch_commands (s : State) (seat a v : Nat) : (s.setLatch seat a v).commands = s.commands := (rfl)
@[simp] theorem State.setLatch_clk (s : State) (seat a v : Nat) : (s.setLatch seat a v).clk = s.clk := (rfl)
@[simp] theorem State.setLatch_pow (s : State) (seat a v : Nat) : (s.setLatch seat a v).pow = s.pow := (rfl)
@[simp] theorem State.setLatch_cyc (s : State) (seat a v : Nat) : (s.setLatch seat a v).cyc = s.cyc := (rfl)
@[simp] theorem State.setLatch_flows (s : State) (seat a v : Nat) : (s.setLatch seat a v).flows = s.flows := (rfl)
@[simp] theorem State.setLatch_ports (s : State) (seat a v : Nat) : (s.setLatch seat a v).ports = s.ports := (rfl)
@[simp] theorem State.setLatch_views (s : State) (seat a v : Nat) : (s.setLatch seat a v).views = s.views := (rfl)
@[simp] theorem State.setLatch_feeds (s : State) (seat a v : Nat) : (s.setLatch seat a v).feeds = s.feeds := (rfl)
@[simp] theorem State.setLatch_lanes (s : State) (seat a v : Nat) : (s.setLatch seat a v).lanes = s.lanes := (rfl)
@[simp] theorem State.setLatch_busy (s : State) (seat a v : Nat) : (s.setLatch seat a v).busy = s.busy := (rfl)
@[simp] theorem State.setLatch_chans (s : State) (seat a v : Nat) : (s.setLatch seat a v).chans = s.chans := (rfl)
@[simp] theorem State.setLatch_credits (s : State) (seat a v : Nat) : (s.setLatch seat a v).credits = s.credits := (rfl)
@[simp] theorem State.setLatch_house (s : State) (seat a v : Nat) : (s.setLatch seat a v).house = s.house := (rfl)
@[simp] theorem State.setLatch_ptp (s : State) (seat a v : Nat) : (s.setLatch seat a v).ptp = s.ptp := (rfl)
@[simp] theorem State.setLatch_touts (s : State) (seat a v : Nat) : (s.setLatch seat a v).touts = s.touts := (rfl)
@[simp] theorem State.setLatch_tcaps (s : State) (seat a v : Nat) : (s.setLatch seat a v).tcaps = s.tcaps := (rfl)
@[simp] theorem State.setLatch_ppsHigh (s : State) (seat a v : Nat) : (s.setLatch seat a v).ppsHigh = s.ppsHigh := (rfl)
@[simp] theorem State.setLatch_servos (s : State) (seat a v : Nat) : (s.setLatch seat a v).servos = s.servos := (rfl)
@[simp] theorem State.setLatch_evt (s : State) (seat a v : Nat) : (s.setLatch seat a v).evt = s.evt := (rfl)
@[simp] theorem State.setLatch_dgs (s : State) (seat a v : Nat) : (s.setLatch seat a v).dgs = s.dgs := (rfl)
@[simp] theorem State.setLatch_resp (s : State) (seat a v : Nat) : (s.setLatch seat a v).resp = s.resp := (rfl)
@[simp] theorem State.setLatch_respLoad (s : State) (seat a v : Nat) : (s.setLatch seat a v).respLoad = s.respLoad := (rfl)
@[simp] theorem State.setLatch_cap (s : State) (seat a v : Nat) : (s.setLatch seat a v).cap = s.cap := (rfl)
@[simp] theorem State.setLatch_corrTouched (s : State) (seat a v : Nat) : (s.setLatch seat a v).corrTouched = s.corrTouched := (rfl)
@[simp] theorem State.setLatch_play (s : State) (seat a v : Nat) : (s.setLatch seat a v).play = s.play := (rfl)
@[simp] theorem State.setLatch_flashMem (s : State) (seat a v : Nat) : (s.setLatch seat a v).flashMem = s.flashMem := (rfl)
@[simp] theorem State.setLatch_flashOp (s : State) (seat a v : Nat) : (s.setLatch seat a v).flashOp = s.flashOp := (rfl)
@[simp] theorem State.setLatch_drives (s : State) (seat a v : Nat) : (s.setLatch seat a v).drives = s.drives := (rfl)
@[simp] theorem State.setLatch_storeOp (s : State) (seat a v : Nat) : (s.setLatch seat a v).storeOp = s.storeOp := (rfl)
@[simp] theorem State.setLatch_storeWait (s : State) (seat a v : Nat) : (s.setLatch seat a v).storeWait = s.storeWait := (rfl)
@[simp] theorem State.setLatch_job (s : State) (seat a v : Nat) : (s.setLatch seat a v).job = s.job := (rfl)
@[simp] theorem State.setLatch_aborts (s : State) (seat a v : Nat) : (s.setLatch seat a v).aborts = s.aborts := (rfl)
@[simp] theorem State.setLatch_panic (s : State) (seat a v : Nat) : (s.setLatch seat a v).panic = s.panic := (rfl)
@[simp] theorem State.setLatch_rateWait (s : State) (seat a v : Nat) : (s.setLatch seat a v).rateWait = s.rateWait := (rfl)
@[simp] theorem State.setLatch_powerReq (s : State) (seat a v : Nat) : (s.setLatch seat a v).powerReq = s.powerReq := (rfl)
@[simp] theorem State.setLatch_image (s : State) (seat a v : Nat) : (s.setLatch seat a v).image = s.image := (rfl)
@[simp] theorem State.setLatch_bar4 (s : State) (seat a v : Nat) : (s.setLatch seat a v).bar4 = s.bar4 := (rfl)
@[simp] theorem State.setLatch_cfgSpace (s : State) (seat a v : Nat) : (s.setLatch seat a v).cfgSpace = s.cfgSpace := (rfl)
@[simp] theorem State.setLatch_tap (s : State) (seat a v : Nat) : (s.setLatch seat a v).tap = s.tap := (rfl)
@[simp] theorem State.setLatch_lines (s : State) (seat a v : Nat) : (s.setLatch seat a v).lines = s.lines := (rfl)
@[simp] theorem State.setLatch_linkRt (s : State) (seat a v : Nat) : (s.setLatch seat a v).linkRt = s.linkRt := (rfl)
@[simp] theorem State.setLatch_rateTo (s : State) (seat a v : Nat) : (s.setLatch seat a v).rateTo = s.rateTo := (rfl)
@[simp] theorem State.setLatch_bar2Held (s : State) (seat a v : Nat) : (s.setLatch seat a v).bar2Held = s.bar2Held := (rfl)
@[simp] theorem State.setLatch_reg (s : State) (seat a v : Nat) (y : Nat) : (s.setLatch seat a v).reg y = s.reg y := (rfl)
@[simp] theorem State.setLatch_fld (s : State) (seat a v : Nat) (q : Nat) (g : Fld) (m : Nat) : (s.setLatch seat a v).fld q g m = s.fld q g m := (rfl)
@[simp] theorem State.setLatch_ff (s : State) (seat a v : Nat) (q : Nat) (g : Fld) (m : Nat) : (s.setLatch seat a v).ff q g m = s.ff q g m := (rfl)
@[simp] theorem State.setLatch_now (s : State) (seat a v : Nat) : (s.setLatch seat a v).now = s.now := (rfl)
@[simp] theorem State.setLatch_ring (s : State) (seat a v : Nat) (n' : Nat) : (s.setLatch seat a v).ring n' = s.ring n' := (rfl)
@[simp] theorem State.setHalf_pending (s : State) (who a : Nat) (v : Option Word) : (s.setHalf who a v).pending = s.pending := (rfl)
@[simp] theorem State.setHalf_free (s : State) (who a : Nat) (v : Option Word) : (s.setHalf who a v).free = s.free := (rfl)
@[simp] theorem State.setHalf_out (s : State) (who a : Nat) (v : Option Word) : (s.setHalf who a v).out = s.out := (rfl)
@[simp] theorem State.setHalf_regs (s : State) (who a : Nat) (v : Option Word) : (s.setHalf who a v).regs = s.regs := (rfl)
@[simp] theorem State.setHalf_force (s : State) (who a : Nat) (v : Option Word) : (s.setHalf who a v).force = s.force := (rfl)
@[simp] theorem State.setHalf_latch (s : State) (who a : Nat) (v : Option Word) : (s.setHalf who a v).latch = s.latch := (rfl)
@[simp] theorem State.setHalf_mem (s : State) (who a : Nat) (v : Option Word) : (s.setHalf who a v).mem = s.mem := (rfl)
@[simp] theorem State.setHalf_hostMem (s : State) (who a : Nat) (v : Option Word) : (s.setHalf who a v).hostMem = s.hostMem := (rfl)
@[simp] theorem State.setHalf_rings (s : State) (who a : Nat) (v : Option Word) : (s.setHalf who a v).rings = s.rings := (rfl)
@[simp] theorem State.setHalf_stale (s : State) (who a : Nat) (v : Option Word) : (s.setHalf who a v).stale = s.stale := (rfl)
@[simp] theorem State.setHalf_commands (s : State) (who a : Nat) (v : Option Word) : (s.setHalf who a v).commands = s.commands := (rfl)
@[simp] theorem State.setHalf_clk (s : State) (who a : Nat) (v : Option Word) : (s.setHalf who a v).clk = s.clk := (rfl)
@[simp] theorem State.setHalf_pow (s : State) (who a : Nat) (v : Option Word) : (s.setHalf who a v).pow = s.pow := (rfl)
@[simp] theorem State.setHalf_cyc (s : State) (who a : Nat) (v : Option Word) : (s.setHalf who a v).cyc = s.cyc := (rfl)
@[simp] theorem State.setHalf_flows (s : State) (who a : Nat) (v : Option Word) : (s.setHalf who a v).flows = s.flows := (rfl)
@[simp] theorem State.setHalf_ports (s : State) (who a : Nat) (v : Option Word) : (s.setHalf who a v).ports = s.ports := (rfl)
@[simp] theorem State.setHalf_views (s : State) (who a : Nat) (v : Option Word) : (s.setHalf who a v).views = s.views := (rfl)
@[simp] theorem State.setHalf_feeds (s : State) (who a : Nat) (v : Option Word) : (s.setHalf who a v).feeds = s.feeds := (rfl)
@[simp] theorem State.setHalf_lanes (s : State) (who a : Nat) (v : Option Word) : (s.setHalf who a v).lanes = s.lanes := (rfl)
@[simp] theorem State.setHalf_busy (s : State) (who a : Nat) (v : Option Word) : (s.setHalf who a v).busy = s.busy := (rfl)
@[simp] theorem State.setHalf_chans (s : State) (who a : Nat) (v : Option Word) : (s.setHalf who a v).chans = s.chans := (rfl)
@[simp] theorem State.setHalf_credits (s : State) (who a : Nat) (v : Option Word) : (s.setHalf who a v).credits = s.credits := (rfl)
@[simp] theorem State.setHalf_house (s : State) (who a : Nat) (v : Option Word) : (s.setHalf who a v).house = s.house := (rfl)
@[simp] theorem State.setHalf_ptp (s : State) (who a : Nat) (v : Option Word) : (s.setHalf who a v).ptp = s.ptp := (rfl)
@[simp] theorem State.setHalf_touts (s : State) (who a : Nat) (v : Option Word) : (s.setHalf who a v).touts = s.touts := (rfl)
@[simp] theorem State.setHalf_tcaps (s : State) (who a : Nat) (v : Option Word) : (s.setHalf who a v).tcaps = s.tcaps := (rfl)
@[simp] theorem State.setHalf_ppsHigh (s : State) (who a : Nat) (v : Option Word) : (s.setHalf who a v).ppsHigh = s.ppsHigh := (rfl)
@[simp] theorem State.setHalf_servos (s : State) (who a : Nat) (v : Option Word) : (s.setHalf who a v).servos = s.servos := (rfl)
@[simp] theorem State.setHalf_evt (s : State) (who a : Nat) (v : Option Word) : (s.setHalf who a v).evt = s.evt := (rfl)
@[simp] theorem State.setHalf_dgs (s : State) (who a : Nat) (v : Option Word) : (s.setHalf who a v).dgs = s.dgs := (rfl)
@[simp] theorem State.setHalf_resp (s : State) (who a : Nat) (v : Option Word) : (s.setHalf who a v).resp = s.resp := (rfl)
@[simp] theorem State.setHalf_respLoad (s : State) (who a : Nat) (v : Option Word) : (s.setHalf who a v).respLoad = s.respLoad := (rfl)
@[simp] theorem State.setHalf_cap (s : State) (who a : Nat) (v : Option Word) : (s.setHalf who a v).cap = s.cap := (rfl)
@[simp] theorem State.setHalf_corrTouched (s : State) (who a : Nat) (v : Option Word) : (s.setHalf who a v).corrTouched = s.corrTouched := (rfl)
@[simp] theorem State.setHalf_play (s : State) (who a : Nat) (v : Option Word) : (s.setHalf who a v).play = s.play := (rfl)
@[simp] theorem State.setHalf_flashMem (s : State) (who a : Nat) (v : Option Word) : (s.setHalf who a v).flashMem = s.flashMem := (rfl)
@[simp] theorem State.setHalf_flashOp (s : State) (who a : Nat) (v : Option Word) : (s.setHalf who a v).flashOp = s.flashOp := (rfl)
@[simp] theorem State.setHalf_drives (s : State) (who a : Nat) (v : Option Word) : (s.setHalf who a v).drives = s.drives := (rfl)
@[simp] theorem State.setHalf_storeOp (s : State) (who a : Nat) (v : Option Word) : (s.setHalf who a v).storeOp = s.storeOp := (rfl)
@[simp] theorem State.setHalf_storeWait (s : State) (who a : Nat) (v : Option Word) : (s.setHalf who a v).storeWait = s.storeWait := (rfl)
@[simp] theorem State.setHalf_job (s : State) (who a : Nat) (v : Option Word) : (s.setHalf who a v).job = s.job := (rfl)
@[simp] theorem State.setHalf_aborts (s : State) (who a : Nat) (v : Option Word) : (s.setHalf who a v).aborts = s.aborts := (rfl)
@[simp] theorem State.setHalf_panic (s : State) (who a : Nat) (v : Option Word) : (s.setHalf who a v).panic = s.panic := (rfl)
@[simp] theorem State.setHalf_rateWait (s : State) (who a : Nat) (v : Option Word) : (s.setHalf who a v).rateWait = s.rateWait := (rfl)
@[simp] theorem State.setHalf_powerReq (s : State) (who a : Nat) (v : Option Word) : (s.setHalf who a v).powerReq = s.powerReq := (rfl)
@[simp] theorem State.setHalf_image (s : State) (who a : Nat) (v : Option Word) : (s.setHalf who a v).image = s.image := (rfl)
@[simp] theorem State.setHalf_bar4 (s : State) (who a : Nat) (v : Option Word) : (s.setHalf who a v).bar4 = s.bar4 := (rfl)
@[simp] theorem State.setHalf_cfgSpace (s : State) (who a : Nat) (v : Option Word) : (s.setHalf who a v).cfgSpace = s.cfgSpace := (rfl)
@[simp] theorem State.setHalf_tap (s : State) (who a : Nat) (v : Option Word) : (s.setHalf who a v).tap = s.tap := (rfl)
@[simp] theorem State.setHalf_lines (s : State) (who a : Nat) (v : Option Word) : (s.setHalf who a v).lines = s.lines := (rfl)
@[simp] theorem State.setHalf_linkRt (s : State) (who a : Nat) (v : Option Word) : (s.setHalf who a v).linkRt = s.linkRt := (rfl)
@[simp] theorem State.setHalf_rateTo (s : State) (who a : Nat) (v : Option Word) : (s.setHalf who a v).rateTo = s.rateTo := (rfl)
@[simp] theorem State.setHalf_bar2Held (s : State) (who a : Nat) (v : Option Word) : (s.setHalf who a v).bar2Held = s.bar2Held := (rfl)
@[simp] theorem State.setHalf_reg (s : State) (who a : Nat) (v : Option Word) (y : Nat) : (s.setHalf who a v).reg y = s.reg y := (rfl)
@[simp] theorem State.setHalf_fld (s : State) (who a : Nat) (v : Option Word) (q : Nat) (g : Fld) (m : Nat) : (s.setHalf who a v).fld q g m = s.fld q g m := (rfl)
@[simp] theorem State.setHalf_ff (s : State) (who a : Nat) (v : Option Word) (q : Nat) (g : Fld) (m : Nat) : (s.setHalf who a v).ff q g m = s.ff q g m := (rfl)
@[simp] theorem State.setHalf_now (s : State) (who a : Nat) (v : Option Word) : (s.setHalf who a v).now = s.now := (rfl)
@[simp] theorem State.setHalf_ring (s : State) (who a : Nat) (v : Option Word) (n' : Nat) : (s.setHalf who a v).ring n' = s.ring n' := (rfl)
@[simp] theorem State.setLane_pending (s : State) (l : Nat) (r : LaneRt) : (s.setLane l r).pending = s.pending := by rw [State.setLane, State.setFld_pending]
@[simp] theorem State.setLane_free (s : State) (l : Nat) (r : LaneRt) : (s.setLane l r).free = s.free := by rw [State.setLane, State.setFld_free]
@[simp] theorem State.setLane_out (s : State) (l : Nat) (r : LaneRt) : (s.setLane l r).out = s.out := by rw [State.setLane, State.setFld_out]
@[simp] theorem State.setLane_force (s : State) (l : Nat) (r : LaneRt) : (s.setLane l r).force = s.force := by rw [State.setLane, State.setFld_force]
@[simp] theorem State.setLane_latch (s : State) (l : Nat) (r : LaneRt) : (s.setLane l r).latch = s.latch := by rw [State.setLane, State.setFld_latch]
@[simp] theorem State.setLane_lowHalf (s : State) (l : Nat) (r : LaneRt) : (s.setLane l r).lowHalf = s.lowHalf := by rw [State.setLane, State.setFld_lowHalf]
@[simp] theorem State.setLane_mem (s : State) (l : Nat) (r : LaneRt) : (s.setLane l r).mem = s.mem := by rw [State.setLane, State.setFld_mem]
@[simp] theorem State.setLane_hostMem (s : State) (l : Nat) (r : LaneRt) : (s.setLane l r).hostMem = s.hostMem := by rw [State.setLane, State.setFld_hostMem]
@[simp] theorem State.setLane_rings (s : State) (l : Nat) (r : LaneRt) : (s.setLane l r).rings = s.rings := by rw [State.setLane, State.setFld_rings]
@[simp] theorem State.setLane_stale (s : State) (l : Nat) (r : LaneRt) : (s.setLane l r).stale = s.stale := by rw [State.setLane, State.setFld_stale]
@[simp] theorem State.setLane_commands (s : State) (l : Nat) (r : LaneRt) : (s.setLane l r).commands = s.commands := by rw [State.setLane, State.setFld_commands]
@[simp] theorem State.setLane_clk (s : State) (l : Nat) (r : LaneRt) : (s.setLane l r).clk = s.clk := by rw [State.setLane, State.setFld_clk]
@[simp] theorem State.setLane_pow (s : State) (l : Nat) (r : LaneRt) : (s.setLane l r).pow = s.pow := by rw [State.setLane, State.setFld_pow]
@[simp] theorem State.setLane_cyc (s : State) (l : Nat) (r : LaneRt) : (s.setLane l r).cyc = s.cyc := by rw [State.setLane, State.setFld_cyc]
@[simp] theorem State.setLane_flows (s : State) (l : Nat) (r : LaneRt) : (s.setLane l r).flows = s.flows := by rw [State.setLane, State.setFld_flows]
@[simp] theorem State.setLane_ports (s : State) (l : Nat) (r : LaneRt) : (s.setLane l r).ports = s.ports := by rw [State.setLane, State.setFld_ports]
@[simp] theorem State.setLane_views (s : State) (l : Nat) (r : LaneRt) : (s.setLane l r).views = s.views := by rw [State.setLane, State.setFld_views]
@[simp] theorem State.setLane_feeds (s : State) (l : Nat) (r : LaneRt) : (s.setLane l r).feeds = s.feeds := by rw [State.setLane, State.setFld_feeds]
@[simp] theorem State.setLane_busy (s : State) (l : Nat) (r : LaneRt) : (s.setLane l r).busy = s.busy := by rw [State.setLane, State.setFld_busy]
@[simp] theorem State.setLane_chans (s : State) (l : Nat) (r : LaneRt) : (s.setLane l r).chans = s.chans := by rw [State.setLane, State.setFld_chans]
@[simp] theorem State.setLane_credits (s : State) (l : Nat) (r : LaneRt) : (s.setLane l r).credits = s.credits := by rw [State.setLane, State.setFld_credits]
@[simp] theorem State.setLane_house (s : State) (l : Nat) (r : LaneRt) : (s.setLane l r).house = s.house := by rw [State.setLane, State.setFld_house]
@[simp] theorem State.setLane_ptp (s : State) (l : Nat) (r : LaneRt) : (s.setLane l r).ptp = s.ptp := by rw [State.setLane, State.setFld_ptp]
@[simp] theorem State.setLane_touts (s : State) (l : Nat) (r : LaneRt) : (s.setLane l r).touts = s.touts := by rw [State.setLane, State.setFld_touts]
@[simp] theorem State.setLane_tcaps (s : State) (l : Nat) (r : LaneRt) : (s.setLane l r).tcaps = s.tcaps := by rw [State.setLane, State.setFld_tcaps]
@[simp] theorem State.setLane_ppsHigh (s : State) (l : Nat) (r : LaneRt) : (s.setLane l r).ppsHigh = s.ppsHigh := by rw [State.setLane, State.setFld_ppsHigh]
@[simp] theorem State.setLane_servos (s : State) (l : Nat) (r : LaneRt) : (s.setLane l r).servos = s.servos := by rw [State.setLane, State.setFld_servos]
@[simp] theorem State.setLane_evt (s : State) (l : Nat) (r : LaneRt) : (s.setLane l r).evt = s.evt := by rw [State.setLane, State.setFld_evt]
@[simp] theorem State.setLane_dgs (s : State) (l : Nat) (r : LaneRt) : (s.setLane l r).dgs = s.dgs := by rw [State.setLane, State.setFld_dgs]
@[simp] theorem State.setLane_resp (s : State) (l : Nat) (r : LaneRt) : (s.setLane l r).resp = s.resp := by rw [State.setLane, State.setFld_resp]
@[simp] theorem State.setLane_respLoad (s : State) (l : Nat) (r : LaneRt) : (s.setLane l r).respLoad = s.respLoad := by rw [State.setLane, State.setFld_respLoad]
@[simp] theorem State.setLane_cap (s : State) (l : Nat) (r : LaneRt) : (s.setLane l r).cap = s.cap := by rw [State.setLane, State.setFld_cap]
@[simp] theorem State.setLane_corrTouched (s : State) (l : Nat) (r : LaneRt) : (s.setLane l r).corrTouched = s.corrTouched := by rw [State.setLane, State.setFld_corrTouched]
@[simp] theorem State.setLane_play (s : State) (l : Nat) (r : LaneRt) : (s.setLane l r).play = s.play := by rw [State.setLane, State.setFld_play]
@[simp] theorem State.setLane_flashMem (s : State) (l : Nat) (r : LaneRt) : (s.setLane l r).flashMem = s.flashMem := by rw [State.setLane, State.setFld_flashMem]
@[simp] theorem State.setLane_flashOp (s : State) (l : Nat) (r : LaneRt) : (s.setLane l r).flashOp = s.flashOp := by rw [State.setLane, State.setFld_flashOp]
@[simp] theorem State.setLane_drives (s : State) (l : Nat) (r : LaneRt) : (s.setLane l r).drives = s.drives := by rw [State.setLane, State.setFld_drives]
@[simp] theorem State.setLane_storeOp (s : State) (l : Nat) (r : LaneRt) : (s.setLane l r).storeOp = s.storeOp := by rw [State.setLane, State.setFld_storeOp]
@[simp] theorem State.setLane_storeWait (s : State) (l : Nat) (r : LaneRt) : (s.setLane l r).storeWait = s.storeWait := by rw [State.setLane, State.setFld_storeWait]
@[simp] theorem State.setLane_job (s : State) (l : Nat) (r : LaneRt) : (s.setLane l r).job = s.job := by rw [State.setLane, State.setFld_job]
@[simp] theorem State.setLane_aborts (s : State) (l : Nat) (r : LaneRt) : (s.setLane l r).aborts = s.aborts := by rw [State.setLane, State.setFld_aborts]
@[simp] theorem State.setLane_panic (s : State) (l : Nat) (r : LaneRt) : (s.setLane l r).panic = s.panic := by rw [State.setLane, State.setFld_panic]
@[simp] theorem State.setLane_rateWait (s : State) (l : Nat) (r : LaneRt) : (s.setLane l r).rateWait = s.rateWait := by rw [State.setLane, State.setFld_rateWait]
@[simp] theorem State.setLane_powerReq (s : State) (l : Nat) (r : LaneRt) : (s.setLane l r).powerReq = s.powerReq := by rw [State.setLane, State.setFld_powerReq]
@[simp] theorem State.setLane_image (s : State) (l : Nat) (r : LaneRt) : (s.setLane l r).image = s.image := by rw [State.setLane, State.setFld_image]
@[simp] theorem State.setLane_bar4 (s : State) (l : Nat) (r : LaneRt) : (s.setLane l r).bar4 = s.bar4 := by rw [State.setLane, State.setFld_bar4]
@[simp] theorem State.setLane_cfgSpace (s : State) (l : Nat) (r : LaneRt) : (s.setLane l r).cfgSpace = s.cfgSpace := by rw [State.setLane, State.setFld_cfgSpace]
@[simp] theorem State.setLane_tap (s : State) (l : Nat) (r : LaneRt) : (s.setLane l r).tap = s.tap := by rw [State.setLane, State.setFld_tap]
@[simp] theorem State.setLane_lines (s : State) (l : Nat) (r : LaneRt) : (s.setLane l r).lines = s.lines := by rw [State.setLane, State.setFld_lines]
@[simp] theorem State.setLane_linkRt (s : State) (l : Nat) (r : LaneRt) : (s.setLane l r).linkRt = s.linkRt := by rw [State.setLane, State.setFld_linkRt]
@[simp] theorem State.setLane_rateTo (s : State) (l : Nat) (r : LaneRt) : (s.setLane l r).rateTo = s.rateTo := by rw [State.setLane, State.setFld_rateTo]
@[simp] theorem State.setLane_bar2Held (s : State) (l : Nat) (r : LaneRt) : (s.setLane l r).bar2Held = s.bar2Held := by rw [State.setLane, State.setFld_bar2Held]
@[simp] theorem State.setLane_ff (s : State) (l : Nat) (r : LaneRt) (q : Nat) (g : Fld) (m : Nat) : (s.setLane l r).ff q g m = s.ff q g m := by rw [State.setLane, State.setFld_ff]; rfl
@[simp] theorem State.setLane_now (s : State) (l : Nat) (r : LaneRt) : (s.setLane l r).now = s.now := by rw [State.setLane, State.setFld_now]; rfl
@[simp] theorem State.setLane_ring (s : State) (l : Nat) (r : LaneRt) (n' : Nat) : (s.setLane l r).ring n' = s.ring n' := by rw [State.setLane, State.setFld_ring]; rfl
@[simp] theorem State.setChan_pending (s : State) (c : Nat) (r : ChanRt) : (s.setChan c r).pending = s.pending := by rw [State.setChan, State.setFld_pending]
@[simp] theorem State.setChan_free (s : State) (c : Nat) (r : ChanRt) : (s.setChan c r).free = s.free := by rw [State.setChan, State.setFld_free]
@[simp] theorem State.setChan_out (s : State) (c : Nat) (r : ChanRt) : (s.setChan c r).out = s.out := by rw [State.setChan, State.setFld_out]
@[simp] theorem State.setChan_force (s : State) (c : Nat) (r : ChanRt) : (s.setChan c r).force = s.force := by rw [State.setChan, State.setFld_force]
@[simp] theorem State.setChan_latch (s : State) (c : Nat) (r : ChanRt) : (s.setChan c r).latch = s.latch := by rw [State.setChan, State.setFld_latch]
@[simp] theorem State.setChan_lowHalf (s : State) (c : Nat) (r : ChanRt) : (s.setChan c r).lowHalf = s.lowHalf := by rw [State.setChan, State.setFld_lowHalf]
@[simp] theorem State.setChan_mem (s : State) (c : Nat) (r : ChanRt) : (s.setChan c r).mem = s.mem := by rw [State.setChan, State.setFld_mem]
@[simp] theorem State.setChan_hostMem (s : State) (c : Nat) (r : ChanRt) : (s.setChan c r).hostMem = s.hostMem := by rw [State.setChan, State.setFld_hostMem]
@[simp] theorem State.setChan_rings (s : State) (c : Nat) (r : ChanRt) : (s.setChan c r).rings = s.rings := by rw [State.setChan, State.setFld_rings]
@[simp] theorem State.setChan_stale (s : State) (c : Nat) (r : ChanRt) : (s.setChan c r).stale = s.stale := by rw [State.setChan, State.setFld_stale]
@[simp] theorem State.setChan_commands (s : State) (c : Nat) (r : ChanRt) : (s.setChan c r).commands = s.commands := by rw [State.setChan, State.setFld_commands]
@[simp] theorem State.setChan_clk (s : State) (c : Nat) (r : ChanRt) : (s.setChan c r).clk = s.clk := by rw [State.setChan, State.setFld_clk]
@[simp] theorem State.setChan_pow (s : State) (c : Nat) (r : ChanRt) : (s.setChan c r).pow = s.pow := by rw [State.setChan, State.setFld_pow]
@[simp] theorem State.setChan_cyc (s : State) (c : Nat) (r : ChanRt) : (s.setChan c r).cyc = s.cyc := by rw [State.setChan, State.setFld_cyc]
@[simp] theorem State.setChan_flows (s : State) (c : Nat) (r : ChanRt) : (s.setChan c r).flows = s.flows := by rw [State.setChan, State.setFld_flows]
@[simp] theorem State.setChan_ports (s : State) (c : Nat) (r : ChanRt) : (s.setChan c r).ports = s.ports := by rw [State.setChan, State.setFld_ports]
@[simp] theorem State.setChan_views (s : State) (c : Nat) (r : ChanRt) : (s.setChan c r).views = s.views := by rw [State.setChan, State.setFld_views]
@[simp] theorem State.setChan_feeds (s : State) (c : Nat) (r : ChanRt) : (s.setChan c r).feeds = s.feeds := by rw [State.setChan, State.setFld_feeds]
@[simp] theorem State.setChan_lanes (s : State) (c : Nat) (r : ChanRt) : (s.setChan c r).lanes = s.lanes := by rw [State.setChan, State.setFld_lanes]
@[simp] theorem State.setChan_busy (s : State) (c : Nat) (r : ChanRt) : (s.setChan c r).busy = s.busy := by rw [State.setChan, State.setFld_busy]
@[simp] theorem State.setChan_credits (s : State) (c : Nat) (r : ChanRt) : (s.setChan c r).credits = s.credits := by rw [State.setChan, State.setFld_credits]
@[simp] theorem State.setChan_house (s : State) (c : Nat) (r : ChanRt) : (s.setChan c r).house = s.house := by rw [State.setChan, State.setFld_house]
@[simp] theorem State.setChan_ptp (s : State) (c : Nat) (r : ChanRt) : (s.setChan c r).ptp = s.ptp := by rw [State.setChan, State.setFld_ptp]
@[simp] theorem State.setChan_touts (s : State) (c : Nat) (r : ChanRt) : (s.setChan c r).touts = s.touts := by rw [State.setChan, State.setFld_touts]
@[simp] theorem State.setChan_tcaps (s : State) (c : Nat) (r : ChanRt) : (s.setChan c r).tcaps = s.tcaps := by rw [State.setChan, State.setFld_tcaps]
@[simp] theorem State.setChan_ppsHigh (s : State) (c : Nat) (r : ChanRt) : (s.setChan c r).ppsHigh = s.ppsHigh := by rw [State.setChan, State.setFld_ppsHigh]
@[simp] theorem State.setChan_servos (s : State) (c : Nat) (r : ChanRt) : (s.setChan c r).servos = s.servos := by rw [State.setChan, State.setFld_servos]
@[simp] theorem State.setChan_evt (s : State) (c : Nat) (r : ChanRt) : (s.setChan c r).evt = s.evt := by rw [State.setChan, State.setFld_evt]
@[simp] theorem State.setChan_dgs (s : State) (c : Nat) (r : ChanRt) : (s.setChan c r).dgs = s.dgs := by rw [State.setChan, State.setFld_dgs]
@[simp] theorem State.setChan_resp (s : State) (c : Nat) (r : ChanRt) : (s.setChan c r).resp = s.resp := by rw [State.setChan, State.setFld_resp]
@[simp] theorem State.setChan_respLoad (s : State) (c : Nat) (r : ChanRt) : (s.setChan c r).respLoad = s.respLoad := by rw [State.setChan, State.setFld_respLoad]
@[simp] theorem State.setChan_cap (s : State) (c : Nat) (r : ChanRt) : (s.setChan c r).cap = s.cap := by rw [State.setChan, State.setFld_cap]
@[simp] theorem State.setChan_corrTouched (s : State) (c : Nat) (r : ChanRt) : (s.setChan c r).corrTouched = s.corrTouched := by rw [State.setChan, State.setFld_corrTouched]
@[simp] theorem State.setChan_play (s : State) (c : Nat) (r : ChanRt) : (s.setChan c r).play = s.play := by rw [State.setChan, State.setFld_play]
@[simp] theorem State.setChan_flashMem (s : State) (c : Nat) (r : ChanRt) : (s.setChan c r).flashMem = s.flashMem := by rw [State.setChan, State.setFld_flashMem]
@[simp] theorem State.setChan_flashOp (s : State) (c : Nat) (r : ChanRt) : (s.setChan c r).flashOp = s.flashOp := by rw [State.setChan, State.setFld_flashOp]
@[simp] theorem State.setChan_drives (s : State) (c : Nat) (r : ChanRt) : (s.setChan c r).drives = s.drives := by rw [State.setChan, State.setFld_drives]
@[simp] theorem State.setChan_storeOp (s : State) (c : Nat) (r : ChanRt) : (s.setChan c r).storeOp = s.storeOp := by rw [State.setChan, State.setFld_storeOp]
@[simp] theorem State.setChan_storeWait (s : State) (c : Nat) (r : ChanRt) : (s.setChan c r).storeWait = s.storeWait := by rw [State.setChan, State.setFld_storeWait]
@[simp] theorem State.setChan_job (s : State) (c : Nat) (r : ChanRt) : (s.setChan c r).job = s.job := by rw [State.setChan, State.setFld_job]
@[simp] theorem State.setChan_aborts (s : State) (c : Nat) (r : ChanRt) : (s.setChan c r).aborts = s.aborts := by rw [State.setChan, State.setFld_aborts]
@[simp] theorem State.setChan_panic (s : State) (c : Nat) (r : ChanRt) : (s.setChan c r).panic = s.panic := by rw [State.setChan, State.setFld_panic]
@[simp] theorem State.setChan_rateWait (s : State) (c : Nat) (r : ChanRt) : (s.setChan c r).rateWait = s.rateWait := by rw [State.setChan, State.setFld_rateWait]
@[simp] theorem State.setChan_powerReq (s : State) (c : Nat) (r : ChanRt) : (s.setChan c r).powerReq = s.powerReq := by rw [State.setChan, State.setFld_powerReq]
@[simp] theorem State.setChan_image (s : State) (c : Nat) (r : ChanRt) : (s.setChan c r).image = s.image := by rw [State.setChan, State.setFld_image]
@[simp] theorem State.setChan_bar4 (s : State) (c : Nat) (r : ChanRt) : (s.setChan c r).bar4 = s.bar4 := by rw [State.setChan, State.setFld_bar4]
@[simp] theorem State.setChan_cfgSpace (s : State) (c : Nat) (r : ChanRt) : (s.setChan c r).cfgSpace = s.cfgSpace := by rw [State.setChan, State.setFld_cfgSpace]
@[simp] theorem State.setChan_tap (s : State) (c : Nat) (r : ChanRt) : (s.setChan c r).tap = s.tap := by rw [State.setChan, State.setFld_tap]
@[simp] theorem State.setChan_lines (s : State) (c : Nat) (r : ChanRt) : (s.setChan c r).lines = s.lines := by rw [State.setChan, State.setFld_lines]
@[simp] theorem State.setChan_linkRt (s : State) (c : Nat) (r : ChanRt) : (s.setChan c r).linkRt = s.linkRt := by rw [State.setChan, State.setFld_linkRt]
@[simp] theorem State.setChan_rateTo (s : State) (c : Nat) (r : ChanRt) : (s.setChan c r).rateTo = s.rateTo := by rw [State.setChan, State.setFld_rateTo]
@[simp] theorem State.setChan_bar2Held (s : State) (c : Nat) (r : ChanRt) : (s.setChan c r).bar2Held = s.bar2Held := by rw [State.setChan, State.setFld_bar2Held]
@[simp] theorem State.setChan_ff (s : State) (c : Nat) (r : ChanRt) (q : Nat) (g : Fld) (m : Nat) : (s.setChan c r).ff q g m = s.ff q g m := by rw [State.setChan, State.setFld_ff]; rfl
@[simp] theorem State.setChan_now (s : State) (c : Nat) (r : ChanRt) : (s.setChan c r).now = s.now := by rw [State.setChan, State.setFld_now]; rfl
@[simp] theorem State.setChan_ring (s : State) (c : Nat) (r : ChanRt) (n' : Nat) : (s.setChan c r).ring n' = s.ring n' := by rw [State.setChan, State.setFld_ring]; rfl
@[simp] theorem State.setStoreOp_pending (s : State) (o : Option StoreOp) : (s.setStoreOp o).pending = s.pending := by rw [State.setStoreOp, State.setFld_pending]
@[simp] theorem State.setStoreOp_free (s : State) (o : Option StoreOp) : (s.setStoreOp o).free = s.free := by rw [State.setStoreOp, State.setFld_free]
@[simp] theorem State.setStoreOp_out (s : State) (o : Option StoreOp) : (s.setStoreOp o).out = s.out := by rw [State.setStoreOp, State.setFld_out]
@[simp] theorem State.setStoreOp_force (s : State) (o : Option StoreOp) : (s.setStoreOp o).force = s.force := by rw [State.setStoreOp, State.setFld_force]
@[simp] theorem State.setStoreOp_latch (s : State) (o : Option StoreOp) : (s.setStoreOp o).latch = s.latch := by rw [State.setStoreOp, State.setFld_latch]
@[simp] theorem State.setStoreOp_lowHalf (s : State) (o : Option StoreOp) : (s.setStoreOp o).lowHalf = s.lowHalf := by rw [State.setStoreOp, State.setFld_lowHalf]
@[simp] theorem State.setStoreOp_mem (s : State) (o : Option StoreOp) : (s.setStoreOp o).mem = s.mem := by rw [State.setStoreOp, State.setFld_mem]
@[simp] theorem State.setStoreOp_hostMem (s : State) (o : Option StoreOp) : (s.setStoreOp o).hostMem = s.hostMem := by rw [State.setStoreOp, State.setFld_hostMem]
@[simp] theorem State.setStoreOp_rings (s : State) (o : Option StoreOp) : (s.setStoreOp o).rings = s.rings := by rw [State.setStoreOp, State.setFld_rings]
@[simp] theorem State.setStoreOp_stale (s : State) (o : Option StoreOp) : (s.setStoreOp o).stale = s.stale := by rw [State.setStoreOp, State.setFld_stale]
@[simp] theorem State.setStoreOp_commands (s : State) (o : Option StoreOp) : (s.setStoreOp o).commands = s.commands := by rw [State.setStoreOp, State.setFld_commands]
@[simp] theorem State.setStoreOp_clk (s : State) (o : Option StoreOp) : (s.setStoreOp o).clk = s.clk := by rw [State.setStoreOp, State.setFld_clk]
@[simp] theorem State.setStoreOp_pow (s : State) (o : Option StoreOp) : (s.setStoreOp o).pow = s.pow := by rw [State.setStoreOp, State.setFld_pow]
@[simp] theorem State.setStoreOp_cyc (s : State) (o : Option StoreOp) : (s.setStoreOp o).cyc = s.cyc := by rw [State.setStoreOp, State.setFld_cyc]
@[simp] theorem State.setStoreOp_flows (s : State) (o : Option StoreOp) : (s.setStoreOp o).flows = s.flows := by rw [State.setStoreOp, State.setFld_flows]
@[simp] theorem State.setStoreOp_ports (s : State) (o : Option StoreOp) : (s.setStoreOp o).ports = s.ports := by rw [State.setStoreOp, State.setFld_ports]
@[simp] theorem State.setStoreOp_views (s : State) (o : Option StoreOp) : (s.setStoreOp o).views = s.views := by rw [State.setStoreOp, State.setFld_views]
@[simp] theorem State.setStoreOp_feeds (s : State) (o : Option StoreOp) : (s.setStoreOp o).feeds = s.feeds := by rw [State.setStoreOp, State.setFld_feeds]
@[simp] theorem State.setStoreOp_lanes (s : State) (o : Option StoreOp) : (s.setStoreOp o).lanes = s.lanes := by rw [State.setStoreOp, State.setFld_lanes]
@[simp] theorem State.setStoreOp_busy (s : State) (o : Option StoreOp) : (s.setStoreOp o).busy = s.busy := by rw [State.setStoreOp, State.setFld_busy]
@[simp] theorem State.setStoreOp_chans (s : State) (o : Option StoreOp) : (s.setStoreOp o).chans = s.chans := by rw [State.setStoreOp, State.setFld_chans]
@[simp] theorem State.setStoreOp_credits (s : State) (o : Option StoreOp) : (s.setStoreOp o).credits = s.credits := by rw [State.setStoreOp, State.setFld_credits]
@[simp] theorem State.setStoreOp_house (s : State) (o : Option StoreOp) : (s.setStoreOp o).house = s.house := by rw [State.setStoreOp, State.setFld_house]
@[simp] theorem State.setStoreOp_ptp (s : State) (o : Option StoreOp) : (s.setStoreOp o).ptp = s.ptp := by rw [State.setStoreOp, State.setFld_ptp]
@[simp] theorem State.setStoreOp_touts (s : State) (o : Option StoreOp) : (s.setStoreOp o).touts = s.touts := by rw [State.setStoreOp, State.setFld_touts]
@[simp] theorem State.setStoreOp_tcaps (s : State) (o : Option StoreOp) : (s.setStoreOp o).tcaps = s.tcaps := by rw [State.setStoreOp, State.setFld_tcaps]
@[simp] theorem State.setStoreOp_ppsHigh (s : State) (o : Option StoreOp) : (s.setStoreOp o).ppsHigh = s.ppsHigh := by rw [State.setStoreOp, State.setFld_ppsHigh]
@[simp] theorem State.setStoreOp_servos (s : State) (o : Option StoreOp) : (s.setStoreOp o).servos = s.servos := by rw [State.setStoreOp, State.setFld_servos]
@[simp] theorem State.setStoreOp_evt (s : State) (o : Option StoreOp) : (s.setStoreOp o).evt = s.evt := by rw [State.setStoreOp, State.setFld_evt]
@[simp] theorem State.setStoreOp_dgs (s : State) (o : Option StoreOp) : (s.setStoreOp o).dgs = s.dgs := by rw [State.setStoreOp, State.setFld_dgs]
@[simp] theorem State.setStoreOp_resp (s : State) (o : Option StoreOp) : (s.setStoreOp o).resp = s.resp := by rw [State.setStoreOp, State.setFld_resp]
@[simp] theorem State.setStoreOp_respLoad (s : State) (o : Option StoreOp) : (s.setStoreOp o).respLoad = s.respLoad := by rw [State.setStoreOp, State.setFld_respLoad]
@[simp] theorem State.setStoreOp_cap (s : State) (o : Option StoreOp) : (s.setStoreOp o).cap = s.cap := by rw [State.setStoreOp, State.setFld_cap]
@[simp] theorem State.setStoreOp_corrTouched (s : State) (o : Option StoreOp) : (s.setStoreOp o).corrTouched = s.corrTouched := by rw [State.setStoreOp, State.setFld_corrTouched]
@[simp] theorem State.setStoreOp_play (s : State) (o : Option StoreOp) : (s.setStoreOp o).play = s.play := by rw [State.setStoreOp, State.setFld_play]
@[simp] theorem State.setStoreOp_flashMem (s : State) (o : Option StoreOp) : (s.setStoreOp o).flashMem = s.flashMem := by rw [State.setStoreOp, State.setFld_flashMem]
@[simp] theorem State.setStoreOp_flashOp (s : State) (o : Option StoreOp) : (s.setStoreOp o).flashOp = s.flashOp := by rw [State.setStoreOp, State.setFld_flashOp]
@[simp] theorem State.setStoreOp_drives (s : State) (o : Option StoreOp) : (s.setStoreOp o).drives = s.drives := by rw [State.setStoreOp, State.setFld_drives]
@[simp] theorem State.setStoreOp_storeWait (s : State) (o : Option StoreOp) : (s.setStoreOp o).storeWait = s.storeWait := by rw [State.setStoreOp, State.setFld_storeWait]
@[simp] theorem State.setStoreOp_job (s : State) (o : Option StoreOp) : (s.setStoreOp o).job = s.job := by rw [State.setStoreOp, State.setFld_job]
@[simp] theorem State.setStoreOp_aborts (s : State) (o : Option StoreOp) : (s.setStoreOp o).aborts = s.aborts := by rw [State.setStoreOp, State.setFld_aborts]
@[simp] theorem State.setStoreOp_panic (s : State) (o : Option StoreOp) : (s.setStoreOp o).panic = s.panic := by rw [State.setStoreOp, State.setFld_panic]
@[simp] theorem State.setStoreOp_rateWait (s : State) (o : Option StoreOp) : (s.setStoreOp o).rateWait = s.rateWait := by rw [State.setStoreOp, State.setFld_rateWait]
@[simp] theorem State.setStoreOp_powerReq (s : State) (o : Option StoreOp) : (s.setStoreOp o).powerReq = s.powerReq := by rw [State.setStoreOp, State.setFld_powerReq]
@[simp] theorem State.setStoreOp_image (s : State) (o : Option StoreOp) : (s.setStoreOp o).image = s.image := by rw [State.setStoreOp, State.setFld_image]
@[simp] theorem State.setStoreOp_bar4 (s : State) (o : Option StoreOp) : (s.setStoreOp o).bar4 = s.bar4 := by rw [State.setStoreOp, State.setFld_bar4]
@[simp] theorem State.setStoreOp_cfgSpace (s : State) (o : Option StoreOp) : (s.setStoreOp o).cfgSpace = s.cfgSpace := by rw [State.setStoreOp, State.setFld_cfgSpace]
@[simp] theorem State.setStoreOp_tap (s : State) (o : Option StoreOp) : (s.setStoreOp o).tap = s.tap := by rw [State.setStoreOp, State.setFld_tap]
@[simp] theorem State.setStoreOp_lines (s : State) (o : Option StoreOp) : (s.setStoreOp o).lines = s.lines := by rw [State.setStoreOp, State.setFld_lines]
@[simp] theorem State.setStoreOp_linkRt (s : State) (o : Option StoreOp) : (s.setStoreOp o).linkRt = s.linkRt := by rw [State.setStoreOp, State.setFld_linkRt]
@[simp] theorem State.setStoreOp_rateTo (s : State) (o : Option StoreOp) : (s.setStoreOp o).rateTo = s.rateTo := by rw [State.setStoreOp, State.setFld_rateTo]
@[simp] theorem State.setStoreOp_bar2Held (s : State) (o : Option StoreOp) : (s.setStoreOp o).bar2Held = s.bar2Held := by rw [State.setStoreOp, State.setFld_bar2Held]
@[simp] theorem State.setStoreOp_ff (s : State) (o : Option StoreOp) (q : Nat) (g : Fld) (m : Nat) : (s.setStoreOp o).ff q g m = s.ff q g m := by rw [State.setStoreOp, State.setFld_ff]; rfl
@[simp] theorem State.setStoreOp_now (s : State) (o : Option StoreOp) : (s.setStoreOp o).now = s.now := by rw [State.setStoreOp, State.setFld_now]; rfl
@[simp] theorem State.setStoreOp_ring (s : State) (o : Option StoreOp) (n' : Nat) : (s.setStoreOp o).ring n' = s.ring n' := by rw [State.setStoreOp, State.setFld_ring]; rfl

end Sys2Proof.Machine
end

