-- ==== Sys2Proof/Laws/Delivery.lean ====
section
/-!
SUPPORT. What event delivery alone does (`Delivers`): one lemma per operation of Flags.lean, up to `settle`.
-/
namespace Sys2Proof.Machine

theorem Delivers.refl (s : State) : Delivers s s where
  regs _ _ := rfl
  shape n := ⟨(s.ring n).prod, (s.ring n).drop, rfl⟩
  rings _ _ := rfl
  mem _ _ := rfl
  openBytes := rfl
  host _ _ := rfl
  lost := rfl
  said := ⟨[], by simp⟩
  rest := by simp

/-- The registers that name a seat's event ring are none that delivery changes. -/
theorem deliveryReg_seat (k : Nat) (hk : k < 16) (f : Fld) (hf : f.stride = 0) (ho : f.off < 0x1000) :
    deliveryReg (pSeat k + f.off + 0 * f.stride) = false := by
  simp only [deliveryReg, pSeat, hf, Bool.or_eq_false_iff, Bool.and_eq_false_iff, decide_eq_false_iff_not, beq_eq_false_iff_ne]
  omega

theorem Delivers.eventRing {s t : State} (h : Delivers s t) (n : Nat) : t.eventRing n ↔ s.eventRing n := by
  unfold State.eventRing State.fld
  constructor <;> rintro ⟨k, hk, h1, h2⟩ <;> refine ⟨k, hk, ?_, ?_⟩
  · rwa [h.regs _ (deliveryReg_seat k hk _ rfl (by decide))] at h1
  · rwa [h.regs _ (deliveryReg_seat k hk _ rfl (by decide))] at h2
  · rwa [h.regs _ (deliveryReg_seat k hk _ rfl (by decide))]
  · rwa [h.regs _ (deliveryReg_seat k hk _ rfl (by decide))]

theorem Delivers.holds {s t : State} (h : Delivers s t) (n : Nat) (b : Bool) (a : Nat) :
    (t.ring n).holds b a ↔ (s.ring n).holds b a := by
  obtain ⟨p, d, e⟩ := h.shape n
  simp only [Ring.holds, e]

theorem Delivers.inEventRing {s t : State} (h : Delivers s t) (b : Bool) (a : Nat) :
    t.inEventRing b a ↔ s.inEventRing b a := by
  simp only [State.inEventRing, h.eventRing, h.holds]

theorem Delivers.trans {s t u : State} (h : Delivers s t) (k : Delivers t u) : Delivers s u where
  regs a ha := (k.regs a ha).trans (h.regs a ha)
  shape n := by
    obtain ⟨p, d, e⟩ := h.shape n
    obtain ⟨p', d', e'⟩ := k.shape n
    exact ⟨p', d', by rw [e', e]⟩
  rings n hn := (k.rings n (by rwa [h.eventRing])).trans (h.rings n hn)
  mem a ha := (k.mem a (by rwa [h.inEventRing])).trans (h.mem a ha)
  openBytes := k.openBytes.trans h.openBytes
  host a ha := (k.host a (by rwa [h.inEventRing])).trans (h.host a ha)
  lost := k.lost.trans h.lost
  said := by
    obtain ⟨l, e⟩ := h.said
    obtain ⟨l', e'⟩ := k.said
    exact ⟨l ++ l', by rw [e', e, List.append_assoc]⟩
  rest := by
    have h1 := h.rest
    have h2 := k.rest
    simp only [h1, h2, and_self]

theorem Delivers.via {s t u : State} (k : Delivers t u) (h : Delivers s t) : Delivers s u := h.trans k

theorem delivers_each {α : Type} {r s : State} {l : List α} {f : State → α → State} (h : ∀ s, ∀ x ∈ l, Delivers s (f s x))
    (hs : Delivers r s) : Delivers r (s.each l f) := by
  induction l generalizing s with
  | nil => exact hs
  | cons x t ih => exact ih (fun s y hy => h s y (by simp [hy])) (hs.trans (h s x (by simp)))

/-- A register that delivery may change. -/
theorem delivers_setReg (s : State) (a : Nat) (v : Word) (h : deliveryReg a = true) : Delivers s (s.setReg a v) where
  regs b hb := reg_setReg_ne s v (by rintro rfl; simp [h] at hb)
  shape n := ⟨(s.ring n).prod, (s.ring n).drop, by simp⟩
  rings n _ := by simp
  mem _ _ := by simp
  openBytes := by simp
  host _ _ := by simp
  lost := by simp
  said := ⟨[], by simp⟩
  rest := by simp

theorem delivers_setFld (s : State) (p : Nat) (f : Fld) (v i : Nat) (h : deliveryReg (p + f.off + i * f.stride) = true) :
    Delivers s (s.setFld p f v i) := delivers_setReg s _ _ h

theorem delivers_inc (s : State) (p : Nat) (f : Fld) (i n : Nat) (h : deliveryReg (p + f.off + i * f.stride) = true) :
    Delivers s (s.inc p f i n) := delivers_setFld s _ _ _ _ h

/-- A change of what delivery keeps beside the registers. -/
theorem delivers_of (s t : State) (hr : t.regs = s.regs) (hg : t.rings = s.rings) (hm : t.mem = s.mem)
    (hh : t.hostMem = s.hostMem) (hl : t.evt.lost = s.evt.lost) (ho : ∃ l, t.out = s.out ++ l)
    (hs : t.pending = s.pending ∧ t.free = s.free ∧ t.force = s.force ∧ t.latch = s.latch ∧ t.lowHalf = s.lowHalf ∧
      t.stale = s.stale ∧ t.commands = s.commands ∧ t.clk = s.clk ∧ t.pow = s.pow ∧ t.cyc = s.cyc ∧ t.flows = s.flows ∧
      t.views = s.views ∧ t.feeds = s.feeds ∧ t.lanes = s.lanes ∧ t.busy = s.busy ∧ t.chans = s.chans ∧
      t.credits = s.credits ∧ t.house = s.house ∧ t.ptp = s.ptp ∧ t.touts = s.touts ∧ t.tcaps = s.tcaps ∧
      t.ppsHigh = s.ppsHigh ∧ t.servos = s.servos ∧ t.dgs = s.dgs ∧ t.resp = s.resp ∧ t.respLoad = s.respLoad ∧
      t.cap = s.cap ∧ t.corrTouched = s.corrTouched ∧ t.play = s.play ∧ t.flashMem = s.flashMem ∧
      t.flashOp = s.flashOp ∧ t.drives = s.drives ∧ t.storeOp = s.storeOp ∧ t.storeWait = s.storeWait ∧ t.job = s.job ∧
      t.aborts = s.aborts ∧ t.panic = s.panic ∧ t.rateWait = s.rateWait ∧ t.powerReq = s.powerReq ∧ t.image = s.image ∧
      t.cfgSpace = s.cfgSpace ∧ t.tap = s.tap ∧ t.lines = s.lines ∧ t.linkRt = s.linkRt ∧ t.rateTo = s.rateTo ∧
      t.bar2Held = s.bar2Held) : Delivers s t where
  regs _ _ := by rw [State.reg, State.reg, hr]
  shape n := ⟨(s.ring n).prod, (s.ring n).drop, by rw [State.ring, hg]; rfl⟩
  rings n _ := by rw [State.ring, State.ring, hg]
  mem _ _ := by rw [hm]
  openBytes := by rw [hm]
  host _ _ := by rw [hh]
  lost := hl
  said := ho
  rest := hs

theorem delivers_emit (s : State) (o : Out) : Delivers s (s.emit o) :=
  delivers_of _ _ (by simp) (by simp) (by simp) (by simp) (by simp) ⟨[o], by simp⟩ (by simp)

theorem delivers_setBar4 (s : State) (a : Nat) (w : Word) : Delivers s (s.setBar4 a w) :=
  delivers_of _ _ (by simp) (by simp) (by simp) (by simp) (by simp) ⟨[], by simp⟩ (by simp)

theorem delivers_setPort (s : State) (p : Nat) (r : PortRt) : Delivers s (s.setPort p r) :=
  delivers_of _ _ (by simp) (by simp) (by simp) (by simp) (by simp) ⟨[], by simp⟩ (by simp)

theorem delivers_setEvt (s : State) (e : Events) (h : e.lost = s.evt.lost) : Delivers s (s.setEvt e) :=
  delivers_of _ _ (by simp) (by simp) (by simp) (by simp) (by simpa using h) ⟨[], by simp⟩ (by simp)

theorem delivers_setPba (s : State) (l : Nat) (b : Bool) : Delivers s (s.setPba l b) := delivers_setBar4 ..

theorem delivers_vector (s : State) (l : Nat) : Delivers s (s.vector l) := by
  unfold State.vector
  split
  · exact delivers_setPba ..
  · exact delivers_emit ..

/-! ### Event entries -/

/-- Bytes written into one space leave every other byte as it was. -/
theorem spaceWrite_cases (s : State) (space a : Nat) (bs : List Byte) :
    (space = 0 ∧ s.spaceWrite space a bs = s.poke a bs) ∨
    (space ≠ 0 ∧ (s.spaceWrite space a bs).mem = s.mem ∧ (s.spaceWrite space a bs).rings = s.rings ∧
      (s.spaceWrite space a bs).regs = s.regs ∧
      ∀ b, (b < a ∨ a + bs.length ≤ b) → look 0 (s.spaceWrite space a bs).hostMem b = look 0 s.hostMem b) := by
  by_cases h : space = 0
  · exact .inl ⟨h, by simp [State.spaceWrite, h]⟩
  · refine .inr ⟨h, by simp [State.spaceWrite, h], by simp [State.spaceWrite, h], by simp [State.spaceWrite, h], fun b hb => ?_⟩
    simp only [State.spaceWrite, h, if_false]
    suffices hl : ∀ (l : List (Byte × Nat)) (m : Sparse Byte), (∀ e ∈ l, a + e.2 ≠ b) →
        look 0 (l.foldl (fun m b => ins 0 (a + b.2) b.1 m) m) b = look 0 m b by
      refine hl _ _ fun e he => ?_
      have := List.snd_lt_of_mem_zipIdx he
      omega
    intro l
    induction l with
    | nil => intros; rfl
    | cons x t ih =>
      intro m h
      rw [List.foldl_cons, ih _ (fun e he => h e (by simp [he])), look_ins_ne _ _ _ _ (Ne.symm (h x (by simp)))]

/-- One slot of an event ring is written. -/
theorem delivers_slot (s : State) (n i : Nat) (bs : List Byte) (hn : s.eventRing n) (hl : bs.length ≤ 32) :
    Delivers s (s.spaceWrite (s.ring n).space ((s.ring n).slot i) bs) := by
  have hr : ∀ b : Nat, (s.ring n).slot i ≤ b → b < (s.ring n).slot i + bs.length →
      (s.ring n).base ≤ b ∧ b < (s.ring n).base + 32 * 2 ^ (s.ring n).sizeLog2 := by
    intro b h1 h2
    have := Nat.mod_lt i (Nat.two_pow_pos (s.ring n).sizeLog2)
    unfold Ring.slot at h1 h2
    omega
  rcases spaceWrite_cases s (s.ring n).space ((s.ring n).slot i) bs with ⟨h0, h⟩ | ⟨h0, hm, hg, hg', hh⟩
  · rw [h]
    refine ⟨fun a _ => by simp [State.reg], fun m => ⟨_, _, rfl⟩, fun _ _ => rfl, fun a ha => ?_, ?_, fun _ _ => rfl, rfl,
      ⟨[], by simp⟩, by simp⟩
    · by_cases hb : (s.ring n).slot i ≤ a ∧ a < (s.ring n).slot i + bs.length
      · exact absurd ⟨n, hn, by simp [h0], hr a hb.1 hb.2⟩ ha
      · rcases Nat.lt_or_ge a ((s.ring n).slot i) with h1 | h1
        · exact byte_putAll_below _ _ _ _ h1
        · exact byte_putAll_above _ _ _ _ (by omega)
    · exact lost_putAll _ _ _
  · refine ⟨fun a _ => by rw [State.reg, State.reg, hg'], fun m => ⟨(s.ring m).prod, (s.ring m).drop, by rw [State.ring, hg]; rfl⟩,
      fun m _ => congrArg (look (ringReset m) · m) hg, fun _ _ => by rw [hm], by rw [hm], fun a ha => ?_, ?_, ?_, ?_⟩
    · apply hh
      by_cases hb : (s.ring n).slot i ≤ a ∧ a < (s.ring n).slot i + bs.length
      · exact absurd ⟨n, hn, by simp [h0], hr a hb.1 hb.2⟩ ha
      · omega
    · simp [State.spaceWrite, h0]
    · exact ⟨[.hostWrite ((s.ring n).slot i) bs], by simp [State.spaceWrite, h0]⟩
    · simp [State.spaceWrite, h0]

/-- PROD or DROP of an event ring changes. -/
theorem delivers_setRing (s : State) (n : Nat) (p d : Nat) (hn : s.eventRing n) :
    Delivers s (s.setRing n { s.ring n with prod := p, drop := d }) where
  regs _ _ := by simp
  shape m := by
    by_cases h : m = n
    · subst h; exact ⟨p, d, by simp [State.ring, State.setRing]⟩
    · exact ⟨(s.ring m).prod, (s.ring m).drop, by simp [State.ring, State.setRing, look_ins_ne _ _ _ _ h]⟩
  rings m hm := by
    have h : m ≠ n := by rintro rfl; exact hm hn
    simp [State.ring, State.setRing, look_ins_ne _ _ _ _ h]
  mem _ _ := by simp
  openBytes := by simp
  host _ _ := by simp
  lost := by simp
  said := ⟨[], by simp⟩
  rest := by simp

theorem leBytes_length (n v : Nat) : (leBytes n v).length = n := by simp [leBytes]

theorem quadBytes_length (ws : List Nat) : (quadBytes ws).length = 8 * ws.length := by
  induction ws with
  | nil => rfl
  | cons w t ih => simp only [quadBytes, List.map_cons, List.flatten_cons, List.length_append, leBytes_length,
      List.length_cons] at ih ⊢; omega

theorem delivers_ringPush (s : State) (n : Nat) (ws : List Nat) (hn : s.eventRing n) (hw : ws.length ≤ 4) :
    Delivers s (s.ringPush n ws) := by
  unfold State.ringPush
  dsimp only
  split
  · exact delivers_setRing s n _ _ hn
  · unfold State.ringWrite
    simp only [List.zipIdx_cons, List.zipIdx_nil, List.foldl_cons, List.foldl_nil, List.length_cons, List.length_nil]
    have h := delivers_slot s n ((s.ring n).prod + 0) (quadBytes ws) hn (by rw [quadBytes_length]; omega)
    refine h.trans ?_
    obtain ⟨p, d, e⟩ := h.shape n
    have := delivers_setRing _ n (((s.ring n).prod + (0 + 1)) % 2 ^ 32) (s.ring n).drop ((h.eventRing n).mpr hn)
    rw [e] at this
    exact this

theorem delivers_eventEntry (s : State) (k : Nat) (ws : List Nat) (hk : k < 16) (hw : ws.length ≤ 4) :
    Delivers s (s.eventEntry k ws) := by
  unfold State.eventEntry
  split
  · next h => exact delivers_ringPush _ _ _ ⟨k, hk, h, rfl⟩ hw
  · exact Delivers.refl _

/-! ### Event datagrams -/

theorem deliveryReg_eth (p o : Nat) (hp : p < 8) (ho : o = 0x10 ∨ o = 0x158 ∨ o = 0x15C) :
    deliveryReg (pEth p + o) = true := by
  have h1 : 0x50000 ≤ pEth p + o := by unfold pEth; omega
  have h2 : pEth p + o < 0x58000 := by unfold pEth; omega
  have h3 : (pEth p + o) % 0x1000 = o := by unfold pEth; omega
  simp only [deliveryReg, h1, h2, h3]
  rcases ho with rfl | rfl | rfl <;> simp

theorem deliveryReg_evtp (k o : Nat) (hk : k < 16) (ho : o = 0x110 ∨ o = 0x114) : deliveryReg (pEvtp k + o) = true := by
  have h1 : 0x21000 ≤ pEvtp k + o := by unfold pEvtp; omega
  have h2 : pEvtp k + o < 0x31000 := by unfold pEvtp; omega
  have h3 : (pEvtp k + o) % 0x1000 = o := by unfold pEvtp; omega
  simp only [deliveryReg, h1, h2, h3]
  rcases ho with rfl | rfl <;> simp

/-- What the frame carries is no preview packet, which a view would count. -/
def Tx.plain : Tx → Bool
  | .preview .. => false
  | _ => true

theorem delivers_txFrame (s : State) (p mac : Nat) (o : Tx) (hp : p < 8) (ho : o.plain = true) :
    Delivers s (s.txFrame p mac o) := by
  have h : Delivers s ((s.emit (.frame p mac (s.vlanTag p) o)).inc (pEth p) F.ETH_TX_CNT_TX_CNT) :=
    Delivers.via (delivers_inc _ _ _ _ _ (deliveryReg_eth p 0x158 hp (by simp))) (delivers_emit ..)
  unfold State.txFrame
  dsimp only
  split
  · simp [Tx.plain] at ho
  · exact h

theorem delivers_setCond_eth (s : State) (p k : Nat) (hp : p < 8) : Delivers s (s.setCond (pEth p) k) :=
  delivers_setReg _ _ _ (deliveryReg_eth p 0x10 hp (by simp))

theorem delivers_sendVia (s : State) (p ip : Nat) (o : Tx) (hp : p < 8) (ho : o.plain = true) :
    Delivers s (s.sendVia p ip o) := by
  have hc : ∀ s : State, Delivers s (s.inc (pEth p) F.ETH_NBR_FAIL_CNT_NBR_FAIL_CNT) := fun s =>
    delivers_inc _ _ _ _ _ (deliveryReg_eth p 0x15C hp (by simp))
  unfold State.sendVia
  dsimp only
  repeat' split
  · exact hc s
  · exact delivers_txFrame _ _ _ _ hp ho
  · exact Delivers.via (delivers_setCond_eth _ _ _ hp) (hc s)
  · exact Delivers.via (delivers_txFrame _ _ _ _ hp ho) (delivers_setPort ..)
  · exact delivers_setPort ..
  · exact Delivers.via (delivers_txFrame _ _ _ _ hp rfl) (delivers_setPort ..)

theorem delivers_eventDatagram (s : State) (k l : Nat) (w : Bool) : Delivers s (s.eventDatagram k l w) :=
  delivers_sendVia _ _ _ _ (bitsOf_lt _ 24 3) rfl

/-! ### Notification and routing -/

theorem delivers_evtp (s : State) (k : Nat) (f : Fld) (v : Nat) (hk : k < 16) (hs : f.stride = 0) (ho : f.off = 0x110 ∨ f.off = 0x114) :
    Delivers s (s.setFld (pEvtp k) f v) := by
  apply delivers_setFld
  rw [hs]
  exact deliveryReg_evtp k f.off hk ho

theorem delivers_notify (s : State) (k l : Nat) (w : Bool) (hk : k < 16) : Delivers s (s.notify k l w) := by
  unfold State.notify
  dsimp only
  have h : Delivers s (if k = 0 then
      (s.setFld (pEvtp k) F.EVTP_NSEQ_NSEQ (s.fld (pEvtp k) F.EVTP_NSEQ_NSEQ + 1)).vector l
    else (s.setFld (pEvtp k) F.EVTP_NSEQ_NSEQ (s.fld (pEvtp k) F.EVTP_NSEQ_NSEQ + 1)).eventDatagram k l w) := by
    split
    · exact Delivers.via (delivers_vector ..) (delivers_evtp _ _ _ _ hk rfl (by decide))
    · exact Delivers.via (delivers_eventDatagram ..) (delivers_evtp _ _ _ _ hk rfl (by decide))
  generalize (if k = 0 then _ else _ : State) = u at h ⊢
  split
  · exact Delivers.via (delivers_eventEntry _ _ _ hk (by simp)) h
  · exact h

theorem delivers_clearNote (s : State) (k : Nat) (hk : k < 16) : Delivers s (s.clearNote k) := by
  unfold State.clearNote
  dsimp only
  have h : Delivers s ((s.setFld (pEvtp k) F.EVTP_NOTE_OUTSTANDING 0).setFld (pEvtp k) F.EVTP_NOTE_LEVEL 0) :=
    Delivers.via (delivers_evtp _ _ _ _ hk rfl (by decide)) (delivers_evtp _ _ _ _ hk rfl (by decide))
  split
  · exact Delivers.via (delivers_setPba ..) h
  · exact h

theorem delivers_checkNote (s : State) (k : Nat) (hk : k < 16) : Delivers s (s.checkNote k) := by
  unfold State.checkNote
  split
  · exact delivers_clearNote _ _ hk
  · exact Delivers.refl _

theorem delivers_compareNote (s : State) (k : Nat) (hk : k < 16) : Delivers s (s.compareNote k) := by
  unfold State.compareNote
  have h := delivers_checkNote s k hk
  generalize s.checkNote k = u at *
  dsimp only
  split
  · refine Delivers.via (delivers_notify _ _ _ _ hk) (Delivers.via (delivers_evtp _ _ _ _ hk rfl (by decide))
      (Delivers.via (delivers_evtp _ _ _ _ hk rfl (by decide)) ?_))
    split
    · exact Delivers.via (delivers_setPba ..) h
    · exact h
  · exact h

theorem delivers_routeOne (s : State) (n : Nat) (b : Bool) : Delivers s (s.routeOne n b).1 := by
  unfold State.routeOne
  split
  · exact delivers_setEvt _ _ rfl
  · split
    · exact Delivers.refl _
    · exact Delivers.via (delivers_inc _ _ _ _ _ rfl) (delivers_setEvt _ _ rfl)

theorem delivers_settleOne (st : State × List Nat) (n : Nat) : Delivers st.1 (State.settleOne st n).1 := by
  unfold State.settleOne
  dsimp only
  split
  · split
    · exact Delivers.refl _
    · exact Delivers.via (delivers_routeOne ..) (delivers_inc _ _ _ _ _ rfl)
  · exact delivers_routeOne ..

theorem delivers_settleFold (l : List Nat) (st : State × List Nat) : Delivers st.1 (l.foldl State.settleOne st).1 := by
  induction l generalizing st with
  | nil => exact Delivers.refl _
  | cons x t ih => exact (delivers_settleOne st x).trans (ih _)

theorem delivers_wakeFor (s : State) (n : Nat) : Delivers s (s.wakeFor n) := by
  unfold State.wakeFor
  refine delivers_each (fun s k hk => ?_) (Delivers.refl _)
  split
  · exact Delivers.via (delivers_notify _ _ _ _ (by simpa using hk)) (delivers_setEvt _ _ rfl)
  · exact Delivers.refl _

theorem delivers_dropWakes (s : State) : Delivers s s.dropWakes := by
  unfold State.dropWakes
  dsimp only
  refine Delivers.via (delivers_setEvt _ _ rfl) (delivers_each (fun s e _ => ?_) (Delivers.refl _))
  split
  · exact Delivers.refl _
  · exact delivers_setPba ..

theorem delivers_settleOnce (s : State) (a : List Nat) : Delivers s (s.settleOnce a) := by
  unfold State.settleOnce
  dsimp only
  refine delivers_each (fun s n _ => delivers_wakeFor s n) (Delivers.via (delivers_dropWakes _) ?_)
  refine delivers_each (fun s k hk => ?_) (Delivers.via (delivers_settleFold _ (_, [])) ?_)
  · split
    · exact delivers_compareNote _ _ (by simpa using hk)
    · exact delivers_checkNote _ _ (by simpa using hk)
  · exact delivers_each (fun s k hk => delivers_checkNote _ _ (by simpa using hk)) (delivers_setEvt _ _ rfl)

theorem delivers_settleMore (s : State) (a : List Nat) (n : Nat) : Delivers s (s.settleMore a n) := by
  induction n generalizing s a with
  | zero => exact Delivers.refl _
  | succ n ih =>
    unfold State.settleMore
    dsimp only
    split
    · exact delivers_settleOnce ..
    · exact (delivers_settleOnce s a).trans (ih _ _)

/-- Everything that event delivery does. -/
theorem delivers_settle (s : State) : Delivers s s.settle := by
  unfold State.settle
  split
  · exact delivers_settleMore ..
  · exact Delivers.refl _

end Sys2Proof.Machine
end

