-- ==== Sys2Proof/Laws/Kept.lean ====
section
/-!
SUPPORT. What every operation of the block keeps: the queue of waiting commands, the canonical form of GDDR6
contents and of the register words, and every piece of the state outside a set of pieces, given as a bit mask
over `Piece.idx`. One lemma per operation; what a step keeps follows from the last.
-/
namespace Sys2Proof.Machine

/-- The blocks in address order. -/
def Blk.idx : Blk → Nat
  | .sys => 0
  | .ember => 1
  | .therm => 2
  | .hk => 3
  | .crc => 4
  | .upd => 5
  | .seat => 6
  | .evt => 7
  | .evtp => 8
  | .ring => 9
  | .time => 10
  | .servo => 11
  | .sva => 12
  | .svb => 13
  | .eth => 14
  | .ing => 15
  | .cmp => 16
  | .view => 17
  | .lyr => 18
  | .map => 19
  | .cor => 20
  | .zone => 21
  | .wl => 22
  | .ser => 23
  | .mem => 24
  | .memch => 25
  | .pcie => 26
  | .nvme => 27
  | .flow => 28
  | .tile => 29
  | .zn => 30
  | .rstate => 30

/-- The bit of a piece: register pieces first, in address order. -/
def Piece.idx : Piece → Nat
  | .page b => b.idx
  | .coef => 31 | .copies => 32 | .store => 33
  | .free => 34
  | .out => 35
  | .force => 36
  | .latch => 37
  | .lowHalf => 38
  | .mem => 39
  | .hostMem => 40
  | .rings => 41
  | .stale => 42
  | .commands => 43
  | .clk => 44
  | .pow => 45
  | .cyc => 46
  | .flows => 47
  | .ports => 48
  | .views => 49
  | .feeds => 50
  | .lanes => 51
  | .busy => 52
  | .chans => 53
  | .credits => 54
  | .house => 55
  | .ptp => 56
  | .touts => 57
  | .tcaps => 58
  | .ppsHigh => 59
  | .servos => 60
  | .evt => 61
  | .dgs => 62
  | .resp => 63
  | .respLoad => 64
  | .cap => 65
  | .corrTouched => 66
  | .play => 67
  | .flashMem => 68
  | .flashOp => 69
  | .drives => 70
  | .storeOp => 71
  | .storeWait => 72
  | .job => 73
  | .aborts => 74
  | .panic => 75
  | .rateWait => 76
  | .powerReq => 77
  | .image => 78
  | .bar4 => 79
  | .cfgSpace => 80
  | .tap => 81
  | .lines => 82
  | .linkRt => 83
  | .rateTo => 84
  | .bar2Held => 85

/-- Where the registers of a bit below 33 lie. -/
def spans : List (Nat × Nat) :=
  [(0, 0x1000), (0x1000, 0x2000), (0x2000, 0x3000), (0x3000, 0x4000), (0x4000, 0x8000), (0x8000, 0x9000),
   (0x10000, 0x20000), (0x20000, 0x21000), (0x21000, 0x31000), (0x31000, 0x32000), (0x40000, 0x41000),
   (0x41000, 0x42000), (0x42000, 0x4A000), (0x4A000, 0x4E000), (0x50000, 0x58000), (0x60000, 0x61000),
   (0x80000, 0x81000), (0x81000, 0x89000), (0x100000, 0x200000), (0x200000, 0x201000), (0x201000, 0x202000),
   (0x202000, 0x203000), (0x400000, 0x600000), (0x600000, 0x640000), (0x700000, 0x701000), (0x701000, 0x721000),
   (0x780000, 0x781000), (0x781000, 0x782000), (0x880000, 0x890000), (0x900000, 0x940000), (0x940000, 0x944000),
   (0x1000000, 0x1004000), (0x10000000, 0x200000000)]

/-- Lowest register of a bit. -/
def spanLo (i : Nat) : Nat := (spans.getD i (0x200000000, 0)).1
/-- First address above the registers of a bit. -/
def spanHi (i : Nat) : Nat := (spans.getD i (0, 0)).2

/-- The address lies among the registers of a bit. -/
def inSpan (i a : Nat) : Prop := i < 33 ∧ spanLo i ≤ a ∧ a < spanHi i

theorem spans_apart : ∀ i < 33, ∀ j < 33, i < j → spanHi i ≤ spanLo j := by decide

/-- `t` has the queue of `s`, and canonical memory and registers where `s` has them. -/
def Kept (s t : State) : Prop :=
  t.pending = s.pending ∧ (s.mem.wf = true → t.mem.wf = true) ∧ (rising none s.regs = true → rising none t.regs = true)

theorem Kept.refl (s : State) : Kept s s := ⟨rfl, id, id⟩
theorem Kept.trans {s t u : State} (h : Kept s t) (k : Kept t u) : Kept s u :=
  ⟨k.1.trans h.1, k.2.1 ∘ h.2.1, k.2.2 ∘ h.2.2⟩

/-- The registers of a bit; as event delivery leaves them, when the mask allows it (its bit 61, `Piece.evt`). -/
def regSame (m i : Nat) (s t : State) : Prop :=
  ∀ a, inSpan i a → (m.testBit 61 = true → deliveryReg a = false) → t.reg a = s.reg a

/-- `Kept`, and every piece outside the mask is as it was: the registers by address, `store`, the components. -/
structure Keeps (m : Nat) (s t : State) : Prop where
  kept : Kept s t
  regs : ∀ i, m.testBit i = false → regSame m i s t
  store : m.testBit 33 = false → Piece.store.same true s t
  free : m.testBit 34 = false → t.free = s.free
  out : m.testBit 35 = false → t.out = s.out
  force : m.testBit 36 = false → t.force = s.force
  latch : m.testBit 37 = false → t.latch = s.latch
  lowHalf : m.testBit 38 = false → t.lowHalf = s.lowHalf
  mem : m.testBit 39 = false → t.mem = s.mem
  hostMem : m.testBit 40 = false → t.hostMem = s.hostMem
  rings : m.testBit 41 = false → t.rings = s.rings
  stale : m.testBit 42 = false → t.stale = s.stale
  commands : m.testBit 43 = false → t.commands = s.commands
  clk : m.testBit 44 = false → t.clk = s.clk
  pow : m.testBit 45 = false → t.pow = s.pow
  cyc : m.testBit 46 = false → t.cyc = s.cyc
  flows : m.testBit 47 = false → t.flows = s.flows
  ports : m.testBit 48 = false → t.ports = s.ports
  views : m.testBit 49 = false → t.views = s.views
  feeds : m.testBit 50 = false → t.feeds = s.feeds
  lanes : m.testBit 51 = false → t.lanes = s.lanes
  busy : m.testBit 52 = false → t.busy = s.busy
  chans : m.testBit 53 = false → t.chans = s.chans
  credits : m.testBit 54 = false → t.credits = s.credits
  house : m.testBit 55 = false → t.house = s.house
  ptp : m.testBit 56 = false → t.ptp = s.ptp
  touts : m.testBit 57 = false → t.touts = s.touts
  tcaps : m.testBit 58 = false → t.tcaps = s.tcaps
  ppsHigh : m.testBit 59 = false → t.ppsHigh = s.ppsHigh
  servos : m.testBit 60 = false → t.servos = s.servos
  evt : m.testBit 61 = false → t.evt = s.evt
  dgs : m.testBit 62 = false → t.dgs = s.dgs
  resp : m.testBit 63 = false → t.resp = s.resp
  respLoad : m.testBit 64 = false → t.respLoad = s.respLoad
  cap : m.testBit 65 = false → t.cap = s.cap
  corrTouched : m.testBit 66 = false → t.corrTouched = s.corrTouched
  play : m.testBit 67 = false → t.play = s.play
  flashMem : m.testBit 68 = false → t.flashMem = s.flashMem
  flashOp : m.testBit 69 = false → t.flashOp = s.flashOp
  drives : m.testBit 70 = false → t.drives = s.drives
  storeOp : m.testBit 71 = false → t.storeOp = s.storeOp
  storeWait : m.testBit 72 = false → t.storeWait = s.storeWait
  job : m.testBit 73 = false → t.job = s.job
  aborts : m.testBit 74 = false → t.aborts = s.aborts
  panic : m.testBit 75 = false → t.panic = s.panic
  rateWait : m.testBit 76 = false → t.rateWait = s.rateWait
  powerReq : m.testBit 77 = false → t.powerReq = s.powerReq
  image : m.testBit 78 = false → t.image = s.image
  bar4 : m.testBit 79 = false → t.bar4 = s.bar4
  cfgSpace : m.testBit 80 = false → t.cfgSpace = s.cfgSpace
  tap : m.testBit 81 = false → t.tap = s.tap
  lines : m.testBit 82 = false → t.lines = s.lines
  linkRt : m.testBit 83 = false → t.linkRt = s.linkRt
  rateTo : m.testBit 84 = false → t.rateTo = s.rateTo
  bar2Held : m.testBit 85 = false → t.bar2Held = s.bar2Held

theorem store_same_refl (s : State) : Piece.store.same true s s := ⟨fun _ => ⟨rfl, rfl, rfl⟩, rfl, fun _ _ => rfl,
    fun _ _ => rfl⟩

theorem store_same_inRing {s t : State} (h : Piece.store.same true s t) (b : Bool) (a : Nat) : t.inRing b a ↔ s.inRing b a := by
  unfold State.inRing Ring.holds
  constructor <;> rintro ⟨n, h1, h2, h3⟩ <;> obtain ⟨e1, e2, e3⟩ := h.1 n <;> refine ⟨n, ?_⟩
  · exact ⟨by rwa [e2] at h1, by rwa [e1] at h2, by rwa [e1, e3] at h3⟩
  · exact ⟨by rwa [e2], by rwa [e1], by rwa [e1, e3]⟩

theorem store_same_trans {s t u : State} (h : Piece.store.same true s t) (k : Piece.store.same true t u) : Piece.store.same true s u :=
  ⟨fun n => ⟨(k.1 n).1.trans (h.1 n).1, (k.1 n).2.1.trans (h.1 n).2.1, (k.1 n).2.2.trans (h.1 n).2.2⟩,
   k.2.1.trans h.2.1, fun a ha => (k.2.2.1 a (by rwa [store_same_inRing h])).trans (h.2.2.1 a ha),
   fun a ha => (k.2.2.2 a (by rwa [store_same_inRing h])).trans (h.2.2.2 a ha)⟩

theorem Keeps.refl {m : Nat} (s : State) : Keeps m s s :=
  { kept := Kept.refl s, regs := fun _ _ _ _ _ => rfl, store := fun _ => store_same_refl s
    free := fun _ => rfl, out := fun _ => rfl, force := fun _ => rfl, latch := fun _ => rfl,
    lowHalf := fun _ => rfl, mem := fun _ => rfl, hostMem := fun _ => rfl, rings := fun _ => rfl,
    stale := fun _ => rfl, commands := fun _ => rfl, clk := fun _ => rfl, pow := fun _ => rfl, cyc := fun _ => rfl,
    flows := fun _ => rfl, ports := fun _ => rfl, views := fun _ => rfl, feeds := fun _ => rfl,
    lanes := fun _ => rfl, busy := fun _ => rfl, chans := fun _ => rfl, credits := fun _ => rfl,
    house := fun _ => rfl, ptp := fun _ => rfl, touts := fun _ => rfl, tcaps := fun _ => rfl,
    ppsHigh := fun _ => rfl, servos := fun _ => rfl, evt := fun _ => rfl, dgs := fun _ => rfl,
    resp := fun _ => rfl, respLoad := fun _ => rfl, cap := fun _ => rfl, corrTouched := fun _ => rfl,
    play := fun _ => rfl, flashMem := fun _ => rfl, flashOp := fun _ => rfl, drives := fun _ => rfl,
    storeOp := fun _ => rfl, storeWait := fun _ => rfl, job := fun _ => rfl, aborts := fun _ => rfl,
    panic := fun _ => rfl, rateWait := fun _ => rfl, powerReq := fun _ => rfl, image := fun _ => rfl,
    bar4 := fun _ => rfl, cfgSpace := fun _ => rfl, tap := fun _ => rfl, lines := fun _ => rfl,
    linkRt := fun _ => rfl, rateTo := fun _ => rfl, bar2Held := fun _ => rfl }

theorem Keeps.trans {m : Nat} {s t u : State} (h : Keeps m s t) (k : Keeps m t u) : Keeps m s u :=
  { kept := h.kept.trans k.kept
    regs := fun i hi a ha hd => (k.regs i hi a ha hd).trans (h.regs i hi a ha hd)
    store := fun x => store_same_trans (h.store x) (k.store x)
    free := fun x => (k.free x).trans (h.free x), out := fun x => (k.out x).trans (h.out x),
    force := fun x => (k.force x).trans (h.force x), latch := fun x => (k.latch x).trans (h.latch x),
    lowHalf := fun x => (k.lowHalf x).trans (h.lowHalf x), mem := fun x => (k.mem x).trans (h.mem x),
    hostMem := fun x => (k.hostMem x).trans (h.hostMem x), rings := fun x => (k.rings x).trans (h.rings x),
    stale := fun x => (k.stale x).trans (h.stale x), commands := fun x => (k.commands x).trans (h.commands x),
    clk := fun x => (k.clk x).trans (h.clk x), pow := fun x => (k.pow x).trans (h.pow x),
    cyc := fun x => (k.cyc x).trans (h.cyc x), flows := fun x => (k.flows x).trans (h.flows x),
    ports := fun x => (k.ports x).trans (h.ports x), views := fun x => (k.views x).trans (h.views x),
    feeds := fun x => (k.feeds x).trans (h.feeds x), lanes := fun x => (k.lanes x).trans (h.lanes x),
    busy := fun x => (k.busy x).trans (h.busy x), chans := fun x => (k.chans x).trans (h.chans x),
    credits := fun x => (k.credits x).trans (h.credits x), house := fun x => (k.house x).trans (h.house x),
    ptp := fun x => (k.ptp x).trans (h.ptp x), touts := fun x => (k.touts x).trans (h.touts x),
    tcaps := fun x => (k.tcaps x).trans (h.tcaps x), ppsHigh := fun x => (k.ppsHigh x).trans (h.ppsHigh x),
    servos := fun x => (k.servos x).trans (h.servos x), evt := fun x => (k.evt x).trans (h.evt x),
    dgs := fun x => (k.dgs x).trans (h.dgs x), resp := fun x => (k.resp x).trans (h.resp x),
    respLoad := fun x => (k.respLoad x).trans (h.respLoad x), cap := fun x => (k.cap x).trans (h.cap x),
    corrTouched := fun x => (k.corrTouched x).trans (h.corrTouched x),
    play := fun x => (k.play x).trans (h.play x), flashMem := fun x => (k.flashMem x).trans (h.flashMem x),
    flashOp := fun x => (k.flashOp x).trans (h.flashOp x), drives := fun x => (k.drives x).trans (h.drives x),
    storeOp := fun x => (k.storeOp x).trans (h.storeOp x), storeWait := fun x => (k.storeWait x).trans (h.storeWait x), job := fun x => (k.job x).trans (h.job x), aborts := fun x => (k.aborts x).trans (h.aborts x), panic := fun x => (k.panic x).trans (h.panic x), rateWait := fun x => (k.rateWait x).trans (h.rateWait x), powerReq := fun x => (k.powerReq x).trans (h.powerReq x), image := fun x => (k.image x).trans (h.image x), bar4 := fun x => (k.bar4 x).trans (h.bar4 x), cfgSpace := fun x => (k.cfgSpace x).trans (h.cfgSpace x), tap := fun x => (k.tap x).trans (h.tap x), lines := fun x => (k.lines x).trans (h.lines x), linkRt := fun x => (k.linkRt x).trans (h.linkRt x), rateTo := fun x => (k.rateTo x).trans (h.rateTo x), bar2Held := fun x => (k.bar2Held x).trans (h.bar2Held x) }

/-- A wider mask keeps less. -/
theorem Keeps.mono {m n : Nat} {s t : State} (h : Keeps n s t) (hm : n &&& m = n) : Keeps m s t := by
  have hb : ∀ i, m.testBit i = false → n.testBit i = false := by
    intro i hi
    rw [← hm, Nat.testBit_and, hi, Bool.and_false]
  have up : ∀ i, n.testBit i = true → m.testBit i = true := by
    intro i hi
    rw [← hm, Nat.testBit_and] at hi
    exact (Bool.and_eq_true_iff.mp hi).2
  exact
  { kept := h.kept, regs := fun i hi a ha hd => h.regs i (hb i hi) a ha (fun x => hd (up _ x)),
    store := fun x => h.store (hb _ x)
    free := fun x => h.free (hb _ x), out := fun x => h.out (hb _ x), force := fun x => h.force (hb _ x),
    latch := fun x => h.latch (hb _ x), lowHalf := fun x => h.lowHalf (hb _ x), mem := fun x => h.mem (hb _ x),
    hostMem := fun x => h.hostMem (hb _ x), rings := fun x => h.rings (hb _ x), stale := fun x => h.stale (hb _ x),
    commands := fun x => h.commands (hb _ x), clk := fun x => h.clk (hb _ x), pow := fun x => h.pow (hb _ x),
    cyc := fun x => h.cyc (hb _ x), flows := fun x => h.flows (hb _ x), ports := fun x => h.ports (hb _ x),
    views := fun x => h.views (hb _ x), feeds := fun x => h.feeds (hb _ x), lanes := fun x => h.lanes (hb _ x),
    busy := fun x => h.busy (hb _ x), chans := fun x => h.chans (hb _ x), credits := fun x => h.credits (hb _ x),
    house := fun x => h.house (hb _ x), ptp := fun x => h.ptp (hb _ x), touts := fun x => h.touts (hb _ x),
    tcaps := fun x => h.tcaps (hb _ x), ppsHigh := fun x => h.ppsHigh (hb _ x),
    servos := fun x => h.servos (hb _ x), evt := fun x => h.evt (hb _ x), dgs := fun x => h.dgs (hb _ x),
    resp := fun x => h.resp (hb _ x), respLoad := fun x => h.respLoad (hb _ x), cap := fun x => h.cap (hb _ x),
    corrTouched := fun x => h.corrTouched (hb _ x), play := fun x => h.play (hb _ x),
    flashMem := fun x => h.flashMem (hb _ x), flashOp := fun x => h.flashOp (hb _ x),
    drives := fun x => h.drives (hb _ x), storeOp := fun x => h.storeOp (hb _ x),
    storeWait := fun x => h.storeWait (hb _ x), job := fun x => h.job (hb _ x),
    aborts := fun x => h.aborts (hb _ x), panic := fun x => h.panic (hb _ x),
    rateWait := fun x => h.rateWait (hb _ x), powerReq := fun x => h.powerReq (hb _ x),
    image := fun x => h.image (hb _ x), bar4 := fun x => h.bar4 (hb _ x), cfgSpace := fun x => h.cfgSpace (hb _ x),
    tap := fun x => h.tap (hb _ x), lines := fun x => h.lines (hb _ x), linkRt := fun x => h.linkRt (hb _ x),
    rateTo := fun x => h.rateTo (hb _ x), bar2Held := fun x => h.bar2Held (hb _ x) }

theorem Keeps.via {m n : Nat} {s t u : State} (k : Keeps n t u) (hm : n &&& m = n) (h : Keeps m s t) : Keeps m s u :=
  h.trans (k.mono hm)

/-! ### Register writes -/

/-- What a register write keeps. -/
theorem keeps_setReg_of {m : Nat} (s : State) (a : Nat) (v : Word)
    (h : ∀ i, m.testBit i = false → ¬ inSpan i a) : Keeps m s (s.setReg a v) :=
  { kept := ⟨rfl, id, fun h => rising_ins _ _ _ _ h⟩
    regs := fun i hi b hb _ => reg_setReg_ne s v (by rintro rfl; exact h i hi hb)
    store := fun _ => store_same_refl s
    free := fun _ => by simp, out := fun _ => by simp, force := fun _ => by simp, latch := fun _ => by simp,
    lowHalf := fun _ => by simp, mem := fun _ => by simp, hostMem := fun _ => by simp, rings := fun _ => by simp,
    stale := fun _ => by simp, commands := fun _ => by simp, clk := fun _ => by simp, pow := fun _ => by simp,
    cyc := fun _ => by simp, flows := fun _ => by simp, ports := fun _ => by simp, views := fun _ => by simp,
    feeds := fun _ => by simp, lanes := fun _ => by simp, busy := fun _ => by simp, chans := fun _ => by simp,
    credits := fun _ => by simp, house := fun _ => by simp, ptp := fun _ => by simp, touts := fun _ => by simp,
    tcaps := fun _ => by simp, ppsHigh := fun _ => by simp, servos := fun _ => by simp, evt := fun _ => by simp,
    dgs := fun _ => by simp, resp := fun _ => by simp, respLoad := fun _ => by simp, cap := fun _ => by simp,
    corrTouched := fun _ => by simp, play := fun _ => by simp, flashMem := fun _ => by simp,
    flashOp := fun _ => by simp, drives := fun _ => by simp, storeOp := fun _ => by simp,
    storeWait := fun _ => by simp, job := fun _ => by simp, aborts := fun _ => by simp, panic := fun _ => by simp,
    rateWait := fun _ => by simp, powerReq := fun _ => by simp, image := fun _ => by simp,
    bar4 := fun _ => by simp, cfgSpace := fun _ => by simp, tap := fun _ => by simp, lines := fun _ => by simp,
    linkRt := fun _ => by simp, rateTo := fun _ => by simp, bar2Held := fun _ => by simp }

/-- A write at or above the lowest register of bit `i`; the mask holds every register bit from `i` on. -/
theorem above_span {m a : Nat} (i : Nat) (hi : i < 33) (hm : (2 ^ 33 - 2 ^ i) &&& m = 2 ^ 33 - 2 ^ i) (ha : spanLo i ≤ a) :
    ∀ j, m.testBit j = false → ¬ inSpan j a := by
  intro j hj hs
  have hji : j < i := by
    rcases Nat.lt_or_ge j i with h | h
    · exact h
    · have hb : (2 ^ 33 - 2 ^ i).testBit j = true := by
        have : ∀ i < 33, ∀ j < 33, i ≤ j → (2 ^ 33 - 2 ^ i).testBit j = true := by decide
        exact this i hi j hs.1 h
      rw [← hm, Nat.testBit_and, hj, Bool.and_false] at hb
      cases hb
  have := spans_apart j hs.1 i hi hji
  exact absurd hs.2.2 (by omega)

/-- A write among the registers of bit `i`. -/
theorem within_span {m a : Nat} (i : Nat) (hm : m.testBit i = true) (ha : inSpan i a) :
    ∀ j, m.testBit j = false → ¬ inSpan j a := by
  intro j hj hs
  rcases Nat.lt_trichotomy i j with h | h | h
  · have := spans_apart i ha.1 j hs.1 h
    exact absurd hs.2.1 (by have := ha.2.2; omega)
  · subst h; rw [hm] at hj; cases hj
  · have := spans_apart j hs.1 i ha.1 h
    exact absurd ha.2.1 (by have := hs.2.2; omega)

theorem keeps_setReg_ge {m : Nat} {r s : State} {a : Nat} {v : Word} (i : Nat) (hi : i < 33) (hm : (2 ^ 33 - 2 ^ i) &&& m = 2 ^ 33 - 2 ^ i)
    (hp : spanLo i ≤ a) (h : Keeps m r s) : Keeps m r (s.setReg a v) :=
  h.trans (keeps_setReg_of _ _ _ (above_span i hi hm hp))
theorem keeps_setReg_in {m : Nat} {r s : State} {a : Nat} {v : Word} (i : Nat) (hm : m.testBit i = true) (hi : inSpan i (a))
    (h : Keeps m r s) : Keeps m r (s.setReg a v) :=
  h.trans (keeps_setReg_of _ _ _ (within_span i hm hi))
theorem keeps_setFld_ge {m : Nat} {r s : State} {p : Nat} {f : Fld} {v j : Nat} (i : Nat) (hi : i < 33) (hm : (2 ^ 33 - 2 ^ i) &&& m = 2 ^ 33 - 2 ^ i)
    (hp : spanLo i ≤ p) (h : Keeps m r s) : Keeps m r (s.setFld p f v j) :=
  h.trans (keeps_setReg_of _ _ _ (above_span i hi hm (by omega)))
theorem keeps_setFld_in {m : Nat} {r s : State} {p : Nat} {f : Fld} {v j : Nat} (i : Nat) (hm : m.testBit i = true) (hi : inSpan i (p + f.off + j * f.stride))
    (h : Keeps m r s) : Keeps m r (s.setFld p f v j) :=
  h.trans (keeps_setReg_of _ _ _ (within_span i hm hi))
theorem keeps_setS_ge {m : Nat} {r s : State} {p : Nat} {f : Fld} {v : Int} {j : Nat} (i : Nat) (hi : i < 33) (hm : (2 ^ 33 - 2 ^ i) &&& m = 2 ^ 33 - 2 ^ i)
    (hp : spanLo i ≤ p) (h : Keeps m r s) : Keeps m r (s.setS p f v j) :=
  h.trans (keeps_setReg_of _ _ _ (above_span i hi hm (by omega)))
theorem keeps_setS_in {m : Nat} {r s : State} {p : Nat} {f : Fld} {v : Int} {j : Nat} (i : Nat) (hm : m.testBit i = true) (hi : inSpan i (p + f.off + j * f.stride))
    (h : Keeps m r s) : Keeps m r (s.setS p f v j) :=
  h.trans (keeps_setReg_of _ _ _ (within_span i hm hi))
theorem keeps_inc_ge {m : Nat} {r s : State} {p : Nat} {f : Fld} {j n : Nat} (i : Nat) (hi : i < 33) (hm : (2 ^ 33 - 2 ^ i) &&& m = 2 ^ 33 - 2 ^ i)
    (hp : spanLo i ≤ p) (h : Keeps m r s) : Keeps m r (s.inc p f j n) :=
  h.trans (keeps_setReg_of _ _ _ (above_span i hi hm (by omega)))
theorem keeps_inc_in {m : Nat} {r s : State} {p : Nat} {f : Fld} {j n : Nat} (i : Nat) (hm : m.testBit i = true) (hi : inSpan i (p + f.off + j * f.stride))
    (h : Keeps m r s) : Keeps m r (s.inc p f j n) :=
  h.trans (keeps_setReg_of _ _ _ (within_span i hm hi))
theorem keeps_setCond_ge {m : Nat} {r s : State} {p k : Nat} (i : Nat) (hi : i < 33) (hm : (2 ^ 33 - 2 ^ i) &&& m = 2 ^ 33 - 2 ^ i)
    (hp : spanLo i ≤ p) (h : Keeps m r s) : Keeps m r (s.setCond p k) :=
  h.trans (keeps_setReg_of _ _ _ (above_span i hi hm (by omega)))
theorem keeps_setCond_in {m : Nat} {r s : State} {p k : Nat} (i : Nat) (hm : m.testBit i = true) (hi : inSpan i (p + 0x10))
    (h : Keeps m r s) : Keeps m r (s.setCond p k) :=
  h.trans (keeps_setReg_of _ _ _ (within_span i hm hi))
theorem keeps_setPair_ge {m : Nat} {r s : State} {p : Nat} {f g : Fld} {v j : Nat} (i : Nat) (hi : i < 33)
    (hm : (2 ^ 33 - 2 ^ i) &&& m = 2 ^ 33 - 2 ^ i) (hp : spanLo i ≤ p) (h : Keeps m r s) : Keeps m r (s.setPair p f g v j) :=
  keeps_setFld_ge i hi hm hp (keeps_setFld_ge i hi hm hp h)
theorem keeps_setPair_in {m : Nat} {r s : State} {p : Nat} {f g : Fld} {v j : Nat} (i : Nat) (hm : m.testBit i = true)
    (hf : inSpan i (p + f.off + j * f.stride)) (hg : inSpan i (p + g.off + j * g.stride)) (h : Keeps m r s) :
    Keeps m r (s.setPair p f g v j) :=
  keeps_setFld_in i hm hg (keeps_setFld_in i hm hf h)

/-! ### Folds and branches -/

theorem keeps_each_on {m : Nat} {α : Type} {r s : State} {l : List α} {f : State → α → State} (h : ∀ s x,
    Keeps m s (f s x))
    (hs : Keeps m r s) : Keeps m r (s.each l f) := by
  induction l generalizing s with
  | nil => exact hs
  | cons x t ih => exact ih (hs.trans (h s x))
theorem keeps_foldl_on {m : Nat} {α : Type} {r s : State} {l : List α} {f : State → α → State} (h : ∀ s x,
    Keeps m s (f s x))
    (hs : Keeps m r s) : Keeps m r (l.foldl f s) := keeps_each_on h hs
theorem keeps_when_on {m : Nat} {r s : State} {b : Bool} {f : State → State} (h : ∀ s,
    Keeps m s (f s)) (hs : Keeps m r s) :
    Keeps m r (s.when b f) := by
  cases b
  · exact hs
  · exact hs.trans (h s)
theorem keeps_ite {m : Nat} {c : Prop} [Decidable c] {s a b : State} (ha : Keeps m s a) (hb : Keeps m s b) :
    Keeps m s (if c then a else b) := by
  split
  · exact ha
  · exact hb
theorem keeps_fold_pair {m : Nat} {α β : Type} {r : State} {l : List α} {st : State × β} {f : State × β → α → State × β}
    (h : ∀ st x, Keeps m st.1 (f st x).1) (hs : Keeps m r st.1) : Keeps m r (l.foldl f st).1 := by
  induction l generalizing st with
  | nil => exact hs
  | cons x t ih => exact ih (hs.trans (h st x))

/-! ### Changes of components -/

/-- A change of GDDR6 contents and components. -/
theorem keeps_mem {m : Nat} {s t : State} (hp : t.pending = s.pending) (hr : t.regs = s.regs)
    (hw : s.mem.wf = true → t.mem.wf = true) (h1 : m.testBit 33 = true) (h2 : m.testBit 39 = true)
    (h_free : m.testBit 34 = true ∨ t.free = s.free)
    (h_out : m.testBit 35 = true ∨ t.out = s.out)
    (h_force : m.testBit 36 = true ∨ t.force = s.force)
    (h_latch : m.testBit 37 = true ∨ t.latch = s.latch)
    (h_lowHalf : m.testBit 38 = true ∨ t.lowHalf = s.lowHalf)
    (h_hostMem : m.testBit 40 = true ∨ t.hostMem = s.hostMem)
    (h_rings : m.testBit 41 = true ∨ t.rings = s.rings)
    (h_stale : m.testBit 42 = true ∨ t.stale = s.stale)
    (h_commands : m.testBit 43 = true ∨ t.commands = s.commands)
    (h_clk : m.testBit 44 = true ∨ t.clk = s.clk)
    (h_pow : m.testBit 45 = true ∨ t.pow = s.pow)
    (h_cyc : m.testBit 46 = true ∨ t.cyc = s.cyc)
    (h_flows : m.testBit 47 = true ∨ t.flows = s.flows)
    (h_ports : m.testBit 48 = true ∨ t.ports = s.ports)
    (h_views : m.testBit 49 = true ∨ t.views = s.views)
    (h_feeds : m.testBit 50 = true ∨ t.feeds = s.feeds)
    (h_lanes : m.testBit 51 = true ∨ t.lanes = s.lanes)
    (h_busy : m.testBit 52 = true ∨ t.busy = s.busy)
    (h_chans : m.testBit 53 = true ∨ t.chans = s.chans)
    (h_credits : m.testBit 54 = true ∨ t.credits = s.credits)
    (h_house : m.testBit 55 = true ∨ t.house = s.house)
    (h_ptp : m.testBit 56 = true ∨ t.ptp = s.ptp)
    (h_touts : m.testBit 57 = true ∨ t.touts = s.touts)
    (h_tcaps : m.testBit 58 = true ∨ t.tcaps = s.tcaps)
    (h_ppsHigh : m.testBit 59 = true ∨ t.ppsHigh = s.ppsHigh)
    (h_servos : m.testBit 60 = true ∨ t.servos = s.servos)
    (h_evt : m.testBit 61 = true ∨ t.evt = s.evt)
    (h_dgs : m.testBit 62 = true ∨ t.dgs = s.dgs)
    (h_resp : m.testBit 63 = true ∨ t.resp = s.resp)
    (h_respLoad : m.testBit 64 = true ∨ t.respLoad = s.respLoad)
    (h_cap : m.testBit 65 = true ∨ t.cap = s.cap)
    (h_corrTouched : m.testBit 66 = true ∨ t.corrTouched = s.corrTouched)
    (h_play : m.testBit 67 = true ∨ t.play = s.play)
    (h_flashMem : m.testBit 68 = true ∨ t.flashMem = s.flashMem)
    (h_flashOp : m.testBit 69 = true ∨ t.flashOp = s.flashOp)
    (h_drives : m.testBit 70 = true ∨ t.drives = s.drives)
    (h_storeOp : m.testBit 71 = true ∨ t.storeOp = s.storeOp)
    (h_storeWait : m.testBit 72 = true ∨ t.storeWait = s.storeWait)
    (h_job : m.testBit 73 = true ∨ t.job = s.job)
    (h_aborts : m.testBit 74 = true ∨ t.aborts = s.aborts)
    (h_panic : m.testBit 75 = true ∨ t.panic = s.panic)
    (h_rateWait : m.testBit 76 = true ∨ t.rateWait = s.rateWait)
    (h_powerReq : m.testBit 77 = true ∨ t.powerReq = s.powerReq)
    (h_image : m.testBit 78 = true ∨ t.image = s.image)
    (h_bar4 : m.testBit 79 = true ∨ t.bar4 = s.bar4)
    (h_cfgSpace : m.testBit 80 = true ∨ t.cfgSpace = s.cfgSpace)
    (h_tap : m.testBit 81 = true ∨ t.tap = s.tap)
    (h_lines : m.testBit 82 = true ∨ t.lines = s.lines)
    (h_linkRt : m.testBit 83 = true ∨ t.linkRt = s.linkRt)
    (h_rateTo : m.testBit 84 = true ∨ t.rateTo = s.rateTo)
    (h_bar2Held : m.testBit 85 = true ∨ t.bar2Held = s.bar2Held) : Keeps m s t := by
  have no : ∀ {b : Bool}, b = true → b = false → False := fun h1 h2 => by rw [h1] at h2; cases h2
  exact
  { kept := ⟨hp, hw, fun h => hr ▸ h⟩, regs := fun _ _ _ _ _ => by rw [State.reg, State.reg, hr]
    store := fun x => (no h1 x).elim
    mem := fun x => (no h2 x).elim
    free := fun x => h_free.elim (fun y => (no y x).elim) id
    out := fun x => h_out.elim (fun y => (no y x).elim) id
    force := fun x => h_force.elim (fun y => (no y x).elim) id
    latch := fun x => h_latch.elim (fun y => (no y x).elim) id
    lowHalf := fun x => h_lowHalf.elim (fun y => (no y x).elim) id
    hostMem := fun x => h_hostMem.elim (fun y => (no y x).elim) id
    rings := fun x => h_rings.elim (fun y => (no y x).elim) id
    stale := fun x => h_stale.elim (fun y => (no y x).elim) id
    commands := fun x => h_commands.elim (fun y => (no y x).elim) id
    clk := fun x => h_clk.elim (fun y => (no y x).elim) id
    pow := fun x => h_pow.elim (fun y => (no y x).elim) id
    cyc := fun x => h_cyc.elim (fun y => (no y x).elim) id
    flows := fun x => h_flows.elim (fun y => (no y x).elim) id
    ports := fun x => h_ports.elim (fun y => (no y x).elim) id
    views := fun x => h_views.elim (fun y => (no y x).elim) id
    feeds := fun x => h_feeds.elim (fun y => (no y x).elim) id
    lanes := fun x => h_lanes.elim (fun y => (no y x).elim) id
    busy := fun x => h_busy.elim (fun y => (no y x).elim) id
    chans := fun x => h_chans.elim (fun y => (no y x).elim) id
    credits := fun x => h_credits.elim (fun y => (no y x).elim) id
    house := fun x => h_house.elim (fun y => (no y x).elim) id
    ptp := fun x => h_ptp.elim (fun y => (no y x).elim) id
    touts := fun x => h_touts.elim (fun y => (no y x).elim) id
    tcaps := fun x => h_tcaps.elim (fun y => (no y x).elim) id
    ppsHigh := fun x => h_ppsHigh.elim (fun y => (no y x).elim) id
    servos := fun x => h_servos.elim (fun y => (no y x).elim) id
    evt := fun x => h_evt.elim (fun y => (no y x).elim) id
    dgs := fun x => h_dgs.elim (fun y => (no y x).elim) id
    resp := fun x => h_resp.elim (fun y => (no y x).elim) id
    respLoad := fun x => h_respLoad.elim (fun y => (no y x).elim) id
    cap := fun x => h_cap.elim (fun y => (no y x).elim) id
    corrTouched := fun x => h_corrTouched.elim (fun y => (no y x).elim) id
    play := fun x => h_play.elim (fun y => (no y x).elim) id
    flashMem := fun x => h_flashMem.elim (fun y => (no y x).elim) id
    flashOp := fun x => h_flashOp.elim (fun y => (no y x).elim) id
    drives := fun x => h_drives.elim (fun y => (no y x).elim) id
    storeOp := fun x => h_storeOp.elim (fun y => (no y x).elim) id
    storeWait := fun x => h_storeWait.elim (fun y => (no y x).elim) id
    job := fun x => h_job.elim (fun y => (no y x).elim) id
    aborts := fun x => h_aborts.elim (fun y => (no y x).elim) id
    panic := fun x => h_panic.elim (fun y => (no y x).elim) id
    rateWait := fun x => h_rateWait.elim (fun y => (no y x).elim) id
    powerReq := fun x => h_powerReq.elim (fun y => (no y x).elim) id
    image := fun x => h_image.elim (fun y => (no y x).elim) id
    bar4 := fun x => h_bar4.elim (fun y => (no y x).elim) id
    cfgSpace := fun x => h_cfgSpace.elim (fun y => (no y x).elim) id
    tap := fun x => h_tap.elim (fun y => (no y x).elim) id
    lines := fun x => h_lines.elim (fun y => (no y x).elim) id
    linkRt := fun x => h_linkRt.elim (fun y => (no y x).elim) id
    rateTo := fun x => h_rateTo.elim (fun y => (no y x).elim) id
    bar2Held := fun x => h_bar2Held.elim (fun y => (no y x).elim) id }

theorem kept_poke (s : State) (a : Nat) (b : List Byte) : Keeps 0x8200000000 s (s.poke a b) := by
  apply @keeps_mem _ s (s.poke a b) rfl rfl (fun h => wf_putAll _ _ _ h) (by decide) (by decide) <;> exact .inr rfl

/-- Event delivery. -/
theorem Delivers.keeps {s t : State} (h : Delivers s t) (k : Kept s t) : Keeps 0x80002001038800000000 s t := by
  have hn : ∀ b a, ¬ s.inRing b a → ¬ s.inEventRing b a := fun b a hn ⟨n, _, hh⟩ => hn ⟨n, hh⟩
  have hr := h.rest
  exact
  { kept := k, regs := fun i _ a _ hd => h.regs a (hd (by decide))
    store := fun _ => ⟨fun n => by obtain ⟨p, d, e⟩ := h.shape n; rw [e]; exact ⟨rfl, rfl, rfl⟩, h.openBytes,
      fun a ha => h.mem a (hn _ _ ha), fun a ha => h.host a (hn _ _ ha)⟩
    free := fun _ => by simp only [hr]
    out := fun x => absurd x (by decide)
    force := fun _ => by simp only [hr]
    latch := fun _ => by simp only [hr]
    lowHalf := fun _ => by simp only [hr]
    mem := fun x => absurd x (by decide)
    hostMem := fun x => absurd x (by decide)
    rings := fun x => absurd x (by decide)
    stale := fun _ => by simp only [hr]
    commands := fun _ => by simp only [hr]
    clk := fun _ => by simp only [hr]
    pow := fun _ => by simp only [hr]
    cyc := fun _ => by simp only [hr]
    flows := fun _ => by simp only [hr]
    ports := fun x => absurd x (by decide)
    views := fun _ => by simp only [hr]
    feeds := fun _ => by simp only [hr]
    lanes := fun _ => by simp only [hr]
    busy := fun _ => by simp only [hr]
    chans := fun _ => by simp only [hr]
    credits := fun _ => by simp only [hr]
    house := fun _ => by simp only [hr]
    ptp := fun _ => by simp only [hr]
    touts := fun _ => by simp only [hr]
    tcaps := fun _ => by simp only [hr]
    ppsHigh := fun _ => by simp only [hr]
    servos := fun _ => by simp only [hr]
    evt := fun x => absurd x (by decide)
    dgs := fun _ => by simp only [hr]
    resp := fun _ => by simp only [hr]
    respLoad := fun _ => by simp only [hr]
    cap := fun _ => by simp only [hr]
    corrTouched := fun _ => by simp only [hr]
    play := fun _ => by simp only [hr]
    flashMem := fun _ => by simp only [hr]
    flashOp := fun _ => by simp only [hr]
    drives := fun _ => by simp only [hr]
    storeOp := fun _ => by simp only [hr]
    storeWait := fun _ => by simp only [hr]
    job := fun _ => by simp only [hr]
    aborts := fun _ => by simp only [hr]
    panic := fun _ => by simp only [hr]
    rateWait := fun _ => by simp only [hr]
    powerReq := fun _ => by simp only [hr]
    image := fun _ => by simp only [hr]
    bar4 := fun x => absurd x (by decide)
    cfgSpace := fun _ => by simp only [hr]
    tap := fun _ => by simp only [hr]
    lines := fun _ => by simp only [hr]
    linkRt := fun _ => by simp only [hr]
    rateTo := fun _ => by simp only [hr]
    bar2Held := fun _ => by simp only [hr] }

/-! ### Where pages lie -/

theorem ge_add {a b c : Nat} (h : a ≤ b) : a ≤ b + c := Nat.le_trans h (Nat.le_add_right _ _)
theorem ge_4 (n : Nat) : spanLo 4 ≤ pCrc n := Nat.le_add_right _ _
theorem ge_6 (n : Nat) : spanLo 6 ≤ pSeat n := Nat.le_add_right _ _
theorem ge_8 (n : Nat) : spanLo 8 ≤ pEvtp n := Nat.le_add_right _ _
theorem ge_12 (n : Nat) : spanLo 12 ≤ pSvl n := Nat.le_add_right _ _
theorem ge_14 (n : Nat) : spanLo 14 ≤ pEth n := Nat.le_add_right _ _
theorem ge_17 (n : Nat) : spanLo 17 ≤ pView n := Nat.le_add_right _ _
theorem ge_18 (n : Nat) : spanLo 18 ≤ pLyr n := Nat.le_add_right _ _
theorem ge_22 (n : Nat) : spanLo 22 ≤ pWl n := Nat.le_add_right _ _
theorem ge_23 (n : Nat) : spanLo 23 ≤ pSer n := Nat.le_add_right _ _
theorem ge_25 (n : Nat) : spanLo 25 ≤ pMc n := Nat.le_add_right _ _
theorem ge_28 (n : Nat) : spanLo 28 ≤ pFlow n := Nat.le_add_right _ _
theorem ge_29 (n : Nat) : spanLo 29 ≤ pTile n := Nat.le_add_right _ _
theorem ge_30 (n : Nat) : spanLo 30 ≤ pZn n := Nat.le_add_right _ _

/-- A page or table entry of `w` bytes at `p` lies among the registers of bit `i`. -/
def pgIn (i p w : Nat) : Prop := i < 33 ∧ spanLo i ≤ p ∧ p + w ≤ spanHi i
theorem pg_lo {i p w : Nat} (h : pgIn i p w) : spanLo i ≤ p := h.2.1
theorem pg_hi {i p w : Nat} (h : pgIn i p w) : p + w ≤ spanHi i := h.2.2
theorem in_pg {i p w o : Nat} (h : pgIn i p w) (ho : o < w) : inSpan i (p + o) :=
  ⟨h.1, Nat.le_trans h.2.1 (Nat.le_add_right _ _), Nat.lt_of_lt_of_le (Nat.add_lt_add_left ho p) h.2.2⟩
theorem in_pg2 {i p w o q : Nat} (h : pgIn i p w) (ho : o + q < w) : inSpan i (p + o + q) := by
  rw [Nat.add_assoc]
  exact in_pg h ho
theorem in_pg3 {i p w o q r : Nat} (h : pgIn i p w) (ho : o + q + r < w) : inSpan i (p + o + q + r) := by
  rw [Nat.add_assoc p o q]
  rw [Nat.add_assoc p (o + q) r]
  exact in_pg h ho
theorem all_off {L : List Fld} {x : Fld} {w k : Nat} (hx : x ∈ L)
    (h : (L.all fun f => decide (f.off + k * f.stride < w)) = true) : x.off + k * x.stride < w :=
  of_decide_eq_true (List.all_eq_true.mp h x hx)
theorem off_le {f : Fld} {j n w : Nat} (hj : j < n) (h : f.off + (n - 1) * f.stride < w) : f.off + j * f.stride < w :=
  Nat.lt_of_le_of_lt (Nat.add_le_add_left (Nat.mul_le_mul_right _ (Nat.le_sub_one_of_lt hj)) _) h
theorem pg_4 (n : Nat) : pgIn 4 (pCrc n) 0x1000 :=
  ⟨by decide, Nat.le_add_right _ _, by show pCrc n + 0x1000 ≤ 0x8000; unfold pCrc; omega⟩
theorem pg_6 (n : Nat) : pgIn 6 (pSeat n) 0x1000 :=
  ⟨by decide, Nat.le_add_right _ _, by show pSeat n + 0x1000 ≤ 0x20000; unfold pSeat; omega⟩
theorem pg_8 (n : Nat) : pgIn 8 (pEvtp n) 0x1000 :=
  ⟨by decide, Nat.le_add_right _ _, by show pEvtp n + 0x1000 ≤ 0x31000; unfold pEvtp; omega⟩
theorem pg_14 (n : Nat) : pgIn 14 (pEth n) 0x1000 :=
  ⟨by decide, Nat.le_add_right _ _, by show pEth n + 0x1000 ≤ 0x58000; unfold pEth; omega⟩
theorem pg_17 (n : Nat) : pgIn 17 (pView n) 0x1000 :=
  ⟨by decide, Nat.le_add_right _ _, by show pView n + 0x1000 ≤ 0x89000; unfold pView; omega⟩
theorem pg_18 (n : Nat) : pgIn 18 (pLyr n) 0x1000 :=
  ⟨by decide, Nat.le_add_right _ _, by show pLyr n + 0x1000 ≤ 0x200000; unfold pLyr; omega⟩
theorem pg_22 (n : Nat) : pgIn 22 (pWl n) 0x1000 :=
  ⟨by decide, Nat.le_add_right _ _, by show pWl n + 0x1000 ≤ 0x600000; unfold pWl; omega⟩
theorem pg_23 (n : Nat) : pgIn 23 (pSer n) 0x1000 :=
  ⟨by decide, Nat.le_add_right _ _, by show pSer n + 0x1000 ≤ 0x640000; unfold pSer; omega⟩
theorem pg_25 (n : Nat) : pgIn 25 (pMc n) 0x1000 :=
  ⟨by decide, Nat.le_add_right _ _, by show pMc n + 0x1000 ≤ 0x721000; unfold pMc; omega⟩
theorem pg_28 (n : Nat) : pgIn 28 (pFlow n) 0x400 :=
  ⟨by decide, Nat.le_add_right _ _, by show pFlow n + 0x400 ≤ 0x890000; unfold pFlow; omega⟩
theorem pg_29 (n : Nat) : pgIn 29 (pTile n) 0x40 :=
  ⟨by decide, Nat.le_add_right _ _, by show pTile n + 0x40 ≤ 0x940000; unfold pTile; omega⟩
theorem pg_30 (n : Nat) : pgIn 30 (pZn n) 0x40 :=
  ⟨by decide, Nat.le_add_right _ _, by show pZn n + 0x40 ≤ 0x944000; unfold pZn; omega⟩
theorem pg_12 (n : Nat) : pgIn 12 (pSa n) 0x1000 :=
  ⟨by decide, Nat.le_add_right _ _, by show pSa n + 0x1000 ≤ 0x4A000; unfold pSa pSvl; omega⟩
theorem pg_13 (n : Nat) : pgIn 13 (pSb n) 0x1000 :=
  ⟨by decide, by show 0x4A000 ≤ pSb n; unfold pSb pSvl; omega,
    by show pSb n + 0x1000 ≤ 0x4E000; unfold pSb pSvl; omega⟩
theorem spanLo_0 : spanLo 0 = 0 := rfl
theorem spanHi_0 : spanHi 0 = 0x1000 := rfl
theorem spanLo_1 : spanLo 1 = 0x1000 := rfl
theorem spanHi_1 : spanHi 1 = 0x2000 := rfl
theorem spanLo_2 : spanLo 2 = 0x2000 := rfl
theorem spanHi_2 : spanHi 2 = 0x3000 := rfl
theorem spanLo_3 : spanLo 3 = 0x3000 := rfl
theorem spanHi_3 : spanHi 3 = 0x4000 := rfl
theorem spanLo_4 : spanLo 4 = 0x4000 := rfl
theorem spanHi_4 : spanHi 4 = 0x8000 := rfl
theorem spanLo_5 : spanLo 5 = 0x8000 := rfl
theorem spanHi_5 : spanHi 5 = 0x9000 := rfl
theorem spanLo_6 : spanLo 6 = 0x10000 := rfl
theorem spanHi_6 : spanHi 6 = 0x20000 := rfl
theorem spanLo_7 : spanLo 7 = 0x20000 := rfl
theorem spanHi_7 : spanHi 7 = 0x21000 := rfl
theorem spanLo_8 : spanLo 8 = 0x21000 := rfl
theorem spanHi_8 : spanHi 8 = 0x31000 := rfl
theorem spanLo_9 : spanLo 9 = 0x31000 := rfl
theorem spanHi_9 : spanHi 9 = 0x32000 := rfl
theorem spanLo_10 : spanLo 10 = 0x40000 := rfl
theorem spanHi_10 : spanHi 10 = 0x41000 := rfl
theorem spanLo_11 : spanLo 11 = 0x41000 := rfl
theorem spanHi_11 : spanHi 11 = 0x42000 := rfl
theorem spanLo_12 : spanLo 12 = 0x42000 := rfl
theorem spanHi_12 : spanHi 12 = 0x4A000 := rfl
theorem spanLo_13 : spanLo 13 = 0x4A000 := rfl
theorem spanHi_13 : spanHi 13 = 0x4E000 := rfl
theorem spanLo_14 : spanLo 14 = 0x50000 := rfl
theorem spanHi_14 : spanHi 14 = 0x58000 := rfl
theorem spanLo_15 : spanLo 15 = 0x60000 := rfl
theorem spanHi_15 : spanHi 15 = 0x61000 := rfl
theorem spanLo_16 : spanLo 16 = 0x80000 := rfl
theorem spanHi_16 : spanHi 16 = 0x81000 := rfl
theorem spanLo_17 : spanLo 17 = 0x81000 := rfl
theorem spanHi_17 : spanHi 17 = 0x89000 := rfl
theorem spanLo_18 : spanLo 18 = 0x100000 := rfl
theorem spanHi_18 : spanHi 18 = 0x200000 := rfl
theorem spanLo_19 : spanLo 19 = 0x200000 := rfl
theorem spanHi_19 : spanHi 19 = 0x201000 := rfl
theorem spanLo_20 : spanLo 20 = 0x201000 := rfl
theorem spanHi_20 : spanHi 20 = 0x202000 := rfl
theorem spanLo_21 : spanLo 21 = 0x202000 := rfl
theorem spanHi_21 : spanHi 21 = 0x203000 := rfl
theorem spanLo_22 : spanLo 22 = 0x400000 := rfl
theorem spanHi_22 : spanHi 22 = 0x600000 := rfl
theorem spanLo_23 : spanLo 23 = 0x600000 := rfl
theorem spanHi_23 : spanHi 23 = 0x640000 := rfl
theorem spanLo_24 : spanLo 24 = 0x700000 := rfl
theorem spanHi_24 : spanHi 24 = 0x701000 := rfl
theorem spanLo_25 : spanLo 25 = 0x701000 := rfl
theorem spanHi_25 : spanHi 25 = 0x721000 := rfl
theorem spanLo_26 : spanLo 26 = 0x780000 := rfl
theorem spanHi_26 : spanHi 26 = 0x781000 := rfl
theorem spanLo_27 : spanLo 27 = 0x781000 := rfl
theorem spanHi_27 : spanHi 27 = 0x782000 := rfl
theorem spanLo_28 : spanLo 28 = 0x880000 := rfl
theorem spanHi_28 : spanHi 28 = 0x890000 := rfl
theorem spanLo_29 : spanLo 29 = 0x900000 := rfl
theorem spanHi_29 : spanHi 29 = 0x940000 := rfl
theorem spanLo_30 : spanLo 30 = 0x940000 := rfl
theorem spanHi_30 : spanHi 30 = 0x944000 := rfl
theorem spanLo_31 : spanLo 31 = 0x1000000 := rfl
theorem spanHi_31 : spanHi 31 = 0x1004000 := rfl
theorem spanLo_32 : spanLo 32 = 0x10000000 := rfl
theorem spanHi_32 : spanHi 32 = 0x200000000 := rfl
theorem ge_31 (b x p k : Nat) : spanLo 31 ≤ coefKey b x p k := by
  have h : spanLo 31 = 0x1000000 := rfl
  rw [h, coefKey]
  omega
theorem in_31 (b x p k : Nat) : inSpan 31 (coefKey b x p k) := by
  refine ⟨by decide, ge_31 b x p k, ?_⟩
  show coefKey b x p k < 0x1004000
  unfold coefKey
  omega
theorem ge_32 (k a : Nat) : spanLo 32 ≤ seatKey k a := by
  have h : spanLo 32 = 2 ^ 28 := rfl
  rw [h, seatKey]
  omega

/-- A repeated register of a single page. -/
theorem in_page {p o st j : Nat} (i n : Nat) (hi : i < 33) (hp : spanLo i ≤ p) (hj : j < n) (hn : p + o + n * st < spanHi i) :
    inSpan i (p + o + j * st) := by
  have : j * st ≤ n * st := Nat.mul_le_mul_right _ (Nat.le_of_lt hj)
  exact ⟨hi, by omega, by omega⟩
theorem keeps_setFld_ix {m : Nat} {r s : State} {p : Nat} {f : Fld} {v j : Nat} (i n : Nat) (hm : m.testBit i = true) (hi : i < 33)
    (hp : spanLo i ≤ p) (hj : j < n) (hn : p + f.off + n * f.stride < spanHi i) (h : Keeps m r s) : Keeps m r (s.setFld p f v j) :=
  keeps_setFld_in i hm (in_page i n hi hp hj hn) h
theorem keeps_setS_ix {m : Nat} {r s : State} {p : Nat} {f : Fld} {v : Int} {j : Nat} (i n : Nat) (hm : m.testBit i = true) (hi : i < 33)
    (hp : spanLo i ≤ p) (hj : j < n) (hn : p + f.off + n * f.stride < spanHi i) (h : Keeps m r s) : Keeps m r (s.setS p f v j) :=
  keeps_setFld_ix i n hm hi hp hj hn h
theorem keeps_inc_ix {m : Nat} {r s : State} {p : Nat} {f : Fld} {j k : Nat} (i n : Nat) (hm : m.testBit i = true) (hi : i < 33)
    (hp : spanLo i ≤ p) (hj : j < n) (hn : p + f.off + n * f.stride < spanHi i) (h : Keeps m r s) : Keeps m r (s.inc p f j k) :=
  keeps_setFld_ix i n hm hi hp hj hn h
theorem keeps_each_mem {m : Nat} {α : Type} {r s : State} {l : List α} {f : State → α → State}
    (h : ∀ s, ∀ x ∈ l, Keeps m s (f s x)) (hs : Keeps m r s) : Keeps m r (s.each l f) := by
  induction l generalizing s with
  | nil => exact hs
  | cons x t ih => exact ih (fun s y hy => h s y (by simp [hy])) (hs.trans (h s x (by simp)))


/-! ### Changes of components, one lemma for each set that some operation changes at once -/

theorem keeps_with_hostMem_out {m : Nat} {r s : State} {v_hostMem : Sparse Byte} {v_out : List Out} (hm : 0x10a00000000 &&& m = 0x10a00000000) (h : Keeps m r s) :
    Keeps m r { s with hostMem := v_hostMem, out := v_out } := by
  refine h.trans (Keeps.mono (n := 0x10a00000000) ?_ hm)
  exact
  { kept := ⟨rfl, id, id⟩, regs := fun _ _ _ _ _ => rfl
    store := fun x => absurd x (by decide)
    free := fun _ => rfl, out := fun x => absurd x (by decide), force := fun _ => rfl, latch := fun _ => rfl,
    lowHalf := fun _ => rfl, mem := fun _ => rfl, hostMem := fun x => absurd x (by decide), rings := fun _ => rfl,
    stale := fun _ => rfl, commands := fun _ => rfl, clk := fun _ => rfl, pow := fun _ => rfl, cyc := fun _ => rfl,
    flows := fun _ => rfl, ports := fun _ => rfl, views := fun _ => rfl, feeds := fun _ => rfl,
    lanes := fun _ => rfl, busy := fun _ => rfl, chans := fun _ => rfl, credits := fun _ => rfl,
    house := fun _ => rfl, ptp := fun _ => rfl, touts := fun _ => rfl, tcaps := fun _ => rfl,
    ppsHigh := fun _ => rfl, servos := fun _ => rfl, evt := fun _ => rfl, dgs := fun _ => rfl,
    resp := fun _ => rfl, respLoad := fun _ => rfl, cap := fun _ => rfl, corrTouched := fun _ => rfl,
    play := fun _ => rfl, flashMem := fun _ => rfl, flashOp := fun _ => rfl, drives := fun _ => rfl,
    storeOp := fun _ => rfl, storeWait := fun _ => rfl, job := fun _ => rfl, aborts := fun _ => rfl,
    panic := fun _ => rfl, rateWait := fun _ => rfl, powerReq := fun _ => rfl, image := fun _ => rfl,
    bar4 := fun _ => rfl, cfgSpace := fun _ => rfl, tap := fun _ => rfl, lines := fun _ => rfl,
    linkRt := fun _ => rfl, rateTo := fun _ => rfl, bar2Held := fun _ => rfl }
theorem keeps_with_clk {m : Nat} {r s : State} {v_clk : Clock} (hm : 0x100000000000 &&& m = 0x100000000000) (h : Keeps m r s) :
    Keeps m r { s with clk := v_clk } := by
  refine h.trans (Keeps.mono (n := 0x100000000000) ?_ hm)
  exact
  { kept := ⟨rfl, id, id⟩, regs := fun _ _ _ _ _ => rfl
    store := fun _ => ⟨fun _ => ⟨rfl, rfl, rfl⟩, rfl, fun _ _ => rfl, fun _ _ => rfl⟩
    free := fun _ => rfl, out := fun _ => rfl, force := fun _ => rfl, latch := fun _ => rfl,
    lowHalf := fun _ => rfl, mem := fun _ => rfl, hostMem := fun _ => rfl, rings := fun _ => rfl,
    stale := fun _ => rfl, commands := fun _ => rfl, clk := fun x => absurd x (by decide), pow := fun _ => rfl,
    cyc := fun _ => rfl, flows := fun _ => rfl, ports := fun _ => rfl, views := fun _ => rfl,
    feeds := fun _ => rfl, lanes := fun _ => rfl, busy := fun _ => rfl, chans := fun _ => rfl,
    credits := fun _ => rfl, house := fun _ => rfl, ptp := fun _ => rfl, touts := fun _ => rfl,
    tcaps := fun _ => rfl, ppsHigh := fun _ => rfl, servos := fun _ => rfl, evt := fun _ => rfl,
    dgs := fun _ => rfl, resp := fun _ => rfl, respLoad := fun _ => rfl, cap := fun _ => rfl,
    corrTouched := fun _ => rfl, play := fun _ => rfl, flashMem := fun _ => rfl, flashOp := fun _ => rfl,
    drives := fun _ => rfl, storeOp := fun _ => rfl, storeWait := fun _ => rfl, job := fun _ => rfl,
    aborts := fun _ => rfl, panic := fun _ => rfl, rateWait := fun _ => rfl, powerReq := fun _ => rfl,
    image := fun _ => rfl, bar4 := fun _ => rfl, cfgSpace := fun _ => rfl, tap := fun _ => rfl,
    lines := fun _ => rfl, linkRt := fun _ => rfl, rateTo := fun _ => rfl, bar2Held := fun _ => rfl }
theorem keeps_with_rings {m : Nat} {r s : State} {v_rings : Sparse Ring} (hm : 0x20200000000 &&& m = 0x20200000000) (h : Keeps m r s) :
    Keeps m r { s with rings := v_rings } := by
  refine h.trans (Keeps.mono (n := 0x20200000000) ?_ hm)
  exact
  { kept := ⟨rfl, id, id⟩, regs := fun _ _ _ _ _ => rfl
    store := fun x => absurd x (by decide)
    free := fun _ => rfl, out := fun _ => rfl, force := fun _ => rfl, latch := fun _ => rfl,
    lowHalf := fun _ => rfl, mem := fun _ => rfl, hostMem := fun _ => rfl, rings := fun x => absurd x (by decide),
    stale := fun _ => rfl, commands := fun _ => rfl, clk := fun _ => rfl, pow := fun _ => rfl, cyc := fun _ => rfl,
    flows := fun _ => rfl, ports := fun _ => rfl, views := fun _ => rfl, feeds := fun _ => rfl,
    lanes := fun _ => rfl, busy := fun _ => rfl, chans := fun _ => rfl, credits := fun _ => rfl,
    house := fun _ => rfl, ptp := fun _ => rfl, touts := fun _ => rfl, tcaps := fun _ => rfl,
    ppsHigh := fun _ => rfl, servos := fun _ => rfl, evt := fun _ => rfl, dgs := fun _ => rfl,
    resp := fun _ => rfl, respLoad := fun _ => rfl, cap := fun _ => rfl, corrTouched := fun _ => rfl,
    play := fun _ => rfl, flashMem := fun _ => rfl, flashOp := fun _ => rfl, drives := fun _ => rfl,
    storeOp := fun _ => rfl, storeWait := fun _ => rfl, job := fun _ => rfl, aborts := fun _ => rfl,
    panic := fun _ => rfl, rateWait := fun _ => rfl, powerReq := fun _ => rfl, image := fun _ => rfl,
    bar4 := fun _ => rfl, cfgSpace := fun _ => rfl, tap := fun _ => rfl, lines := fun _ => rfl,
    linkRt := fun _ => rfl, rateTo := fun _ => rfl, bar2Held := fun _ => rfl }
theorem keeps_with_bar4 {m : Nat} {r s : State} {v_bar4 : Sparse Word} (hm : 0x80000000000000000000 &&& m = 0x80000000000000000000) (h : Keeps m r s) :
    Keeps m r { s with bar4 := v_bar4 } := by
  refine h.trans (Keeps.mono (n := 0x80000000000000000000) ?_ hm)
  exact
  { kept := ⟨rfl, id, id⟩, regs := fun _ _ _ _ _ => rfl
    store := fun _ => ⟨fun _ => ⟨rfl, rfl, rfl⟩, rfl, fun _ _ => rfl, fun _ _ => rfl⟩
    free := fun _ => rfl, out := fun _ => rfl, force := fun _ => rfl, latch := fun _ => rfl,
    lowHalf := fun _ => rfl, mem := fun _ => rfl, hostMem := fun _ => rfl, rings := fun _ => rfl,
    stale := fun _ => rfl, commands := fun _ => rfl, clk := fun _ => rfl, pow := fun _ => rfl, cyc := fun _ => rfl,
    flows := fun _ => rfl, ports := fun _ => rfl, views := fun _ => rfl, feeds := fun _ => rfl,
    lanes := fun _ => rfl, busy := fun _ => rfl, chans := fun _ => rfl, credits := fun _ => rfl,
    house := fun _ => rfl, ptp := fun _ => rfl, touts := fun _ => rfl, tcaps := fun _ => rfl,
    ppsHigh := fun _ => rfl, servos := fun _ => rfl, evt := fun _ => rfl, dgs := fun _ => rfl,
    resp := fun _ => rfl, respLoad := fun _ => rfl, cap := fun _ => rfl, corrTouched := fun _ => rfl,
    play := fun _ => rfl, flashMem := fun _ => rfl, flashOp := fun _ => rfl, drives := fun _ => rfl,
    storeOp := fun _ => rfl, storeWait := fun _ => rfl, job := fun _ => rfl, aborts := fun _ => rfl,
    panic := fun _ => rfl, rateWait := fun _ => rfl, powerReq := fun _ => rfl, image := fun _ => rfl,
    bar4 := fun x => absurd x (by decide), cfgSpace := fun _ => rfl, tap := fun _ => rfl, lines := fun _ => rfl,
    linkRt := fun _ => rfl, rateTo := fun _ => rfl, bar2Held := fun _ => rfl }
theorem keeps_with_ports {m : Nat} {r s : State} {v_ports : Sparse PortRt} (hm : 0x1000000000000 &&& m = 0x1000000000000) (h : Keeps m r s) :
    Keeps m r { s with ports := v_ports } := by
  refine h.trans (Keeps.mono (n := 0x1000000000000) ?_ hm)
  exact
  { kept := ⟨rfl, id, id⟩, regs := fun _ _ _ _ _ => rfl
    store := fun _ => ⟨fun _ => ⟨rfl, rfl, rfl⟩, rfl, fun _ _ => rfl, fun _ _ => rfl⟩
    free := fun _ => rfl, out := fun _ => rfl, force := fun _ => rfl, latch := fun _ => rfl,
    lowHalf := fun _ => rfl, mem := fun _ => rfl, hostMem := fun _ => rfl, rings := fun _ => rfl,
    stale := fun _ => rfl, commands := fun _ => rfl, clk := fun _ => rfl, pow := fun _ => rfl, cyc := fun _ => rfl,
    flows := fun _ => rfl, ports := fun x => absurd x (by decide), views := fun _ => rfl, feeds := fun _ => rfl,
    lanes := fun _ => rfl, busy := fun _ => rfl, chans := fun _ => rfl, credits := fun _ => rfl,
    house := fun _ => rfl, ptp := fun _ => rfl, touts := fun _ => rfl, tcaps := fun _ => rfl,
    ppsHigh := fun _ => rfl, servos := fun _ => rfl, evt := fun _ => rfl, dgs := fun _ => rfl,
    resp := fun _ => rfl, respLoad := fun _ => rfl, cap := fun _ => rfl, corrTouched := fun _ => rfl,
    play := fun _ => rfl, flashMem := fun _ => rfl, flashOp := fun _ => rfl, drives := fun _ => rfl,
    storeOp := fun _ => rfl, storeWait := fun _ => rfl, job := fun _ => rfl, aborts := fun _ => rfl,
    panic := fun _ => rfl, rateWait := fun _ => rfl, powerReq := fun _ => rfl, image := fun _ => rfl,
    bar4 := fun _ => rfl, cfgSpace := fun _ => rfl, tap := fun _ => rfl, lines := fun _ => rfl,
    linkRt := fun _ => rfl, rateTo := fun _ => rfl, bar2Held := fun _ => rfl }
theorem keeps_with_evt {m : Nat} {r s : State} {v_evt : Events} (hm : 0x2000000000000000 &&& m = 0x2000000000000000) (h : Keeps m r s) :
    Keeps m r { s with evt := v_evt } := by
  refine h.trans (Keeps.mono (n := 0x2000000000000000) ?_ hm)
  exact
  { kept := ⟨rfl, id, id⟩, regs := fun _ _ _ _ _ => rfl
    store := fun _ => ⟨fun _ => ⟨rfl, rfl, rfl⟩, rfl, fun _ _ => rfl, fun _ _ => rfl⟩
    free := fun _ => rfl, out := fun _ => rfl, force := fun _ => rfl, latch := fun _ => rfl,
    lowHalf := fun _ => rfl, mem := fun _ => rfl, hostMem := fun _ => rfl, rings := fun _ => rfl,
    stale := fun _ => rfl, commands := fun _ => rfl, clk := fun _ => rfl, pow := fun _ => rfl, cyc := fun _ => rfl,
    flows := fun _ => rfl, ports := fun _ => rfl, views := fun _ => rfl, feeds := fun _ => rfl,
    lanes := fun _ => rfl, busy := fun _ => rfl, chans := fun _ => rfl, credits := fun _ => rfl,
    house := fun _ => rfl, ptp := fun _ => rfl, touts := fun _ => rfl, tcaps := fun _ => rfl,
    ppsHigh := fun _ => rfl, servos := fun _ => rfl, evt := fun x => absurd x (by decide), dgs := fun _ => rfl,
    resp := fun _ => rfl, respLoad := fun _ => rfl, cap := fun _ => rfl, corrTouched := fun _ => rfl,
    play := fun _ => rfl, flashMem := fun _ => rfl, flashOp := fun _ => rfl, drives := fun _ => rfl,
    storeOp := fun _ => rfl, storeWait := fun _ => rfl, job := fun _ => rfl, aborts := fun _ => rfl,
    panic := fun _ => rfl, rateWait := fun _ => rfl, powerReq := fun _ => rfl, image := fun _ => rfl,
    bar4 := fun _ => rfl, cfgSpace := fun _ => rfl, tap := fun _ => rfl, lines := fun _ => rfl,
    linkRt := fun _ => rfl, rateTo := fun _ => rfl, bar2Held := fun _ => rfl }
theorem keeps_with_commands {m : Nat} {r s : State} {v_commands : Sparse (Option Nat)} (hm : 0x80000000000 &&& m = 0x80000000000) (h : Keeps m r s) :
    Keeps m r { s with commands := v_commands } := by
  refine h.trans (Keeps.mono (n := 0x80000000000) ?_ hm)
  exact
  { kept := ⟨rfl, id, id⟩, regs := fun _ _ _ _ _ => rfl
    store := fun _ => ⟨fun _ => ⟨rfl, rfl, rfl⟩, rfl, fun _ _ => rfl, fun _ _ => rfl⟩
    free := fun _ => rfl, out := fun _ => rfl, force := fun _ => rfl, latch := fun _ => rfl,
    lowHalf := fun _ => rfl, mem := fun _ => rfl, hostMem := fun _ => rfl, rings := fun _ => rfl,
    stale := fun _ => rfl, commands := fun x => absurd x (by decide), clk := fun _ => rfl, pow := fun _ => rfl,
    cyc := fun _ => rfl, flows := fun _ => rfl, ports := fun _ => rfl, views := fun _ => rfl,
    feeds := fun _ => rfl, lanes := fun _ => rfl, busy := fun _ => rfl, chans := fun _ => rfl,
    credits := fun _ => rfl, house := fun _ => rfl, ptp := fun _ => rfl, touts := fun _ => rfl,
    tcaps := fun _ => rfl, ppsHigh := fun _ => rfl, servos := fun _ => rfl, evt := fun _ => rfl,
    dgs := fun _ => rfl, resp := fun _ => rfl, respLoad := fun _ => rfl, cap := fun _ => rfl,
    corrTouched := fun _ => rfl, play := fun _ => rfl, flashMem := fun _ => rfl, flashOp := fun _ => rfl,
    drives := fun _ => rfl, storeOp := fun _ => rfl, storeWait := fun _ => rfl, job := fun _ => rfl,
    aborts := fun _ => rfl, panic := fun _ => rfl, rateWait := fun _ => rfl, powerReq := fun _ => rfl,
    image := fun _ => rfl, bar4 := fun _ => rfl, cfgSpace := fun _ => rfl, tap := fun _ => rfl,
    lines := fun _ => rfl, linkRt := fun _ => rfl, rateTo := fun _ => rfl, bar2Held := fun _ => rfl }
theorem keeps_with_stale {m : Nat} {r s : State} {v_stale : List Nat} (hm : 0x40000000000 &&& m = 0x40000000000) (h : Keeps m r s) :
    Keeps m r { s with stale := v_stale } := by
  refine h.trans (Keeps.mono (n := 0x40000000000) ?_ hm)
  exact
  { kept := ⟨rfl, id, id⟩, regs := fun _ _ _ _ _ => rfl
    store := fun _ => ⟨fun _ => ⟨rfl, rfl, rfl⟩, rfl, fun _ _ => rfl, fun _ _ => rfl⟩
    free := fun _ => rfl, out := fun _ => rfl, force := fun _ => rfl, latch := fun _ => rfl,
    lowHalf := fun _ => rfl, mem := fun _ => rfl, hostMem := fun _ => rfl, rings := fun _ => rfl,
    stale := fun x => absurd x (by decide), commands := fun _ => rfl, clk := fun _ => rfl, pow := fun _ => rfl,
    cyc := fun _ => rfl, flows := fun _ => rfl, ports := fun _ => rfl, views := fun _ => rfl,
    feeds := fun _ => rfl, lanes := fun _ => rfl, busy := fun _ => rfl, chans := fun _ => rfl,
    credits := fun _ => rfl, house := fun _ => rfl, ptp := fun _ => rfl, touts := fun _ => rfl,
    tcaps := fun _ => rfl, ppsHigh := fun _ => rfl, servos := fun _ => rfl, evt := fun _ => rfl,
    dgs := fun _ => rfl, resp := fun _ => rfl, respLoad := fun _ => rfl, cap := fun _ => rfl,
    corrTouched := fun _ => rfl, play := fun _ => rfl, flashMem := fun _ => rfl, flashOp := fun _ => rfl,
    drives := fun _ => rfl, storeOp := fun _ => rfl, storeWait := fun _ => rfl, job := fun _ => rfl,
    aborts := fun _ => rfl, panic := fun _ => rfl, rateWait := fun _ => rfl, powerReq := fun _ => rfl,
    image := fun _ => rfl, bar4 := fun _ => rfl, cfgSpace := fun _ => rfl, tap := fun _ => rfl,
    lines := fun _ => rfl, linkRt := fun _ => rfl, rateTo := fun _ => rfl, bar2Held := fun _ => rfl }
theorem keeps_with_servos {m : Nat} {r s : State} {v_servos : Sparse Servo} (hm : 0x1000000000000000 &&& m = 0x1000000000000000) (h : Keeps m r s) :
    Keeps m r { s with servos := v_servos } := by
  refine h.trans (Keeps.mono (n := 0x1000000000000000) ?_ hm)
  exact
  { kept := ⟨rfl, id, id⟩, regs := fun _ _ _ _ _ => rfl
    store := fun _ => ⟨fun _ => ⟨rfl, rfl, rfl⟩, rfl, fun _ _ => rfl, fun _ _ => rfl⟩
    free := fun _ => rfl, out := fun _ => rfl, force := fun _ => rfl, latch := fun _ => rfl,
    lowHalf := fun _ => rfl, mem := fun _ => rfl, hostMem := fun _ => rfl, rings := fun _ => rfl,
    stale := fun _ => rfl, commands := fun _ => rfl, clk := fun _ => rfl, pow := fun _ => rfl, cyc := fun _ => rfl,
    flows := fun _ => rfl, ports := fun _ => rfl, views := fun _ => rfl, feeds := fun _ => rfl,
    lanes := fun _ => rfl, busy := fun _ => rfl, chans := fun _ => rfl, credits := fun _ => rfl,
    house := fun _ => rfl, ptp := fun _ => rfl, touts := fun _ => rfl, tcaps := fun _ => rfl,
    ppsHigh := fun _ => rfl, servos := fun x => absurd x (by decide), evt := fun _ => rfl, dgs := fun _ => rfl,
    resp := fun _ => rfl, respLoad := fun _ => rfl, cap := fun _ => rfl, corrTouched := fun _ => rfl,
    play := fun _ => rfl, flashMem := fun _ => rfl, flashOp := fun _ => rfl, drives := fun _ => rfl,
    storeOp := fun _ => rfl, storeWait := fun _ => rfl, job := fun _ => rfl, aborts := fun _ => rfl,
    panic := fun _ => rfl, rateWait := fun _ => rfl, powerReq := fun _ => rfl, image := fun _ => rfl,
    bar4 := fun _ => rfl, cfgSpace := fun _ => rfl, tap := fun _ => rfl, lines := fun _ => rfl,
    linkRt := fun _ => rfl, rateTo := fun _ => rfl, bar2Held := fun _ => rfl }
theorem keeps_with_cyc {m : Nat} {r s : State} {v_cyc : Cycles} (hm : 0x400000000000 &&& m = 0x400000000000) (h : Keeps m r s) :
    Keeps m r { s with cyc := v_cyc } := by
  refine h.trans (Keeps.mono (n := 0x400000000000) ?_ hm)
  exact
  { kept := ⟨rfl, id, id⟩, regs := fun _ _ _ _ _ => rfl
    store := fun _ => ⟨fun _ => ⟨rfl, rfl, rfl⟩, rfl, fun _ _ => rfl, fun _ _ => rfl⟩
    free := fun _ => rfl, out := fun _ => rfl, force := fun _ => rfl, latch := fun _ => rfl,
    lowHalf := fun _ => rfl, mem := fun _ => rfl, hostMem := fun _ => rfl, rings := fun _ => rfl,
    stale := fun _ => rfl, commands := fun _ => rfl, clk := fun _ => rfl, pow := fun _ => rfl,
    cyc := fun x => absurd x (by decide), flows := fun _ => rfl, ports := fun _ => rfl, views := fun _ => rfl,
    feeds := fun _ => rfl, lanes := fun _ => rfl, busy := fun _ => rfl, chans := fun _ => rfl,
    credits := fun _ => rfl, house := fun _ => rfl, ptp := fun _ => rfl, touts := fun _ => rfl,
    tcaps := fun _ => rfl, ppsHigh := fun _ => rfl, servos := fun _ => rfl, evt := fun _ => rfl,
    dgs := fun _ => rfl, resp := fun _ => rfl, respLoad := fun _ => rfl, cap := fun _ => rfl,
    corrTouched := fun _ => rfl, play := fun _ => rfl, flashMem := fun _ => rfl, flashOp := fun _ => rfl,
    drives := fun _ => rfl, storeOp := fun _ => rfl, storeWait := fun _ => rfl, job := fun _ => rfl,
    aborts := fun _ => rfl, panic := fun _ => rfl, rateWait := fun _ => rfl, powerReq := fun _ => rfl,
    image := fun _ => rfl, bar4 := fun _ => rfl, cfgSpace := fun _ => rfl, tap := fun _ => rfl,
    lines := fun _ => rfl, linkRt := fun _ => rfl, rateTo := fun _ => rfl, bar2Held := fun _ => rfl }
theorem keeps_with_ptp {m : Nat} {r s : State} {v_ptp : Ptp} (hm : 0x100000000000000 &&& m = 0x100000000000000) (h : Keeps m r s) :
    Keeps m r { s with ptp := v_ptp } := by
  refine h.trans (Keeps.mono (n := 0x100000000000000) ?_ hm)
  exact
  { kept := ⟨rfl, id, id⟩, regs := fun _ _ _ _ _ => rfl
    store := fun _ => ⟨fun _ => ⟨rfl, rfl, rfl⟩, rfl, fun _ _ => rfl, fun _ _ => rfl⟩
    free := fun _ => rfl, out := fun _ => rfl, force := fun _ => rfl, latch := fun _ => rfl,
    lowHalf := fun _ => rfl, mem := fun _ => rfl, hostMem := fun _ => rfl, rings := fun _ => rfl,
    stale := fun _ => rfl, commands := fun _ => rfl, clk := fun _ => rfl, pow := fun _ => rfl, cyc := fun _ => rfl,
    flows := fun _ => rfl, ports := fun _ => rfl, views := fun _ => rfl, feeds := fun _ => rfl,
    lanes := fun _ => rfl, busy := fun _ => rfl, chans := fun _ => rfl, credits := fun _ => rfl,
    house := fun _ => rfl, ptp := fun x => absurd x (by decide), touts := fun _ => rfl, tcaps := fun _ => rfl,
    ppsHigh := fun _ => rfl, servos := fun _ => rfl, evt := fun _ => rfl, dgs := fun _ => rfl,
    resp := fun _ => rfl, respLoad := fun _ => rfl, cap := fun _ => rfl, corrTouched := fun _ => rfl,
    play := fun _ => rfl, flashMem := fun _ => rfl, flashOp := fun _ => rfl, drives := fun _ => rfl,
    storeOp := fun _ => rfl, storeWait := fun _ => rfl, job := fun _ => rfl, aborts := fun _ => rfl,
    panic := fun _ => rfl, rateWait := fun _ => rfl, powerReq := fun _ => rfl, image := fun _ => rfl,
    bar4 := fun _ => rfl, cfgSpace := fun _ => rfl, tap := fun _ => rfl, lines := fun _ => rfl,
    linkRt := fun _ => rfl, rateTo := fun _ => rfl, bar2Held := fun _ => rfl }
theorem keeps_with_touts {m : Nat} {r s : State} {v_touts : Sparse Tout} (hm : 0x200000000000000 &&& m = 0x200000000000000) (h : Keeps m r s) :
    Keeps m r { s with touts := v_touts } := by
  refine h.trans (Keeps.mono (n := 0x200000000000000) ?_ hm)
  exact
  { kept := ⟨rfl, id, id⟩, regs := fun _ _ _ _ _ => rfl
    store := fun _ => ⟨fun _ => ⟨rfl, rfl, rfl⟩, rfl, fun _ _ => rfl, fun _ _ => rfl⟩
    free := fun _ => rfl, out := fun _ => rfl, force := fun _ => rfl, latch := fun _ => rfl,
    lowHalf := fun _ => rfl, mem := fun _ => rfl, hostMem := fun _ => rfl, rings := fun _ => rfl,
    stale := fun _ => rfl, commands := fun _ => rfl, clk := fun _ => rfl, pow := fun _ => rfl, cyc := fun _ => rfl,
    flows := fun _ => rfl, ports := fun _ => rfl, views := fun _ => rfl, feeds := fun _ => rfl,
    lanes := fun _ => rfl, busy := fun _ => rfl, chans := fun _ => rfl, credits := fun _ => rfl,
    house := fun _ => rfl, ptp := fun _ => rfl, touts := fun x => absurd x (by decide), tcaps := fun _ => rfl,
    ppsHigh := fun _ => rfl, servos := fun _ => rfl, evt := fun _ => rfl, dgs := fun _ => rfl,
    resp := fun _ => rfl, respLoad := fun _ => rfl, cap := fun _ => rfl, corrTouched := fun _ => rfl,
    play := fun _ => rfl, flashMem := fun _ => rfl, flashOp := fun _ => rfl, drives := fun _ => rfl,
    storeOp := fun _ => rfl, storeWait := fun _ => rfl, job := fun _ => rfl, aborts := fun _ => rfl,
    panic := fun _ => rfl, rateWait := fun _ => rfl, powerReq := fun _ => rfl, image := fun _ => rfl,
    bar4 := fun _ => rfl, cfgSpace := fun _ => rfl, tap := fun _ => rfl, lines := fun _ => rfl,
    linkRt := fun _ => rfl, rateTo := fun _ => rfl, bar2Held := fun _ => rfl }
theorem keeps_with_tcaps {m : Nat} {r s : State} {v_tcaps : Sparse Tcap} (hm : 0x400000000000000 &&& m = 0x400000000000000) (h : Keeps m r s) :
    Keeps m r { s with tcaps := v_tcaps } := by
  refine h.trans (Keeps.mono (n := 0x400000000000000) ?_ hm)
  exact
  { kept := ⟨rfl, id, id⟩, regs := fun _ _ _ _ _ => rfl
    store := fun _ => ⟨fun _ => ⟨rfl, rfl, rfl⟩, rfl, fun _ _ => rfl, fun _ _ => rfl⟩
    free := fun _ => rfl, out := fun _ => rfl, force := fun _ => rfl, latch := fun _ => rfl,
    lowHalf := fun _ => rfl, mem := fun _ => rfl, hostMem := fun _ => rfl, rings := fun _ => rfl,
    stale := fun _ => rfl, commands := fun _ => rfl, clk := fun _ => rfl, pow := fun _ => rfl, cyc := fun _ => rfl,
    flows := fun _ => rfl, ports := fun _ => rfl, views := fun _ => rfl, feeds := fun _ => rfl,
    lanes := fun _ => rfl, busy := fun _ => rfl, chans := fun _ => rfl, credits := fun _ => rfl,
    house := fun _ => rfl, ptp := fun _ => rfl, touts := fun _ => rfl, tcaps := fun x => absurd x (by decide),
    ppsHigh := fun _ => rfl, servos := fun _ => rfl, evt := fun _ => rfl, dgs := fun _ => rfl,
    resp := fun _ => rfl, respLoad := fun _ => rfl, cap := fun _ => rfl, corrTouched := fun _ => rfl,
    play := fun _ => rfl, flashMem := fun _ => rfl, flashOp := fun _ => rfl, drives := fun _ => rfl,
    storeOp := fun _ => rfl, storeWait := fun _ => rfl, job := fun _ => rfl, aborts := fun _ => rfl,
    panic := fun _ => rfl, rateWait := fun _ => rfl, powerReq := fun _ => rfl, image := fun _ => rfl,
    bar4 := fun _ => rfl, cfgSpace := fun _ => rfl, tap := fun _ => rfl, lines := fun _ => rfl,
    linkRt := fun _ => rfl, rateTo := fun _ => rfl, bar2Held := fun _ => rfl }
theorem keeps_with_ppsHigh {m : Nat} {r s : State} {v_ppsHigh : Bool} (hm : 0x800000000000000 &&& m = 0x800000000000000) (h : Keeps m r s) :
    Keeps m r { s with ppsHigh := v_ppsHigh } := by
  refine h.trans (Keeps.mono (n := 0x800000000000000) ?_ hm)
  exact
  { kept := ⟨rfl, id, id⟩, regs := fun _ _ _ _ _ => rfl
    store := fun _ => ⟨fun _ => ⟨rfl, rfl, rfl⟩, rfl, fun _ _ => rfl, fun _ _ => rfl⟩
    free := fun _ => rfl, out := fun _ => rfl, force := fun _ => rfl, latch := fun _ => rfl,
    lowHalf := fun _ => rfl, mem := fun _ => rfl, hostMem := fun _ => rfl, rings := fun _ => rfl,
    stale := fun _ => rfl, commands := fun _ => rfl, clk := fun _ => rfl, pow := fun _ => rfl, cyc := fun _ => rfl,
    flows := fun _ => rfl, ports := fun _ => rfl, views := fun _ => rfl, feeds := fun _ => rfl,
    lanes := fun _ => rfl, busy := fun _ => rfl, chans := fun _ => rfl, credits := fun _ => rfl,
    house := fun _ => rfl, ptp := fun _ => rfl, touts := fun _ => rfl, tcaps := fun _ => rfl,
    ppsHigh := fun x => absurd x (by decide), servos := fun _ => rfl, evt := fun _ => rfl, dgs := fun _ => rfl,
    resp := fun _ => rfl, respLoad := fun _ => rfl, cap := fun _ => rfl, corrTouched := fun _ => rfl,
    play := fun _ => rfl, flashMem := fun _ => rfl, flashOp := fun _ => rfl, drives := fun _ => rfl,
    storeOp := fun _ => rfl, storeWait := fun _ => rfl, job := fun _ => rfl, aborts := fun _ => rfl,
    panic := fun _ => rfl, rateWait := fun _ => rfl, powerReq := fun _ => rfl, image := fun _ => rfl,
    bar4 := fun _ => rfl, cfgSpace := fun _ => rfl, tap := fun _ => rfl, lines := fun _ => rfl,
    linkRt := fun _ => rfl, rateTo := fun _ => rfl, bar2Held := fun _ => rfl }
theorem keeps_with_credits {m : Nat} {r s : State} {v_credits : Sparse Credit} (hm : 0x40000000000000 &&& m = 0x40000000000000) (h : Keeps m r s) :
    Keeps m r { s with credits := v_credits } := by
  refine h.trans (Keeps.mono (n := 0x40000000000000) ?_ hm)
  exact
  { kept := ⟨rfl, id, id⟩, regs := fun _ _ _ _ _ => rfl
    store := fun _ => ⟨fun _ => ⟨rfl, rfl, rfl⟩, rfl, fun _ _ => rfl, fun _ _ => rfl⟩
    free := fun _ => rfl, out := fun _ => rfl, force := fun _ => rfl, latch := fun _ => rfl,
    lowHalf := fun _ => rfl, mem := fun _ => rfl, hostMem := fun _ => rfl, rings := fun _ => rfl,
    stale := fun _ => rfl, commands := fun _ => rfl, clk := fun _ => rfl, pow := fun _ => rfl, cyc := fun _ => rfl,
    flows := fun _ => rfl, ports := fun _ => rfl, views := fun _ => rfl, feeds := fun _ => rfl,
    lanes := fun _ => rfl, busy := fun _ => rfl, chans := fun _ => rfl, credits := fun x => absurd x (by decide),
    house := fun _ => rfl, ptp := fun _ => rfl, touts := fun _ => rfl, tcaps := fun _ => rfl,
    ppsHigh := fun _ => rfl, servos := fun _ => rfl, evt := fun _ => rfl, dgs := fun _ => rfl,
    resp := fun _ => rfl, respLoad := fun _ => rfl, cap := fun _ => rfl, corrTouched := fun _ => rfl,
    play := fun _ => rfl, flashMem := fun _ => rfl, flashOp := fun _ => rfl, drives := fun _ => rfl,
    storeOp := fun _ => rfl, storeWait := fun _ => rfl, job := fun _ => rfl, aborts := fun _ => rfl,
    panic := fun _ => rfl, rateWait := fun _ => rfl, powerReq := fun _ => rfl, image := fun _ => rfl,
    bar4 := fun _ => rfl, cfgSpace := fun _ => rfl, tap := fun _ => rfl, lines := fun _ => rfl,
    linkRt := fun _ => rfl, rateTo := fun _ => rfl, bar2Held := fun _ => rfl }
theorem keeps_with_house {m : Nat} {r s : State} {v_house : House} (hm : 0x80000000000000 &&& m = 0x80000000000000) (h : Keeps m r s) :
    Keeps m r { s with house := v_house } := by
  refine h.trans (Keeps.mono (n := 0x80000000000000) ?_ hm)
  exact
  { kept := ⟨rfl, id, id⟩, regs := fun _ _ _ _ _ => rfl
    store := fun _ => ⟨fun _ => ⟨rfl, rfl, rfl⟩, rfl, fun _ _ => rfl, fun _ _ => rfl⟩
    free := fun _ => rfl, out := fun _ => rfl, force := fun _ => rfl, latch := fun _ => rfl,
    lowHalf := fun _ => rfl, mem := fun _ => rfl, hostMem := fun _ => rfl, rings := fun _ => rfl,
    stale := fun _ => rfl, commands := fun _ => rfl, clk := fun _ => rfl, pow := fun _ => rfl, cyc := fun _ => rfl,
    flows := fun _ => rfl, ports := fun _ => rfl, views := fun _ => rfl, feeds := fun _ => rfl,
    lanes := fun _ => rfl, busy := fun _ => rfl, chans := fun _ => rfl, credits := fun _ => rfl,
    house := fun x => absurd x (by decide), ptp := fun _ => rfl, touts := fun _ => rfl, tcaps := fun _ => rfl,
    ppsHigh := fun _ => rfl, servos := fun _ => rfl, evt := fun _ => rfl, dgs := fun _ => rfl,
    resp := fun _ => rfl, respLoad := fun _ => rfl, cap := fun _ => rfl, corrTouched := fun _ => rfl,
    play := fun _ => rfl, flashMem := fun _ => rfl, flashOp := fun _ => rfl, drives := fun _ => rfl,
    storeOp := fun _ => rfl, storeWait := fun _ => rfl, job := fun _ => rfl, aborts := fun _ => rfl,
    panic := fun _ => rfl, rateWait := fun _ => rfl, powerReq := fun _ => rfl, image := fun _ => rfl,
    bar4 := fun _ => rfl, cfgSpace := fun _ => rfl, tap := fun _ => rfl, lines := fun _ => rfl,
    linkRt := fun _ => rfl, rateTo := fun _ => rfl, bar2Held := fun _ => rfl }
theorem keeps_with_job {m : Nat} {r s : State} {v_job : Option TileJob} (hm : 0x2000000000000000000 &&& m = 0x2000000000000000000) (h : Keeps m r s) :
    Keeps m r { s with job := v_job } := by
  refine h.trans (Keeps.mono (n := 0x2000000000000000000) ?_ hm)
  exact
  { kept := ⟨rfl, id, id⟩, regs := fun _ _ _ _ _ => rfl
    store := fun _ => ⟨fun _ => ⟨rfl, rfl, rfl⟩, rfl, fun _ _ => rfl, fun _ _ => rfl⟩
    free := fun _ => rfl, out := fun _ => rfl, force := fun _ => rfl, latch := fun _ => rfl,
    lowHalf := fun _ => rfl, mem := fun _ => rfl, hostMem := fun _ => rfl, rings := fun _ => rfl,
    stale := fun _ => rfl, commands := fun _ => rfl, clk := fun _ => rfl, pow := fun _ => rfl, cyc := fun _ => rfl,
    flows := fun _ => rfl, ports := fun _ => rfl, views := fun _ => rfl, feeds := fun _ => rfl,
    lanes := fun _ => rfl, busy := fun _ => rfl, chans := fun _ => rfl, credits := fun _ => rfl,
    house := fun _ => rfl, ptp := fun _ => rfl, touts := fun _ => rfl, tcaps := fun _ => rfl,
    ppsHigh := fun _ => rfl, servos := fun _ => rfl, evt := fun _ => rfl, dgs := fun _ => rfl,
    resp := fun _ => rfl, respLoad := fun _ => rfl, cap := fun _ => rfl, corrTouched := fun _ => rfl,
    play := fun _ => rfl, flashMem := fun _ => rfl, flashOp := fun _ => rfl, drives := fun _ => rfl,
    storeOp := fun _ => rfl, storeWait := fun _ => rfl, job := fun x => absurd x (by decide),
    aborts := fun _ => rfl, panic := fun _ => rfl, rateWait := fun _ => rfl, powerReq := fun _ => rfl,
    image := fun _ => rfl, bar4 := fun _ => rfl, cfgSpace := fun _ => rfl, tap := fun _ => rfl,
    lines := fun _ => rfl, linkRt := fun _ => rfl, rateTo := fun _ => rfl, bar2Held := fun _ => rfl }
theorem keeps_with_aborts {m : Nat} {r s : State} {v_aborts : List (Nat × Nat)} (hm : 0x4000000000000000000 &&& m = 0x4000000000000000000) (h : Keeps m r s) :
    Keeps m r { s with aborts := v_aborts } := by
  refine h.trans (Keeps.mono (n := 0x4000000000000000000) ?_ hm)
  exact
  { kept := ⟨rfl, id, id⟩, regs := fun _ _ _ _ _ => rfl
    store := fun _ => ⟨fun _ => ⟨rfl, rfl, rfl⟩, rfl, fun _ _ => rfl, fun _ _ => rfl⟩
    free := fun _ => rfl, out := fun _ => rfl, force := fun _ => rfl, latch := fun _ => rfl,
    lowHalf := fun _ => rfl, mem := fun _ => rfl, hostMem := fun _ => rfl, rings := fun _ => rfl,
    stale := fun _ => rfl, commands := fun _ => rfl, clk := fun _ => rfl, pow := fun _ => rfl, cyc := fun _ => rfl,
    flows := fun _ => rfl, ports := fun _ => rfl, views := fun _ => rfl, feeds := fun _ => rfl,
    lanes := fun _ => rfl, busy := fun _ => rfl, chans := fun _ => rfl, credits := fun _ => rfl,
    house := fun _ => rfl, ptp := fun _ => rfl, touts := fun _ => rfl, tcaps := fun _ => rfl,
    ppsHigh := fun _ => rfl, servos := fun _ => rfl, evt := fun _ => rfl, dgs := fun _ => rfl,
    resp := fun _ => rfl, respLoad := fun _ => rfl, cap := fun _ => rfl, corrTouched := fun _ => rfl,
    play := fun _ => rfl, flashMem := fun _ => rfl, flashOp := fun _ => rfl, drives := fun _ => rfl,
    storeOp := fun _ => rfl, storeWait := fun _ => rfl, job := fun _ => rfl,
    aborts := fun x => absurd x (by decide), panic := fun _ => rfl, rateWait := fun _ => rfl,
    powerReq := fun _ => rfl, image := fun _ => rfl, bar4 := fun _ => rfl, cfgSpace := fun _ => rfl,
    tap := fun _ => rfl, lines := fun _ => rfl, linkRt := fun _ => rfl, rateTo := fun _ => rfl,
    bar2Held := fun _ => rfl }
theorem keeps_with_lanes {m : Nat} {r s : State} {v_lanes : Sparse LaneRt} (hm : 0x8000000000000 &&& m = 0x8000000000000) (h : Keeps m r s) :
    Keeps m r { s with lanes := v_lanes } := by
  refine h.trans (Keeps.mono (n := 0x8000000000000) ?_ hm)
  exact
  { kept := ⟨rfl, id, id⟩, regs := fun _ _ _ _ _ => rfl
    store := fun _ => ⟨fun _ => ⟨rfl, rfl, rfl⟩, rfl, fun _ _ => rfl, fun _ _ => rfl⟩
    free := fun _ => rfl, out := fun _ => rfl, force := fun _ => rfl, latch := fun _ => rfl,
    lowHalf := fun _ => rfl, mem := fun _ => rfl, hostMem := fun _ => rfl, rings := fun _ => rfl,
    stale := fun _ => rfl, commands := fun _ => rfl, clk := fun _ => rfl, pow := fun _ => rfl, cyc := fun _ => rfl,
    flows := fun _ => rfl, ports := fun _ => rfl, views := fun _ => rfl, feeds := fun _ => rfl,
    lanes := fun x => absurd x (by decide), busy := fun _ => rfl, chans := fun _ => rfl, credits := fun _ => rfl,
    house := fun _ => rfl, ptp := fun _ => rfl, touts := fun _ => rfl, tcaps := fun _ => rfl,
    ppsHigh := fun _ => rfl, servos := fun _ => rfl, evt := fun _ => rfl, dgs := fun _ => rfl,
    resp := fun _ => rfl, respLoad := fun _ => rfl, cap := fun _ => rfl, corrTouched := fun _ => rfl,
    play := fun _ => rfl, flashMem := fun _ => rfl, flashOp := fun _ => rfl, drives := fun _ => rfl,
    storeOp := fun _ => rfl, storeWait := fun _ => rfl, job := fun _ => rfl, aborts := fun _ => rfl,
    panic := fun _ => rfl, rateWait := fun _ => rfl, powerReq := fun _ => rfl, image := fun _ => rfl,
    bar4 := fun _ => rfl, cfgSpace := fun _ => rfl, tap := fun _ => rfl, lines := fun _ => rfl,
    linkRt := fun _ => rfl, rateTo := fun _ => rfl, bar2Held := fun _ => rfl }
theorem keeps_with_feeds {m : Nat} {r s : State} {v_feeds : Sparse Feed} (hm : 0x4000000000000 &&& m = 0x4000000000000) (h : Keeps m r s) :
    Keeps m r { s with feeds := v_feeds } := by
  refine h.trans (Keeps.mono (n := 0x4000000000000) ?_ hm)
  exact
  { kept := ⟨rfl, id, id⟩, regs := fun _ _ _ _ _ => rfl
    store := fun _ => ⟨fun _ => ⟨rfl, rfl, rfl⟩, rfl, fun _ _ => rfl, fun _ _ => rfl⟩
    free := fun _ => rfl, out := fun _ => rfl, force := fun _ => rfl, latch := fun _ => rfl,
    lowHalf := fun _ => rfl, mem := fun _ => rfl, hostMem := fun _ => rfl, rings := fun _ => rfl,
    stale := fun _ => rfl, commands := fun _ => rfl, clk := fun _ => rfl, pow := fun _ => rfl, cyc := fun _ => rfl,
    flows := fun _ => rfl, ports := fun _ => rfl, views := fun _ => rfl, feeds := fun x => absurd x (by decide),
    lanes := fun _ => rfl, busy := fun _ => rfl, chans := fun _ => rfl, credits := fun _ => rfl,
    house := fun _ => rfl, ptp := fun _ => rfl, touts := fun _ => rfl, tcaps := fun _ => rfl,
    ppsHigh := fun _ => rfl, servos := fun _ => rfl, evt := fun _ => rfl, dgs := fun _ => rfl,
    resp := fun _ => rfl, respLoad := fun _ => rfl, cap := fun _ => rfl, corrTouched := fun _ => rfl,
    play := fun _ => rfl, flashMem := fun _ => rfl, flashOp := fun _ => rfl, drives := fun _ => rfl,
    storeOp := fun _ => rfl, storeWait := fun _ => rfl, job := fun _ => rfl, aborts := fun _ => rfl,
    panic := fun _ => rfl, rateWait := fun _ => rfl, powerReq := fun _ => rfl, image := fun _ => rfl,
    bar4 := fun _ => rfl, cfgSpace := fun _ => rfl, tap := fun _ => rfl, lines := fun _ => rfl,
    linkRt := fun _ => rfl, rateTo := fun _ => rfl, bar2Held := fun _ => rfl }
theorem keeps_with_busy {m : Nat} {r s : State} {v_busy : Sparse (Nat × Nat)} (hm : 0x10000000000000 &&& m = 0x10000000000000) (h : Keeps m r s) :
    Keeps m r { s with busy := v_busy } := by
  refine h.trans (Keeps.mono (n := 0x10000000000000) ?_ hm)
  exact
  { kept := ⟨rfl, id, id⟩, regs := fun _ _ _ _ _ => rfl
    store := fun _ => ⟨fun _ => ⟨rfl, rfl, rfl⟩, rfl, fun _ _ => rfl, fun _ _ => rfl⟩
    free := fun _ => rfl, out := fun _ => rfl, force := fun _ => rfl, latch := fun _ => rfl,
    lowHalf := fun _ => rfl, mem := fun _ => rfl, hostMem := fun _ => rfl, rings := fun _ => rfl,
    stale := fun _ => rfl, commands := fun _ => rfl, clk := fun _ => rfl, pow := fun _ => rfl, cyc := fun _ => rfl,
    flows := fun _ => rfl, ports := fun _ => rfl, views := fun _ => rfl, feeds := fun _ => rfl,
    lanes := fun _ => rfl, busy := fun x => absurd x (by decide), chans := fun _ => rfl, credits := fun _ => rfl,
    house := fun _ => rfl, ptp := fun _ => rfl, touts := fun _ => rfl, tcaps := fun _ => rfl,
    ppsHigh := fun _ => rfl, servos := fun _ => rfl, evt := fun _ => rfl, dgs := fun _ => rfl,
    resp := fun _ => rfl, respLoad := fun _ => rfl, cap := fun _ => rfl, corrTouched := fun _ => rfl,
    play := fun _ => rfl, flashMem := fun _ => rfl, flashOp := fun _ => rfl, drives := fun _ => rfl,
    storeOp := fun _ => rfl, storeWait := fun _ => rfl, job := fun _ => rfl, aborts := fun _ => rfl,
    panic := fun _ => rfl, rateWait := fun _ => rfl, powerReq := fun _ => rfl, image := fun _ => rfl,
    bar4 := fun _ => rfl, cfgSpace := fun _ => rfl, tap := fun _ => rfl, lines := fun _ => rfl,
    linkRt := fun _ => rfl, rateTo := fun _ => rfl, bar2Held := fun _ => rfl }
theorem keeps_with_chans {m : Nat} {r s : State} {v_chans : Sparse ChanRt} (hm : 0x20000000000000 &&& m = 0x20000000000000) (h : Keeps m r s) :
    Keeps m r { s with chans := v_chans } := by
  refine h.trans (Keeps.mono (n := 0x20000000000000) ?_ hm)
  exact
  { kept := ⟨rfl, id, id⟩, regs := fun _ _ _ _ _ => rfl
    store := fun _ => ⟨fun _ => ⟨rfl, rfl, rfl⟩, rfl, fun _ _ => rfl, fun _ _ => rfl⟩
    free := fun _ => rfl, out := fun _ => rfl, force := fun _ => rfl, latch := fun _ => rfl,
    lowHalf := fun _ => rfl, mem := fun _ => rfl, hostMem := fun _ => rfl, rings := fun _ => rfl,
    stale := fun _ => rfl, commands := fun _ => rfl, clk := fun _ => rfl, pow := fun _ => rfl, cyc := fun _ => rfl,
    flows := fun _ => rfl, ports := fun _ => rfl, views := fun _ => rfl, feeds := fun _ => rfl,
    lanes := fun _ => rfl, busy := fun _ => rfl, chans := fun x => absurd x (by decide), credits := fun _ => rfl,
    house := fun _ => rfl, ptp := fun _ => rfl, touts := fun _ => rfl, tcaps := fun _ => rfl,
    ppsHigh := fun _ => rfl, servos := fun _ => rfl, evt := fun _ => rfl, dgs := fun _ => rfl,
    resp := fun _ => rfl, respLoad := fun _ => rfl, cap := fun _ => rfl, corrTouched := fun _ => rfl,
    play := fun _ => rfl, flashMem := fun _ => rfl, flashOp := fun _ => rfl, drives := fun _ => rfl,
    storeOp := fun _ => rfl, storeWait := fun _ => rfl, job := fun _ => rfl, aborts := fun _ => rfl,
    panic := fun _ => rfl, rateWait := fun _ => rfl, powerReq := fun _ => rfl, image := fun _ => rfl,
    bar4 := fun _ => rfl, cfgSpace := fun _ => rfl, tap := fun _ => rfl, lines := fun _ => rfl,
    linkRt := fun _ => rfl, rateTo := fun _ => rfl, bar2Held := fun _ => rfl }
theorem keeps_with_free_mem {m : Nat} {r s : State} {v_free : Nat} {lo hi k : Nat} (hm : 0x8600000000 &&& m = 0x8600000000) (h : Keeps m r s) :
    Keeps m r { s with free := v_free, mem := s.mem.lose lo hi k } := by
  refine h.trans (Keeps.mono (n := 0x8600000000) ?_ hm)
  exact
  { kept := ⟨rfl, fun x => wf_lose _ _ _ _ x, id⟩, regs := fun _ _ _ _ _ => rfl
    store := fun x => absurd x (by decide)
    free := fun x => absurd x (by decide), out := fun _ => rfl, force := fun _ => rfl, latch := fun _ => rfl,
    lowHalf := fun _ => rfl, mem := fun x => absurd x (by decide), hostMem := fun _ => rfl, rings := fun _ => rfl,
    stale := fun _ => rfl, commands := fun _ => rfl, clk := fun _ => rfl, pow := fun _ => rfl, cyc := fun _ => rfl,
    flows := fun _ => rfl, ports := fun _ => rfl, views := fun _ => rfl, feeds := fun _ => rfl,
    lanes := fun _ => rfl, busy := fun _ => rfl, chans := fun _ => rfl, credits := fun _ => rfl,
    house := fun _ => rfl, ptp := fun _ => rfl, touts := fun _ => rfl, tcaps := fun _ => rfl,
    ppsHigh := fun _ => rfl, servos := fun _ => rfl, evt := fun _ => rfl, dgs := fun _ => rfl,
    resp := fun _ => rfl, respLoad := fun _ => rfl, cap := fun _ => rfl, corrTouched := fun _ => rfl,
    play := fun _ => rfl, flashMem := fun _ => rfl, flashOp := fun _ => rfl, drives := fun _ => rfl,
    storeOp := fun _ => rfl, storeWait := fun _ => rfl, job := fun _ => rfl, aborts := fun _ => rfl,
    panic := fun _ => rfl, rateWait := fun _ => rfl, powerReq := fun _ => rfl, image := fun _ => rfl,
    bar4 := fun _ => rfl, cfgSpace := fun _ => rfl, tap := fun _ => rfl, lines := fun _ => rfl,
    linkRt := fun _ => rfl, rateTo := fun _ => rfl, bar2Held := fun _ => rfl }
theorem keeps_with_free_image_lanes_mem {m : Nat} {r s : State} {v_free : Nat} {v_image : Option Image} {v_lanes : Sparse LaneRt} {lo hi k : Nat} (hm : 0x40000008008600000000 &&& m = 0x40000008008600000000) (h : Keeps m r s) :
    Keeps m r { s with free := v_free, image := v_image, lanes := v_lanes, mem := s.mem.lose lo hi k } := by
  refine h.trans (Keeps.mono (n := 0x40000008008600000000) ?_ hm)
  exact
  { kept := ⟨rfl, fun x => wf_lose _ _ _ _ x, id⟩, regs := fun _ _ _ _ _ => rfl
    store := fun x => absurd x (by decide)
    free := fun x => absurd x (by decide), out := fun _ => rfl, force := fun _ => rfl, latch := fun _ => rfl,
    lowHalf := fun _ => rfl, mem := fun x => absurd x (by decide), hostMem := fun _ => rfl, rings := fun _ => rfl,
    stale := fun _ => rfl, commands := fun _ => rfl, clk := fun _ => rfl, pow := fun _ => rfl, cyc := fun _ => rfl,
    flows := fun _ => rfl, ports := fun _ => rfl, views := fun _ => rfl, feeds := fun _ => rfl,
    lanes := fun x => absurd x (by decide), busy := fun _ => rfl, chans := fun _ => rfl, credits := fun _ => rfl,
    house := fun _ => rfl, ptp := fun _ => rfl, touts := fun _ => rfl, tcaps := fun _ => rfl,
    ppsHigh := fun _ => rfl, servos := fun _ => rfl, evt := fun _ => rfl, dgs := fun _ => rfl,
    resp := fun _ => rfl, respLoad := fun _ => rfl, cap := fun _ => rfl, corrTouched := fun _ => rfl,
    play := fun _ => rfl, flashMem := fun _ => rfl, flashOp := fun _ => rfl, drives := fun _ => rfl,
    storeOp := fun _ => rfl, storeWait := fun _ => rfl, job := fun _ => rfl, aborts := fun _ => rfl,
    panic := fun _ => rfl, rateWait := fun _ => rfl, powerReq := fun _ => rfl,
    image := fun x => absurd x (by decide), bar4 := fun _ => rfl, cfgSpace := fun _ => rfl, tap := fun _ => rfl,
    lines := fun _ => rfl, linkRt := fun _ => rfl, rateTo := fun _ => rfl, bar2Held := fun _ => rfl }
theorem keeps_with_panic {m : Nat} {r s : State} {v_panic : List Nat} (hm : 0x8000000000000000000 &&& m = 0x8000000000000000000) (h : Keeps m r s) :
    Keeps m r { s with panic := v_panic } := by
  refine h.trans (Keeps.mono (n := 0x8000000000000000000) ?_ hm)
  exact
  { kept := ⟨rfl, id, id⟩, regs := fun _ _ _ _ _ => rfl
    store := fun _ => ⟨fun _ => ⟨rfl, rfl, rfl⟩, rfl, fun _ _ => rfl, fun _ _ => rfl⟩
    free := fun _ => rfl, out := fun _ => rfl, force := fun _ => rfl, latch := fun _ => rfl,
    lowHalf := fun _ => rfl, mem := fun _ => rfl, hostMem := fun _ => rfl, rings := fun _ => rfl,
    stale := fun _ => rfl, commands := fun _ => rfl, clk := fun _ => rfl, pow := fun _ => rfl, cyc := fun _ => rfl,
    flows := fun _ => rfl, ports := fun _ => rfl, views := fun _ => rfl, feeds := fun _ => rfl,
    lanes := fun _ => rfl, busy := fun _ => rfl, chans := fun _ => rfl, credits := fun _ => rfl,
    house := fun _ => rfl, ptp := fun _ => rfl, touts := fun _ => rfl, tcaps := fun _ => rfl,
    ppsHigh := fun _ => rfl, servos := fun _ => rfl, evt := fun _ => rfl, dgs := fun _ => rfl,
    resp := fun _ => rfl, respLoad := fun _ => rfl, cap := fun _ => rfl, corrTouched := fun _ => rfl,
    play := fun _ => rfl, flashMem := fun _ => rfl, flashOp := fun _ => rfl, drives := fun _ => rfl,
    storeOp := fun _ => rfl, storeWait := fun _ => rfl, job := fun _ => rfl, aborts := fun _ => rfl,
    panic := fun x => absurd x (by decide), rateWait := fun _ => rfl, powerReq := fun _ => rfl,
    image := fun _ => rfl, bar4 := fun _ => rfl, cfgSpace := fun _ => rfl, tap := fun _ => rfl,
    lines := fun _ => rfl, linkRt := fun _ => rfl, rateTo := fun _ => rfl, bar2Held := fun _ => rfl }
theorem keeps_with_rateWait {m : Nat} {r s : State} {v_rateWait : Bool} (hm : 0x10000000000000000000 &&& m = 0x10000000000000000000) (h : Keeps m r s) :
    Keeps m r { s with rateWait := v_rateWait } := by
  refine h.trans (Keeps.mono (n := 0x10000000000000000000) ?_ hm)
  exact
  { kept := ⟨rfl, id, id⟩, regs := fun _ _ _ _ _ => rfl
    store := fun _ => ⟨fun _ => ⟨rfl, rfl, rfl⟩, rfl, fun _ _ => rfl, fun _ _ => rfl⟩
    free := fun _ => rfl, out := fun _ => rfl, force := fun _ => rfl, latch := fun _ => rfl,
    lowHalf := fun _ => rfl, mem := fun _ => rfl, hostMem := fun _ => rfl, rings := fun _ => rfl,
    stale := fun _ => rfl, commands := fun _ => rfl, clk := fun _ => rfl, pow := fun _ => rfl, cyc := fun _ => rfl,
    flows := fun _ => rfl, ports := fun _ => rfl, views := fun _ => rfl, feeds := fun _ => rfl,
    lanes := fun _ => rfl, busy := fun _ => rfl, chans := fun _ => rfl, credits := fun _ => rfl,
    house := fun _ => rfl, ptp := fun _ => rfl, touts := fun _ => rfl, tcaps := fun _ => rfl,
    ppsHigh := fun _ => rfl, servos := fun _ => rfl, evt := fun _ => rfl, dgs := fun _ => rfl,
    resp := fun _ => rfl, respLoad := fun _ => rfl, cap := fun _ => rfl, corrTouched := fun _ => rfl,
    play := fun _ => rfl, flashMem := fun _ => rfl, flashOp := fun _ => rfl, drives := fun _ => rfl,
    storeOp := fun _ => rfl, storeWait := fun _ => rfl, job := fun _ => rfl, aborts := fun _ => rfl,
    panic := fun _ => rfl, rateWait := fun x => absurd x (by decide), powerReq := fun _ => rfl,
    image := fun _ => rfl, bar4 := fun _ => rfl, cfgSpace := fun _ => rfl, tap := fun _ => rfl,
    lines := fun _ => rfl, linkRt := fun _ => rfl, rateTo := fun _ => rfl, bar2Held := fun _ => rfl }
theorem keeps_with_pow {m : Nat} {r s : State} {v_pow : Power} (hm : 0x200000000000 &&& m = 0x200000000000) (h : Keeps m r s) :
    Keeps m r { s with pow := v_pow } := by
  refine h.trans (Keeps.mono (n := 0x200000000000) ?_ hm)
  exact
  { kept := ⟨rfl, id, id⟩, regs := fun _ _ _ _ _ => rfl
    store := fun _ => ⟨fun _ => ⟨rfl, rfl, rfl⟩, rfl, fun _ _ => rfl, fun _ _ => rfl⟩
    free := fun _ => rfl, out := fun _ => rfl, force := fun _ => rfl, latch := fun _ => rfl,
    lowHalf := fun _ => rfl, mem := fun _ => rfl, hostMem := fun _ => rfl, rings := fun _ => rfl,
    stale := fun _ => rfl, commands := fun _ => rfl, clk := fun _ => rfl, pow := fun x => absurd x (by decide),
    cyc := fun _ => rfl, flows := fun _ => rfl, ports := fun _ => rfl, views := fun _ => rfl,
    feeds := fun _ => rfl, lanes := fun _ => rfl, busy := fun _ => rfl, chans := fun _ => rfl,
    credits := fun _ => rfl, house := fun _ => rfl, ptp := fun _ => rfl, touts := fun _ => rfl,
    tcaps := fun _ => rfl, ppsHigh := fun _ => rfl, servos := fun _ => rfl, evt := fun _ => rfl,
    dgs := fun _ => rfl, resp := fun _ => rfl, respLoad := fun _ => rfl, cap := fun _ => rfl,
    corrTouched := fun _ => rfl, play := fun _ => rfl, flashMem := fun _ => rfl, flashOp := fun _ => rfl,
    drives := fun _ => rfl, storeOp := fun _ => rfl, storeWait := fun _ => rfl, job := fun _ => rfl,
    aborts := fun _ => rfl, panic := fun _ => rfl, rateWait := fun _ => rfl, powerReq := fun _ => rfl,
    image := fun _ => rfl, bar4 := fun _ => rfl, cfgSpace := fun _ => rfl, tap := fun _ => rfl,
    lines := fun _ => rfl, linkRt := fun _ => rfl, rateTo := fun _ => rfl, bar2Held := fun _ => rfl }
theorem keeps_with_force {m : Nat} {r s : State} {v_force : Sparse Word} (hm : 0x1000000000 &&& m = 0x1000000000) (h : Keeps m r s) :
    Keeps m r { s with force := v_force } := by
  refine h.trans (Keeps.mono (n := 0x1000000000) ?_ hm)
  exact
  { kept := ⟨rfl, id, id⟩, regs := fun _ _ _ _ _ => rfl
    store := fun _ => ⟨fun _ => ⟨rfl, rfl, rfl⟩, rfl, fun _ _ => rfl, fun _ _ => rfl⟩
    free := fun _ => rfl, out := fun _ => rfl, force := fun x => absurd x (by decide), latch := fun _ => rfl,
    lowHalf := fun _ => rfl, mem := fun _ => rfl, hostMem := fun _ => rfl, rings := fun _ => rfl,
    stale := fun _ => rfl, commands := fun _ => rfl, clk := fun _ => rfl, pow := fun _ => rfl, cyc := fun _ => rfl,
    flows := fun _ => rfl, ports := fun _ => rfl, views := fun _ => rfl, feeds := fun _ => rfl,
    lanes := fun _ => rfl, busy := fun _ => rfl, chans := fun _ => rfl, credits := fun _ => rfl,
    house := fun _ => rfl, ptp := fun _ => rfl, touts := fun _ => rfl, tcaps := fun _ => rfl,
    ppsHigh := fun _ => rfl, servos := fun _ => rfl, evt := fun _ => rfl, dgs := fun _ => rfl,
    resp := fun _ => rfl, respLoad := fun _ => rfl, cap := fun _ => rfl, corrTouched := fun _ => rfl,
    play := fun _ => rfl, flashMem := fun _ => rfl, flashOp := fun _ => rfl, drives := fun _ => rfl,
    storeOp := fun _ => rfl, storeWait := fun _ => rfl, job := fun _ => rfl, aborts := fun _ => rfl,
    panic := fun _ => rfl, rateWait := fun _ => rfl, powerReq := fun _ => rfl, image := fun _ => rfl,
    bar4 := fun _ => rfl, cfgSpace := fun _ => rfl, tap := fun _ => rfl, lines := fun _ => rfl,
    linkRt := fun _ => rfl, rateTo := fun _ => rfl, bar2Held := fun _ => rfl }
theorem keeps_with_flows {m : Nat} {r s : State} {v_flows : Sparse FlowRt} (hm : 0x800000000000 &&& m = 0x800000000000) (h : Keeps m r s) :
    Keeps m r { s with flows := v_flows } := by
  refine h.trans (Keeps.mono (n := 0x800000000000) ?_ hm)
  exact
  { kept := ⟨rfl, id, id⟩, regs := fun _ _ _ _ _ => rfl
    store := fun _ => ⟨fun _ => ⟨rfl, rfl, rfl⟩, rfl, fun _ _ => rfl, fun _ _ => rfl⟩
    free := fun _ => rfl, out := fun _ => rfl, force := fun _ => rfl, latch := fun _ => rfl,
    lowHalf := fun _ => rfl, mem := fun _ => rfl, hostMem := fun _ => rfl, rings := fun _ => rfl,
    stale := fun _ => rfl, commands := fun _ => rfl, clk := fun _ => rfl, pow := fun _ => rfl, cyc := fun _ => rfl,
    flows := fun x => absurd x (by decide), ports := fun _ => rfl, views := fun _ => rfl, feeds := fun _ => rfl,
    lanes := fun _ => rfl, busy := fun _ => rfl, chans := fun _ => rfl, credits := fun _ => rfl,
    house := fun _ => rfl, ptp := fun _ => rfl, touts := fun _ => rfl, tcaps := fun _ => rfl,
    ppsHigh := fun _ => rfl, servos := fun _ => rfl, evt := fun _ => rfl, dgs := fun _ => rfl,
    resp := fun _ => rfl, respLoad := fun _ => rfl, cap := fun _ => rfl, corrTouched := fun _ => rfl,
    play := fun _ => rfl, flashMem := fun _ => rfl, flashOp := fun _ => rfl, drives := fun _ => rfl,
    storeOp := fun _ => rfl, storeWait := fun _ => rfl, job := fun _ => rfl, aborts := fun _ => rfl,
    panic := fun _ => rfl, rateWait := fun _ => rfl, powerReq := fun _ => rfl, image := fun _ => rfl,
    bar4 := fun _ => rfl, cfgSpace := fun _ => rfl, tap := fun _ => rfl, lines := fun _ => rfl,
    linkRt := fun _ => rfl, rateTo := fun _ => rfl, bar2Held := fun _ => rfl }
theorem keeps_with_views {m : Nat} {r s : State} {v_views : Sparse ViewRt} (hm : 0x2000000000000 &&& m = 0x2000000000000) (h : Keeps m r s) :
    Keeps m r { s with views := v_views } := by
  refine h.trans (Keeps.mono (n := 0x2000000000000) ?_ hm)
  exact
  { kept := ⟨rfl, id, id⟩, regs := fun _ _ _ _ _ => rfl
    store := fun _ => ⟨fun _ => ⟨rfl, rfl, rfl⟩, rfl, fun _ _ => rfl, fun _ _ => rfl⟩
    free := fun _ => rfl, out := fun _ => rfl, force := fun _ => rfl, latch := fun _ => rfl,
    lowHalf := fun _ => rfl, mem := fun _ => rfl, hostMem := fun _ => rfl, rings := fun _ => rfl,
    stale := fun _ => rfl, commands := fun _ => rfl, clk := fun _ => rfl, pow := fun _ => rfl, cyc := fun _ => rfl,
    flows := fun _ => rfl, ports := fun _ => rfl, views := fun x => absurd x (by decide), feeds := fun _ => rfl,
    lanes := fun _ => rfl, busy := fun _ => rfl, chans := fun _ => rfl, credits := fun _ => rfl,
    house := fun _ => rfl, ptp := fun _ => rfl, touts := fun _ => rfl, tcaps := fun _ => rfl,
    ppsHigh := fun _ => rfl, servos := fun _ => rfl, evt := fun _ => rfl, dgs := fun _ => rfl,
    resp := fun _ => rfl, respLoad := fun _ => rfl, cap := fun _ => rfl, corrTouched := fun _ => rfl,
    play := fun _ => rfl, flashMem := fun _ => rfl, flashOp := fun _ => rfl, drives := fun _ => rfl,
    storeOp := fun _ => rfl, storeWait := fun _ => rfl, job := fun _ => rfl, aborts := fun _ => rfl,
    panic := fun _ => rfl, rateWait := fun _ => rfl, powerReq := fun _ => rfl, image := fun _ => rfl,
    bar4 := fun _ => rfl, cfgSpace := fun _ => rfl, tap := fun _ => rfl, lines := fun _ => rfl,
    linkRt := fun _ => rfl, rateTo := fun _ => rfl, bar2Held := fun _ => rfl }
theorem keeps_with_respLoad {m : Nat} {r s : State} {v_respLoad : Option (Nat × Nat × Nat × Nat)} (hm : 0x10000000000000000 &&& m = 0x10000000000000000) (h : Keeps m r s) :
    Keeps m r { s with respLoad := v_respLoad } := by
  refine h.trans (Keeps.mono (n := 0x10000000000000000) ?_ hm)
  exact
  { kept := ⟨rfl, id, id⟩, regs := fun _ _ _ _ _ => rfl
    store := fun _ => ⟨fun _ => ⟨rfl, rfl, rfl⟩, rfl, fun _ _ => rfl, fun _ _ => rfl⟩
    free := fun _ => rfl, out := fun _ => rfl, force := fun _ => rfl, latch := fun _ => rfl,
    lowHalf := fun _ => rfl, mem := fun _ => rfl, hostMem := fun _ => rfl, rings := fun _ => rfl,
    stale := fun _ => rfl, commands := fun _ => rfl, clk := fun _ => rfl, pow := fun _ => rfl, cyc := fun _ => rfl,
    flows := fun _ => rfl, ports := fun _ => rfl, views := fun _ => rfl, feeds := fun _ => rfl,
    lanes := fun _ => rfl, busy := fun _ => rfl, chans := fun _ => rfl, credits := fun _ => rfl,
    house := fun _ => rfl, ptp := fun _ => rfl, touts := fun _ => rfl, tcaps := fun _ => rfl,
    ppsHigh := fun _ => rfl, servos := fun _ => rfl, evt := fun _ => rfl, dgs := fun _ => rfl,
    resp := fun _ => rfl, respLoad := fun x => absurd x (by decide), cap := fun _ => rfl,
    corrTouched := fun _ => rfl, play := fun _ => rfl, flashMem := fun _ => rfl, flashOp := fun _ => rfl,
    drives := fun _ => rfl, storeOp := fun _ => rfl, storeWait := fun _ => rfl, job := fun _ => rfl,
    aborts := fun _ => rfl, panic := fun _ => rfl, rateWait := fun _ => rfl, powerReq := fun _ => rfl,
    image := fun _ => rfl, bar4 := fun _ => rfl, cfgSpace := fun _ => rfl, tap := fun _ => rfl,
    lines := fun _ => rfl, linkRt := fun _ => rfl, rateTo := fun _ => rfl, bar2Held := fun _ => rfl }
theorem keeps_with_resp {m : Nat} {r s : State} {v_resp : Sparse Nat} (hm : 0x8000000000000000 &&& m = 0x8000000000000000) (h : Keeps m r s) :
    Keeps m r { s with resp := v_resp } := by
  refine h.trans (Keeps.mono (n := 0x8000000000000000) ?_ hm)
  exact
  { kept := ⟨rfl, id, id⟩, regs := fun _ _ _ _ _ => rfl
    store := fun _ => ⟨fun _ => ⟨rfl, rfl, rfl⟩, rfl, fun _ _ => rfl, fun _ _ => rfl⟩
    free := fun _ => rfl, out := fun _ => rfl, force := fun _ => rfl, latch := fun _ => rfl,
    lowHalf := fun _ => rfl, mem := fun _ => rfl, hostMem := fun _ => rfl, rings := fun _ => rfl,
    stale := fun _ => rfl, commands := fun _ => rfl, clk := fun _ => rfl, pow := fun _ => rfl, cyc := fun _ => rfl,
    flows := fun _ => rfl, ports := fun _ => rfl, views := fun _ => rfl, feeds := fun _ => rfl,
    lanes := fun _ => rfl, busy := fun _ => rfl, chans := fun _ => rfl, credits := fun _ => rfl,
    house := fun _ => rfl, ptp := fun _ => rfl, touts := fun _ => rfl, tcaps := fun _ => rfl,
    ppsHigh := fun _ => rfl, servos := fun _ => rfl, evt := fun _ => rfl, dgs := fun _ => rfl,
    resp := fun x => absurd x (by decide), respLoad := fun _ => rfl, cap := fun _ => rfl,
    corrTouched := fun _ => rfl, play := fun _ => rfl, flashMem := fun _ => rfl, flashOp := fun _ => rfl,
    drives := fun _ => rfl, storeOp := fun _ => rfl, storeWait := fun _ => rfl, job := fun _ => rfl,
    aborts := fun _ => rfl, panic := fun _ => rfl, rateWait := fun _ => rfl, powerReq := fun _ => rfl,
    image := fun _ => rfl, bar4 := fun _ => rfl, cfgSpace := fun _ => rfl, tap := fun _ => rfl,
    lines := fun _ => rfl, linkRt := fun _ => rfl, rateTo := fun _ => rfl, bar2Held := fun _ => rfl }
theorem keeps_with_cap {m : Nat} {r s : State} {v_cap : List (Nat × Nat)} (hm : 0x20000000000000000 &&& m = 0x20000000000000000) (h : Keeps m r s) :
    Keeps m r { s with cap := v_cap } := by
  refine h.trans (Keeps.mono (n := 0x20000000000000000) ?_ hm)
  exact
  { kept := ⟨rfl, id, id⟩, regs := fun _ _ _ _ _ => rfl
    store := fun _ => ⟨fun _ => ⟨rfl, rfl, rfl⟩, rfl, fun _ _ => rfl, fun _ _ => rfl⟩
    free := fun _ => rfl, out := fun _ => rfl, force := fun _ => rfl, latch := fun _ => rfl,
    lowHalf := fun _ => rfl, mem := fun _ => rfl, hostMem := fun _ => rfl, rings := fun _ => rfl,
    stale := fun _ => rfl, commands := fun _ => rfl, clk := fun _ => rfl, pow := fun _ => rfl, cyc := fun _ => rfl,
    flows := fun _ => rfl, ports := fun _ => rfl, views := fun _ => rfl, feeds := fun _ => rfl,
    lanes := fun _ => rfl, busy := fun _ => rfl, chans := fun _ => rfl, credits := fun _ => rfl,
    house := fun _ => rfl, ptp := fun _ => rfl, touts := fun _ => rfl, tcaps := fun _ => rfl,
    ppsHigh := fun _ => rfl, servos := fun _ => rfl, evt := fun _ => rfl, dgs := fun _ => rfl,
    resp := fun _ => rfl, respLoad := fun _ => rfl, cap := fun x => absurd x (by decide),
    corrTouched := fun _ => rfl, play := fun _ => rfl, flashMem := fun _ => rfl, flashOp := fun _ => rfl,
    drives := fun _ => rfl, storeOp := fun _ => rfl, storeWait := fun _ => rfl, job := fun _ => rfl,
    aborts := fun _ => rfl, panic := fun _ => rfl, rateWait := fun _ => rfl, powerReq := fun _ => rfl,
    image := fun _ => rfl, bar4 := fun _ => rfl, cfgSpace := fun _ => rfl, tap := fun _ => rfl,
    lines := fun _ => rfl, linkRt := fun _ => rfl, rateTo := fun _ => rfl, bar2Held := fun _ => rfl }
theorem keeps_with_cap_corrTouched {m : Nat} {r s : State} {v_cap : List (Nat × Nat)} {v_corrTouched : Bool} (hm : 0x60000000000000000 &&& m = 0x60000000000000000) (h : Keeps m r s) :
    Keeps m r { s with cap := v_cap, corrTouched := v_corrTouched } := by
  refine h.trans (Keeps.mono (n := 0x60000000000000000) ?_ hm)
  exact
  { kept := ⟨rfl, id, id⟩, regs := fun _ _ _ _ _ => rfl
    store := fun _ => ⟨fun _ => ⟨rfl, rfl, rfl⟩, rfl, fun _ _ => rfl, fun _ _ => rfl⟩
    free := fun _ => rfl, out := fun _ => rfl, force := fun _ => rfl, latch := fun _ => rfl,
    lowHalf := fun _ => rfl, mem := fun _ => rfl, hostMem := fun _ => rfl, rings := fun _ => rfl,
    stale := fun _ => rfl, commands := fun _ => rfl, clk := fun _ => rfl, pow := fun _ => rfl, cyc := fun _ => rfl,
    flows := fun _ => rfl, ports := fun _ => rfl, views := fun _ => rfl, feeds := fun _ => rfl,
    lanes := fun _ => rfl, busy := fun _ => rfl, chans := fun _ => rfl, credits := fun _ => rfl,
    house := fun _ => rfl, ptp := fun _ => rfl, touts := fun _ => rfl, tcaps := fun _ => rfl,
    ppsHigh := fun _ => rfl, servos := fun _ => rfl, evt := fun _ => rfl, dgs := fun _ => rfl,
    resp := fun _ => rfl, respLoad := fun _ => rfl, cap := fun x => absurd x (by decide),
    corrTouched := fun x => absurd x (by decide), play := fun _ => rfl, flashMem := fun _ => rfl,
    flashOp := fun _ => rfl, drives := fun _ => rfl, storeOp := fun _ => rfl, storeWait := fun _ => rfl,
    job := fun _ => rfl, aborts := fun _ => rfl, panic := fun _ => rfl, rateWait := fun _ => rfl,
    powerReq := fun _ => rfl, image := fun _ => rfl, bar4 := fun _ => rfl, cfgSpace := fun _ => rfl,
    tap := fun _ => rfl, lines := fun _ => rfl, linkRt := fun _ => rfl, rateTo := fun _ => rfl,
    bar2Held := fun _ => rfl }
theorem keeps_with_play {m : Nat} {r s : State} {v_play : Playout} (hm : 0x80000000000000000 &&& m = 0x80000000000000000) (h : Keeps m r s) :
    Keeps m r { s with play := v_play } := by
  refine h.trans (Keeps.mono (n := 0x80000000000000000) ?_ hm)
  exact
  { kept := ⟨rfl, id, id⟩, regs := fun _ _ _ _ _ => rfl
    store := fun _ => ⟨fun _ => ⟨rfl, rfl, rfl⟩, rfl, fun _ _ => rfl, fun _ _ => rfl⟩
    free := fun _ => rfl, out := fun _ => rfl, force := fun _ => rfl, latch := fun _ => rfl,
    lowHalf := fun _ => rfl, mem := fun _ => rfl, hostMem := fun _ => rfl, rings := fun _ => rfl,
    stale := fun _ => rfl, commands := fun _ => rfl, clk := fun _ => rfl, pow := fun _ => rfl, cyc := fun _ => rfl,
    flows := fun _ => rfl, ports := fun _ => rfl, views := fun _ => rfl, feeds := fun _ => rfl,
    lanes := fun _ => rfl, busy := fun _ => rfl, chans := fun _ => rfl, credits := fun _ => rfl,
    house := fun _ => rfl, ptp := fun _ => rfl, touts := fun _ => rfl, tcaps := fun _ => rfl,
    ppsHigh := fun _ => rfl, servos := fun _ => rfl, evt := fun _ => rfl, dgs := fun _ => rfl,
    resp := fun _ => rfl, respLoad := fun _ => rfl, cap := fun _ => rfl, corrTouched := fun _ => rfl,
    play := fun x => absurd x (by decide), flashMem := fun _ => rfl, flashOp := fun _ => rfl,
    drives := fun _ => rfl, storeOp := fun _ => rfl, storeWait := fun _ => rfl, job := fun _ => rfl,
    aborts := fun _ => rfl, panic := fun _ => rfl, rateWait := fun _ => rfl, powerReq := fun _ => rfl,
    image := fun _ => rfl, bar4 := fun _ => rfl, cfgSpace := fun _ => rfl, tap := fun _ => rfl,
    lines := fun _ => rfl, linkRt := fun _ => rfl, rateTo := fun _ => rfl, bar2Held := fun _ => rfl }
theorem keeps_with_corrTouched {m : Nat} {r s : State} {v_corrTouched : Bool} (hm : 0x40000000000000000 &&& m = 0x40000000000000000) (h : Keeps m r s) :
    Keeps m r { s with corrTouched := v_corrTouched } := by
  refine h.trans (Keeps.mono (n := 0x40000000000000000) ?_ hm)
  exact
  { kept := ⟨rfl, id, id⟩, regs := fun _ _ _ _ _ => rfl
    store := fun _ => ⟨fun _ => ⟨rfl, rfl, rfl⟩, rfl, fun _ _ => rfl, fun _ _ => rfl⟩
    free := fun _ => rfl, out := fun _ => rfl, force := fun _ => rfl, latch := fun _ => rfl,
    lowHalf := fun _ => rfl, mem := fun _ => rfl, hostMem := fun _ => rfl, rings := fun _ => rfl,
    stale := fun _ => rfl, commands := fun _ => rfl, clk := fun _ => rfl, pow := fun _ => rfl, cyc := fun _ => rfl,
    flows := fun _ => rfl, ports := fun _ => rfl, views := fun _ => rfl, feeds := fun _ => rfl,
    lanes := fun _ => rfl, busy := fun _ => rfl, chans := fun _ => rfl, credits := fun _ => rfl,
    house := fun _ => rfl, ptp := fun _ => rfl, touts := fun _ => rfl, tcaps := fun _ => rfl,
    ppsHigh := fun _ => rfl, servos := fun _ => rfl, evt := fun _ => rfl, dgs := fun _ => rfl,
    resp := fun _ => rfl, respLoad := fun _ => rfl, cap := fun _ => rfl,
    corrTouched := fun x => absurd x (by decide), play := fun _ => rfl, flashMem := fun _ => rfl,
    flashOp := fun _ => rfl, drives := fun _ => rfl, storeOp := fun _ => rfl, storeWait := fun _ => rfl,
    job := fun _ => rfl, aborts := fun _ => rfl, panic := fun _ => rfl, rateWait := fun _ => rfl,
    powerReq := fun _ => rfl, image := fun _ => rfl, bar4 := fun _ => rfl, cfgSpace := fun _ => rfl,
    tap := fun _ => rfl, lines := fun _ => rfl, linkRt := fun _ => rfl, rateTo := fun _ => rfl,
    bar2Held := fun _ => rfl }
theorem keeps_with_flashMem {m : Nat} {r s : State} {v_flashMem : Sparse Byte} (hm : 0x100000000000000000 &&& m = 0x100000000000000000) (h : Keeps m r s) :
    Keeps m r { s with flashMem := v_flashMem } := by
  refine h.trans (Keeps.mono (n := 0x100000000000000000) ?_ hm)
  exact
  { kept := ⟨rfl, id, id⟩, regs := fun _ _ _ _ _ => rfl
    store := fun _ => ⟨fun _ => ⟨rfl, rfl, rfl⟩, rfl, fun _ _ => rfl, fun _ _ => rfl⟩
    free := fun _ => rfl, out := fun _ => rfl, force := fun _ => rfl, latch := fun _ => rfl,
    lowHalf := fun _ => rfl, mem := fun _ => rfl, hostMem := fun _ => rfl, rings := fun _ => rfl,
    stale := fun _ => rfl, commands := fun _ => rfl, clk := fun _ => rfl, pow := fun _ => rfl, cyc := fun _ => rfl,
    flows := fun _ => rfl, ports := fun _ => rfl, views := fun _ => rfl, feeds := fun _ => rfl,
    lanes := fun _ => rfl, busy := fun _ => rfl, chans := fun _ => rfl, credits := fun _ => rfl,
    house := fun _ => rfl, ptp := fun _ => rfl, touts := fun _ => rfl, tcaps := fun _ => rfl,
    ppsHigh := fun _ => rfl, servos := fun _ => rfl, evt := fun _ => rfl, dgs := fun _ => rfl,
    resp := fun _ => rfl, respLoad := fun _ => rfl, cap := fun _ => rfl, corrTouched := fun _ => rfl,
    play := fun _ => rfl, flashMem := fun x => absurd x (by decide), flashOp := fun _ => rfl,
    drives := fun _ => rfl, storeOp := fun _ => rfl, storeWait := fun _ => rfl, job := fun _ => rfl,
    aborts := fun _ => rfl, panic := fun _ => rfl, rateWait := fun _ => rfl, powerReq := fun _ => rfl,
    image := fun _ => rfl, bar4 := fun _ => rfl, cfgSpace := fun _ => rfl, tap := fun _ => rfl,
    lines := fun _ => rfl, linkRt := fun _ => rfl, rateTo := fun _ => rfl, bar2Held := fun _ => rfl }
theorem keeps_with_flashMem_free {m : Nat} {r s : State} {v_flashMem : Sparse Byte} {v_free : Nat} (hm : 0x100000000400000000 &&& m = 0x100000000400000000) (h : Keeps m r s) :
    Keeps m r { s with flashMem := v_flashMem, free := v_free } := by
  refine h.trans (Keeps.mono (n := 0x100000000400000000) ?_ hm)
  exact
  { kept := ⟨rfl, id, id⟩, regs := fun _ _ _ _ _ => rfl
    store := fun _ => ⟨fun _ => ⟨rfl, rfl, rfl⟩, rfl, fun _ _ => rfl, fun _ _ => rfl⟩
    free := fun x => absurd x (by decide), out := fun _ => rfl, force := fun _ => rfl, latch := fun _ => rfl,
    lowHalf := fun _ => rfl, mem := fun _ => rfl, hostMem := fun _ => rfl, rings := fun _ => rfl,
    stale := fun _ => rfl, commands := fun _ => rfl, clk := fun _ => rfl, pow := fun _ => rfl, cyc := fun _ => rfl,
    flows := fun _ => rfl, ports := fun _ => rfl, views := fun _ => rfl, feeds := fun _ => rfl,
    lanes := fun _ => rfl, busy := fun _ => rfl, chans := fun _ => rfl, credits := fun _ => rfl,
    house := fun _ => rfl, ptp := fun _ => rfl, touts := fun _ => rfl, tcaps := fun _ => rfl,
    ppsHigh := fun _ => rfl, servos := fun _ => rfl, evt := fun _ => rfl, dgs := fun _ => rfl,
    resp := fun _ => rfl, respLoad := fun _ => rfl, cap := fun _ => rfl, corrTouched := fun _ => rfl,
    play := fun _ => rfl, flashMem := fun x => absurd x (by decide), flashOp := fun _ => rfl,
    drives := fun _ => rfl, storeOp := fun _ => rfl, storeWait := fun _ => rfl, job := fun _ => rfl,
    aborts := fun _ => rfl, panic := fun _ => rfl, rateWait := fun _ => rfl, powerReq := fun _ => rfl,
    image := fun _ => rfl, bar4 := fun _ => rfl, cfgSpace := fun _ => rfl, tap := fun _ => rfl,
    lines := fun _ => rfl, linkRt := fun _ => rfl, rateTo := fun _ => rfl, bar2Held := fun _ => rfl }
theorem keeps_with_flashOp {m : Nat} {r s : State} {v_flashOp : Option FlashOp} (hm : 0x200000000000000000 &&& m = 0x200000000000000000) (h : Keeps m r s) :
    Keeps m r { s with flashOp := v_flashOp } := by
  refine h.trans (Keeps.mono (n := 0x200000000000000000) ?_ hm)
  exact
  { kept := ⟨rfl, id, id⟩, regs := fun _ _ _ _ _ => rfl
    store := fun _ => ⟨fun _ => ⟨rfl, rfl, rfl⟩, rfl, fun _ _ => rfl, fun _ _ => rfl⟩
    free := fun _ => rfl, out := fun _ => rfl, force := fun _ => rfl, latch := fun _ => rfl,
    lowHalf := fun _ => rfl, mem := fun _ => rfl, hostMem := fun _ => rfl, rings := fun _ => rfl,
    stale := fun _ => rfl, commands := fun _ => rfl, clk := fun _ => rfl, pow := fun _ => rfl, cyc := fun _ => rfl,
    flows := fun _ => rfl, ports := fun _ => rfl, views := fun _ => rfl, feeds := fun _ => rfl,
    lanes := fun _ => rfl, busy := fun _ => rfl, chans := fun _ => rfl, credits := fun _ => rfl,
    house := fun _ => rfl, ptp := fun _ => rfl, touts := fun _ => rfl, tcaps := fun _ => rfl,
    ppsHigh := fun _ => rfl, servos := fun _ => rfl, evt := fun _ => rfl, dgs := fun _ => rfl,
    resp := fun _ => rfl, respLoad := fun _ => rfl, cap := fun _ => rfl, corrTouched := fun _ => rfl,
    play := fun _ => rfl, flashMem := fun _ => rfl, flashOp := fun x => absurd x (by decide),
    drives := fun _ => rfl, storeOp := fun _ => rfl, storeWait := fun _ => rfl, job := fun _ => rfl,
    aborts := fun _ => rfl, panic := fun _ => rfl, rateWait := fun _ => rfl, powerReq := fun _ => rfl,
    image := fun _ => rfl, bar4 := fun _ => rfl, cfgSpace := fun _ => rfl, tap := fun _ => rfl,
    lines := fun _ => rfl, linkRt := fun _ => rfl, rateTo := fun _ => rfl, bar2Held := fun _ => rfl }
theorem keeps_with_drives {m : Nat} {r s : State} {v_drives : Sparse Drive} (hm : 0x400000000000000000 &&& m = 0x400000000000000000) (h : Keeps m r s) :
    Keeps m r { s with drives := v_drives } := by
  refine h.trans (Keeps.mono (n := 0x400000000000000000) ?_ hm)
  exact
  { kept := ⟨rfl, id, id⟩, regs := fun _ _ _ _ _ => rfl
    store := fun _ => ⟨fun _ => ⟨rfl, rfl, rfl⟩, rfl, fun _ _ => rfl, fun _ _ => rfl⟩
    free := fun _ => rfl, out := fun _ => rfl, force := fun _ => rfl, latch := fun _ => rfl,
    lowHalf := fun _ => rfl, mem := fun _ => rfl, hostMem := fun _ => rfl, rings := fun _ => rfl,
    stale := fun _ => rfl, commands := fun _ => rfl, clk := fun _ => rfl, pow := fun _ => rfl, cyc := fun _ => rfl,
    flows := fun _ => rfl, ports := fun _ => rfl, views := fun _ => rfl, feeds := fun _ => rfl,
    lanes := fun _ => rfl, busy := fun _ => rfl, chans := fun _ => rfl, credits := fun _ => rfl,
    house := fun _ => rfl, ptp := fun _ => rfl, touts := fun _ => rfl, tcaps := fun _ => rfl,
    ppsHigh := fun _ => rfl, servos := fun _ => rfl, evt := fun _ => rfl, dgs := fun _ => rfl,
    resp := fun _ => rfl, respLoad := fun _ => rfl, cap := fun _ => rfl, corrTouched := fun _ => rfl,
    play := fun _ => rfl, flashMem := fun _ => rfl, flashOp := fun _ => rfl,
    drives := fun x => absurd x (by decide), storeOp := fun _ => rfl, storeWait := fun _ => rfl,
    job := fun _ => rfl, aborts := fun _ => rfl, panic := fun _ => rfl, rateWait := fun _ => rfl,
    powerReq := fun _ => rfl, image := fun _ => rfl, bar4 := fun _ => rfl, cfgSpace := fun _ => rfl,
    tap := fun _ => rfl, lines := fun _ => rfl, linkRt := fun _ => rfl, rateTo := fun _ => rfl,
    bar2Held := fun _ => rfl }
theorem keeps_with_storeOp {m : Nat} {r s : State} {v_storeOp : Option StoreOp} (hm : 0x800000000000000000 &&& m = 0x800000000000000000) (h : Keeps m r s) :
    Keeps m r { s with storeOp := v_storeOp } := by
  refine h.trans (Keeps.mono (n := 0x800000000000000000) ?_ hm)
  exact
  { kept := ⟨rfl, id, id⟩, regs := fun _ _ _ _ _ => rfl
    store := fun _ => ⟨fun _ => ⟨rfl, rfl, rfl⟩, rfl, fun _ _ => rfl, fun _ _ => rfl⟩
    free := fun _ => rfl, out := fun _ => rfl, force := fun _ => rfl, latch := fun _ => rfl,
    lowHalf := fun _ => rfl, mem := fun _ => rfl, hostMem := fun _ => rfl, rings := fun _ => rfl,
    stale := fun _ => rfl, commands := fun _ => rfl, clk := fun _ => rfl, pow := fun _ => rfl, cyc := fun _ => rfl,
    flows := fun _ => rfl, ports := fun _ => rfl, views := fun _ => rfl, feeds := fun _ => rfl,
    lanes := fun _ => rfl, busy := fun _ => rfl, chans := fun _ => rfl, credits := fun _ => rfl,
    house := fun _ => rfl, ptp := fun _ => rfl, touts := fun _ => rfl, tcaps := fun _ => rfl,
    ppsHigh := fun _ => rfl, servos := fun _ => rfl, evt := fun _ => rfl, dgs := fun _ => rfl,
    resp := fun _ => rfl, respLoad := fun _ => rfl, cap := fun _ => rfl, corrTouched := fun _ => rfl,
    play := fun _ => rfl, flashMem := fun _ => rfl, flashOp := fun _ => rfl, drives := fun _ => rfl,
    storeOp := fun x => absurd x (by decide), storeWait := fun _ => rfl, job := fun _ => rfl,
    aborts := fun _ => rfl, panic := fun _ => rfl, rateWait := fun _ => rfl, powerReq := fun _ => rfl,
    image := fun _ => rfl, bar4 := fun _ => rfl, cfgSpace := fun _ => rfl, tap := fun _ => rfl,
    lines := fun _ => rfl, linkRt := fun _ => rfl, rateTo := fun _ => rfl, bar2Held := fun _ => rfl }
theorem keeps_with_storeWait {m : Nat} {r s : State} {v_storeWait : List StoreOp} (hm : 0x1000000000000000000 &&& m = 0x1000000000000000000) (h : Keeps m r s) :
    Keeps m r { s with storeWait := v_storeWait } := by
  refine h.trans (Keeps.mono (n := 0x1000000000000000000) ?_ hm)
  exact
  { kept := ⟨rfl, id, id⟩, regs := fun _ _ _ _ _ => rfl
    store := fun _ => ⟨fun _ => ⟨rfl, rfl, rfl⟩, rfl, fun _ _ => rfl, fun _ _ => rfl⟩
    free := fun _ => rfl, out := fun _ => rfl, force := fun _ => rfl, latch := fun _ => rfl,
    lowHalf := fun _ => rfl, mem := fun _ => rfl, hostMem := fun _ => rfl, rings := fun _ => rfl,
    stale := fun _ => rfl, commands := fun _ => rfl, clk := fun _ => rfl, pow := fun _ => rfl, cyc := fun _ => rfl,
    flows := fun _ => rfl, ports := fun _ => rfl, views := fun _ => rfl, feeds := fun _ => rfl,
    lanes := fun _ => rfl, busy := fun _ => rfl, chans := fun _ => rfl, credits := fun _ => rfl,
    house := fun _ => rfl, ptp := fun _ => rfl, touts := fun _ => rfl, tcaps := fun _ => rfl,
    ppsHigh := fun _ => rfl, servos := fun _ => rfl, evt := fun _ => rfl, dgs := fun _ => rfl,
    resp := fun _ => rfl, respLoad := fun _ => rfl, cap := fun _ => rfl, corrTouched := fun _ => rfl,
    play := fun _ => rfl, flashMem := fun _ => rfl, flashOp := fun _ => rfl, drives := fun _ => rfl,
    storeOp := fun _ => rfl, storeWait := fun x => absurd x (by decide), job := fun _ => rfl,
    aborts := fun _ => rfl, panic := fun _ => rfl, rateWait := fun _ => rfl, powerReq := fun _ => rfl,
    image := fun _ => rfl, bar4 := fun _ => rfl, cfgSpace := fun _ => rfl, tap := fun _ => rfl,
    lines := fun _ => rfl, linkRt := fun _ => rfl, rateTo := fun _ => rfl, bar2Held := fun _ => rfl }
theorem keeps_with_storeOp_storeWait {m : Nat} {r s : State} {v_storeOp : Option StoreOp} {v_storeWait : List StoreOp} (hm : 0x1800000000000000000 &&& m = 0x1800000000000000000) (h : Keeps m r s) :
    Keeps m r { s with storeOp := v_storeOp, storeWait := v_storeWait } := by
  refine h.trans (Keeps.mono (n := 0x1800000000000000000) ?_ hm)
  exact
  { kept := ⟨rfl, id, id⟩, regs := fun _ _ _ _ _ => rfl
    store := fun _ => ⟨fun _ => ⟨rfl, rfl, rfl⟩, rfl, fun _ _ => rfl, fun _ _ => rfl⟩
    free := fun _ => rfl, out := fun _ => rfl, force := fun _ => rfl, latch := fun _ => rfl,
    lowHalf := fun _ => rfl, mem := fun _ => rfl, hostMem := fun _ => rfl, rings := fun _ => rfl,
    stale := fun _ => rfl, commands := fun _ => rfl, clk := fun _ => rfl, pow := fun _ => rfl, cyc := fun _ => rfl,
    flows := fun _ => rfl, ports := fun _ => rfl, views := fun _ => rfl, feeds := fun _ => rfl,
    lanes := fun _ => rfl, busy := fun _ => rfl, chans := fun _ => rfl, credits := fun _ => rfl,
    house := fun _ => rfl, ptp := fun _ => rfl, touts := fun _ => rfl, tcaps := fun _ => rfl,
    ppsHigh := fun _ => rfl, servos := fun _ => rfl, evt := fun _ => rfl, dgs := fun _ => rfl,
    resp := fun _ => rfl, respLoad := fun _ => rfl, cap := fun _ => rfl, corrTouched := fun _ => rfl,
    play := fun _ => rfl, flashMem := fun _ => rfl, flashOp := fun _ => rfl, drives := fun _ => rfl,
    storeOp := fun x => absurd x (by decide), storeWait := fun x => absurd x (by decide), job := fun _ => rfl,
    aborts := fun _ => rfl, panic := fun _ => rfl, rateWait := fun _ => rfl, powerReq := fun _ => rfl,
    image := fun _ => rfl, bar4 := fun _ => rfl, cfgSpace := fun _ => rfl, tap := fun _ => rfl,
    lines := fun _ => rfl, linkRt := fun _ => rfl, rateTo := fun _ => rfl, bar2Held := fun _ => rfl }
theorem keeps_with_clk_pow {m : Nat} {r s : State} {v_clk : Clock} {v_pow : Power} (hm : 0x300000000000 &&& m = 0x300000000000) (h : Keeps m r s) :
    Keeps m r { s with clk := v_clk, pow := v_pow } := by
  refine h.trans (Keeps.mono (n := 0x300000000000) ?_ hm)
  exact
  { kept := ⟨rfl, id, id⟩, regs := fun _ _ _ _ _ => rfl
    store := fun _ => ⟨fun _ => ⟨rfl, rfl, rfl⟩, rfl, fun _ _ => rfl, fun _ _ => rfl⟩
    free := fun _ => rfl, out := fun _ => rfl, force := fun _ => rfl, latch := fun _ => rfl,
    lowHalf := fun _ => rfl, mem := fun _ => rfl, hostMem := fun _ => rfl, rings := fun _ => rfl,
    stale := fun _ => rfl, commands := fun _ => rfl, clk := fun x => absurd x (by decide),
    pow := fun x => absurd x (by decide), cyc := fun _ => rfl, flows := fun _ => rfl, ports := fun _ => rfl,
    views := fun _ => rfl, feeds := fun _ => rfl, lanes := fun _ => rfl, busy := fun _ => rfl,
    chans := fun _ => rfl, credits := fun _ => rfl, house := fun _ => rfl, ptp := fun _ => rfl,
    touts := fun _ => rfl, tcaps := fun _ => rfl, ppsHigh := fun _ => rfl, servos := fun _ => rfl,
    evt := fun _ => rfl, dgs := fun _ => rfl, resp := fun _ => rfl, respLoad := fun _ => rfl, cap := fun _ => rfl,
    corrTouched := fun _ => rfl, play := fun _ => rfl, flashMem := fun _ => rfl, flashOp := fun _ => rfl,
    drives := fun _ => rfl, storeOp := fun _ => rfl, storeWait := fun _ => rfl, job := fun _ => rfl,
    aborts := fun _ => rfl, panic := fun _ => rfl, rateWait := fun _ => rfl, powerReq := fun _ => rfl,
    image := fun _ => rfl, bar4 := fun _ => rfl, cfgSpace := fun _ => rfl, tap := fun _ => rfl,
    lines := fun _ => rfl, linkRt := fun _ => rfl, rateTo := fun _ => rfl, bar2Held := fun _ => rfl }
theorem keeps_with_powerReq {m : Nat} {r s : State} {v_powerReq : Option Bool} (hm : 0x20000000000000000000 &&& m = 0x20000000000000000000) (h : Keeps m r s) :
    Keeps m r { s with powerReq := v_powerReq } := by
  refine h.trans (Keeps.mono (n := 0x20000000000000000000) ?_ hm)
  exact
  { kept := ⟨rfl, id, id⟩, regs := fun _ _ _ _ _ => rfl
    store := fun _ => ⟨fun _ => ⟨rfl, rfl, rfl⟩, rfl, fun _ _ => rfl, fun _ _ => rfl⟩
    free := fun _ => rfl, out := fun _ => rfl, force := fun _ => rfl, latch := fun _ => rfl,
    lowHalf := fun _ => rfl, mem := fun _ => rfl, hostMem := fun _ => rfl, rings := fun _ => rfl,
    stale := fun _ => rfl, commands := fun _ => rfl, clk := fun _ => rfl, pow := fun _ => rfl, cyc := fun _ => rfl,
    flows := fun _ => rfl, ports := fun _ => rfl, views := fun _ => rfl, feeds := fun _ => rfl,
    lanes := fun _ => rfl, busy := fun _ => rfl, chans := fun _ => rfl, credits := fun _ => rfl,
    house := fun _ => rfl, ptp := fun _ => rfl, touts := fun _ => rfl, tcaps := fun _ => rfl,
    ppsHigh := fun _ => rfl, servos := fun _ => rfl, evt := fun _ => rfl, dgs := fun _ => rfl,
    resp := fun _ => rfl, respLoad := fun _ => rfl, cap := fun _ => rfl, corrTouched := fun _ => rfl,
    play := fun _ => rfl, flashMem := fun _ => rfl, flashOp := fun _ => rfl, drives := fun _ => rfl,
    storeOp := fun _ => rfl, storeWait := fun _ => rfl, job := fun _ => rfl, aborts := fun _ => rfl,
    panic := fun _ => rfl, rateWait := fun _ => rfl, powerReq := fun x => absurd x (by decide),
    image := fun _ => rfl, bar4 := fun _ => rfl, cfgSpace := fun _ => rfl, tap := fun _ => rfl,
    lines := fun _ => rfl, linkRt := fun _ => rfl, rateTo := fun _ => rfl, bar2Held := fun _ => rfl }
theorem keeps_with_latch {m : Nat} {r s : State} {v_latch : Sparse (Option Word)} (hm : 0x2000000000 &&& m = 0x2000000000) (h : Keeps m r s) :
    Keeps m r { s with latch := v_latch } := by
  refine h.trans (Keeps.mono (n := 0x2000000000) ?_ hm)
  exact
  { kept := ⟨rfl, id, id⟩, regs := fun _ _ _ _ _ => rfl
    store := fun _ => ⟨fun _ => ⟨rfl, rfl, rfl⟩, rfl, fun _ _ => rfl, fun _ _ => rfl⟩
    free := fun _ => rfl, out := fun _ => rfl, force := fun _ => rfl, latch := fun x => absurd x (by decide),
    lowHalf := fun _ => rfl, mem := fun _ => rfl, hostMem := fun _ => rfl, rings := fun _ => rfl,
    stale := fun _ => rfl, commands := fun _ => rfl, clk := fun _ => rfl, pow := fun _ => rfl, cyc := fun _ => rfl,
    flows := fun _ => rfl, ports := fun _ => rfl, views := fun _ => rfl, feeds := fun _ => rfl,
    lanes := fun _ => rfl, busy := fun _ => rfl, chans := fun _ => rfl, credits := fun _ => rfl,
    house := fun _ => rfl, ptp := fun _ => rfl, touts := fun _ => rfl, tcaps := fun _ => rfl,
    ppsHigh := fun _ => rfl, servos := fun _ => rfl, evt := fun _ => rfl, dgs := fun _ => rfl,
    resp := fun _ => rfl, respLoad := fun _ => rfl, cap := fun _ => rfl, corrTouched := fun _ => rfl,
    play := fun _ => rfl, flashMem := fun _ => rfl, flashOp := fun _ => rfl, drives := fun _ => rfl,
    storeOp := fun _ => rfl, storeWait := fun _ => rfl, job := fun _ => rfl, aborts := fun _ => rfl,
    panic := fun _ => rfl, rateWait := fun _ => rfl, powerReq := fun _ => rfl, image := fun _ => rfl,
    bar4 := fun _ => rfl, cfgSpace := fun _ => rfl, tap := fun _ => rfl, lines := fun _ => rfl,
    linkRt := fun _ => rfl, rateTo := fun _ => rfl, bar2Held := fun _ => rfl }
theorem keeps_with_lowHalf {m : Nat} {r s : State} {v_lowHalf : Sparse (Option Word)} (hm : 0x4000000000 &&& m = 0x4000000000) (h : Keeps m r s) :
    Keeps m r { s with lowHalf := v_lowHalf } := by
  refine h.trans (Keeps.mono (n := 0x4000000000) ?_ hm)
  exact
  { kept := ⟨rfl, id, id⟩, regs := fun _ _ _ _ _ => rfl
    store := fun _ => ⟨fun _ => ⟨rfl, rfl, rfl⟩, rfl, fun _ _ => rfl, fun _ _ => rfl⟩
    free := fun _ => rfl, out := fun _ => rfl, force := fun _ => rfl, latch := fun _ => rfl,
    lowHalf := fun x => absurd x (by decide), mem := fun _ => rfl, hostMem := fun _ => rfl, rings := fun _ => rfl,
    stale := fun _ => rfl, commands := fun _ => rfl, clk := fun _ => rfl, pow := fun _ => rfl, cyc := fun _ => rfl,
    flows := fun _ => rfl, ports := fun _ => rfl, views := fun _ => rfl, feeds := fun _ => rfl,
    lanes := fun _ => rfl, busy := fun _ => rfl, chans := fun _ => rfl, credits := fun _ => rfl,
    house := fun _ => rfl, ptp := fun _ => rfl, touts := fun _ => rfl, tcaps := fun _ => rfl,
    ppsHigh := fun _ => rfl, servos := fun _ => rfl, evt := fun _ => rfl, dgs := fun _ => rfl,
    resp := fun _ => rfl, respLoad := fun _ => rfl, cap := fun _ => rfl, corrTouched := fun _ => rfl,
    play := fun _ => rfl, flashMem := fun _ => rfl, flashOp := fun _ => rfl, drives := fun _ => rfl,
    storeOp := fun _ => rfl, storeWait := fun _ => rfl, job := fun _ => rfl, aborts := fun _ => rfl,
    panic := fun _ => rfl, rateWait := fun _ => rfl, powerReq := fun _ => rfl, image := fun _ => rfl,
    bar4 := fun _ => rfl, cfgSpace := fun _ => rfl, tap := fun _ => rfl, lines := fun _ => rfl,
    linkRt := fun _ => rfl, rateTo := fun _ => rfl, bar2Held := fun _ => rfl }
theorem keeps_with_cfgSpace {m : Nat} {r s : State} {v_cfgSpace : Sparse (Option Word)} (hm : 0x100000000000000000000 &&& m = 0x100000000000000000000) (h : Keeps m r s) :
    Keeps m r { s with cfgSpace := v_cfgSpace } := by
  refine h.trans (Keeps.mono (n := 0x100000000000000000000) ?_ hm)
  exact
  { kept := ⟨rfl, id, id⟩, regs := fun _ _ _ _ _ => rfl
    store := fun _ => ⟨fun _ => ⟨rfl, rfl, rfl⟩, rfl, fun _ _ => rfl, fun _ _ => rfl⟩
    free := fun _ => rfl, out := fun _ => rfl, force := fun _ => rfl, latch := fun _ => rfl,
    lowHalf := fun _ => rfl, mem := fun _ => rfl, hostMem := fun _ => rfl, rings := fun _ => rfl,
    stale := fun _ => rfl, commands := fun _ => rfl, clk := fun _ => rfl, pow := fun _ => rfl, cyc := fun _ => rfl,
    flows := fun _ => rfl, ports := fun _ => rfl, views := fun _ => rfl, feeds := fun _ => rfl,
    lanes := fun _ => rfl, busy := fun _ => rfl, chans := fun _ => rfl, credits := fun _ => rfl,
    house := fun _ => rfl, ptp := fun _ => rfl, touts := fun _ => rfl, tcaps := fun _ => rfl,
    ppsHigh := fun _ => rfl, servos := fun _ => rfl, evt := fun _ => rfl, dgs := fun _ => rfl,
    resp := fun _ => rfl, respLoad := fun _ => rfl, cap := fun _ => rfl, corrTouched := fun _ => rfl,
    play := fun _ => rfl, flashMem := fun _ => rfl, flashOp := fun _ => rfl, drives := fun _ => rfl,
    storeOp := fun _ => rfl, storeWait := fun _ => rfl, job := fun _ => rfl, aborts := fun _ => rfl,
    panic := fun _ => rfl, rateWait := fun _ => rfl, powerReq := fun _ => rfl, image := fun _ => rfl,
    bar4 := fun _ => rfl, cfgSpace := fun x => absurd x (by decide), tap := fun _ => rfl, lines := fun _ => rfl,
    linkRt := fun _ => rfl, rateTo := fun _ => rfl, bar2Held := fun _ => rfl }
theorem keeps_with_dgs {m : Nat} {r s : State} {v_dgs : Sparse DgRt} (hm : 0x4000000000000000 &&& m = 0x4000000000000000) (h : Keeps m r s) :
    Keeps m r { s with dgs := v_dgs } := by
  refine h.trans (Keeps.mono (n := 0x4000000000000000) ?_ hm)
  exact
  { kept := ⟨rfl, id, id⟩, regs := fun _ _ _ _ _ => rfl
    store := fun _ => ⟨fun _ => ⟨rfl, rfl, rfl⟩, rfl, fun _ _ => rfl, fun _ _ => rfl⟩
    free := fun _ => rfl, out := fun _ => rfl, force := fun _ => rfl, latch := fun _ => rfl,
    lowHalf := fun _ => rfl, mem := fun _ => rfl, hostMem := fun _ => rfl, rings := fun _ => rfl,
    stale := fun _ => rfl, commands := fun _ => rfl, clk := fun _ => rfl, pow := fun _ => rfl, cyc := fun _ => rfl,
    flows := fun _ => rfl, ports := fun _ => rfl, views := fun _ => rfl, feeds := fun _ => rfl,
    lanes := fun _ => rfl, busy := fun _ => rfl, chans := fun _ => rfl, credits := fun _ => rfl,
    house := fun _ => rfl, ptp := fun _ => rfl, touts := fun _ => rfl, tcaps := fun _ => rfl,
    ppsHigh := fun _ => rfl, servos := fun _ => rfl, evt := fun _ => rfl, dgs := fun x => absurd x (by decide),
    resp := fun _ => rfl, respLoad := fun _ => rfl, cap := fun _ => rfl, corrTouched := fun _ => rfl,
    play := fun _ => rfl, flashMem := fun _ => rfl, flashOp := fun _ => rfl, drives := fun _ => rfl,
    storeOp := fun _ => rfl, storeWait := fun _ => rfl, job := fun _ => rfl, aborts := fun _ => rfl,
    panic := fun _ => rfl, rateWait := fun _ => rfl, powerReq := fun _ => rfl, image := fun _ => rfl,
    bar4 := fun _ => rfl, cfgSpace := fun _ => rfl, tap := fun _ => rfl, lines := fun _ => rfl,
    linkRt := fun _ => rfl, rateTo := fun _ => rfl, bar2Held := fun _ => rfl }
theorem keeps_with_out_tap {m : Nat} {r s : State} {v_out : List Out} {v_tap : Tap} (hm : 0x200000000000800000000 &&& m = 0x200000000000800000000) (h : Keeps m r s) :
    Keeps m r { s with out := v_out, tap := v_tap } := by
  refine h.trans (Keeps.mono (n := 0x200000000000800000000) ?_ hm)
  exact
  { kept := ⟨rfl, id, id⟩, regs := fun _ _ _ _ _ => rfl
    store := fun _ => ⟨fun _ => ⟨rfl, rfl, rfl⟩, rfl, fun _ _ => rfl, fun _ _ => rfl⟩
    free := fun _ => rfl, out := fun x => absurd x (by decide), force := fun _ => rfl, latch := fun _ => rfl,
    lowHalf := fun _ => rfl, mem := fun _ => rfl, hostMem := fun _ => rfl, rings := fun _ => rfl,
    stale := fun _ => rfl, commands := fun _ => rfl, clk := fun _ => rfl, pow := fun _ => rfl, cyc := fun _ => rfl,
    flows := fun _ => rfl, ports := fun _ => rfl, views := fun _ => rfl, feeds := fun _ => rfl,
    lanes := fun _ => rfl, busy := fun _ => rfl, chans := fun _ => rfl, credits := fun _ => rfl,
    house := fun _ => rfl, ptp := fun _ => rfl, touts := fun _ => rfl, tcaps := fun _ => rfl,
    ppsHigh := fun _ => rfl, servos := fun _ => rfl, evt := fun _ => rfl, dgs := fun _ => rfl,
    resp := fun _ => rfl, respLoad := fun _ => rfl, cap := fun _ => rfl, corrTouched := fun _ => rfl,
    play := fun _ => rfl, flashMem := fun _ => rfl, flashOp := fun _ => rfl, drives := fun _ => rfl,
    storeOp := fun _ => rfl, storeWait := fun _ => rfl, job := fun _ => rfl, aborts := fun _ => rfl,
    panic := fun _ => rfl, rateWait := fun _ => rfl, powerReq := fun _ => rfl, image := fun _ => rfl,
    bar4 := fun _ => rfl, cfgSpace := fun _ => rfl, tap := fun x => absurd x (by decide), lines := fun _ => rfl,
    linkRt := fun _ => rfl, rateTo := fun _ => rfl, bar2Held := fun _ => rfl }
theorem keeps_with_image {m : Nat} {r s : State} {v_image : Option Image} (hm : 0x40000000000000000000 &&& m = 0x40000000000000000000) (h : Keeps m r s) :
    Keeps m r { s with image := v_image } := by
  refine h.trans (Keeps.mono (n := 0x40000000000000000000) ?_ hm)
  exact
  { kept := ⟨rfl, id, id⟩, regs := fun _ _ _ _ _ => rfl
    store := fun _ => ⟨fun _ => ⟨rfl, rfl, rfl⟩, rfl, fun _ _ => rfl, fun _ _ => rfl⟩
    free := fun _ => rfl, out := fun _ => rfl, force := fun _ => rfl, latch := fun _ => rfl,
    lowHalf := fun _ => rfl, mem := fun _ => rfl, hostMem := fun _ => rfl, rings := fun _ => rfl,
    stale := fun _ => rfl, commands := fun _ => rfl, clk := fun _ => rfl, pow := fun _ => rfl, cyc := fun _ => rfl,
    flows := fun _ => rfl, ports := fun _ => rfl, views := fun _ => rfl, feeds := fun _ => rfl,
    lanes := fun _ => rfl, busy := fun _ => rfl, chans := fun _ => rfl, credits := fun _ => rfl,
    house := fun _ => rfl, ptp := fun _ => rfl, touts := fun _ => rfl, tcaps := fun _ => rfl,
    ppsHigh := fun _ => rfl, servos := fun _ => rfl, evt := fun _ => rfl, dgs := fun _ => rfl,
    resp := fun _ => rfl, respLoad := fun _ => rfl, cap := fun _ => rfl, corrTouched := fun _ => rfl,
    play := fun _ => rfl, flashMem := fun _ => rfl, flashOp := fun _ => rfl, drives := fun _ => rfl,
    storeOp := fun _ => rfl, storeWait := fun _ => rfl, job := fun _ => rfl, aborts := fun _ => rfl,
    panic := fun _ => rfl, rateWait := fun _ => rfl, powerReq := fun _ => rfl,
    image := fun x => absurd x (by decide), bar4 := fun _ => rfl, cfgSpace := fun _ => rfl, tap := fun _ => rfl,
    lines := fun _ => rfl, linkRt := fun _ => rfl, rateTo := fun _ => rfl, bar2Held := fun _ => rfl }
theorem keeps_with_out {m : Nat} {r s : State} {v_out : List Out} (hm : 0x800000000 &&& m = 0x800000000) (h : Keeps m r s) :
    Keeps m r { s with out := v_out } := by
  refine h.trans (Keeps.mono (n := 0x800000000) ?_ hm)
  exact
  { kept := ⟨rfl, id, id⟩, regs := fun _ _ _ _ _ => rfl
    store := fun _ => ⟨fun _ => ⟨rfl, rfl, rfl⟩, rfl, fun _ _ => rfl, fun _ _ => rfl⟩
    free := fun _ => rfl, out := fun x => absurd x (by decide), force := fun _ => rfl, latch := fun _ => rfl,
    lowHalf := fun _ => rfl, mem := fun _ => rfl, hostMem := fun _ => rfl, rings := fun _ => rfl,
    stale := fun _ => rfl, commands := fun _ => rfl, clk := fun _ => rfl, pow := fun _ => rfl, cyc := fun _ => rfl,
    flows := fun _ => rfl, ports := fun _ => rfl, views := fun _ => rfl, feeds := fun _ => rfl,
    lanes := fun _ => rfl, busy := fun _ => rfl, chans := fun _ => rfl, credits := fun _ => rfl,
    house := fun _ => rfl, ptp := fun _ => rfl, touts := fun _ => rfl, tcaps := fun _ => rfl,
    ppsHigh := fun _ => rfl, servos := fun _ => rfl, evt := fun _ => rfl, dgs := fun _ => rfl,
    resp := fun _ => rfl, respLoad := fun _ => rfl, cap := fun _ => rfl, corrTouched := fun _ => rfl,
    play := fun _ => rfl, flashMem := fun _ => rfl, flashOp := fun _ => rfl, drives := fun _ => rfl,
    storeOp := fun _ => rfl, storeWait := fun _ => rfl, job := fun _ => rfl, aborts := fun _ => rfl,
    panic := fun _ => rfl, rateWait := fun _ => rfl, powerReq := fun _ => rfl, image := fun _ => rfl,
    bar4 := fun _ => rfl, cfgSpace := fun _ => rfl, tap := fun _ => rfl, lines := fun _ => rfl,
    linkRt := fun _ => rfl, rateTo := fun _ => rfl, bar2Held := fun _ => rfl }
theorem keeps_with_force_resp_rings_stale {m : Nat} {r s : State} {v_force : Sparse Word} {v_resp : Sparse Nat} {v_rings : Sparse Ring} {v_stale : List Nat} (hm : 0x8000061200000000 &&& m = 0x8000061200000000) (h : Keeps m r s) :
    Keeps m r { s with force := v_force, resp := v_resp, rings := v_rings, stale := v_stale } := by
  refine h.trans (Keeps.mono (n := 0x8000061200000000) ?_ hm)
  exact
  { kept := ⟨rfl, id, id⟩, regs := fun _ _ _ _ _ => rfl
    store := fun x => absurd x (by decide)
    free := fun _ => rfl, out := fun _ => rfl, force := fun x => absurd x (by decide), latch := fun _ => rfl,
    lowHalf := fun _ => rfl, mem := fun _ => rfl, hostMem := fun _ => rfl, rings := fun x => absurd x (by decide),
    stale := fun x => absurd x (by decide), commands := fun _ => rfl, clk := fun _ => rfl, pow := fun _ => rfl,
    cyc := fun _ => rfl, flows := fun _ => rfl, ports := fun _ => rfl, views := fun _ => rfl,
    feeds := fun _ => rfl, lanes := fun _ => rfl, busy := fun _ => rfl, chans := fun _ => rfl,
    credits := fun _ => rfl, house := fun _ => rfl, ptp := fun _ => rfl, touts := fun _ => rfl,
    tcaps := fun _ => rfl, ppsHigh := fun _ => rfl, servos := fun _ => rfl, evt := fun _ => rfl,
    dgs := fun _ => rfl, resp := fun x => absurd x (by decide), respLoad := fun _ => rfl, cap := fun _ => rfl,
    corrTouched := fun _ => rfl, play := fun _ => rfl, flashMem := fun _ => rfl, flashOp := fun _ => rfl,
    drives := fun _ => rfl, storeOp := fun _ => rfl, storeWait := fun _ => rfl, job := fun _ => rfl,
    aborts := fun _ => rfl, panic := fun _ => rfl, rateWait := fun _ => rfl, powerReq := fun _ => rfl,
    image := fun _ => rfl, bar4 := fun _ => rfl, cfgSpace := fun _ => rfl, tap := fun _ => rfl,
    lines := fun _ => rfl, linkRt := fun _ => rfl, rateTo := fun _ => rfl, bar2Held := fun _ => rfl }
theorem keeps_with_bar2Held {m : Nat} {r s : State} {v_bar2Held : List Bar2Req} (hm : 0x2000000000000000000000 &&& m = 0x2000000000000000000000) (h : Keeps m r s) :
    Keeps m r { s with bar2Held := v_bar2Held } := by
  refine h.trans (Keeps.mono (n := 0x2000000000000000000000) ?_ hm)
  exact
  { kept := ⟨rfl, id, id⟩, regs := fun _ _ _ _ _ => rfl
    store := fun _ => ⟨fun _ => ⟨rfl, rfl, rfl⟩, rfl, fun _ _ => rfl, fun _ _ => rfl⟩
    free := fun _ => rfl, out := fun _ => rfl, force := fun _ => rfl, latch := fun _ => rfl,
    lowHalf := fun _ => rfl, mem := fun _ => rfl, hostMem := fun _ => rfl, rings := fun _ => rfl,
    stale := fun _ => rfl, commands := fun _ => rfl, clk := fun _ => rfl, pow := fun _ => rfl, cyc := fun _ => rfl,
    flows := fun _ => rfl, ports := fun _ => rfl, views := fun _ => rfl, feeds := fun _ => rfl,
    lanes := fun _ => rfl, busy := fun _ => rfl, chans := fun _ => rfl, credits := fun _ => rfl,
    house := fun _ => rfl, ptp := fun _ => rfl, touts := fun _ => rfl, tcaps := fun _ => rfl,
    ppsHigh := fun _ => rfl, servos := fun _ => rfl, evt := fun _ => rfl, dgs := fun _ => rfl,
    resp := fun _ => rfl, respLoad := fun _ => rfl, cap := fun _ => rfl, corrTouched := fun _ => rfl,
    play := fun _ => rfl, flashMem := fun _ => rfl, flashOp := fun _ => rfl, drives := fun _ => rfl,
    storeOp := fun _ => rfl, storeWait := fun _ => rfl, job := fun _ => rfl, aborts := fun _ => rfl,
    panic := fun _ => rfl, rateWait := fun _ => rfl, powerReq := fun _ => rfl, image := fun _ => rfl,
    bar4 := fun _ => rfl, cfgSpace := fun _ => rfl, tap := fun _ => rfl, lines := fun _ => rfl,
    linkRt := fun _ => rfl, rateTo := fun _ => rfl, bar2Held := fun x => absurd x (by decide) }
theorem keeps_with_rateTo {m : Nat} {r s : State} {v_rateTo : Nat} (hm : 0x1000000000000000000000 &&& m = 0x1000000000000000000000) (h : Keeps m r s) :
    Keeps m r { s with rateTo := v_rateTo } := by
  refine h.trans (Keeps.mono (n := 0x1000000000000000000000) ?_ hm)
  exact
  { kept := ⟨rfl, id, id⟩, regs := fun _ _ _ _ _ => rfl
    store := fun _ => ⟨fun _ => ⟨rfl, rfl, rfl⟩, rfl, fun _ _ => rfl, fun _ _ => rfl⟩
    free := fun _ => rfl, out := fun _ => rfl, force := fun _ => rfl, latch := fun _ => rfl,
    lowHalf := fun _ => rfl, mem := fun _ => rfl, hostMem := fun _ => rfl, rings := fun _ => rfl,
    stale := fun _ => rfl, commands := fun _ => rfl, clk := fun _ => rfl, pow := fun _ => rfl, cyc := fun _ => rfl,
    flows := fun _ => rfl, ports := fun _ => rfl, views := fun _ => rfl, feeds := fun _ => rfl,
    lanes := fun _ => rfl, busy := fun _ => rfl, chans := fun _ => rfl, credits := fun _ => rfl,
    house := fun _ => rfl, ptp := fun _ => rfl, touts := fun _ => rfl, tcaps := fun _ => rfl,
    ppsHigh := fun _ => rfl, servos := fun _ => rfl, evt := fun _ => rfl, dgs := fun _ => rfl,
    resp := fun _ => rfl, respLoad := fun _ => rfl, cap := fun _ => rfl, corrTouched := fun _ => rfl,
    play := fun _ => rfl, flashMem := fun _ => rfl, flashOp := fun _ => rfl, drives := fun _ => rfl,
    storeOp := fun _ => rfl, storeWait := fun _ => rfl, job := fun _ => rfl, aborts := fun _ => rfl,
    panic := fun _ => rfl, rateWait := fun _ => rfl, powerReq := fun _ => rfl, image := fun _ => rfl,
    bar4 := fun _ => rfl, cfgSpace := fun _ => rfl, tap := fun _ => rfl, lines := fun _ => rfl,
    linkRt := fun _ => rfl, rateTo := fun x => absurd x (by decide), bar2Held := fun _ => rfl }
theorem keeps_with_rateTo_rateWait {m : Nat} {r s : State} {v_rateTo : Nat} {v_rateWait : Bool} (hm : 0x1010000000000000000000 &&& m = 0x1010000000000000000000) (h : Keeps m r s) :
    Keeps m r { s with rateTo := v_rateTo, rateWait := v_rateWait } := by
  refine h.trans (Keeps.mono (n := 0x1010000000000000000000) ?_ hm)
  exact
  { kept := ⟨rfl, id, id⟩, regs := fun _ _ _ _ _ => rfl
    store := fun _ => ⟨fun _ => ⟨rfl, rfl, rfl⟩, rfl, fun _ _ => rfl, fun _ _ => rfl⟩
    free := fun _ => rfl, out := fun _ => rfl, force := fun _ => rfl, latch := fun _ => rfl,
    lowHalf := fun _ => rfl, mem := fun _ => rfl, hostMem := fun _ => rfl, rings := fun _ => rfl,
    stale := fun _ => rfl, commands := fun _ => rfl, clk := fun _ => rfl, pow := fun _ => rfl, cyc := fun _ => rfl,
    flows := fun _ => rfl, ports := fun _ => rfl, views := fun _ => rfl, feeds := fun _ => rfl,
    lanes := fun _ => rfl, busy := fun _ => rfl, chans := fun _ => rfl, credits := fun _ => rfl,
    house := fun _ => rfl, ptp := fun _ => rfl, touts := fun _ => rfl, tcaps := fun _ => rfl,
    ppsHigh := fun _ => rfl, servos := fun _ => rfl, evt := fun _ => rfl, dgs := fun _ => rfl,
    resp := fun _ => rfl, respLoad := fun _ => rfl, cap := fun _ => rfl, corrTouched := fun _ => rfl,
    play := fun _ => rfl, flashMem := fun _ => rfl, flashOp := fun _ => rfl, drives := fun _ => rfl,
    storeOp := fun _ => rfl, storeWait := fun _ => rfl, job := fun _ => rfl, aborts := fun _ => rfl,
    panic := fun _ => rfl, rateWait := fun x => absurd x (by decide), powerReq := fun _ => rfl,
    image := fun _ => rfl, bar4 := fun _ => rfl, cfgSpace := fun _ => rfl, tap := fun _ => rfl,
    lines := fun _ => rfl, linkRt := fun _ => rfl, rateTo := fun x => absurd x (by decide), bar2Held := fun _ => rfl }
theorem keeps_with_linkRt {m : Nat} {r s : State} {v_linkRt : Sparse LinkRt} (hm : 0x800000000000000000000 &&& m = 0x800000000000000000000) (h : Keeps m r s) :
    Keeps m r { s with linkRt := v_linkRt } := by
  refine h.trans (Keeps.mono (n := 0x800000000000000000000) ?_ hm)
  exact
  { kept := ⟨rfl, id, id⟩, regs := fun _ _ _ _ _ => rfl
    store := fun _ => ⟨fun _ => ⟨rfl, rfl, rfl⟩, rfl, fun _ _ => rfl, fun _ _ => rfl⟩
    free := fun _ => rfl, out := fun _ => rfl, force := fun _ => rfl, latch := fun _ => rfl,
    lowHalf := fun _ => rfl, mem := fun _ => rfl, hostMem := fun _ => rfl, rings := fun _ => rfl,
    stale := fun _ => rfl, commands := fun _ => rfl, clk := fun _ => rfl, pow := fun _ => rfl, cyc := fun _ => rfl,
    flows := fun _ => rfl, ports := fun _ => rfl, views := fun _ => rfl, feeds := fun _ => rfl,
    lanes := fun _ => rfl, busy := fun _ => rfl, chans := fun _ => rfl, credits := fun _ => rfl,
    house := fun _ => rfl, ptp := fun _ => rfl, touts := fun _ => rfl, tcaps := fun _ => rfl,
    ppsHigh := fun _ => rfl, servos := fun _ => rfl, evt := fun _ => rfl, dgs := fun _ => rfl,
    resp := fun _ => rfl, respLoad := fun _ => rfl, cap := fun _ => rfl, corrTouched := fun _ => rfl,
    play := fun _ => rfl, flashMem := fun _ => rfl, flashOp := fun _ => rfl, drives := fun _ => rfl,
    storeOp := fun _ => rfl, storeWait := fun _ => rfl, job := fun _ => rfl, aborts := fun _ => rfl,
    panic := fun _ => rfl, rateWait := fun _ => rfl, powerReq := fun _ => rfl, image := fun _ => rfl,
    bar4 := fun _ => rfl, cfgSpace := fun _ => rfl, tap := fun _ => rfl, lines := fun _ => rfl,
    linkRt := fun x => absurd x (by decide), rateTo := fun _ => rfl, bar2Held := fun _ => rfl }
theorem keeps_with_lines {m : Nat} {r s : State} {v_lines : Sparse LineRt} (hm : 0x400000000000000000000 &&& m = 0x400000000000000000000) (h : Keeps m r s) :
    Keeps m r { s with lines := v_lines } := by
  refine h.trans (Keeps.mono (n := 0x400000000000000000000) ?_ hm)
  exact
  { kept := ⟨rfl, id, id⟩, regs := fun _ _ _ _ _ => rfl
    store := fun _ => ⟨fun _ => ⟨rfl, rfl, rfl⟩, rfl, fun _ _ => rfl, fun _ _ => rfl⟩
    free := fun _ => rfl, out := fun _ => rfl, force := fun _ => rfl, latch := fun _ => rfl,
    lowHalf := fun _ => rfl, mem := fun _ => rfl, hostMem := fun _ => rfl, rings := fun _ => rfl,
    stale := fun _ => rfl, commands := fun _ => rfl, clk := fun _ => rfl, pow := fun _ => rfl, cyc := fun _ => rfl,
    flows := fun _ => rfl, ports := fun _ => rfl, views := fun _ => rfl, feeds := fun _ => rfl,
    lanes := fun _ => rfl, busy := fun _ => rfl, chans := fun _ => rfl, credits := fun _ => rfl,
    house := fun _ => rfl, ptp := fun _ => rfl, touts := fun _ => rfl, tcaps := fun _ => rfl,
    ppsHigh := fun _ => rfl, servos := fun _ => rfl, evt := fun _ => rfl, dgs := fun _ => rfl,
    resp := fun _ => rfl, respLoad := fun _ => rfl, cap := fun _ => rfl, corrTouched := fun _ => rfl,
    play := fun _ => rfl, flashMem := fun _ => rfl, flashOp := fun _ => rfl, drives := fun _ => rfl,
    storeOp := fun _ => rfl, storeWait := fun _ => rfl, job := fun _ => rfl, aborts := fun _ => rfl,
    panic := fun _ => rfl, rateWait := fun _ => rfl, powerReq := fun _ => rfl, image := fun _ => rfl,
    bar4 := fun _ => rfl, cfgSpace := fun _ => rfl, tap := fun _ => rfl, lines := fun x => absurd x (by decide),
    linkRt := fun _ => rfl, rateTo := fun _ => rfl, bar2Held := fun _ => rfl }

/-! ### Rings -/

theorem kept_setRing (s : State) (n : Nat) (x : Ring) : Keeps 0x20200000000 s (s.setRing n x) := by
  exact keeps_with_rings (by decide) (Keeps.refl s)

/-- A ring changes and stays where it lies. -/
theorem keeps_setRing_geo {m : Nat} {r s : State} {n : Nat} {x : Ring} (hm : m.testBit 41 = true)
    (hx : x.base = (s.ring n).base ∧ x.space = (s.ring n).space ∧ x.sizeLog2 = (s.ring n).sizeLog2) (h : Keeps m r s) :
    Keeps m r (s.setRing n x) := by
  have k := kept_setRing s n x
  refine h.trans ?_
  exact
  { kept := k.kept, regs := fun _ _ _ _ _ => rfl
    store := fun _ => ⟨fun j => by
      by_cases e : j = n
      · subst e; simpa [State.ring, State.setRing] using hx
      · simp [State.ring, State.setRing, look_ins_ne _ _ _ _ e], rfl, fun _ _ => rfl, fun _ _ => rfl⟩
    rings := fun x => by rw [hm] at x; cases x
    free := fun _ => rfl, out := fun _ => rfl, force := fun _ => rfl, latch := fun _ => rfl,
    lowHalf := fun _ => rfl, mem := fun _ => rfl, hostMem := fun _ => rfl, stale := fun _ => rfl,
    commands := fun _ => rfl, clk := fun _ => rfl, pow := fun _ => rfl, cyc := fun _ => rfl, flows := fun _ => rfl,
    ports := fun _ => rfl, views := fun _ => rfl, feeds := fun _ => rfl, lanes := fun _ => rfl,
    busy := fun _ => rfl, chans := fun _ => rfl, credits := fun _ => rfl, house := fun _ => rfl,
    ptp := fun _ => rfl, touts := fun _ => rfl, tcaps := fun _ => rfl, ppsHigh := fun _ => rfl,
    servos := fun _ => rfl, evt := fun _ => rfl, dgs := fun _ => rfl, resp := fun _ => rfl,
    respLoad := fun _ => rfl, cap := fun _ => rfl, corrTouched := fun _ => rfl, play := fun _ => rfl,
    flashMem := fun _ => rfl, flashOp := fun _ => rfl, drives := fun _ => rfl, storeOp := fun _ => rfl,
    storeWait := fun _ => rfl, job := fun _ => rfl, aborts := fun _ => rfl, panic := fun _ => rfl,
    rateWait := fun _ => rfl, powerReq := fun _ => rfl, image := fun _ => rfl, bar4 := fun _ => rfl,
    cfgSpace := fun _ => rfl, tap := fun _ => rfl, lines := fun _ => rfl, linkRt := fun _ => rfl,
    rateTo := fun _ => rfl, bar2Held := fun _ => rfl }

/-- What keeps all but `store` and is seen to keep that too. -/
theorem Keeps.with_store {m : Nat} {s t : State} (h : Keeps (m ||| 2 ^ 33) s t) (hs : Piece.store.same true s t) : Keeps m s t := by
  have hb : ∀ i, i ≠ 33 → m.testBit i = false → (m ||| 2 ^ 33).testBit i = false := by
    intro i hi h
    rw [Nat.testBit_or, h, Nat.testBit_two_pow_of_ne (Ne.symm hi), Bool.or_false]
  exact
  { kept := h.kept
    regs := fun i hi a ha hd => h.regs i (hb i (by have := ha.1; omega) hi) a ha (fun x => hd (by
      rw [Nat.testBit_or, show Nat.testBit (2 ^ 33) 61 = false by decide, Bool.or_false] at x
      exact x))
    store := fun _ => hs
    free := fun x => h.free (hb _ (by decide) x), out := fun x => h.out (hb _ (by decide) x),
    force := fun x => h.force (hb _ (by decide) x), latch := fun x => h.latch (hb _ (by decide) x),
    lowHalf := fun x => h.lowHalf (hb _ (by decide) x), mem := fun x => h.mem (hb _ (by decide) x),
    hostMem := fun x => h.hostMem (hb _ (by decide) x), rings := fun x => h.rings (hb _ (by decide) x),
    stale := fun x => h.stale (hb _ (by decide) x), commands := fun x => h.commands (hb _ (by decide) x),
    clk := fun x => h.clk (hb _ (by decide) x), pow := fun x => h.pow (hb _ (by decide) x),
    cyc := fun x => h.cyc (hb _ (by decide) x), flows := fun x => h.flows (hb _ (by decide) x),
    ports := fun x => h.ports (hb _ (by decide) x), views := fun x => h.views (hb _ (by decide) x),
    feeds := fun x => h.feeds (hb _ (by decide) x), lanes := fun x => h.lanes (hb _ (by decide) x),
    busy := fun x => h.busy (hb _ (by decide) x), chans := fun x => h.chans (hb _ (by decide) x),
    credits := fun x => h.credits (hb _ (by decide) x), house := fun x => h.house (hb _ (by decide) x),
    ptp := fun x => h.ptp (hb _ (by decide) x), touts := fun x => h.touts (hb _ (by decide) x),
    tcaps := fun x => h.tcaps (hb _ (by decide) x), ppsHigh := fun x => h.ppsHigh (hb _ (by decide) x),
    servos := fun x => h.servos (hb _ (by decide) x), evt := fun x => h.evt (hb _ (by decide) x),
    dgs := fun x => h.dgs (hb _ (by decide) x), resp := fun x => h.resp (hb _ (by decide) x),
    respLoad := fun x => h.respLoad (hb _ (by decide) x), cap := fun x => h.cap (hb _ (by decide) x),
    corrTouched := fun x => h.corrTouched (hb _ (by decide) x), play := fun x => h.play (hb _ (by decide) x),
    flashMem := fun x => h.flashMem (hb _ (by decide) x), flashOp := fun x => h.flashOp (hb _ (by decide) x),
    drives := fun x => h.drives (hb _ (by decide) x), storeOp := fun x => h.storeOp (hb _ (by decide) x),
    storeWait := fun x => h.storeWait (hb _ (by decide) x), job := fun x => h.job (hb _ (by decide) x),
    aborts := fun x => h.aborts (hb _ (by decide) x), panic := fun x => h.panic (hb _ (by decide) x),
    rateWait := fun x => h.rateWait (hb _ (by decide) x), powerReq := fun x => h.powerReq (hb _ (by decide) x),
    image := fun x => h.image (hb _ (by decide) x), bar4 := fun x => h.bar4 (hb _ (by decide) x),
    cfgSpace := fun x => h.cfgSpace (hb _ (by decide) x), tap := fun x => h.tap (hb _ (by decide) x),
    lines := fun x => h.lines (hb _ (by decide) x), linkRt := fun x => h.linkRt (hb _ (by decide) x),
    rateTo := fun x => h.rateTo (hb _ (by decide) x), bar2Held := fun x => h.bar2Held (hb _ (by decide) x) }

end Sys2Proof.Machine
end

