-- ==== Sys2Proof/Laws/KeptOps.lean ====
section
/-!
SUPPORT. What the operations of Ops.lean keep.
-/
namespace Sys2Proof.Machine

theorem kept_emit (s : State) (o : Out) : Keeps 0x800000000 s (State.emit s o) := by
  unfold State.emit
  try dsimp only
  repeat' (first
    | with_reducible exact Keeps.refl _
    | with_reducible apply keeps_ite
    | (intro _)
    | split
    | with_reducible apply keeps_with_out (by decide))

theorem kept_spaceWrite (s : State) (space a : Nat) (bs : List Byte) : Keeps 0x18a00000000 s (State.spaceWrite s space a bs) := by
  unfold State.spaceWrite
  try dsimp only
  repeat' (first
    | with_reducible exact Keeps.refl _
    | with_reducible apply keeps_foldl_on
    | with_reducible apply keeps_fold_pair
    | with_reducible apply Keeps.via (kept_poke ..) (by decide)
    | with_reducible apply keeps_ite
    | (intro _)
    | split
    | with_reducible apply keeps_with_hostMem_out (by decide))

theorem kept_setRate (s : State) (r : Int) : Keeps 0x100000000000 s (State.setRate s r) := by
  unfold State.setRate
  try dsimp only
  repeat' (first
    | with_reducible exact Keeps.refl _
    | with_reducible apply keeps_ite
    | (intro _)
    | split
    | with_reducible apply keeps_with_clk (by decide))

/-- Slots written into a ring stay inside it. -/
theorem kept_slot (u : State) (n : Nat) (r : Ring) (i : Nat) (bs : List Byte) (h1 : (u.ring n).base = r.base)
    (h2 : (u.ring n).space = r.space) (h3 : (u.ring n).sizeLog2 = r.sizeLog2) (hl : bs.length ≤ 32) :
    Keeps 0x38800000000 u (u.spaceWrite r.space (r.slot i) bs) := by
  have hr : ∀ b : Nat, r.slot i ≤ b → b < r.slot i + bs.length → r.base ≤ b ∧ b < r.base + 32 * 2 ^ r.sizeLog2 := by
    intro b h1 h2
    have := Nat.mod_lt i (Nat.two_pow_pos r.sizeLog2)
    unfold Ring.slot at h1 h2
    omega
  have hin : ∀ (host : Bool) (a : Nat), (r.space == 0) = !host → ¬ u.inRing host a → a < r.slot i ∨ r.slot i + bs.length ≤ a := by
    intro host a hs hn
    by_cases hb : r.slot i ≤ a ∧ a < r.slot i + bs.length
    · exact absurd ⟨n, by rw [h2, hs], by rw [h1]; exact (hr a hb.1 hb.2).1, by rw [h1, h3]; exact (hr a hb.1 hb.2).2⟩ hn
    · omega
  refine Keeps.with_store ((kept_spaceWrite u r.space (r.slot i) bs).mono (by decide)) ?_
  rcases spaceWrite_cases u r.space (r.slot i) bs with ⟨h0, h⟩ | ⟨h0, hm, hg, _, hh⟩
  · rw [h]
    refine ⟨fun _ => ⟨rfl, rfl, rfl⟩, lost_putAll _ _ _, fun a ha => ?_, fun _ _ => rfl⟩
    rcases hin false a (by simp [h0]) ha with h | h
    · exact byte_putAll_below _ _ _ _ h
    · exact byte_putAll_above _ _ _ _ h
  · refine ⟨fun j => ?_, by rw [hm], fun _ _ => by rw [hm], fun a ha => hh a (hin true a (by simp [h0]) ha)⟩
    have e : (u.spaceWrite r.space (r.slot i) bs).ring j = u.ring j := congrArg (look (ringReset j) · j) hg
    rw [e]
    exact ⟨rfl, rfl, rfl⟩

theorem kept_slots (n : Nat) (r : Ring) (l : List (List Byte × Nat)) (s : State) (h1 : (s.ring n).base = r.base)
    (h2 : (s.ring n).space = r.space) (h3 : (s.ring n).sizeLog2 = r.sizeLog2) (hl : ∀ e ∈ l, e.1.length ≤ 32) :
    Keeps 0x38800000000 s (l.foldl (fun s b => s.spaceWrite r.space (r.slot (r.prod + b.2)) b.1) s) := by
  induction l generalizing s with
  | nil => exact Keeps.refl _
  | cons x t ih =>
    have k := kept_slot s n r (r.prod + x.2) x.1 h1 h2 h3 (hl x (by simp))
    have g := (k.store (by decide)).1 n
    exact k.trans (ih _ (g.1.trans h1) (g.2.1.trans h2) (g.2.2.trans h3) (fun e he => hl e (by simp [he])))

theorem kept_ringWrite (s : State) (n : Nat) (slots : List (List Byte)) (hl : ∀ b ∈ slots, b.length ≤ 32) :
    Keeps 0x38800000000 s (State.ringWrite s n slots) := by
  unfold State.ringWrite
  dsimp only
  have k := kept_slots n (s.ring n) slots.zipIdx s rfl rfl rfl
    (fun e he => hl e.1 (List.fst_mem_of_mem_zipIdx he))
  have g := (k.store (by decide)).1 n
  exact keeps_setRing_geo (by decide) ⟨g.1.symm, g.2.1.symm, g.2.2.symm⟩ k

theorem kept_ringPush (s : State) (n : Nat) (ws : List Nat) (hw : ws.length ≤ 4) : Keeps 0x38800000000 s (State.ringPush s n ws) := by
  unfold State.ringPush
  dsimp only
  split
  · exact keeps_setRing_geo (by decide) ⟨rfl, rfl, rfl⟩ (Keeps.refl _)
  · exact kept_ringWrite _ _ _ (by simp [quadBytes_length]; omega)
theorem keeps_ringPush_on {m : Nat} {r s : State} {n : Nat} {ws : List Nat} (hm : 0x38800000000 &&& m = 0x38800000000) (hw : ws.length ≤ 4)
    (h : Keeps m r s) : Keeps m r (s.ringPush n ws) := Keeps.via (kept_ringPush _ _ _ hw) hm h

theorem kept_eventEntry (s : State) (k : Nat) (ws : List Nat) (hw : ws.length ≤ 4) : Keeps 0x38800000000 s (State.eventEntry s k ws) := by
  unfold State.eventEntry
  split
  · exact kept_ringPush _ _ _ hw
  · exact Keeps.refl _
theorem keeps_eventEntry_on {m : Nat} {r s : State} {k : Nat} {ws : List Nat} (hm : 0x38800000000 &&& m = 0x38800000000) (hw : ws.length ≤ 4)
    (h : Keeps m r s) : Keeps m r (s.eventEntry k ws) := Keeps.via (kept_eventEntry _ _ _ hw) hm h

theorem kept_allSeatsEntry (s : State) (ws : List Nat) (hw : ws.length ≤ 4) : Keeps 0x38800000000 s (State.allSeatsEntry s ws) := by
  unfold State.allSeatsEntry
  refine keeps_each_on (fun s k => ?_) (Keeps.refl _)
  split
  · exact kept_eventEntry _ _ _ hw
  · exact Keeps.refl _
theorem keeps_allSeatsEntry_on {m : Nat} {r s : State}  {ws : List Nat} (hm : 0x38800000000 &&& m = 0x38800000000) (hw : ws.length ≤ 4)
    (h : Keeps m r s) : Keeps m r (s.allSeatsEntry  ws) := Keeps.via (kept_allSeatsEntry _  _ hw) hm h

end Sys2Proof.Machine
end

