-- ==== Sys2Proof/Laws/KeptFlags.lean ====
section
/-!
SUPPORT. What the operations of Flags.lean keep.
-/
namespace Sys2Proof.Machine

theorem kept_setBar4 (s : State) (a : Nat) (w : Word) : Keeps 0x80000000000000000000 s (State.setBar4 s a w) := by
  unfold State.setBar4
  try dsimp only
  repeat' (first
    | with_reducible exact Keeps.refl _
    | with_reducible apply keeps_ite
    | (intro _)
    | split
    | with_reducible apply keeps_with_bar4 (by decide))

theorem kept_setPba (s : State) (l : Nat) (b : Bool) : Keeps 0x80000000000000000000 s (State.setPba s l b) := by
  unfold State.setPba
  try dsimp only
  repeat' (first
    | with_reducible exact Keeps.refl _
    | with_reducible apply Keeps.via (kept_setBar4 ..) (by decide)
    | with_reducible apply keeps_ite
    | (intro _)
    | split)

theorem kept_vector (s : State) (l : Nat) : Keeps 0x80000000000800000000 s (State.vector s l) := by
  unfold State.vector
  try dsimp only
  repeat' (first
    | with_reducible exact Keeps.refl _
    | with_reducible apply Keeps.via (kept_setPba ..) (by decide)
    | with_reducible apply Keeps.via (kept_emit ..) (by decide)
    | with_reducible apply keeps_ite
    | (intro _)
    | split)

theorem kept_setPort (s : State) (p : Nat) (r : PortRt) : Keeps 0x1000000000000 s (State.setPort s p r) := by
  unfold State.setPort
  try dsimp only
  repeat' (first
    | with_reducible exact Keeps.refl _
    | with_reducible apply keeps_ite
    | (intro _)
    | split
    | with_reducible apply keeps_with_ports (by decide))

theorem kept_txFrame (s : State) (p mac : Nat) (o : Tx) : Keeps 0x800024000 s (State.txFrame s p mac o) := by
  unfold State.txFrame
  try dsimp only
  repeat' (first
    | with_reducible exact Keeps.refl _
    | with_reducible apply keeps_inc_in 14 (by decide) (by first | exact in_pg2 (pg_14 _) (by first | decide | assumption | exact off_le (Nat.mod_lt _ (by decide)) (by first | assumption | decide) | exact off_le (by assumption) (by decide) | exact off_le (List.mem_range.mp (by assumption)) (by decide) | exact all_off (by assumption) (by decide) | (unfold upFld; split <;> decide)) | exact in_pg (pg_14 _) (by decide))
    | with_reducible apply keeps_inc_in 17 (by decide) (by first | exact in_pg2 (pg_17 _) (by first | decide | assumption | exact off_le (Nat.mod_lt _ (by decide)) (by first | assumption | decide) | exact off_le (by assumption) (by decide) | exact off_le (List.mem_range.mp (by assumption)) (by decide) | exact all_off (by assumption) (by decide) | (unfold upFld; split <;> decide)) | exact in_pg (pg_17 _) (by decide))
    | with_reducible apply Keeps.via (kept_emit ..) (by decide)
    | with_reducible apply keeps_ite
    | (intro _)
    | split)

theorem kept_askNeighbour (s : State) (p : Nat) (ip : BitVec 128) : Keeps 0x800024000 s (State.askNeighbour s p ip) := by
  unfold State.askNeighbour
  try dsimp only
  repeat' (first
    | with_reducible exact Keeps.refl _
    | with_reducible apply Keeps.via (kept_txFrame ..) (by decide)
    | with_reducible apply keeps_ite
    | (intro _)
    | split)

theorem kept_sendVia (s : State) (p ip : Nat) (o : Tx) : Keeps 0x1000800024000 s (State.sendVia s p ip o) := by
  unfold State.sendVia
  try dsimp only
  repeat' (first
    | with_reducible exact Keeps.refl _
    | with_reducible apply keeps_inc_in 14 (by decide) (by first | exact in_pg2 (pg_14 _) (by first | decide | assumption | exact off_le (Nat.mod_lt _ (by decide)) (by first | assumption | decide) | exact off_le (by assumption) (by decide) | exact off_le (List.mem_range.mp (by assumption)) (by decide) | exact all_off (by assumption) (by decide) | (unfold upFld; split <;> decide)) | exact in_pg (pg_14 _) (by decide))
    | with_reducible apply keeps_setCond_in 14 (by decide) (by first | exact in_pg2 (pg_14 _) (by first | decide | assumption | exact off_le (Nat.mod_lt _ (by decide)) (by first | assumption | decide) | exact off_le (by assumption) (by decide) | exact off_le (List.mem_range.mp (by assumption)) (by decide) | exact all_off (by assumption) (by decide) | (unfold upFld; split <;> decide)) | exact in_pg (pg_14 _) (by decide))
    | with_reducible apply Keeps.via (kept_txFrame ..) (by decide)
    | with_reducible apply Keeps.via (kept_setPort ..) (by decide)
    | with_reducible apply Keeps.via (kept_askNeighbour ..) (by decide)
    | with_reducible apply keeps_ite
    | (intro _)
    | split)

theorem kept_eventDatagram (s : State) (seat level : Nat) (wake : Bool) : Keeps 0x1000800024000 s (State.eventDatagram s seat level wake) := by
  unfold State.eventDatagram
  try dsimp only
  repeat' (first
    | with_reducible exact Keeps.refl _
    | with_reducible apply Keeps.via (kept_sendVia ..) (by decide)
    | with_reducible apply keeps_ite
    | (intro _)
    | split)

theorem kept_notify (s : State) (seat level : Nat) (wake : Bool) : Keeps 0x80000001038800024100 s (State.notify s seat level wake) := by
  unfold State.notify
  try dsimp only
  repeat' (first
    | with_reducible exact Keeps.refl _
    | with_reducible apply keeps_setFld_in 8 (by decide) (by first | exact in_pg2 (pg_8 _) (by first | decide | assumption | exact off_le (Nat.mod_lt _ (by decide)) (by first | assumption | decide) | exact off_le (by assumption) (by decide) | exact off_le (List.mem_range.mp (by assumption)) (by decide) | exact all_off (by assumption) (by decide) | (unfold upFld; split <;> decide)) | exact in_pg (pg_8 _) (by decide))
    | with_reducible apply Keeps.via (kept_vector ..) (by decide)
    | with_reducible apply Keeps.via (kept_eventDatagram ..) (by decide)
    | with_reducible apply keeps_eventEntry_on (by decide)
    | exact Nat.le_refl 4
    | assumption
    | with_reducible apply keeps_ite
    | (intro _)
    | split)

theorem kept_clearNote (s : State) (seat : Nat) : Keeps 0x80000000000000000100 s (State.clearNote s seat) := by
  unfold State.clearNote
  try dsimp only
  repeat' (first
    | with_reducible exact Keeps.refl _
    | with_reducible apply keeps_setFld_in 8 (by decide) (by first | exact in_pg2 (pg_8 _) (by first | decide | assumption | exact off_le (Nat.mod_lt _ (by decide)) (by first | assumption | decide) | exact off_le (by assumption) (by decide) | exact off_le (List.mem_range.mp (by assumption)) (by decide) | exact all_off (by assumption) (by decide) | (unfold upFld; split <;> decide)) | exact in_pg (pg_8 _) (by decide))
    | with_reducible apply Keeps.via (kept_setPba ..) (by decide)
    | with_reducible apply keeps_ite
    | (intro _)
    | split)

theorem kept_checkNote (s : State) (seat : Nat) : Keeps 0x80000000000000000100 s (State.checkNote s seat) := by
  unfold State.checkNote
  try dsimp only
  repeat' (first
    | with_reducible exact Keeps.refl _
    | with_reducible apply Keeps.via (kept_clearNote ..) (by decide)
    | with_reducible apply keeps_ite
    | (intro _)
    | split)

theorem kept_compareNote (s : State) (seat : Nat) : Keeps 0x80000001038800024100 s (State.compareNote s seat) := by
  unfold State.compareNote
  try dsimp only
  repeat' (first
    | with_reducible exact Keeps.refl _
    | with_reducible apply keeps_setFld_in 8 (by decide) (by first | exact in_pg2 (pg_8 _) (by first | decide | assumption | exact off_le (Nat.mod_lt _ (by decide)) (by first | assumption | decide) | exact off_le (by assumption) (by decide) | exact off_le (List.mem_range.mp (by assumption)) (by decide) | exact all_off (by assumption) (by decide) | (unfold upFld; split <;> decide)) | exact in_pg (pg_8 _) (by decide))
    | with_reducible apply Keeps.via (kept_checkNote ..) (by decide)
    | with_reducible apply Keeps.via (kept_setPba ..) (by decide)
    | with_reducible apply Keeps.via (kept_notify ..) (by decide)
    | with_reducible apply keeps_ite
    | (intro _)
    | split)

theorem kept_setEvt (s : State) (e : Events) : Keeps 0x2000000000000000 s (State.setEvt s e) := by
  unfold State.setEvt
  try dsimp only
  repeat' (first
    | with_reducible exact Keeps.refl _
    | with_reducible apply keeps_ite
    | (intro _)
    | split
    | with_reducible apply keeps_with_evt (by decide))

theorem kept_routeOne (s : State) (n : Nat) (wasHeld : Bool) : Keeps 0x2000000000000080 s (State.routeOne s n wasHeld).1 := by
  unfold State.routeOne
  try dsimp only
  repeat' (first
    | with_reducible exact Keeps.refl _
    | with_reducible apply keeps_inc_in 7 (by decide) (by unfold inSpan; first | decide | (split <;> decide) | ((first | unfold driveFld | unfold errFld); split <;> decide))
    | with_reducible apply Keeps.via (kept_setEvt ..) (by decide)
    | with_reducible apply keeps_ite
    | (intro _)
    | split)

theorem kept_settleOne (st : State × List Nat) (n : Nat) : Keeps 0x2000000000000080 st.1 (State.settleOne st n).1 := by
  unfold State.settleOne
  dsimp only
  split
  · split
    · exact Keeps.refl _
    · exact Keeps.via (kept_routeOne ..) (by decide) (keeps_inc_in 7 (by decide) (by unfold inSpan; decide) (Keeps.refl _))
  · exact (kept_routeOne ..).mono (by decide)

theorem kept_settleFold (l : List Nat) (st : State × List Nat) : Keeps 0x2000000000000080 st.1 (l.foldl State.settleOne st).1 := by
  induction l generalizing st with
  | nil => exact Keeps.refl _
  | cons x t ih => exact (kept_settleOne st x).trans (ih _)

theorem kept_wakeFor (s : State) (n : Nat) : Keeps 0x80002001038800024100 s (State.wakeFor s n) := by
  unfold State.wakeFor
  try dsimp only
  repeat' (first
    | with_reducible exact Keeps.refl _
    | with_reducible apply keeps_each_on
    | with_reducible apply Keeps.via (kept_setEvt ..) (by decide)
    | with_reducible apply Keeps.via (kept_notify ..) (by decide)
    | with_reducible apply keeps_ite
    | (intro _)
    | split)

theorem kept_dropWakes (s : State) : Keeps 0x80002000000000000000 s (State.dropWakes s) := by
  unfold State.dropWakes
  try dsimp only
  repeat' (first
    | with_reducible exact Keeps.refl _
    | with_reducible apply keeps_each_on
    | with_reducible apply Keeps.via (kept_setPba ..) (by decide)
    | with_reducible apply Keeps.via (kept_setEvt ..) (by decide)
    | with_reducible apply keeps_ite
    | (intro _)
    | split)

theorem kept_settleOnce (s : State) (a : List Nat) : Keeps 0x80002001038800024180 s (State.settleOnce s a) := by
  unfold State.settleOnce
  dsimp only
  apply keeps_each_on (fun _ _ => (kept_wakeFor ..).mono (by decide))
  apply Keeps.via (kept_dropWakes ..) (by decide)
  apply keeps_each_on
  · intro s k
    split
    · exact (kept_compareNote ..).mono (by decide)
    · exact (kept_checkNote ..).mono (by decide)
  · apply Keeps.via (kept_settleFold _ (_, [])) (by decide)
    apply keeps_each_on (fun _ _ => (kept_checkNote ..).mono (by decide))
    exact (kept_setEvt ..).mono (by decide)

theorem kept_settleMore (s : State) (a : List Nat) (n : Nat) : Keeps 0x80002001038800024180 s (s.settleMore a n) := by
  induction n generalizing s a with
  | zero => exact Keeps.refl _
  | succ n ih =>
    unfold State.settleMore
    dsimp only
    split
    · exact kept_settleOnce ..
    · exact (kept_settleOnce s a).trans (ih _ _)

theorem kept_settle (s : State) : Keeps 0x80002001038800000000 s s.settle := by
  refine (delivers_settle s).keeps ?_
  unfold State.settle
  split
  · exact (kept_settleMore ..).kept
  · exact Kept.refl _

theorem kept_lyrAlert (s : State) (k : Nat) : Keeps 0x10000 s (State.lyrAlert s k) := by
  unfold State.lyrAlert
  try dsimp only
  repeat' (first
    | with_reducible exact Keeps.refl _
    | with_reducible apply keeps_setFld_in 16 (by decide) (by exact in_pg2 (w := 0x1000) (by unfold pgIn; decide) (off_le (by first | assumption | exact Nat.mod_lt _ (by decide)) (by decide)))
    | with_reducible apply keeps_setCond_in 16 (by decide) (by unfold inSpan; first | decide | (split <;> decide) | ((first | unfold driveFld | unfold errFld); split <;> decide))
    | with_reducible apply keeps_ite
    | (intro _)
    | split)

theorem kept_raise_ge {m : Nat} {r s : State} {p k : Nat} (i : Nat) (hi : i < 33) (hm : (2 ^ 33 - 2 ^ i) &&& m = 2 ^ 33 - 2 ^ i)
    (hs : 0x80002001038800000000 &&& m = 0x80002001038800000000) (hp : spanLo i ≤ p) (h : Keeps m r s) : Keeps m r (s.raise p k) :=
  Keeps.via (kept_settle _) hs (keeps_setCond_ge i hi hm hp h)
theorem kept_raise_in {m : Nat} {r s : State} {p k : Nat} (i : Nat) (hm : m.testBit i = true)
    (hs : 0x80002001038800000000 &&& m = 0x80002001038800000000) (hi : inSpan i (p + 0x10)) (h : Keeps m r s) : Keeps m r (s.raise p k) :=
  Keeps.via (kept_settle _) hs (keeps_setCond_in i hm hi h)

end Sys2Proof.Machine
end

