-- ==== Sys2Proof/Laws/KeptRing.lean ====
section
/-!
SUPPORT. What the operations of Ring.lean keep.
-/
namespace Sys2Proof.Machine

theorem kept_foreign (s : State) (seat addr : Nat) (value : Word) (page : Nat) : Keeps 0x389ffffffff s (s.foreign seat addr value page) := by
  have any : ∀ (s : State) (p : Nat) (f : Fld) (v i : Nat), Keeps 0x389ffffffff s (s.setFld p f v i) := fun s p f v i =>
    keeps_setFld_ge 0 (by decide) (by decide) (Nat.zero_le _) (Keeps.refl _)
  unfold State.foreign
  dsimp only
  refine keeps_each_on (fun s k => ?_) ((any _ _ _ _ _).via (by decide) ((any _ _ _ _ _).via (by decide) ((any _ _ _ _ _).via (by decide) (any _ _ _ _ _))))
  split
  · exact Keeps.via (kept_eventEntry _ _ _ (Nat.le_refl _)) (by decide) ((any _ _ _ _ _).via (by decide) ((any _ _ _ _ _).via (by decide) (any _ _ _ _ _)))
  · exact Keeps.refl _

theorem kept_writeIndex (s : State) (n : Nat) (cons : Bool) (v : Nat) : Keeps 0x20000000000 s (State.writeIndex s n cons v) := by
  unfold State.writeIndex
  try dsimp only
  repeat' (first
    | with_reducible exact Keeps.refl _
    | with_reducible apply keeps_setRing_geo (by decide) (by exact ⟨rfl, rfl, rfl⟩)
    | with_reducible apply keeps_ite
    | (intro _)
    | split)

theorem kept_ringResult (s : State) (seat reason ring : Nat) : Keeps 0x100000000 s (State.ringResult s seat reason ring) := by
  unfold State.ringResult
  try dsimp only
  repeat' (first
    | with_reducible exact Keeps.refl _
    | with_reducible apply keeps_setFld_ge 32 (by decide) (by decide) (by with_unfolding_all exact ge_32 _ _)
    | with_reducible apply keeps_ite
    | (intro _)
    | split)

theorem kept_ringAllocate (s : State) (seat : Nat) : Keeps 0x20300000200 s (State.ringAllocate s seat) := by
  unfold State.ringAllocate
  try dsimp only
  repeat' (first
    | with_reducible exact Keeps.refl _
    | with_reducible apply keeps_setFld_in 9 (by decide) (by unfold inSpan; first | decide | (split <;> decide) | ((first | unfold driveFld | unfold errFld); split <;> decide))
    | with_reducible apply keeps_setRing_geo (by decide) (by exact ⟨rfl, rfl, rfl⟩)
    | with_reducible apply Keeps.via (kept_setRing ..) (by decide)
    | with_reducible apply Keeps.via (kept_ringResult ..) (by decide)
    | with_reducible apply keeps_ite
    | (intro _)
    | split)

theorem kept_dropCommand (s : State) (n : Nat) : Keeps 0x80000000000 s (State.dropCommand s n) := by
  unfold State.dropCommand
  try dsimp only
  repeat' (first
    | with_reducible exact Keeps.refl _
    | with_reducible apply keeps_ite
    | (intro _)
    | split
    | with_reducible apply keeps_with_commands (by decide))

theorem kept_ringConfigure (s : State) (seat n : Nat) : Keeps 0xa0300000000 s (State.ringConfigure s seat n) := by
  unfold State.ringConfigure
  try dsimp only
  repeat' (first
    | with_reducible exact Keeps.refl _
    | with_reducible apply keeps_setRing_geo (by decide) (by exact ⟨rfl, rfl, rfl⟩)
    | with_reducible apply Keeps.via (kept_setRing ..) (by decide)
    | with_reducible apply Keeps.via (kept_dropCommand ..) (by decide)
    | with_reducible apply Keeps.via (kept_ringResult ..) (by decide)
    | with_reducible apply keeps_ite
    | (intro _)
    | split)

theorem kept_ringRelease (s : State) (seat n : Nat) : Keeps 0xe0300000240 s (State.ringRelease s seat n) := by
  unfold State.ringRelease
  try dsimp only
  repeat' (first
    | with_reducible exact Keeps.refl _
    | with_reducible apply keeps_setFld_in 6 (by decide) (by first | exact in_pg2 (pg_6 _) (by first | decide | assumption | exact off_le (Nat.mod_lt _ (by decide)) (by first | assumption | decide) | exact off_le (by assumption) (by decide) | exact off_le (List.mem_range.mp (by assumption)) (by decide) | exact all_off (by assumption) (by decide) | (unfold upFld; split <;> decide)) | exact in_pg (pg_6 _) (by decide))
    | with_reducible apply keeps_setFld_in 9 (by decide) (by unfold inSpan; first | decide | (split <;> decide) | ((first | unfold driveFld | unfold errFld); split <;> decide))
    | with_reducible apply keeps_setRing_geo (by decide) (by exact ⟨rfl, rfl, rfl⟩)
    | with_reducible apply Keeps.via (kept_setRing ..) (by decide)
    | with_reducible apply Keeps.via (kept_dropCommand ..) (by decide)
    | with_reducible apply keeps_each_on
    | with_reducible apply Keeps.via (kept_ringResult ..) (by decide)
    | with_reducible apply keeps_ite
    | (intro _)
    | split
    | with_reducible apply keeps_with_stale (by decide))

theorem kept_ringZero (s : State) (seat n : Nat) : Keeps 0xa0100000000 s (State.ringZero s seat n) := by
  unfold State.ringZero
  try dsimp only
  repeat' (first
    | with_reducible exact Keeps.refl _
    | with_reducible apply keeps_setRing_geo (by decide) (by exact ⟨rfl, rfl, rfl⟩)
    | with_reducible apply Keeps.via (kept_dropCommand ..) (by decide)
    | with_reducible apply Keeps.via (kept_ringResult ..) (by decide)
    | with_reducible apply keeps_ite
    | (intro _)
    | split)

theorem kept_ringOp (s : State) (seat op ring : Nat) : Keeps 0xe0300000240 s (State.ringOp s seat op ring) := by
  unfold State.ringOp
  try dsimp only
  repeat' (first
    | with_reducible exact Keeps.refl _
    | with_reducible apply Keeps.via (kept_ringAllocate ..) (by decide)
    | with_reducible apply Keeps.via (kept_ringConfigure ..) (by decide)
    | with_reducible apply Keeps.via (kept_ringRelease ..) (by decide)
    | with_reducible apply Keeps.via (kept_ringZero ..) (by decide)
    | with_reducible apply Keeps.via (kept_ringResult ..) (by decide)
    | with_reducible apply keeps_ite
    | (intro _)
    | split)

theorem kept_refPush (s : State) (key n : Nat) (ws : List Nat) (hw : ws.length ≤ 4) : Keeps 0x38800000000 s (State.refPush s key n ws) := by
  unfold State.refPush
  split
  · exact keeps_setRing_geo (by decide) ⟨rfl, rfl, rfl⟩ (Keeps.refl _)
  · exact kept_ringPush _ _ _ hw
theorem keeps_refPush_on {m : Nat} {r s : State} {key n : Nat} {ws : List Nat} (hm : 0x38800000000 &&& m = 0x38800000000) (hw : ws.length ≤ 4)
    (h : Keeps m r s) : Keeps m r (s.refPush key n ws) := Keeps.via (kept_refPush _ _ _ _ hw) hm h

theorem kept_moveCommand (s : State) (ws : List Nat) : Keeps 0x18a00000000 s (State.moveCommand s ws) := by
  unfold State.moveCommand
  try dsimp only
  repeat' (first
    | with_reducible exact Keeps.refl _
    | with_reducible apply Keeps.via (kept_spaceWrite ..) (by decide)
    | with_reducible apply keeps_ite
    | (intro _)
    | split)

theorem kept_startCommand (s : State) (n kind : Nat) : Keeps 0x80000000000 s (State.startCommand s n kind) := by
  unfold State.startCommand
  try dsimp only
  repeat' (first
    | with_reducible exact Keeps.refl _
    | with_reducible apply keeps_ite
    | (intro _)
    | split
    | with_reducible apply keeps_with_commands (by decide))

theorem kept_endCommand (s : State) (n : Nat) (ws : List Nat) (judged : Nat) (ok : Bool) : Keeps 0x800000010b8a00024100 s (State.endCommand s n ws judged ok) := by
  unfold State.endCommand
  try dsimp only
  repeat' (first
    | with_reducible exact Keeps.refl _
    | with_reducible apply Keeps.via (kept_notify ..) (by decide)
    | with_reducible apply Keeps.via (kept_moveCommand ..) (by decide)
    | with_reducible apply keeps_setRing_geo (by decide) (by exact ⟨rfl, rfl, rfl⟩)
    | with_reducible apply Keeps.via (kept_setRing ..) (by decide)
    | with_reducible apply Keeps.via (kept_dropCommand ..) (by decide)
    | with_reducible apply keeps_eventEntry_on (by decide)
    | exact Nat.le_refl 4
    | assumption
    | with_reducible apply keeps_ite
    | (intro _)
    | split)

theorem kept_execCopy (ring : RingNo) (s : State) (t : State) (h : execCopy ring s = .next t) : Keeps 0x80000000000 s t := by
  unfold execCopy at h
  cases h
  try dsimp only
  repeat' (first
    | with_reducible exact Keeps.refl _
    | with_reducible apply Keeps.via (kept_startCommand ..) (by decide)
    | with_reducible apply keeps_ite
    | (intro _)
    | split)

theorem kept_execFill (ring : RingNo) (s : State) (t : State) (h : execFill ring s = .next t) : Keeps 0x80000000000 s t := by
  unfold execFill at h
  cases h
  try dsimp only
  repeat' (first
    | with_reducible exact Keeps.refl _
    | with_reducible apply Keeps.via (kept_startCommand ..) (by decide)
    | with_reducible apply keeps_ite
    | (intro _)
    | split)

theorem kept_execNop (ring : RingNo) (s : State) (t : State) (h : execNop ring s = .next t) : Keeps 0x80000000000 s t := by
  unfold execNop at h
  cases h
  try dsimp only
  repeat' (first
    | with_reducible exact Keeps.refl _
    | with_reducible apply Keeps.via (kept_startCommand ..) (by decide)
    | with_reducible apply keeps_ite
    | (intro _)
    | split)

theorem kept_execCommandComplete (ring : RingNo) (transferOk : Bool) (s : State) (t : State) (h : execCommandComplete ring transferOk s = .next t) : Keeps 0x800000010b8a00024100 s t := by
  unfold execCommandComplete at h
  cases h
  try dsimp only
  repeat' (first
    | with_reducible exact Keeps.refl _
    | with_reducible apply Keeps.via (kept_endCommand ..) (by decide)
    | with_reducible apply keeps_ite
    | (intro _)
    | split)

end Sys2Proof.Machine
end

