-- ==== Sys2Proof/Laws/KeptServo.lean ====
section
/-!
SUPPORT. What the operations of Servo.lean keep.
-/
namespace Sys2Proof.Machine

theorem kept_setServo (s : State) (n : Nat) (x : Servo) : Keeps 0x1000000000000000 s (State.setServo s n x) := by
  unfold State.setServo
  try dsimp only
  repeat' (first
    | with_reducible exact Keeps.refl _
    | with_reducible apply keeps_ite
    | (intro _)
    | split
    | with_reducible apply keeps_with_servos (by decide))

theorem kept_setSa (s : State) (k : Nat) (f : Fld) (v : Nat) (hb0 : f.off + (2 - 1) * f.stride < 0x1000) : Keeps 0x1000 s (State.setSa s k f v) := by
  unfold State.setSa
  try dsimp only
  repeat' (first
    | with_reducible exact Keeps.refl _
    | with_reducible apply keeps_setFld_in 12 (by decide) (by first | exact in_pg2 (pg_12 _) (by first | decide | assumption | exact off_le (Nat.mod_lt _ (by decide)) (by first | assumption | decide) | exact off_le (by assumption) (by decide) | exact off_le (List.mem_range.mp (by assumption)) (by decide) | exact all_off (by assumption) (by decide) | (unfold upFld; split <;> decide)) | exact in_pg (pg_12 _) (by decide))
    | with_reducible apply keeps_ite
    | (intro _)
    | split)

theorem kept_setSaS (s : State) (k : Nat) (f : Fld) (v : Int) (hb0 : f.off + (2 - 1) * f.stride < 0x1000) : Keeps 0x1000 s (State.setSaS s k f v) := by
  unfold State.setSaS
  try dsimp only
  repeat' (first
    | with_reducible exact Keeps.refl _
    | with_reducible apply keeps_setS_in 12 (by decide) (by first | exact in_pg2 (pg_12 _) (by first | decide | assumption | exact off_le (Nat.mod_lt _ (by decide)) (by first | assumption | decide) | exact off_le (by assumption) (by decide) | exact off_le (List.mem_range.mp (by assumption)) (by decide) | exact all_off (by assumption) (by decide) | (unfold upFld; split <;> decide)) | exact in_pg (pg_12 _) (by decide))
    | with_reducible apply keeps_ite
    | (intro _)
    | split)

theorem kept_setSb (s : State) (k : Nat) (f : Fld) (v : Nat) (hb0 : f.off + (16 - 1) * f.stride < 0x1000) : Keeps 0x2000 s (State.setSb s k f v) := by
  unfold State.setSb
  try dsimp only
  repeat' (first
    | with_reducible exact Keeps.refl _
    | with_reducible apply keeps_setFld_in 13 (by decide) (by first | exact in_pg2 (pg_13 _) (by first | decide | assumption | exact off_le (Nat.mod_lt _ (by decide)) (by first | assumption | decide) | exact off_le (by assumption) (by decide) | exact off_le (List.mem_range.mp (by assumption)) (by decide) | exact all_off (by assumption) (by decide) | (unfold upFld; split <;> decide)) | exact in_pg (pg_13 _) (by decide))
    | with_reducible apply keeps_ite
    | (intro _)
    | split)

theorem kept_setSb40 (s : State) (k : Nat) (lo hi : Fld) (v : Int) (hb0 : lo.off + (16 - 1) * lo.stride < 0x1000) (hb1 : hi.off + (16 - 1) * hi.stride < 0x1000) : Keeps 0x2000 s (State.setSb40 s k lo hi v) := by
  unfold State.setSb40
  try dsimp only
  repeat' (first
    | with_reducible exact Keeps.refl _
    | with_reducible apply keeps_setPair_in 13 (by decide) (by first | exact in_pg2 (pg_13 _) (by first | decide | assumption | exact off_le (Nat.mod_lt _ (by decide)) (by first | assumption | decide) | exact off_le (by assumption) (by decide) | exact off_le (List.mem_range.mp (by assumption)) (by decide) | exact all_off (by assumption) (by decide) | (unfold upFld; split <;> decide)) | exact in_pg (pg_13 _) (by decide)) (by first | exact in_pg2 (pg_13 _) (by first | decide | assumption | exact off_le (Nat.mod_lt _ (by decide)) (by first | assumption | decide) | exact off_le (by assumption) (by decide) | exact off_le (List.mem_range.mp (by assumption)) (by decide) | exact all_off (by assumption) (by decide) | (unfold upFld; split <;> decide)) | exact in_pg (pg_13 _) (by decide))
    | with_reducible apply keeps_ite
    | (intro _)
    | split)

theorem kept_saCond (s : State) (k j : Nat) : Keeps 0x1000 s (State.saCond s k j) := by
  unfold State.saCond
  try dsimp only
  repeat' (first
    | with_reducible exact Keeps.refl _
    | with_reducible apply keeps_setCond_in 12 (by decide) (by first | exact in_pg2 (pg_12 _) (by first | decide | assumption | exact off_le (Nat.mod_lt _ (by decide)) (by first | assumption | decide) | exact off_le (by assumption) (by decide) | exact off_le (List.mem_range.mp (by assumption)) (by decide) | exact all_off (by assumption) (by decide) | (unfold upFld; split <;> decide)) | exact in_pg (pg_12 _) (by decide))
    | with_reducible apply keeps_ite
    | (intro _)
    | split)

theorem kept_sbCond (s : State) (k j : Nat) : Keeps 0x2000 s (State.sbCond s k j) := by
  unfold State.sbCond
  try dsimp only
  repeat' (first
    | with_reducible exact Keeps.refl _
    | with_reducible apply keeps_setCond_in 13 (by decide) (by first | exact in_pg2 (pg_13 _) (by first | decide | assumption | exact off_le (Nat.mod_lt _ (by decide)) (by first | assumption | decide) | exact off_le (by assumption) (by decide) | exact off_le (List.mem_range.mp (by assumption)) (by decide) | exact all_off (by assumption) (by decide) | (unfold upFld; split <;> decide)) | exact in_pg (pg_13 _) (by decide))
    | with_reducible apply keeps_ite
    | (intro _)
    | split)

theorem kept_saLose (s : State) (k : Nat) : Keeps 0x1800 s (State.saLose s k) := by
  unfold State.saLose
  try dsimp only
  repeat' (first
    | with_reducible exact Keeps.refl _
    | with_reducible apply keeps_inc_in 12 (by decide) (by first | exact in_pg2 (pg_12 _) (by first | decide | assumption | exact off_le (Nat.mod_lt _ (by decide)) (by first | assumption | decide) | exact off_le (by assumption) (by decide) | exact off_le (List.mem_range.mp (by assumption)) (by decide) | exact all_off (by assumption) (by decide) | (unfold upFld; split <;> decide)) | exact in_pg (pg_12 _) (by decide))
    | with_reducible apply keeps_setCond_in 11 (by decide) (by unfold inSpan; first | decide | (split <;> decide) | ((first | unfold driveFld | unfold errFld); split <;> decide))
    | with_reducible apply Keeps.via (kept_setSa _ _ _ _ (by first | assumption | decide | exact Fin.isLt _ | exact bitsOf_lt64 _ _ | omega | exact List.mem_range.mp (by assumption) | exact presentPos_lt (by assumption) | exact startRecord_len .. | exact presetTrims_len .. | exact take7_len .. | exact take6_len .. | exact ethStart_len .. | exact all_off (by assumption) (by decide))) (by decide)
    | with_reducible apply Keeps.via (kept_saCond ..) (by decide)
    | with_reducible apply keeps_ite
    | (intro _)
    | split)

theorem kept_sbLose (s : State) (k : Nat) : Keeps 0x2800 s (State.sbLose s k) := by
  unfold State.sbLose
  try dsimp only
  repeat' (first
    | with_reducible exact Keeps.refl _
    | with_reducible apply keeps_inc_in 13 (by decide) (by first | exact in_pg2 (pg_13 _) (by first | decide | assumption | exact off_le (Nat.mod_lt _ (by decide)) (by first | assumption | decide) | exact off_le (by assumption) (by decide) | exact off_le (List.mem_range.mp (by assumption)) (by decide) | exact all_off (by assumption) (by decide) | (unfold upFld; split <;> decide)) | exact in_pg (pg_13 _) (by decide))
    | with_reducible apply keeps_setCond_in 11 (by decide) (by unfold inSpan; first | decide | (split <;> decide) | ((first | unfold driveFld | unfold errFld); split <;> decide))
    | with_reducible apply Keeps.via (kept_setSb _ _ _ _ (by first | assumption | decide | exact Fin.isLt _ | exact bitsOf_lt64 _ _ | omega | exact List.mem_range.mp (by assumption) | exact presentPos_lt (by assumption) | exact startRecord_len .. | exact presetTrims_len .. | exact take7_len .. | exact take6_len .. | exact ethStart_len .. | exact all_off (by assumption) (by decide))) (by decide)
    | with_reducible apply Keeps.via (kept_sbCond ..) (by decide)
    | with_reducible apply keeps_ite
    | (intro _)
    | split)

theorem kept_saFollow (s : State) (k : Nat) (e : Int) : Keeps 0x1800 s (State.saFollow s k e) := by
  unfold State.saFollow
  try dsimp only
  repeat' (first
    | with_reducible exact Keeps.refl _
    | with_reducible apply Keeps.via (kept_setSa _ _ _ _ (by first | assumption | decide | exact Fin.isLt _ | exact bitsOf_lt64 _ _ | omega | exact List.mem_range.mp (by assumption) | exact presentPos_lt (by assumption) | exact startRecord_len .. | exact presetTrims_len .. | exact take7_len .. | exact take6_len .. | exact ethStart_len .. | exact all_off (by assumption) (by decide))) (by decide)
    | with_reducible apply Keeps.via (kept_saLose ..) (by decide)
    | with_reducible apply keeps_ite
    | (intro _)
    | split)

theorem kept_sbFollow (s : State) (k : Nat) (e : Int) : Keeps 0x2800 s (State.sbFollow s k e) := by
  unfold State.sbFollow
  try dsimp only
  repeat' (first
    | with_reducible exact Keeps.refl _
    | with_reducible apply Keeps.via (kept_setSb _ _ _ _ (by first | assumption | decide | exact Fin.isLt _ | exact bitsOf_lt64 _ _ | omega | exact List.mem_range.mp (by assumption) | exact presentPos_lt (by assumption) | exact startRecord_len .. | exact presetTrims_len .. | exact take7_len .. | exact take6_len .. | exact ethStart_len .. | exact all_off (by assumption) (by decide))) (by decide)
    | with_reducible apply Keeps.via (kept_sbLose ..) (by decide)
    | with_reducible apply keeps_ite
    | (intro _)
    | split)

theorem kept_saLatch (s : State) (k : Nat) : Keeps 0x1000 s (State.saLatch s k) := by
  unfold State.saLatch
  try dsimp only
  repeat' (first
    | with_reducible exact Keeps.refl _
    | with_reducible apply keeps_setReg_in 12 (by decide) (by first | exact in_pg2 (pg_12 _) (by first | decide | assumption | exact off_le (Nat.mod_lt _ (by decide)) (by first | assumption | decide) | exact off_le (by assumption) (by decide) | exact off_le (List.mem_range.mp (by assumption)) (by decide) | exact all_off (by assumption) (by decide) | (unfold upFld; split <;> decide)) | exact in_pg (pg_12 _) (by decide) | (have hx := List.mem_range.mp (by assumption); unfold inSpan; exact ⟨by decide, by have := pg_lo (pg_12 k); omega, by have := pg_hi (pg_12 k); omega⟩))
    | with_reducible apply keeps_each_mem
    | with_reducible apply Keeps.via (kept_setSa _ _ _ _ (by first | assumption | decide | exact Fin.isLt _ | exact bitsOf_lt64 _ _ | omega | exact List.mem_range.mp (by assumption) | exact presentPos_lt (by assumption) | exact startRecord_len .. | exact presetTrims_len .. | exact take7_len .. | exact take6_len .. | exact ethStart_len .. | exact all_off (by assumption) (by decide))) (by decide)
    | with_reducible apply keeps_ite
    | (intro _)
    | split)

theorem kept_sbLatch (s : State) (k : Nat) : Keeps 0x2000 s (State.sbLatch s k) := by
  unfold State.sbLatch
  try dsimp only
  repeat' (first
    | with_reducible exact Keeps.refl _
    | with_reducible apply keeps_setReg_in 13 (by decide) (by first | exact in_pg2 (pg_13 _) (by first | decide | assumption | exact off_le (Nat.mod_lt _ (by decide)) (by first | assumption | decide) | exact off_le (by assumption) (by decide) | exact off_le (List.mem_range.mp (by assumption)) (by decide) | exact all_off (by assumption) (by decide) | (unfold upFld; split <;> decide)) | exact in_pg (pg_13 _) (by decide) | (have hx := List.mem_range.mp (by assumption); unfold inSpan; exact ⟨by decide, by have := pg_lo (pg_13 k); omega, by have := pg_hi (pg_13 k); omega⟩))
    | with_reducible apply keeps_each_mem
    | with_reducible apply Keeps.via (kept_setSb _ _ _ _ (by first | assumption | decide | exact Fin.isLt _ | exact bitsOf_lt64 _ _ | omega | exact List.mem_range.mp (by assumption) | exact presentPos_lt (by assumption) | exact startRecord_len .. | exact presetTrims_len .. | exact take7_len .. | exact take6_len .. | exact ethStart_len .. | exact all_off (by assumption) (by decide))) (by decide)
    | with_reducible apply keeps_ite
    | (intro _)
    | split)

theorem kept_saRebase (s : State) (k : Nat) (u : Int) : Keeps 0x1000 s (State.saRebase s k u) := by
  unfold State.saRebase
  try dsimp only
  repeat' (first
    | with_reducible exact Keeps.refl _
    | with_reducible apply Keeps.via (kept_setSaS _ _ _ _ (by first | assumption | decide | exact Fin.isLt _ | exact bitsOf_lt64 _ _ | omega | exact List.mem_range.mp (by assumption) | exact presentPos_lt (by assumption) | exact startRecord_len .. | exact presetTrims_len .. | exact take7_len .. | exact take6_len .. | exact ethStart_len .. | exact all_off (by assumption) (by decide))) (by decide)
    | with_reducible apply keeps_ite
    | (intro _)
    | split)

theorem kept_saPrepare (s : State) (k : Nat) : Keeps 0x1000000000001000 s (State.saPrepare s k) := by
  unfold State.saPrepare
  try dsimp only
  repeat' (first
    | with_reducible exact Keeps.refl _
    | with_reducible apply Keeps.via (kept_saLatch ..) (by decide)
    | with_reducible apply Keeps.via (kept_saRebase ..) (by decide)
    | with_reducible apply Keeps.via (kept_setSa _ _ _ _ (by first | assumption | decide | exact Fin.isLt _ | exact bitsOf_lt64 _ _ | omega | exact List.mem_range.mp (by assumption) | exact presentPos_lt (by assumption) | exact startRecord_len .. | exact presetTrims_len .. | exact take7_len .. | exact take6_len .. | exact ethStart_len .. | exact all_off (by assumption) (by decide))) (by decide)
    | with_reducible apply Keeps.via (kept_setServo ..) (by decide)
    | with_reducible apply keeps_ite
    | (intro _)
    | split)

theorem kept_saAtTarget (s : State) (k : Nat) : Keeps 0x1000 s (State.saAtTarget s k) := by
  unfold State.saAtTarget
  try dsimp only
  repeat' (first
    | with_reducible exact Keeps.refl _
    | with_reducible apply Keeps.via (kept_setSa _ _ _ _ (by first | assumption | decide | exact Fin.isLt _ | exact bitsOf_lt64 _ _ | omega | exact List.mem_range.mp (by assumption) | exact presentPos_lt (by assumption) | exact startRecord_len .. | exact presetTrims_len .. | exact take7_len .. | exact take6_len .. | exact ethStart_len .. | exact all_off (by assumption) (by decide))) (by decide)
    | with_reducible apply Keeps.via (kept_saCond ..) (by decide)
    | with_reducible apply keeps_ite
    | (intro _)
    | split)

theorem kept_saSat (s : State) (k : Nat) (f : Fld) (above clear : Bool) (hb0 : f.off + (2 - 1) * f.stride < 0x1000) : Keeps 0x1000 s (State.saSat s k f above clear) := by
  unfold State.saSat
  try dsimp only
  repeat' (first
    | with_reducible exact Keeps.refl _
    | with_reducible apply keeps_inc_in 12 (by decide) (by first | exact in_pg2 (pg_12 _) (by first | decide | assumption | exact off_le (Nat.mod_lt _ (by decide)) (by first | assumption | decide) | exact off_le (by assumption) (by decide) | exact off_le (List.mem_range.mp (by assumption)) (by decide) | exact all_off (by assumption) (by decide) | (unfold upFld; split <;> decide)) | exact in_pg (pg_12 _) (by decide))
    | with_reducible apply Keeps.via (kept_setSa _ _ _ _ (by first | assumption | decide | exact Fin.isLt _ | exact bitsOf_lt64 _ _ | omega | exact List.mem_range.mp (by assumption) | exact presentPos_lt (by assumption) | exact startRecord_len .. | exact presetTrims_len .. | exact take7_len .. | exact take6_len .. | exact ethStart_len .. | exact all_off (by assumption) (by decide))) (by decide)
    | with_reducible apply Keeps.via (kept_saCond ..) (by decide)
    | with_reducible apply keeps_ite
    | (intro _)
    | split)

theorem kept_saOutput (s : State) (k : Nat) (u : Int) : Keeps 0x100000001000 s (State.saOutput s k u) := by
  unfold State.saOutput
  try dsimp only
  repeat' (first
    | with_reducible exact Keeps.refl _
    | with_reducible apply Keeps.via (kept_setRate ..) (by decide)
    | with_reducible apply Keeps.via (kept_setSaS _ _ _ _ (by first | assumption | decide | exact Fin.isLt _ | exact bitsOf_lt64 _ _ | omega | exact List.mem_range.mp (by assumption) | exact presentPos_lt (by assumption) | exact startRecord_len .. | exact presetTrims_len .. | exact take7_len .. | exact take6_len .. | exact ethStart_len .. | exact all_off (by assumption) (by decide))) (by decide)
    | with_reducible apply keeps_ite
    | (intro _)
    | split)

theorem kept_saEquation (s : State) (k : Nat) (e v : Int) : Keeps 0x1000 s (State.saEquation s k e v) := by
  unfold State.saEquation
  try dsimp only
  repeat' (first
    | with_reducible exact Keeps.refl _
    | with_reducible apply Keeps.via (kept_setSaS _ _ _ _ (by first | assumption | decide | exact Fin.isLt _ | exact bitsOf_lt64 _ _ | omega | exact List.mem_range.mp (by assumption) | exact presentPos_lt (by assumption) | exact startRecord_len .. | exact presetTrims_len .. | exact take7_len .. | exact take6_len .. | exact ethStart_len .. | exact all_off (by assumption) (by decide))) (by decide)
    | with_reducible apply Keeps.via (kept_saSat _ _ _ _ _ (by first | assumption | decide | exact Fin.isLt _ | exact bitsOf_lt64 _ _ | omega | exact List.mem_range.mp (by assumption) | exact presentPos_lt (by assumption) | exact startRecord_len .. | exact presetTrims_len .. | exact take7_len .. | exact take6_len .. | exact ethStart_len .. | exact all_off (by assumption) (by decide))) (by decide)
    | with_reducible apply keeps_ite
    | (intro _)
    | split)

theorem kept_saHeldSat (s : State) (k : Nat) : Keeps 0x1000 s (State.saHeldSat s k) := by
  unfold State.saHeldSat
  try dsimp only
  repeat' (first
    | with_reducible exact Keeps.refl _
    | with_reducible apply Keeps.via (kept_saSat _ _ _ _ _ (by first | assumption | decide | exact Fin.isLt _ | exact bitsOf_lt64 _ _ | omega | exact List.mem_range.mp (by assumption) | exact presentPos_lt (by assumption) | exact startRecord_len .. | exact presetTrims_len .. | exact take7_len .. | exact take6_len .. | exact ethStart_len .. | exact all_off (by assumption) (by decide))) (by decide)
    | with_reducible apply keeps_ite
    | (intro _)
    | split)

theorem kept_saSample (s : State) (k : Nat) (y : Int) : Keeps 0x1000100000001800 s (State.saSample s k y) := by
  unfold State.saSample
  try dsimp only
  repeat' (first
    | with_reducible exact Keeps.refl _
    | with_reducible apply keeps_inc_in 12 (by decide) (by first | exact in_pg2 (pg_12 _) (by first | decide | assumption | exact off_le (Nat.mod_lt _ (by decide)) (by first | assumption | decide) | exact off_le (by assumption) (by decide) | exact off_le (List.mem_range.mp (by assumption)) (by decide) | exact all_off (by assumption) (by decide) | (unfold upFld; split <;> decide)) | exact in_pg (pg_12 _) (by decide))
    | with_reducible apply keeps_inc_in 11 (by decide) (by unfold inSpan; first | decide | (split <;> decide) | ((first | unfold driveFld | unfold errFld); split <;> decide))
    | with_reducible apply Keeps.via (kept_saPrepare ..) (by decide)
    | with_reducible apply Keeps.via (kept_setSaS _ _ _ _ (by first | assumption | decide | exact Fin.isLt _ | exact bitsOf_lt64 _ _ | omega | exact List.mem_range.mp (by assumption) | exact presentPos_lt (by assumption) | exact startRecord_len .. | exact presetTrims_len .. | exact take7_len .. | exact take6_len .. | exact ethStart_len .. | exact all_off (by assumption) (by decide))) (by decide)
    | with_reducible apply Keeps.via (kept_saHeldSat ..) (by decide)
    | with_reducible apply Keeps.via (kept_saEquation ..) (by decide)
    | with_reducible apply Keeps.via (kept_saOutput ..) (by decide)
    | with_reducible apply Keeps.via (kept_saFollow ..) (by decide)
    | with_reducible apply Keeps.via (kept_saAtTarget ..) (by decide)
    | with_reducible apply keeps_ite
    | (intro _)
    | split)

theorem kept_sbSetPoint (s : State) (k : Nat) (sp v : Int) : Keeps 0x1000000000002000 s (State.sbSetPoint s k sp v) := by
  unfold State.sbSetPoint
  try dsimp only
  repeat' (first
    | with_reducible exact Keeps.refl _
    | with_reducible apply Keeps.via (kept_setSb40 _ _ _ _ _ (by first | assumption | decide | exact Fin.isLt _ | exact bitsOf_lt64 _ _ | omega | exact List.mem_range.mp (by assumption) | exact presentPos_lt (by assumption) | exact startRecord_len .. | exact presetTrims_len .. | exact take7_len .. | exact take6_len .. | exact ethStart_len .. | exact all_off (by assumption) (by decide)) (by first | assumption | decide | exact Fin.isLt _ | exact bitsOf_lt64 _ _ | omega | exact List.mem_range.mp (by assumption) | exact presentPos_lt (by assumption) | exact startRecord_len .. | exact presetTrims_len .. | exact take7_len .. | exact take6_len .. | exact ethStart_len .. | exact all_off (by assumption) (by decide))) (by decide)
    | with_reducible apply Keeps.via (kept_setSb _ _ _ _ (by first | assumption | decide | exact Fin.isLt _ | exact bitsOf_lt64 _ _ | omega | exact List.mem_range.mp (by assumption) | exact presentPos_lt (by assumption) | exact startRecord_len .. | exact presetTrims_len .. | exact take7_len .. | exact take6_len .. | exact ethStart_len .. | exact all_off (by assumption) (by decide))) (by decide)
    | with_reducible apply Keeps.via (kept_setServo ..) (by decide)
    | with_reducible apply keeps_ite
    | (intro _)
    | split)

theorem kept_sbCorrect (s : State) (k : Nat) (i sp : Int) : Keeps 0x2000 s (State.sbCorrect s k i sp) := by
  unfold State.sbCorrect
  try dsimp only
  repeat' (first
    | with_reducible exact Keeps.refl _
    | with_reducible apply Keeps.via (kept_setSb40 _ _ _ _ _ (by first | assumption | decide | exact Fin.isLt _ | exact bitsOf_lt64 _ _ | omega | exact List.mem_range.mp (by assumption) | exact presentPos_lt (by assumption) | exact startRecord_len .. | exact presetTrims_len .. | exact take7_len .. | exact take6_len .. | exact ethStart_len .. | exact all_off (by assumption) (by decide)) (by first | assumption | decide | exact Fin.isLt _ | exact bitsOf_lt64 _ _ | omega | exact List.mem_range.mp (by assumption) | exact presentPos_lt (by assumption) | exact startRecord_len .. | exact presetTrims_len .. | exact take7_len .. | exact take6_len .. | exact ethStart_len .. | exact all_off (by assumption) (by decide))) (by decide)
    | with_reducible apply Keeps.via (kept_setSb _ _ _ _ (by first | assumption | decide | exact Fin.isLt _ | exact bitsOf_lt64 _ _ | omega | exact List.mem_range.mp (by assumption) | exact presentPos_lt (by assumption) | exact startRecord_len .. | exact presetTrims_len .. | exact take7_len .. | exact take6_len .. | exact ethStart_len .. | exact all_off (by assumption) (by decide))) (by decide)
    | with_reducible apply keeps_ite
    | (intro _)
    | split)

theorem kept_sbResult (s : State) (k : Nat) (q i sp : Int) : Keeps 0x1000000000002000 s (State.sbResult s k q i sp) := by
  unfold State.sbResult
  try dsimp only
  repeat' (first
    | with_reducible exact Keeps.refl _
    | with_reducible apply keeps_setPair_in 13 (by decide) (by first | exact in_pg2 (pg_13 _) (by first | decide | assumption | exact off_le (Nat.mod_lt _ (by decide)) (by first | assumption | decide) | exact off_le (by assumption) (by decide) | exact off_le (List.mem_range.mp (by assumption)) (by decide) | exact all_off (by assumption) (by decide) | (unfold upFld; split <;> decide)) | exact in_pg (pg_13 _) (by decide)) (by first | exact in_pg2 (pg_13 _) (by first | decide | assumption | exact off_le (Nat.mod_lt _ (by decide)) (by first | assumption | decide) | exact off_le (by assumption) (by decide) | exact off_le (List.mem_range.mp (by assumption)) (by decide) | exact all_off (by assumption) (by decide) | (unfold upFld; split <;> decide)) | exact in_pg (pg_13 _) (by decide))
    | with_reducible apply Keeps.via (kept_setServo ..) (by decide)
    | with_reducible apply Keeps.via (kept_sbCorrect ..) (by decide)
    | with_reducible apply keeps_ite
    | (intro _)
    | split)

theorem kept_sbPrepare (s : State) (k : Nat) (t : Int) : Keeps 0x1000000000002000 s (State.sbPrepare s k t) := by
  unfold State.sbPrepare
  try dsimp only
  repeat' (first
    | with_reducible exact Keeps.refl _
    | with_reducible apply Keeps.via (kept_sbLatch ..) (by decide)
    | with_reducible apply Keeps.via (kept_setSb40 _ _ _ _ _ (by first | assumption | decide | exact Fin.isLt _ | exact bitsOf_lt64 _ _ | omega | exact List.mem_range.mp (by assumption) | exact presentPos_lt (by assumption) | exact startRecord_len .. | exact presetTrims_len .. | exact take7_len .. | exact take6_len .. | exact ethStart_len .. | exact all_off (by assumption) (by decide)) (by first | assumption | decide | exact Fin.isLt _ | exact bitsOf_lt64 _ _ | omega | exact List.mem_range.mp (by assumption) | exact presentPos_lt (by assumption) | exact startRecord_len .. | exact presetTrims_len .. | exact take7_len .. | exact take6_len .. | exact ethStart_len .. | exact all_off (by assumption) (by decide))) (by decide)
    | with_reducible apply Keeps.via (kept_setSb _ _ _ _ (by first | assumption | decide | exact Fin.isLt _ | exact bitsOf_lt64 _ _ | omega | exact List.mem_range.mp (by assumption) | exact presentPos_lt (by assumption) | exact startRecord_len .. | exact presetTrims_len .. | exact take7_len .. | exact take6_len .. | exact ethStart_len .. | exact all_off (by assumption) (by decide))) (by decide)
    | with_reducible apply Keeps.via (kept_setServo ..) (by decide)
    | with_reducible apply keeps_ite
    | (intro _)
    | split)

theorem kept_sbSample (s : State) (k : Nat) (t : Int) : Keeps 0x1000000000002800 s (State.sbSample s k t) := by
  unfold State.sbSample
  try dsimp only
  repeat' (first
    | with_reducible exact Keeps.refl _
    | with_reducible apply keeps_inc_in 13 (by decide) (by first | exact in_pg2 (pg_13 _) (by first | decide | assumption | exact off_le (Nat.mod_lt _ (by decide)) (by first | assumption | decide) | exact off_le (by assumption) (by decide) | exact off_le (List.mem_range.mp (by assumption)) (by decide) | exact all_off (by assumption) (by decide) | (unfold upFld; split <;> decide)) | exact in_pg (pg_13 _) (by decide))
    | with_reducible apply keeps_inc_in 11 (by decide) (by unfold inSpan; first | decide | (split <;> decide) | ((first | unfold driveFld | unfold errFld); split <;> decide))
    | with_reducible apply Keeps.via (kept_sbPrepare ..) (by decide)
    | with_reducible apply Keeps.via (kept_sbSetPoint ..) (by decide)
    | with_reducible apply Keeps.via (kept_sbResult ..) (by decide)
    | with_reducible apply Keeps.via (kept_setSb _ _ _ _ (by first | assumption | decide | exact Fin.isLt _ | exact bitsOf_lt64 _ _ | omega | exact List.mem_range.mp (by assumption) | exact presentPos_lt (by assumption) | exact startRecord_len .. | exact presetTrims_len .. | exact take7_len .. | exact take6_len .. | exact ethStart_len .. | exact all_off (by assumption) (by decide))) (by decide)
    | with_reducible apply Keeps.via (kept_sbFollow ..) (by decide)
    | with_reducible apply keeps_ite
    | (intro _)
    | split)

theorem kept_execServoSample (classA : Bool) (slot : Fin 64) (value : Int) (s : State) (t : State) (h : execServoSample classA slot value s = .next t) : Keeps 0x80003001138800003800 s t := by
  unfold execServoSample at h
  cases h
  try dsimp only
  repeat' (first
    | with_reducible exact Keeps.refl _
    | with_reducible apply Keeps.via (kept_saSample ..) (by decide)
    | with_reducible apply Keeps.via (kept_settle ..) (by decide)
    | with_reducible apply Keeps.via (kept_sbSample ..) (by decide)
    | with_reducible apply keeps_ite
    | (intro _)
    | split)

theorem kept_execFollowingErrorLost (classA : Bool) (slot : Fin 64) (s : State) (t : State) (h : execFollowingErrorLost classA slot s = .next t) : Keeps 0x80002001038800003800 s t := by
  unfold execFollowingErrorLost at h
  cases h
  try dsimp only
  repeat' (first
    | with_reducible exact Keeps.refl _
    | with_reducible apply Keeps.via (kept_saLose ..) (by decide)
    | with_reducible apply Keeps.via (kept_settle ..) (by decide)
    | with_reducible apply Keeps.via (kept_sbLose ..) (by decide)
    | with_reducible apply keeps_ite
    | (intro _)
    | split)

theorem kept_saRelease (s : State) (k : Nat) : Keeps 0x1000000000001000 s (State.saRelease s k) := by
  unfold State.saRelease
  try dsimp only
  repeat' (first
    | with_reducible exact Keeps.refl _
    | with_reducible apply Keeps.via (kept_setServo ..) (by decide)
    | with_reducible apply Keeps.via (kept_saCond ..) (by decide)
    | with_reducible apply keeps_ite
    | (intro _)
    | split)

theorem kept_sbRelease (s : State) (k : Nat) : Keeps 0x1000000000000000 s (State.sbRelease s k) := by
  unfold State.sbRelease
  try dsimp only
  repeat' (first
    | with_reducible exact Keeps.refl _
    | with_reducible apply Keeps.via (kept_setServo ..) (by decide)
    | with_reducible apply keeps_ite
    | (intro _)
    | split)

theorem kept_saReset (s : State) (k : Nat) : Keeps 0x1000000000001000 s (State.saReset s k) := by
  unfold State.saReset
  try dsimp only
  repeat' (first
    | with_reducible exact Keeps.refl _
    | with_reducible apply Keeps.via (kept_setSa _ _ _ _ (by first | assumption | decide | exact Fin.isLt _ | exact bitsOf_lt64 _ _ | omega | exact List.mem_range.mp (by assumption) | exact presentPos_lt (by assumption) | exact startRecord_len .. | exact presetTrims_len .. | exact take7_len .. | exact take6_len .. | exact ethStart_len .. | exact all_off (by assumption) (by decide))) (by decide)
    | with_reducible apply Keeps.via (kept_setSaS _ _ _ _ (by first | assumption | decide | exact Fin.isLt _ | exact bitsOf_lt64 _ _ | omega | exact List.mem_range.mp (by assumption) | exact presentPos_lt (by assumption) | exact startRecord_len .. | exact presetTrims_len .. | exact take7_len .. | exact take6_len .. | exact ethStart_len .. | exact all_off (by assumption) (by decide))) (by decide)
    | with_reducible apply Keeps.via (kept_setServo ..) (by decide)
    | with_reducible apply Keeps.via (kept_saAtTarget ..) (by decide)
    | with_reducible apply keeps_ite
    | (intro _)
    | split)

theorem kept_sbReset (s : State) (k : Nat) : Keeps 0x1000000000002000 s (State.sbReset s k) := by
  unfold State.sbReset
  try dsimp only
  repeat' (first
    | with_reducible exact Keeps.refl _
    | with_reducible apply Keeps.via (kept_setSb _ _ _ _ (by first | assumption | decide | exact Fin.isLt _ | exact bitsOf_lt64 _ _ | omega | exact List.mem_range.mp (by assumption) | exact presentPos_lt (by assumption) | exact startRecord_len .. | exact presetTrims_len .. | exact take7_len .. | exact take6_len .. | exact ethStart_len .. | exact all_off (by assumption) (by decide))) (by decide)
    | with_reducible apply Keeps.via (kept_setServo ..) (by decide)
    | with_reducible apply Keeps.via (kept_sbSetPoint ..) (by decide)
    | with_reducible apply Keeps.via (kept_sbCorrect ..) (by decide)
    | with_reducible apply keeps_ite
    | (intro _)
    | split)

theorem kept_saApply (s : State) (k : Nat) : Keeps 0x1000 s (State.saApply s k) := by
  unfold State.saApply
  try dsimp only
  repeat' (first
    | with_reducible exact Keeps.refl _
    | with_reducible apply Keeps.via (kept_setSa _ _ _ _ (by first | assumption | decide | exact Fin.isLt _ | exact bitsOf_lt64 _ _ | omega | exact List.mem_range.mp (by assumption) | exact presentPos_lt (by assumption) | exact startRecord_len .. | exact presetTrims_len .. | exact take7_len .. | exact take6_len .. | exact ethStart_len .. | exact all_off (by assumption) (by decide))) (by decide)
    | with_reducible apply Keeps.via (kept_saCond ..) (by decide)
    | with_reducible apply keeps_ite
    | (intro _)
    | split)

theorem kept_sbApply (s : State) (k : Nat) : Keeps 0x2000 s (State.sbApply s k) := by
  unfold State.sbApply
  try dsimp only
  repeat' (first
    | with_reducible exact Keeps.refl _
    | with_reducible apply Keeps.via (kept_setSb _ _ _ _ (by first | assumption | decide | exact Fin.isLt _ | exact bitsOf_lt64 _ _ | omega | exact List.mem_range.mp (by assumption) | exact presentPos_lt (by assumption) | exact startRecord_len .. | exact presetTrims_len .. | exact take7_len .. | exact take6_len .. | exact ethStart_len .. | exact all_off (by assumption) (by decide))) (by decide)
    | with_reducible apply Keeps.via (kept_sbCond ..) (by decide)
    | with_reducible apply keeps_ite
    | (intro _)
    | split)

theorem kept_servoCmd (s : State) (classA : Bool) (k w : Nat) : Keeps 0x80003001038800003000 s (State.servoCmd s classA k w) := by
  unfold State.servoCmd
  try dsimp only
  repeat' (first
    | with_reducible exact Keeps.refl _
    | with_reducible apply keeps_when_on
    | with_reducible apply Keeps.via (kept_saReset ..) (by decide)
    | with_reducible apply Keeps.via (kept_sbReset ..) (by decide)
    | with_reducible apply Keeps.via (kept_saApply ..) (by decide)
    | with_reducible apply Keeps.via (kept_sbApply ..) (by decide)
    | with_reducible apply Keeps.via (kept_saRelease ..) (by decide)
    | with_reducible apply Keeps.via (kept_sbRelease ..) (by decide)
    | with_reducible apply Keeps.via (kept_settle ..) (by decide)
    | with_reducible apply keeps_ite
    | (intro _)
    | split)

theorem kept_rebaseA0 (s : State) : Keeps 0x1000000000001000 s (State.rebaseA0 s) := by
  unfold State.rebaseA0
  try dsimp only
  repeat' (first
    | with_reducible exact Keeps.refl _
    | with_reducible apply Keeps.via (kept_setSaS _ _ _ _ (by first | assumption | decide | exact Fin.isLt _ | exact bitsOf_lt64 _ _ | omega | exact List.mem_range.mp (by assumption) | exact presentPos_lt (by assumption) | exact startRecord_len .. | exact presetTrims_len .. | exact take7_len .. | exact take6_len .. | exact ethStart_len .. | exact all_off (by assumption) (by decide))) (by decide)
    | with_reducible apply Keeps.via (kept_setSa _ _ _ _ (by first | assumption | decide | exact Fin.isLt _ | exact bitsOf_lt64 _ _ | omega | exact List.mem_range.mp (by assumption) | exact presentPos_lt (by assumption) | exact startRecord_len .. | exact presetTrims_len .. | exact take7_len .. | exact take6_len .. | exact ethStart_len .. | exact all_off (by assumption) (by decide))) (by decide)
    | with_reducible apply Keeps.via (kept_setServo ..) (by decide)
    | with_reducible apply Keeps.via (kept_saAtTarget ..) (by decide)
    | with_reducible apply keeps_ite
    | (intro _)
    | split)

theorem kept_restartTracker (s : State) (f : Nat) : Keeps 0x3000 s (State.restartTracker s f) := by
  unfold State.restartTracker
  try dsimp only
  repeat' (first
    | with_reducible exact Keeps.refl _
    | with_reducible apply Keeps.via (kept_setSb _ _ _ _ (by first | assumption | decide | exact Fin.isLt _ | exact bitsOf_lt64 _ _ | omega | exact List.mem_range.mp (by assumption) | exact presentPos_lt (by assumption) | exact startRecord_len .. | exact presetTrims_len .. | exact take7_len .. | exact take6_len .. | exact ethStart_len .. | exact all_off (by assumption) (by decide))) (by decide)
    | with_reducible apply keeps_each_on
    | with_reducible apply Keeps.via (kept_setSa _ _ _ _ (by first | assumption | decide | exact Fin.isLt _ | exact bitsOf_lt64 _ _ | omega | exact List.mem_range.mp (by assumption) | exact presentPos_lt (by assumption) | exact startRecord_len .. | exact presetTrims_len .. | exact take7_len .. | exact take6_len .. | exact ethStart_len .. | exact all_off (by assumption) (by decide))) (by decide)
    | with_reducible apply keeps_ite
    | (intro _)
    | split)

end Sys2Proof.Machine
end

