-- ==== Sys2Proof/Laws/KeptGrid.lean ====
section
/-!
SUPPORT. What the operations of Grid.lean keep.
-/
namespace Sys2Proof.Machine

theorem kept_setCyc (s : State) (c : Cycles) : Keeps 0x400000000000 s (State.setCyc s c) := by
  unfold State.setCyc
  try dsimp only
  repeat' (first
    | with_reducible exact Keeps.refl _
    | with_reducible apply keeps_ite
    | (intro _)
    | split
    | with_reducible apply keeps_with_cyc (by decide))

theorem kept_setCmp64 (s : State) (lo hi : Fld) (v : Nat) : Keeps 0x1ffff0000 s (State.setCmp64 s lo hi v) := by
  unfold State.setCmp64
  try dsimp only
  repeat' (first
    | with_reducible exact Keeps.refl _
    | with_reducible apply keeps_setPair_ge 16 (by decide) (by decide) (by first | decide | (simp only [spanLo_16, pSa, pSb, pSvl, pSer, lnTrim, mcTrim, pMc, pView, pTime]; omega))
    | with_reducible apply keeps_ite
    | (intro _)
    | split)

end Sys2Proof.Machine
end

