-- ==== Sys2Proof/Laws/KeptTime.lean ====
section
/-!
SUPPORT. What the operations of Time.lean keep.
-/
namespace Sys2Proof.Machine

theorem kept_setPtp (s : State) (p : Ptp) : Keeps 0x100000000000000 s (State.setPtp s p) := by
  unfold State.setPtp
  try dsimp only
  repeat' (first
    | with_reducible exact Keeps.refl _
    | with_reducible apply keeps_ite
    | (intro _)
    | split
    | with_reducible apply keeps_with_ptp (by decide))

theorem kept_pendInvalid (s : State) : Keeps 0x400 s (State.pendInvalid s) := by
  unfold State.pendInvalid
  try dsimp only
  repeat' (first
    | with_reducible exact Keeps.refl _
    | with_reducible apply keeps_setPair_in 10 (by decide) (by unfold inSpan; decide) (by unfold inSpan; decide)
    | with_reducible apply keeps_setFld_in 10 (by decide) (by unfold inSpan; first | decide | (split <;> decide) | ((first | unfold driveFld | unfold errFld); split <;> decide))
    | with_reducible apply keeps_ite
    | (intro _)
    | split)

theorem kept_setSync (s : State) (n : Nat) : Keeps 0x100000000001400 s (State.setSync s n) := by
  unfold State.setSync
  try dsimp only
  repeat' (first
    | with_reducible exact Keeps.refl _
    | with_reducible apply keeps_setFld_in 10 (by decide) (by unfold inSpan; first | decide | (split <;> decide) | ((first | unfold driveFld | unfold errFld); split <;> decide))
    | with_reducible apply keeps_setCond_in 10 (by decide) (by unfold inSpan; first | decide | (split <;> decide) | ((first | unfold driveFld | unfold errFld); split <;> decide))
    | with_reducible apply keeps_when_on
    | with_reducible apply Keeps.via (kept_setSa _ _ _ _ (by first | assumption | decide | exact Fin.isLt _ | exact bitsOf_lt64 _ _ | omega | exact List.mem_range.mp (by assumption) | exact presentPos_lt (by assumption) | exact startRecord_len .. | exact presetTrims_len .. | exact take7_len .. | exact take6_len .. | exact ethStart_len .. | exact all_off (by assumption) (by decide))) (by decide)
    | with_reducible apply Keeps.via (kept_setPtp ..) (by decide)
    | with_reducible apply keeps_ite
    | (intro _)
    | split)

theorem kept_goodSample (s : State) (near : Bool) : Keeps 0x100000000001400 s (State.goodSample s near) := by
  unfold State.goodSample
  try dsimp only
  repeat' (first
    | with_reducible exact Keeps.refl _
    | with_reducible apply Keeps.via (kept_setPtp ..) (by decide)
    | with_reducible apply Keeps.via (kept_setSync ..) (by decide)
    | with_reducible apply Keeps.via (kept_pendInvalid ..) (by decide)
    | with_reducible apply keeps_ite
    | (intro _)
    | split)

theorem kept_refusedSample (s : State) (theta : Int) : Keeps 0x100400000001400 s (State.refusedSample s theta) := by
  unfold State.refusedSample
  try dsimp only
  repeat' (first
    | with_reducible exact Keeps.refl _
    | with_reducible apply keeps_inc_in 10 (by decide) (by unfold inSpan; first | decide | (split <;> decide) | ((first | unfold driveFld | unfold errFld); split <;> decide))
    | with_reducible apply keeps_setPair_in 10 (by decide) (by unfold inSpan; decide) (by unfold inSpan; decide)
    | with_reducible apply keeps_setFld_in 10 (by decide) (by unfold inSpan; first | decide | (split <;> decide) | ((first | unfold driveFld | unfold errFld); split <;> decide))
    | with_reducible apply Keeps.via (kept_setCyc ..) (by decide)
    | with_reducible apply Keeps.via (kept_setSync ..) (by decide)
    | with_reducible apply keeps_ite
    | (intro _)
    | split)

theorem kept_thetaSample (s : State) (theta : Int) : Keeps 0x100400800001400 s (State.thetaSample s theta) := by
  unfold State.thetaSample
  try dsimp only
  repeat' (first
    | with_reducible exact Keeps.refl _
    | with_reducible apply keeps_inc_in 10 (by decide) (by unfold inSpan; first | decide | (split <;> decide) | ((first | unfold driveFld | unfold errFld); split <;> decide))
    | with_reducible apply keeps_setS_in 10 (by decide) (by unfold inSpan; first | decide | (split <;> decide) | ((first | unfold driveFld | unfold errFld); split <;> decide))
    | with_reducible apply Keeps.via (kept_refusedSample ..) (by decide)
    | with_reducible apply Keeps.via (kept_emit ..) (by decide)
    | with_reducible apply Keeps.via (kept_goodSample ..) (by decide)
    | with_reducible apply keeps_ite
    | (intro _)
    | split)

theorem kept_loseMaster (s : State) : Keeps 0x100000000001400 s (State.loseMaster s) := by
  unfold State.loseMaster
  try dsimp only
  repeat' (first
    | with_reducible exact Keeps.refl _
    | with_reducible apply Keeps.via (kept_setSync ..) (by decide)
    | with_reducible apply Keeps.via (kept_pendInvalid ..) (by decide)
    | with_reducible apply keeps_ite
    | (intro _)
    | split)

theorem kept_formSample (s : State) (ms : Int) : Keeps 0x80002101438800001400 s (State.formSample s ms) := by
  unfold State.formSample
  try dsimp only
  repeat' (first
    | with_reducible exact Keeps.refl _
    | with_reducible apply Keeps.via (kept_setPtp ..) (by decide)
    | with_reducible apply Keeps.via (kept_thetaSample ..) (by decide)
    | with_reducible apply Keeps.via (kept_settle ..) (by decide)
    | with_reducible apply keeps_ite
    | (intro _)
    | split)

theorem kept_execSyncRx (port : PortNo) (m : PtpMsg) (stamp : Int) (s : State) (t : State) (h : execSyncRx port m stamp s = .next t) : Keeps 0x80002101438800001400 s t := by
  unfold execSyncRx at h
  cases h
  try dsimp only
  repeat' (first
    | with_reducible exact Keeps.refl _
    | with_reducible apply keeps_inc_in 10 (by decide) (by unfold inSpan; first | decide | (split <;> decide) | ((first | unfold driveFld | unfold errFld); split <;> decide))
    | with_reducible apply Keeps.via (kept_setPtp ..) (by decide)
    | with_reducible apply Keeps.via (kept_formSample ..) (by decide)
    | with_reducible apply keeps_ite
    | (intro _)
    | split)

theorem kept_execFollowUpRx (port : PortNo) (m : PtpMsg) (s : State) (t : State) (h : execFollowUpRx port m s = .next t) : Keeps 0x80002101438800001400 s t := by
  unfold execFollowUpRx at h
  cases h
  try dsimp only
  repeat' (first
    | with_reducible exact Keeps.refl _
    | with_reducible apply Keeps.via (kept_setPtp ..) (by decide)
    | with_reducible apply Keeps.via (kept_formSample ..) (by decide)
    | with_reducible apply keeps_ite
    | (intro _)
    | split)

theorem kept_sendDelayReq (s : State) (p n master : Nat) : Keeps 0x1000800024000 s (State.sendDelayReq s p n master) := by
  unfold State.sendDelayReq
  try dsimp only
  repeat' (first
    | with_reducible exact Keeps.refl _
    | with_reducible apply Keeps.via (kept_txFrame ..) (by decide)
    | with_reducible apply Keeps.via (kept_sendVia ..) (by decide)
    | with_reducible apply keeps_ite
    | (intro _)
    | split)

theorem kept_execDelayReqSend (stamp : Int) (s : State) (t : State) (h : execDelayReqSend stamp s = .next t) : Keeps 0x80002101038800024000 s t := by
  unfold execDelayReqSend at h
  cases h
  try dsimp only
  repeat' (first
    | with_reducible exact Keeps.refl _
    | with_reducible apply Keeps.via (kept_setPtp ..) (by decide)
    | with_reducible apply Keeps.via (kept_sendDelayReq ..) (by decide)
    | with_reducible apply Keeps.via (kept_settle ..) (by decide)
    | with_reducible apply keeps_ite
    | (intro _)
    | split)

theorem kept_delayMeasured (s : State) (dly : Int) : Keeps 0x100000000000400 s (State.delayMeasured s dly) := by
  unfold State.delayMeasured
  try dsimp only
  repeat' (first
    | with_reducible exact Keeps.refl _
    | with_reducible apply keeps_inc_in 10 (by decide) (by unfold inSpan; first | decide | (split <;> decide) | ((first | unfold driveFld | unfold errFld); split <;> decide))
    | with_reducible apply keeps_setFld_in 10 (by decide) (by unfold inSpan; first | decide | (split <;> decide) | ((first | unfold driveFld | unfold errFld); split <;> decide))
    | with_reducible apply Keeps.via (kept_setPtp ..) (by decide)
    | with_reducible apply keeps_ite
    | (intro _)
    | split)

theorem kept_execDelayRespRx (port : PortNo) (m : PtpMsg) (s : State) (t : State) (h : execDelayRespRx port m s = .next t) : Keeps 0x100000000000400 s t := by
  unfold execDelayRespRx at h
  cases h
  try dsimp only
  repeat' (first
    | with_reducible exact Keeps.refl _
    | with_reducible apply Keeps.via (kept_setPtp ..) (by decide)
    | with_reducible apply Keeps.via (kept_delayMeasured ..) (by decide)
    | with_reducible apply keeps_ite
    | (intro _)
    | split)

theorem kept_showMaster (s : State) (m : Master) : Keeps 0x400 s (State.showMaster s m) := by
  unfold State.showMaster
  try dsimp only
  repeat' (first
    | with_reducible exact Keeps.refl _
    | with_reducible apply keeps_setFld_in 10 (by decide) (by unfold inSpan; first | decide | (split <;> decide) | ((first | unfold driveFld | unfold errFld); split <;> decide))
    | with_reducible apply keeps_setPair_in 10 (by decide) (by unfold inSpan; decide) (by unfold inSpan; decide)
    | with_reducible apply keeps_setCond_in 10 (by decide) (by unfold inSpan; first | decide | (split <;> decide) | ((first | unfold driveFld | unfold errFld); split <;> decide))
    | with_reducible apply keeps_when_on
    | with_reducible apply keeps_ite
    | (intro _)
    | split)

theorem kept_selectMaster (s : State) : Keeps 0x100000000000400 s (State.selectMaster s) := by
  unfold State.selectMaster
  try dsimp only
  repeat' (first
    | with_reducible exact Keeps.refl _
    | with_reducible apply keeps_setCond_in 10 (by decide) (by unfold inSpan; first | decide | (split <;> decide) | ((first | unfold driveFld | unfold errFld); split <;> decide))
    | with_reducible apply keeps_setFld_in 10 (by decide) (by unfold inSpan; first | decide | (split <;> decide) | ((first | unfold driveFld | unfold errFld); split <;> decide))
    | with_reducible apply Keeps.via (kept_setPtp ..) (by decide)
    | with_reducible apply Keeps.via (kept_showMaster ..) (by decide)
    | with_reducible apply keeps_ite
    | (intro _)
    | split)

theorem kept_hearMasters (s : State) : Keeps 0x100000000001400 s (State.hearMasters s) := by
  unfold State.hearMasters
  try dsimp only
  repeat' (first
    | with_reducible exact Keeps.refl _
    | with_reducible apply keeps_when_on
    | with_reducible apply Keeps.via (kept_loseMaster ..) (by decide)
    | with_reducible apply Keeps.via (kept_setPtp ..) (by decide)
    | with_reducible apply Keeps.via (kept_selectMaster ..) (by decide)
    | with_reducible apply keeps_ite
    | (intro _)
    | split)

theorem kept_execAnnounceRx (port : PortNo) (a : Announce) (s : State) (t : State) (h : execAnnounceRx port a s = .next t) : Keeps 0x80002101038800001400 s t := by
  unfold execAnnounceRx at h
  cases h
  try dsimp only
  repeat' (first
    | with_reducible exact Keeps.refl _
    | with_reducible apply keeps_inc_in 10 (by decide) (by unfold inSpan; first | decide | (split <;> decide) | ((first | unfold driveFld | unfold errFld); split <;> decide))
    | with_reducible apply Keeps.via (kept_setPtp ..) (by decide)
    | with_reducible apply Keeps.via (kept_hearMasters ..) (by decide)
    | with_reducible apply Keeps.via (kept_settle ..) (by decide)
    | with_reducible apply keeps_ite
    | (intro _)
    | split)

theorem kept_execMasterLost (heard : Bool) (s : State) (t : State) (h : execMasterLost heard s = .next t) : Keeps 0x80002101038800001400 s t := by
  unfold execMasterLost at h
  cases h
  try dsimp only
  repeat' (first
    | with_reducible exact Keeps.refl _
    | with_reducible apply Keeps.via (kept_loseMaster ..) (by decide)
    | with_reducible apply Keeps.via (kept_setPtp ..) (by decide)
    | with_reducible apply Keeps.via (kept_hearMasters ..) (by decide)
    | with_reducible apply Keeps.via (kept_settle ..) (by decide)
    | with_reducible apply keeps_ite
    | (intro _)
    | split)

theorem kept_execPpsTimeout (s : State) (t : State) (h : execPpsTimeout s = .next t) : Keeps 0x80002101038800001400 s t := by
  unfold execPpsTimeout at h
  cases h
  try dsimp only
  repeat' (first
    | with_reducible exact Keeps.refl _
    | with_reducible apply Keeps.via (kept_loseMaster ..) (by decide)
    | with_reducible apply Keeps.via (kept_settle ..) (by decide)
    | with_reducible apply keeps_ite
    | (intro _)
    | split)

theorem kept_ptpForward (s : State) (p dst : Nat) (src : BitVec 48) (ip : Option (IpRx × UdpRx)) (x : PtpRx) : Keeps 0x800024400 s (State.ptpForward s p dst src ip x) := by
  unfold State.ptpForward
  try dsimp only
  repeat' (first
    | with_reducible exact Keeps.refl _
    | with_reducible apply keeps_inc_in 10 (by decide) (by unfold inSpan; first | decide | (split <;> decide) | ((first | unfold driveFld | unfold errFld); split <;> decide))
    | with_reducible apply keeps_each_on
    | with_reducible apply Keeps.via (kept_txFrame ..) (by decide)
    | with_reducible apply keeps_ite
    | (intro _)
    | split)

theorem kept_stepCtl (s : State) (op : Nat) : Keeps 0x400000000000 s (State.stepCtl s op) := by
  unfold State.stepCtl
  try dsimp only
  repeat' (first
    | with_reducible exact Keeps.refl _
    | with_reducible apply Keeps.via (kept_setCyc ..) (by decide)
    | with_reducible apply keeps_ite
    | (intro _)
    | split)

theorem kept_stepAtWindow (s : State) : Keeps 0x400000000000 s (State.stepAtWindow s) := by
  unfold State.stepAtWindow
  try dsimp only
  repeat' (first
    | with_reducible exact Keeps.refl _
    | with_reducible apply Keeps.via (kept_setCyc ..) (by decide)
    | with_reducible apply keeps_ite
    | (intro _)
    | split)

theorem kept_setTout (s : State) (k : Nat) (t : Tout) : Keeps 0x200000000000000 s (State.setTout s k t) := by
  unfold State.setTout
  try dsimp only
  repeat' (first
    | with_reducible exact Keeps.refl _
    | with_reducible apply keeps_ite
    | (intro _)
    | split
    | with_reducible apply keeps_with_touts (by decide))

theorem kept_driveTout (s : State) (k : Nat) : Keeps 0x800000000 s (State.driveTout s k) := by
  unfold State.driveTout
  try dsimp only
  repeat' (first
    | with_reducible exact Keeps.refl _
    | with_reducible apply Keeps.via (kept_emit ..) (by decide)
    | with_reducible apply keeps_ite
    | (intro _)
    | split)

theorem kept_freePol (s : State) (k : Nat) : Keeps 0x200000000000000 s (State.freePol s k) := by
  unfold State.freePol
  try dsimp only
  repeat' (first
    | with_reducible exact Keeps.refl _
    | with_reducible apply Keeps.via (kept_setTout ..) (by decide)
    | with_reducible apply keeps_ite
    | (intro _)
    | split)

theorem kept_missTout (s : State) (k : Nat) (hb0 : k < 16) : Keeps 0x200000800000400 s (State.missTout s k) := by
  unfold State.missTout
  try dsimp only
  repeat' (first
    | with_reducible exact Keeps.refl _
    | with_reducible apply keeps_setFld_in 10 (by decide) (by exact in_pg2 (w := 0x1000) (by unfold pgIn; decide) (off_le (by first | assumption | exact Nat.mod_lt _ (by decide)) (by decide)))
    | with_reducible apply keeps_setCond_in 10 (by decide) (by unfold inSpan; first | decide | (split <;> decide) | ((first | unfold driveFld | unfold errFld); split <;> decide))
    | with_reducible apply Keeps.via (kept_setTout ..) (by decide)
    | with_reducible apply Keeps.via (kept_freePol ..) (by decide)
    | with_reducible apply Keeps.via (kept_driveTout ..) (by decide)
    | with_reducible apply keeps_ite
    | (intro _)
    | split)

theorem kept_judgeTout (s : State) (k t : Nat) (hb0 : k < 16) : Keeps 0x200000800000400 s (State.judgeTout s k t) := by
  unfold State.judgeTout
  try dsimp only
  repeat' (first
    | with_reducible exact Keeps.refl _
    | with_reducible apply Keeps.via (kept_missTout _ _ (by first | assumption | decide | exact Fin.isLt _ | exact bitsOf_lt64 _ _ | omega | exact List.mem_range.mp (by assumption) | exact presentPos_lt (by assumption) | exact startRecord_len .. | exact presetTrims_len .. | exact take7_len .. | exact take6_len .. | exact ethStart_len .. | exact all_off (by assumption) (by decide))) (by decide)
    | with_reducible apply Keeps.via (kept_setTout ..) (by decide)
    | with_reducible apply keeps_ite
    | (intro _)
    | split)

theorem kept_toutArm (s : State) (k : Nat) (hb0 : k < 16) : Keeps 0x80002201038800000400 s (State.toutArm s k) := by
  unfold State.toutArm
  try dsimp only
  repeat' (first
    | with_reducible exact Keeps.refl _
    | with_reducible apply keeps_setFld_in 10 (by decide) (by exact in_pg2 (w := 0x1000) (by unfold pgIn; decide) (off_le (by first | assumption | exact Nat.mod_lt _ (by decide)) (by decide)))
    | with_reducible apply Keeps.via (kept_setTout ..) (by decide)
    | with_reducible apply Keeps.via (kept_judgeTout _ _ _ (by first | assumption | decide | exact Fin.isLt _ | exact bitsOf_lt64 _ _ | omega | exact List.mem_range.mp (by assumption) | exact presentPos_lt (by assumption) | exact startRecord_len .. | exact presetTrims_len .. | exact take7_len .. | exact take6_len .. | exact ethStart_len .. | exact all_off (by assumption) (by decide))) (by decide)
    | with_reducible apply Keeps.via (kept_settle ..) (by decide)
    | with_reducible apply keeps_ite
    | (intro _)
    | split)

theorem kept_toutDisarm (s : State) (k : Nat) : Keeps 0x200000000000000 s (State.toutDisarm s k) := by
  unfold State.toutDisarm
  try dsimp only
  repeat' (first
    | with_reducible exact Keeps.refl _
    | with_reducible apply Keeps.via (kept_setTout ..) (by decide)
    | with_reducible apply keeps_ite
    | (intro _)
    | split)

theorem kept_execToutEdge (k : Fin 16) (s : State) (t : State) (h : execToutEdge k s = .next t) : Keeps 0x200000800000000 s t := by
  unfold execToutEdge at h
  cases h
  try dsimp only
  repeat' (first
    | with_reducible exact Keeps.refl _
    | with_reducible apply Keeps.via (kept_setTout ..) (by decide)
    | with_reducible apply Keeps.via (kept_driveTout ..) (by decide)
    | with_reducible apply keeps_ite
    | (intro _)
    | split)

theorem kept_execToutPulseEnd (k : Fin 16) (s : State) (t : State) (h : execToutPulseEnd k s = .next t) : Keeps 0x200000800000000 s t := by
  unfold execToutPulseEnd at h
  cases h
  try dsimp only
  repeat' (first
    | with_reducible exact Keeps.refl _
    | with_reducible apply Keeps.via (kept_setTout ..) (by decide)
    | with_reducible apply Keeps.via (kept_freePol ..) (by decide)
    | with_reducible apply Keeps.via (kept_driveTout ..) (by decide)
    | with_reducible apply keeps_ite
    | (intro _)
    | split)

theorem kept_scheduleEdges (s : State) (l : List (Nat × Nat)) : Keeps 0x200000000000000 s (State.scheduleEdges s l) := by
  unfold State.scheduleEdges
  try dsimp only
  repeat' (first
    | with_reducible exact Keeps.refl _
    | with_reducible apply keeps_each_on
    | with_reducible apply Keeps.via (kept_setTout ..) (by decide)
    | with_reducible apply keeps_ite
    | (intro _)
    | split)

theorem kept_execCycleEdgeSchedule (s : State) (t : State) (h : execCycleEdgeSchedule s = .next t) : Keeps 0x200400000000000 s t := by
  unfold execCycleEdgeSchedule at h
  cases h
  try dsimp only
  repeat' (first
    | with_reducible exact Keeps.refl _
    | with_reducible apply keeps_foldl_on
    | with_reducible apply keeps_fold_pair
    | with_reducible apply Keeps.via (kept_setCyc ..) (by decide)
    | with_reducible apply keeps_when_on
    | with_reducible apply Keeps.via (kept_scheduleEdges ..) (by decide)
    | with_reducible apply keeps_ite
    | (intro _)
    | split)

theorem kept_moveEdges (s : State) : Keeps 0x200000000000000 s (State.moveEdges s) := by
  unfold State.moveEdges
  try dsimp only
  repeat' (first
    | with_reducible exact Keeps.refl _
    | with_reducible apply keeps_each_on
    | with_reducible apply Keeps.via (kept_setTout ..) (by decide)
    | with_reducible apply Keeps.via (kept_scheduleEdges ..) (by decide)
    | with_reducible apply keeps_ite
    | (intro _)
    | split)

theorem kept_dropEdges (s : State) : Keeps 0x200000000000000 s (State.dropEdges s) := by
  unfold State.dropEdges
  try dsimp only
  repeat' (first
    | with_reducible exact Keeps.refl _
    | with_reducible apply keeps_each_on
    | with_reducible apply Keeps.via (kept_setTout ..) (by decide)
    | with_reducible apply keeps_ite
    | (intro _)
    | split)

theorem kept_retrimEdges (s : State) (c start : Nat) : Keeps 0x200000000000000 s (State.retrimEdges s c start) := by
  unfold State.retrimEdges
  try dsimp only
  repeat' (first
    | with_reducible exact Keeps.refl _
    | with_reducible apply keeps_each_on
    | with_reducible apply Keeps.via (kept_setTout ..) (by decide)
    | with_reducible apply keeps_ite
    | (intro _)
    | split)

theorem kept_afterStep (s : State) (auto : Bool) : Keeps 0x1300000800001400 s (State.afterStep s auto) := by
  unfold State.afterStep
  try dsimp only
  repeat' (first
    | with_reducible exact Keeps.refl _
    | with_reducible apply Keeps.via (kept_pendInvalid ..) (by decide)
    | with_reducible apply Keeps.via (kept_setSync ..) (by decide)
    | with_reducible apply Keeps.via (kept_saRelease ..) (by decide)
    | with_reducible apply keeps_each_mem
    | with_reducible apply Keeps.via (kept_judgeTout _ _ _ (by first | assumption | decide | exact Fin.isLt _ | exact bitsOf_lt64 _ _ | omega | exact List.mem_range.mp (by assumption) | exact presentPos_lt (by assumption) | exact startRecord_len .. | exact presetTrims_len .. | exact take7_len .. | exact take6_len .. | exact ethStart_len .. | exact all_off (by assumption) (by decide))) (by decide)
    | with_reducible apply keeps_ite
    | (intro _)
    | split)

theorem kept_execStepTakeEffect (s : State) (t : State) (h : execStepTakeEffect s = .next t) : Keeps 0x80003301538800001400 s t := by
  unfold execStepTakeEffect at h
  cases h
  try dsimp only
  repeat' (first
    | with_reducible exact Keeps.refl _
    | with_reducible apply keeps_setFld_in 10 (by decide) (by unfold inSpan; first | decide | (split <;> decide) | ((first | unfold driveFld | unfold errFld); split <;> decide))
    | with_reducible apply keeps_setPair_in 10 (by decide) (by unfold inSpan; decide) (by unfold inSpan; decide)
    | with_reducible apply keeps_setCond_in 10 (by decide) (by unfold inSpan; first | decide | (split <;> decide) | ((first | unfold driveFld | unfold errFld); split <;> decide))
    | with_reducible apply Keeps.via (kept_setCyc ..) (by decide)
    | with_reducible apply Keeps.via (kept_afterStep ..) (by decide)
    | with_reducible apply Keeps.via (kept_settle ..) (by decide)
    | with_reducible apply keeps_ite
    | (intro _)
    | split
    | with_reducible apply keeps_with_clk (by decide))

theorem kept_setTcap (s : State) (k : Nat) (t : Tcap) : Keeps 0x400000000000000 s (State.setTcap s k t) := by
  unfold State.setTcap
  try dsimp only
  repeat' (first
    | with_reducible exact Keeps.refl _
    | with_reducible apply keeps_ite
    | (intro _)
    | split
    | with_reducible apply keeps_with_tcaps (by decide))

theorem kept_captureSamples (s : State) (k t : Nat) : Keeps 0x800000000 s (State.captureSamples s k t) := by
  unfold State.captureSamples
  try dsimp only
  repeat' (first
    | with_reducible exact Keeps.refl _
    | with_reducible apply keeps_each_on
    | with_reducible apply Keeps.via (kept_emit ..) (by decide)
    | with_reducible apply keeps_ite
    | (intro _)
    | split)

theorem kept_stampEdge (s : State) (k : Nat) (rising : Bool) (hb0 : k < 4) : Keeps 0x400000800000400 s (State.stampEdge s k rising) := by
  unfold State.stampEdge
  try dsimp only
  repeat' (first
    | with_reducible exact Keeps.refl _
    | with_reducible apply keeps_setFld_ix 10 4 (by decide) (by decide) (by decide) (by first | assumption | omega | exact Fin.isLt _ | exact List.mem_range.mp (by assumption) | exact lifeBand_lt _ | exact zip_lt (by assumption)) (by decide)
    | with_reducible apply keeps_inc_ix 10 4 (by decide) (by decide) (by decide) (by first | assumption | omega | exact Fin.isLt _ | exact List.mem_range.mp (by assumption) | exact lifeBand_lt _ | exact zip_lt (by assumption)) (by decide)
    | with_reducible apply keeps_setCond_in 10 (by decide) (by unfold inSpan; first | decide | (split <;> decide) | ((first | unfold driveFld | unfold errFld); split <;> decide))
    | with_reducible apply Keeps.via (kept_setTcap ..) (by decide)
    | with_reducible apply Keeps.via (kept_captureSamples ..) (by decide)
    | with_reducible apply keeps_ite
    | (intro _)
    | split)

theorem kept_ppsEdge (s : State) (k : Nat) (rising : Bool) : Keeps 0x100400800001400 s (State.ppsEdge s k rising) := by
  unfold State.ppsEdge
  try dsimp only
  repeat' (first
    | with_reducible exact Keeps.refl _
    | with_reducible apply Keeps.via (kept_setPtp ..) (by decide)
    | with_reducible apply Keeps.via (kept_thetaSample ..) (by decide)
    | with_reducible apply keeps_ite
    | (intro _)
    | split)

theorem kept_execTcapEdge (k : Fin 4) (rising : Bool) (s : State) (t : State) (h : execTcapEdge k rising s = .next t) : Keeps 0x80002501438800001400 s t := by
  unfold execTcapEdge at h
  cases h
  try dsimp only
  repeat' (first
    | with_reducible exact Keeps.refl _
    | with_reducible apply Keeps.via (kept_ppsEdge ..) (by decide)
    | with_reducible apply Keeps.via (kept_stampEdge _ _ _ (by first | assumption | decide | exact Fin.isLt _ | exact bitsOf_lt64 _ _ | omega | exact List.mem_range.mp (by assumption) | exact presentPos_lt (by assumption) | exact startRecord_len .. | exact presetTrims_len .. | exact take7_len .. | exact take6_len .. | exact ethStart_len .. | exact all_off (by assumption) (by decide))) (by decide)
    | with_reducible apply Keeps.via (kept_settle ..) (by decide)
    | with_reducible apply keeps_ite
    | (intro _)
    | split)

theorem kept_tcapPop (s : State) (seat k : Nat) (hk : k < 4) : Keeps 0x400000000000400 s (s.tcapPop seat k) := by
  unfold State.tcapPop
  dsimp only
  split
  · refine keeps_setFld_in 10 (by decide) ?_ ((kept_setTcap ..).mono (by decide))
    refine ⟨by decide, ?_, ?_⟩
    · show 0x40000 ≤ 0x40000 + 0x60C + k * 16
      omega
    · show 0x40000 + 0x60C + k * 16 < 0x41000
      omega
  · exact (kept_setTcap ..).mono (by decide)

theorem kept_execPpsPulse (s : State) (t : State) (h : execPpsPulse s = .next t) : Keeps 0x800000800000000 s t := by
  unfold execPpsPulse at h
  cases h
  try dsimp only
  repeat' (first
    | with_reducible exact Keeps.refl _
    | with_reducible apply Keeps.via (kept_emit ..) (by decide)
    | with_reducible apply keeps_ite
    | (intro _)
    | split
    | with_reducible apply keeps_with_ppsHigh (by decide))

theorem kept_execPpsPulseEnd (s : State) (t : State) (h : execPpsPulseEnd s = .next t) : Keeps 0x800000800000000 s t := by
  unfold execPpsPulseEnd at h
  cases h
  try dsimp only
  repeat' (first
    | with_reducible exact Keeps.refl _
    | with_reducible apply Keeps.via (kept_emit ..) (by decide)
    | with_reducible apply keeps_ite
    | (intro _)
    | split
    | with_reducible apply keeps_with_ppsHigh (by decide))

theorem kept_judgePps (s : State) : Keeps 0x800000800000000 s (State.judgePps s) := by
  unfold State.judgePps
  try dsimp only
  repeat' (first
    | with_reducible exact Keeps.refl _
    | with_reducible apply Keeps.via (kept_emit ..) (by decide)
    | with_reducible apply keeps_ite
    | (intro _)
    | split
    | with_reducible apply keeps_with_ppsHigh (by decide))

theorem kept_syncSrcChanged (s : State) (old : Nat) : Keeps 0x80003301438800001400 s (State.syncSrcChanged s old) := by
  unfold State.syncSrcChanged
  try dsimp only
  repeat' (first
    | with_reducible exact Keeps.refl _
    | with_reducible apply Keeps.via (kept_setSync ..) (by decide)
    | with_reducible apply Keeps.via (kept_pendInvalid ..) (by decide)
    | with_reducible apply Keeps.via (kept_setCyc ..) (by decide)
    | with_reducible apply Keeps.via (kept_moveEdges ..) (by decide)
    | with_reducible apply Keeps.via (kept_setPtp ..) (by decide)
    | with_reducible apply Keeps.via (kept_saRelease ..) (by decide)
    | with_reducible apply Keeps.via (kept_rebaseA0 ..) (by decide)
    | with_reducible apply Keeps.via (kept_settle ..) (by decide)
    | with_reducible apply keeps_ite
    | (intro _)
    | split)

end Sys2Proof.Machine
end

