-- ==== Sys2Proof/Laws/KeptWickline.lean ====
section
/-!
SUPPORT. What the operations of Wickline.lean keep.
-/
namespace Sys2Proof.Machine

theorem kept_sendOn (s : State) (link : Nat) (sec : Bool) (ws : List Nat) : Keeps 0x800400000 s (State.sendOn s link sec ws) := by
  unfold State.sendOn
  try dsimp only
  repeat' (first
    | with_reducible exact Keeps.refl _
    | with_reducible apply keeps_inc_in 22 (by decide) (by first | exact in_pg2 (pg_22 _) (by first | decide | assumption | exact off_le (Nat.mod_lt _ (by decide)) (by first | assumption | decide) | exact off_le (by assumption) (by decide) | exact off_le (List.mem_range.mp (by assumption)) (by decide) | exact all_off (by assumption) (by decide) | (unfold upFld; split <;> decide)) | exact in_pg (pg_22 _) (by decide))
    | with_reducible apply Keeps.via (kept_emit ..) (by decide)
    | with_reducible apply keeps_ite
    | (intro _)
    | split)

theorem kept_sendBoth (s : State) (link : Nat) (ws : List Nat) : Keeps 0x800400000 s (State.sendBoth s link ws) := by
  unfold State.sendBoth
  try dsimp only
  repeat' (first
    | with_reducible exact Keeps.refl _
    | with_reducible apply Keeps.via (kept_sendOn ..) (by decide)
    | with_reducible apply keeps_ite
    | (intro _)
    | split)

theorem kept_measureD (s : State) : Keeps 0x10000 s (State.measureD s) := by
  unfold State.measureD
  try dsimp only
  repeat' (first
    | with_reducible exact Keeps.refl _
    | with_reducible apply keeps_foldl_on
    | with_reducible apply keeps_fold_pair
    | with_reducible apply keeps_setFld_in 16 (by decide) (by unfold inSpan; first | decide | (split <;> decide) | ((first | unfold driveFld | unfold errFld); split <;> decide))
    | with_reducible apply keeps_ite
    | (intro _)
    | split)

theorem kept_latchDelay (s : State) (link : Nat) : Keeps 0x410000 s (State.latchDelay s link) := by
  unfold State.latchDelay
  try dsimp only
  repeat' (first
    | with_reducible exact Keeps.refl _
    | with_reducible apply keeps_setFld_in 22 (by decide) (by first | exact in_pg2 (pg_22 _) (by first | decide | assumption | exact off_le (Nat.mod_lt _ (by decide)) (by first | assumption | decide) | exact off_le (by assumption) (by decide) | exact off_le (List.mem_range.mp (by assumption)) (by decide) | exact all_off (by assumption) (by decide) | (unfold upFld; split <;> decide)) | exact in_pg (pg_22 _) (by decide))
    | with_reducible apply keeps_setCond_in 22 (by decide) (by first | exact in_pg2 (pg_22 _) (by first | decide | assumption | exact off_le (Nat.mod_lt _ (by decide)) (by first | assumption | decide) | exact off_le (by assumption) (by decide) | exact off_le (List.mem_range.mp (by assumption)) (by decide) | exact all_off (by assumption) (by decide) | (unfold upFld; split <;> decide)) | exact in_pg (pg_22 _) (by decide))
    | with_reducible apply Keeps.via (kept_measureD ..) (by decide)
    | with_reducible apply keeps_when_on
    | with_reducible apply keeps_ite
    | (intro _)
    | split)

theorem kept_setLink (s : State) (link : Nat) (l : LinkRt) : Keeps 0x800000000000000000000 s (State.setLink s link l) := by
  unfold State.setLink
  try dsimp only
  repeat' (first
    | with_reducible exact Keeps.refl _
    | with_reducible apply keeps_ite
    | (intro _)
    | split
    | with_reducible apply keeps_with_linkRt (by decide))

theorem kept_setPos (s : State) (link pos : Nat) (r : PosRt) : Keeps 0x800000000000000000000 s (State.setPos s link pos r) := by
  unfold State.setPos
  try dsimp only
  repeat' (first
    | with_reducible exact Keeps.refl _
    | with_reducible apply Keeps.via (kept_setLink ..) (by decide)
    | with_reducible apply keeps_ite
    | (intro _)
    | split)

theorem kept_broadcast (s : State) (link : Nat) (feeds : List Bool) (ws : List Nat) : Keeps 0x800000000000800400000 s (State.broadcast s link feeds ws) := by
  unfold State.broadcast
  try dsimp only
  repeat' (first
    | with_reducible exact Keeps.refl _
    | with_reducible apply Keeps.via (kept_setLink ..) (by decide)
    | with_reducible apply keeps_each_on
    | with_reducible apply Keeps.via (kept_sendOn ..) (by decide)
    | with_reducible apply keeps_ite
    | (intro _)
    | split)

theorem kept_flushBroadcasts (s : State) (link : Nat) : Keeps 0x800000000000800400000 s (State.flushBroadcasts s link) := by
  unfold State.flushBroadcasts
  try dsimp only
  repeat' (first
    | with_reducible exact Keeps.refl _
    | with_reducible apply keeps_when_on
    | with_reducible apply Keeps.via (kept_setLink ..) (by decide)
    | with_reducible apply Keeps.via (kept_broadcast ..) (by decide)
    | with_reducible apply keeps_each_on
    | with_reducible apply Keeps.via (kept_setPos ..) (by decide)
    | with_reducible apply keeps_ite
    | (intro _)
    | split)

theorem kept_askSched (s : State) (link : Nat) (feeds : List Bool) : Keeps 0x800000000000000000000 s (State.askSched s link feeds) := by
  unfold State.askSched
  try dsimp only
  repeat' (first
    | with_reducible exact Keeps.refl _
    | with_reducible apply Keeps.via (kept_setLink ..) (by decide)
    | with_reducible apply keeps_ite
    | (intro _)
    | split)

theorem kept_setCredit (s : State) (t : Nat) (c : Credit) : Keeps 0x40000000000000 s (State.setCredit s t c) := by
  unfold State.setCredit
  try dsimp only
  repeat' (first
    | with_reducible exact Keeps.refl _
    | with_reducible apply keeps_ite
    | (intro _)
    | split
    | with_reducible apply keeps_with_credits (by decide))

theorem kept_sendSys (s : State) (t cls bits : Nat) (payload : List Nat) : Keeps 0x40000800400000 s (State.sendSys s t cls bits payload) := by
  unfold State.sendSys
  try dsimp only
  repeat' (first
    | with_reducible exact Keeps.refl _
    | with_reducible apply Keeps.via (kept_setCredit ..) (by decide)
    | with_reducible apply Keeps.via (kept_sendOn ..) (by decide)
    | with_reducible apply keeps_ite
    | (intro _)
    | split)

theorem kept_freeHeld (s : State) (t : Nat) (rest : List (Nat × Nat × List Nat)) (n : Nat) : Keeps 0x40000000000000 s (State.freeHeld s t rest n) := by
  unfold State.freeHeld
  try dsimp only
  repeat' (first
    | with_reducible exact Keeps.refl _
    | with_reducible apply Keeps.via (kept_setCredit ..) (by decide)
    | with_reducible apply keeps_ite
    | (intro _)
    | split)

theorem quads_le (l : List Nat) : (quadBytes (l.take 4)).length ≤ 32 := by
  rw [quadBytes_length, List.length_take]; omega

theorem cutSlots_le (k : Nat) (l : List Nat) : ∀ b ∈ cutSlots k l, b.length ≤ 32 := by
  induction k generalizing l with
  | zero => simp [cutSlots]
  | succ k ih =>
    intro b hb
    rcases List.mem_cons.mp hb with rfl | hb
    · exact quads_le l
    · exact ih _ b hb

theorem kept_drainHeld (t : Nat) (l : List (Nat × Nat × List Nat)) (s : State) : Keeps 0x40038800000000 s (State.drainHeld t l s) := by
  induction l generalizing s with
  | nil => exact Keeps.refl _
  | cons x rest ih =>
    unfold State.drainHeld
    dsimp only
    split
    · exact Keeps.via (ih _) (by decide) (Keeps.via (kept_freeHeld ..) (by decide)
        (keeps_setRing_geo (by decide) ⟨rfl, rfl, rfl⟩ (Keeps.refl _)))
    · split
      · exact Keeps.refl _
      · refine Keeps.via (ih _) (by decide) (Keeps.via (kept_freeHeld ..) (by decide) (Keeps.via (kept_ringWrite _ _ _ ?_) (by decide) (Keeps.refl _)))
        intro b hb
        rcases List.mem_cons.mp hb with rfl | hb
        · rw [quadBytes_length]; exact Nat.le_refl 32
        · exact cutSlots_le _ _ _ hb

theorem kept_grantTile (s : State) (t : Nat) (atLeast : Nat) : Keeps 0x40038800400000 s (State.grantTile s t atLeast) := by
  unfold State.grantTile
  try dsimp only
  repeat' (first
    | with_reducible exact Keeps.refl _
    | with_reducible apply Keeps.via (kept_drainHeld ..) (by decide)
    | with_reducible apply Keeps.via (kept_setCredit ..) (by decide)
    | with_reducible apply Keeps.via (kept_sendOn ..) (by decide)
    | with_reducible apply keeps_ite
    | (intro _)
    | split)

theorem kept_setHouse (s : State) (h : House) : Keeps 0x80000000000000 s (State.setHouse s h) := by
  unfold State.setHouse
  try dsimp only
  repeat' (first
    | with_reducible exact Keeps.refl _
    | with_reducible apply keeps_ite
    | (intro _)
    | split
    | with_reducible apply keeps_with_house (by decide))

theorem kept_setTele (s : State) (t : Nat) (r : TileRt) : Keeps 0x80000000000000 s (State.setTele s t r) := by
  unfold State.setTele
  try dsimp only
  repeat' (first
    | with_reducible exact Keeps.refl _
    | with_reducible apply Keeps.via (kept_setHouse ..) (by decide)
    | with_reducible apply keeps_ite
    | (intro _)
    | split)

theorem kept_resetCredits (s : State) (link : Nat) (sec : Bool) : Keeps 0xc0000000000000 s (State.resetCredits s link sec) := by
  unfold State.resetCredits
  try dsimp only
  repeat' (first
    | with_reducible exact Keeps.refl _
    | with_reducible apply keeps_each_on
    | with_reducible apply Keeps.via (kept_setCredit ..) (by decide)
    | with_reducible apply Keeps.via (kept_setTele ..) (by decide)
    | with_reducible apply keeps_ite
    | (intro _)
    | split)

theorem kept_setLine (s : State) (k : Nat) (l : LineRt) : Keeps 0x400000000000000000000 s (State.setLine s k l) := by
  unfold State.setLine
  try dsimp only
  repeat' (first
    | with_reducible exact Keeps.refl _
    | with_reducible apply keeps_ite
    | (intro _)
    | split
    | with_reducible apply keeps_with_lines (by decide))

theorem kept_dropLine (s : State) (k : Nat) : Keeps 0x400000000000000000000 s (State.dropLine s k) := by
  unfold State.dropLine
  try dsimp only
  repeat' (first
    | with_reducible exact Keeps.refl _
    | with_reducible apply Keeps.via (kept_setLine ..) (by decide)
    | with_reducible apply keeps_ite
    | (intro _)
    | split)

theorem kept_feedUp (s : State) (link : Nat) (sec : Bool) : Keeps 0xc000000c0000800410000 s (State.feedUp s link sec) := by
  unfold State.feedUp
  try dsimp only
  repeat' (first
    | with_reducible exact Keeps.refl _
    | with_reducible apply keeps_setFld_in 22 (by decide) (by first | exact in_pg2 (pg_22 _) (by first | decide | assumption | exact off_le (Nat.mod_lt _ (by decide)) (by first | assumption | decide) | exact off_le (by assumption) (by decide) | exact off_le (List.mem_range.mp (by assumption)) (by decide) | exact all_off (by assumption) (by decide) | (unfold upFld; split <;> decide)) | exact in_pg (pg_22 _) (by decide))
    | with_reducible apply keeps_setCond_in 22 (by decide) (by first | exact in_pg2 (pg_22 _) (by first | decide | assumption | exact off_le (Nat.mod_lt _ (by decide)) (by first | assumption | decide) | exact off_le (by assumption) (by decide) | exact off_le (List.mem_range.mp (by assumption)) (by decide) | exact all_off (by assumption) (by decide) | (unfold upFld; split <;> decide)) | exact in_pg (pg_22 _) (by decide))
    | with_reducible apply Keeps.via (kept_dropLine ..) (by decide)
    | with_reducible apply Keeps.via (kept_resetCredits ..) (by decide)
    | with_reducible apply Keeps.via (kept_latchDelay ..) (by decide)
    | with_reducible apply Keeps.via (kept_askSched ..) (by decide)
    | with_reducible apply Keeps.via (kept_flushBroadcasts ..) (by decide)
    | with_reducible apply keeps_ite
    | (intro _)
    | split)

theorem kept_feedDown (s : State) (link : Nat) (sec : Bool) : Keeps 0x400000000000000410000 s (State.feedDown s link sec) := by
  unfold State.feedDown
  try dsimp only
  repeat' (first
    | with_reducible exact Keeps.refl _
    | with_reducible apply keeps_setFld_in 22 (by decide) (by first | exact in_pg2 (pg_22 _) (by first | decide | assumption | exact off_le (Nat.mod_lt _ (by decide)) (by first | assumption | decide) | exact off_le (by assumption) (by decide) | exact off_le (List.mem_range.mp (by assumption)) (by decide) | exact all_off (by assumption) (by decide) | (unfold upFld; split <;> decide)) | exact in_pg (pg_22 _) (by decide))
    | with_reducible apply keeps_setCond_in 22 (by decide) (by first | exact in_pg2 (pg_22 _) (by first | decide | assumption | exact off_le (Nat.mod_lt _ (by decide)) (by first | assumption | decide) | exact off_le (by assumption) (by decide) | exact off_le (List.mem_range.mp (by assumption)) (by decide) | exact all_off (by assumption) (by decide) | (unfold upFld; split <;> decide)) | exact in_pg (pg_22 _) (by decide))
    | with_reducible apply Keeps.via (kept_dropLine ..) (by decide)
    | with_reducible apply Keeps.via (kept_measureD ..) (by decide)
    | with_reducible apply keeps_ite
    | (intro _)
    | split)

theorem kept_judgeBuffer (s : State) (link t : Nat) : Keeps 0x20400000 s (State.judgeBuffer s link t) := by
  unfold State.judgeBuffer
  try dsimp only
  repeat' (first
    | with_reducible exact Keeps.refl _
    | with_reducible apply keeps_setFld_in 29 (by decide) (by first | exact in_pg2 (pg_29 _) (by first | decide | assumption | exact off_le (Nat.mod_lt _ (by decide)) (by first | assumption | decide) | exact off_le (by assumption) (by decide) | exact off_le (List.mem_range.mp (by assumption)) (by decide) | exact all_off (by assumption) (by decide) | (unfold upFld; split <;> decide)) | exact in_pg (pg_29 _) (by decide))
    | with_reducible apply keeps_setCond_in 22 (by decide) (by first | exact in_pg2 (pg_22 _) (by first | decide | assumption | exact off_le (Nat.mod_lt _ (by decide)) (by first | assumption | decide) | exact off_le (by assumption) (by decide) | exact off_le (List.mem_range.mp (by assumption)) (by decide) | exact all_off (by assumption) (by decide) | (unfold upFld; split <;> decide)) | exact in_pg (pg_22 _) (by decide))
    | with_reducible apply keeps_when_on
    | with_reducible apply keeps_ite
    | (intro _)
    | split)

theorem kept_declare (s : State) (link pos t : Nat) : Keeps 0x20400000 s (State.declare s link pos t) := by
  unfold State.declare
  try dsimp only
  repeat' (first
    | with_reducible exact Keeps.refl _
    | with_reducible apply keeps_setFld_in 29 (by decide) (by first | exact in_pg2 (pg_29 _) (by first | decide | assumption | exact off_le (Nat.mod_lt _ (by decide)) (by first | assumption | decide) | exact off_le (by assumption) (by decide) | exact off_le (List.mem_range.mp (by assumption)) (by decide) | exact all_off (by assumption) (by decide) | (unfold upFld; split <;> decide)) | exact in_pg (pg_29 _) (by decide))
    | with_reducible apply Keeps.via (kept_judgeBuffer ..) (by decide)
    | with_reducible apply keeps_ite
    | (intro _)
    | split)

theorem kept_number (s : State) (link pos : Nat) (hb0 : pos < 64) : Keeps 0x800000000000020400000 s (State.number s link pos) := by
  unfold State.number
  try dsimp only
  repeat' (first
    | with_reducible exact Keeps.refl _
    | with_reducible apply keeps_setFld_in 22 (by decide) (by first | exact in_pg2 (pg_22 _) (by first | decide | assumption | exact off_le (Nat.mod_lt _ (by decide)) (by first | assumption | decide) | exact off_le (by assumption) (by decide) | exact off_le (List.mem_range.mp (by assumption)) (by decide) | exact all_off (by assumption) (by decide) | (unfold upFld; split <;> decide)) | exact in_pg (pg_22 _) (by decide))
    | with_reducible apply keeps_setCond_in 22 (by decide) (by first | exact in_pg2 (pg_22 _) (by first | decide | assumption | exact off_le (Nat.mod_lt _ (by decide)) (by first | assumption | decide) | exact off_le (by assumption) (by decide) | exact off_le (List.mem_range.mp (by assumption)) (by decide) | exact all_off (by assumption) (by decide) | (unfold upFld; split <;> decide)) | exact in_pg (pg_22 _) (by decide))
    | with_reducible apply keeps_when_on
    | with_reducible apply Keeps.via (kept_setPos ..) (by decide)
    | with_reducible apply Keeps.via (kept_declare ..) (by decide)
    | with_reducible apply keeps_ite
    | (intro _)
    | split)

theorem presentPos_lt {s : State} {link p : Nat} (h : p ∈ s.presentPos link) : p < 64 :=
  List.mem_range.mp (List.mem_filter.mp h).1

theorem kept_assign (s : State) (link pos : Nat) (hb0 : pos < 64) : Keeps 0x800000000000820400000 s (State.assign s link pos) := by
  unfold State.assign
  try dsimp only
  repeat' (first
    | with_reducible exact Keeps.refl _
    | with_reducible apply Keeps.via (kept_number _ _ _ (by first | assumption | decide | exact Fin.isLt _ | exact bitsOf_lt64 _ _ | omega | exact List.mem_range.mp (by assumption) | exact presentPos_lt (by assumption) | exact startRecord_len .. | exact presetTrims_len .. | exact take7_len .. | exact take6_len .. | exact ethStart_len .. | exact all_off (by assumption) (by decide))) (by decide)
    | with_reducible apply Keeps.via (kept_flushBroadcasts ..) (by decide)
    | with_reducible apply keeps_ite
    | (intro _)
    | split)

theorem kept_noteReport (s : State) (link pos : Nat) (sec conflict : Bool) (hb0 : pos < 64) : Keeps 0x400000 s (State.noteReport s link pos sec conflict) := by
  unfold State.noteReport
  try dsimp only
  repeat' (first
    | with_reducible exact Keeps.refl _
    | with_reducible apply keeps_setFld_in 22 (by decide) (by first | exact in_pg2 (pg_22 _) (by first | decide | assumption | exact off_le (Nat.mod_lt _ (by decide)) (by first | assumption | decide) | exact off_le (by assumption) (by decide) | exact off_le (List.mem_range.mp (by assumption)) (by decide) | exact all_off (by assumption) (by decide) | (unfold upFld; split <;> decide)) | exact in_pg (pg_22 _) (by decide))
    | with_reducible apply keeps_ite
    | (intro _)
    | split)

theorem kept_storeReport (s : State) (link pos : Nat) (sec conflict : Bool) (w1 w2 : Nat) (hb0 : pos < 64) : Keeps 0x400000 s (State.storeReport s link pos sec conflict w1 w2) := by
  unfold State.storeReport
  try dsimp only
  repeat' (first
    | with_reducible exact Keeps.refl _
    | with_reducible apply keeps_setFld_in 22 (by decide) (by first | exact in_pg2 (pg_22 _) (by first | decide | assumption | exact off_le (Nat.mod_lt _ (by decide)) (by first | assumption | decide) | exact off_le (by assumption) (by decide) | exact off_le (List.mem_range.mp (by assumption)) (by decide) | exact all_off (by assumption) (by decide) | (unfold upFld; split <;> decide)) | exact in_pg (pg_22 _) (by decide))
    | with_reducible apply Keeps.via (kept_noteReport _ _ _ _ _ (by first | assumption | decide | exact Fin.isLt _ | exact bitsOf_lt64 _ _ | omega | exact List.mem_range.mp (by assumption) | exact presentPos_lt (by assumption) | exact startRecord_len .. | exact presetTrims_len .. | exact take7_len .. | exact take6_len .. | exact ethStart_len .. | exact all_off (by assumption) (by decide))) (by decide)
    | with_reducible apply keeps_ite
    | (intro _)
    | split)

theorem kept_capability (s : State) (link pos : Nat) (sec conflict : Bool) (w1 w2 serial : Nat) (hb0 : pos < 64) : Keeps 0x800000080000820410000 s (State.capability s link pos sec conflict w1 w2 serial) := by
  unfold State.capability
  try dsimp only
  repeat' (first
    | with_reducible exact Keeps.refl _
    | with_reducible apply keeps_setFld_in 22 (by decide) (by first | exact in_pg2 (pg_22 _) (by first | decide | assumption | exact off_le (Nat.mod_lt _ (by decide)) (by first | assumption | decide) | exact off_le (by assumption) (by decide) | exact off_le (List.mem_range.mp (by assumption)) (by decide) | exact all_off (by assumption) (by decide) | (unfold upFld; split <;> decide)) | exact in_pg (pg_22 _) (by decide))
    | with_reducible apply keeps_setCond_in 22 (by decide) (by first | exact in_pg2 (pg_22 _) (by first | decide | assumption | exact off_le (Nat.mod_lt _ (by decide)) (by first | assumption | decide) | exact off_le (by assumption) (by decide) | exact off_le (List.mem_range.mp (by assumption)) (by decide) | exact all_off (by assumption) (by decide) | (unfold upFld; split <;> decide)) | exact in_pg (pg_22 _) (by decide))
    | with_reducible apply Keeps.via (kept_noteReport _ _ _ _ _ (by first | assumption | decide | exact Fin.isLt _ | exact bitsOf_lt64 _ _ | omega | exact List.mem_range.mp (by assumption) | exact presentPos_lt (by assumption) | exact startRecord_len .. | exact presetTrims_len .. | exact take7_len .. | exact take6_len .. | exact ethStart_len .. | exact all_off (by assumption) (by decide))) (by decide)
    | with_reducible apply Keeps.via (kept_setPos ..) (by decide)
    | with_reducible apply Keeps.via (kept_storeReport _ _ _ _ _ _ _ (by first | assumption | decide | exact Fin.isLt _ | exact bitsOf_lt64 _ _ | omega | exact List.mem_range.mp (by assumption) | exact presentPos_lt (by assumption) | exact startRecord_len .. | exact presetTrims_len .. | exact take7_len .. | exact take6_len .. | exact ethStart_len .. | exact all_off (by assumption) (by decide))) (by decide)
    | with_reducible apply keeps_when_on
    | with_reducible apply Keeps.via (kept_latchDelay ..) (by decide)
    | with_reducible apply Keeps.via (kept_assign _ _ _ (by first | assumption | decide | exact Fin.isLt _ | exact bitsOf_lt64 _ _ | omega | exact List.mem_range.mp (by assumption) | exact presentPos_lt (by assumption) | exact startRecord_len .. | exact presetTrims_len .. | exact take7_len .. | exact take6_len .. | exact ethStart_len .. | exact all_off (by assumption) (by decide))) (by decide)
    | with_reducible apply Keeps.via (kept_declare ..) (by decide)
    | with_reducible apply Keeps.via (kept_setTele ..) (by decide)
    | with_reducible apply keeps_ite
    | (intro _)
    | split)

theorem kept_vanish (s : State) (link pos : Nat) (hb0 : pos < 64) : Keeps 0x800000040000000410000 s (State.vanish s link pos) := by
  unfold State.vanish
  try dsimp only
  repeat' (first
    | with_reducible exact Keeps.refl _
    | with_reducible apply keeps_setFld_in 22 (by decide) (by first | exact in_pg2 (pg_22 _) (by first | decide | assumption | exact off_le (Nat.mod_lt _ (by decide)) (by first | assumption | decide) | exact off_le (by assumption) (by decide) | exact off_le (List.mem_range.mp (by assumption)) (by decide) | exact all_off (by assumption) (by decide) | (unfold upFld; split <;> decide)) | exact in_pg (pg_22 _) (by decide))
    | with_reducible apply keeps_setCond_in 22 (by decide) (by first | exact in_pg2 (pg_22 _) (by first | decide | assumption | exact off_le (Nat.mod_lt _ (by decide)) (by first | assumption | decide) | exact off_le (by assumption) (by decide) | exact off_le (List.mem_range.mp (by assumption)) (by decide) | exact all_off (by assumption) (by decide) | (unfold upFld; split <;> decide)) | exact in_pg (pg_22 _) (by decide))
    | with_reducible apply keeps_when_on
    | with_reducible apply Keeps.via (kept_setCredit ..) (by decide)
    | with_reducible apply Keeps.via (kept_setPos ..) (by decide)
    | with_reducible apply Keeps.via (kept_latchDelay ..) (by decide)
    | with_reducible apply keeps_ite
    | (intro _)
    | split)

theorem kept_quietCycle (s : State) : Keeps 0x800000000000000000000 s (State.quietCycle s) := by
  unfold State.quietCycle
  try dsimp only
  repeat' (first
    | with_reducible exact Keeps.refl _
    | with_reducible apply keeps_ite
    | (intro _)
    | split
    | with_reducible apply keeps_with_linkRt (by decide))

theorem keeps_upstream_on {m : Nat} {r s : State} {link : Nat} {sec crcOk : Bool} {f : State → State}
    (hm : 0x80002001038800400000 &&& m = 0x80002001038800400000) (h : ∀ s, Keeps m s (f s)) (hs : Keeps m r s) :
    Keeps m r (s.upstream link sec crcOk f) := by
  have hi : Keeps m r (s.inc (pWl link) F.WL_RX_PKT_CNT_RX_CNT) ∧ Keeps m r (s.inc (pWl link) F.WL_CRC_ERR_CNT_CRC_CNT) := by
    have h1 : Keeps 0x80002001038800400000 s (s.inc (pWl link) F.WL_RX_PKT_CNT_RX_CNT) :=
      keeps_inc_in 22 (by decide) (in_pg2 (pg_22 _) (by decide)) (Keeps.refl _)
    have h2 : Keeps 0x80002001038800400000 s (s.inc (pWl link) F.WL_CRC_ERR_CNT_CRC_CNT) :=
      keeps_inc_in 22 (by decide) (in_pg2 (pg_22 _) (by decide)) (Keeps.refl _)
    exact ⟨h1.via hm hs, h2.via hm hs⟩
  unfold State.upstream
  have hs' : 0x80002001038800000000 &&& m = 0x80002001038800000000 := by
    rw [show 0x80002001038800000000 = 0x80002001038800000000 &&& 0x80002001038800400000 by decide, Nat.and_assoc, hm]
  repeat' split
  · exact hs
  · exact Keeps.via (kept_settle ..) hs' (hi.1.trans (h _))
  · exact hi.2

theorem kept_linkReport (s : State) (link pos : Nat) (sec : Bool) (notGood : Nat) (a b : Nat) (hb0 : pos < 64) : Keeps 0x800000000000000400000 s (State.linkReport s link pos sec notGood a b) := by
  unfold State.linkReport
  try dsimp only
  repeat' (first
    | with_reducible exact Keeps.refl _
    | with_reducible apply keeps_inc_in 22 (by decide) (by first | exact in_pg2 (pg_22 _) (by first | decide | assumption | exact off_le (Nat.mod_lt _ (by decide)) (by first | assumption | decide) | exact off_le (by assumption) (by decide) | exact off_le (List.mem_range.mp (by assumption)) (by decide) | exact all_off (by assumption) (by decide) | (unfold upFld; split <;> decide)) | exact in_pg (pg_22 _) (by decide))
    | with_reducible apply keeps_setFld_in 22 (by decide) (by first | exact in_pg2 (pg_22 _) (by first | decide | assumption | exact off_le (Nat.mod_lt _ (by decide)) (by first | assumption | decide) | exact off_le (by assumption) (by decide) | exact off_le (List.mem_range.mp (by assumption)) (by decide) | exact all_off (by assumption) (by decide) | (unfold upFld; split <;> decide)) | exact in_pg (pg_22 _) (by decide))
    | with_reducible apply Keeps.via (kept_setPos ..) (by decide)
    | with_reducible apply keeps_ite
    | (intro _)
    | split)

theorem kept_execLinkReportRx (link : LinkNo) (sec crcOk : Bool) (pos : PosNo) (notGood x_dark : Byte) (delayA delayB : Word) (s : State) (t : State) (h : execLinkReportRx link sec crcOk pos notGood x_dark delayA delayB s = .next t) : Keeps 0x880002001038800400000 s t := by
  unfold execLinkReportRx at h
  cases h
  try dsimp only
  repeat' (first
    | with_reducible exact Keeps.refl _
    | with_reducible apply keeps_upstream_on (by decide)
    | with_reducible apply Keeps.via (kept_linkReport _ _ _ _ _ _ _ (by first | assumption | decide | exact Fin.isLt _ | exact bitsOf_lt64 _ _ | omega | exact List.mem_range.mp (by assumption) | exact presentPos_lt (by assumption) | exact startRecord_len .. | exact presetTrims_len .. | exact take7_len .. | exact take6_len .. | exact ethStart_len .. | exact all_off (by assumption) (by decide))) (by decide)
    | with_reducible apply keeps_ite
    | (intro _)
    | split)

theorem kept_execPdreqRx (feed : FeedId) (seq : Byte) (turnaround : Word) (s : State) (t : State) (h : execPdreqRx feed seq turnaround s = .next t) : Keeps 0x800000000 s t := by
  unfold execPdreqRx at h
  cases h
  try dsimp only
  repeat' (first
    | with_reducible exact Keeps.refl _
    | with_reducible apply Keeps.via (kept_emit ..) (by decide)
    | with_reducible apply keeps_ite
    | (intro _)
    | split)

theorem kept_execDownstreamPacketReturn (link : LinkNo) (sec : Bool) (s : State) (t : State) (h : execDownstreamPacketReturn link sec s = .next t) : Keeps 0x400000 s t := by
  unfold execDownstreamPacketReturn at h
  cases h
  try dsimp only
  repeat' (first
    | with_reducible exact Keeps.refl _
    | with_reducible apply keeps_inc_in 22 (by decide) (by first | exact in_pg2 (pg_22 _) (by first | decide | assumption | exact off_le (Nat.mod_lt _ (by decide)) (by first | assumption | decide) | exact off_le (by assumption) (by decide) | exact off_le (List.mem_range.mp (by assumption)) (by decide) | exact all_off (by assumption) (by decide) | (unfold upFld; split <;> decide)) | exact in_pg (pg_22 _) (by decide))
    | with_reducible apply keeps_ite
    | (intro _)
    | split)

theorem kept_tileSend (s : State) (t : Nat) : Keeps 0x40020800400000 s (State.tileSend s t) := by
  unfold State.tileSend
  try dsimp only
  repeat' (first
    | with_reducible exact Keeps.refl _
    | with_reducible apply keeps_setRing_geo (by decide) (by exact ⟨rfl, rfl, rfl⟩)
    | with_reducible apply Keeps.via (kept_setCredit ..) (by decide)
    | with_reducible apply Keeps.via (kept_sendOn ..) (by decide)
    | with_reducible apply keeps_ite
    | (intro _)
    | split)

theorem kept_execTileMsgSend (tile : TileNo) (s : State) (t : State) (h : execTileMsgSend tile s = .next t) : Keeps 0x40020800400000 s t := by
  unfold execTileMsgSend at h
  cases h
  try dsimp only
  repeat' (first
    | with_reducible exact Keeps.refl _
    | with_reducible apply Keeps.via (kept_tileSend ..) (by decide)
    | with_reducible apply keeps_ite
    | (intro _)
    | split)

theorem kept_tileReceive (s : State) (t lo : Nat) (payload : List Nat) : Keeps 0x40038800400000 s (State.tileReceive s t lo payload) := by
  unfold State.tileReceive
  try dsimp only
  repeat' (first
    | with_reducible exact Keeps.refl _
    | with_reducible apply Keeps.via (kept_setCredit ..) (by decide)
    | with_reducible apply Keeps.via (kept_grantTile ..) (by decide)
    | with_reducible apply keeps_ite
    | (intro _)
    | split)

theorem kept_messageIn (s : State) (link : Nat) (sec crcOk : Bool) (tile lo : Nat) (payload : List Nat) : Keeps 0x80002041038800400000 s (State.messageIn s link sec crcOk tile lo payload) := by
  unfold State.messageIn
  try dsimp only
  repeat' (first
    | with_reducible exact Keeps.refl _
    | with_reducible apply keeps_inc_in 22 (by decide) (by first | exact in_pg2 (pg_22 _) (by first | decide | assumption | exact off_le (Nat.mod_lt _ (by decide)) (by first | assumption | decide) | exact off_le (by assumption) (by decide) | exact off_le (List.mem_range.mp (by assumption)) (by decide) | exact all_off (by assumption) (by decide) | (unfold upFld; split <;> decide)) | exact in_pg (pg_22 _) (by decide))
    | with_reducible apply keeps_upstream_on (by decide)
    | with_reducible apply Keeps.via (kept_tileReceive ..) (by decide)
    | with_reducible apply keeps_ite
    | (intro _)
    | split)

theorem kept_execUpstreamMsgRx (link : LinkNo) (sec crcOk : Bool) (tile : TileNo) (hdrLo : Word) (payload : List Quad) (s : State) (t : State) (h : execUpstreamMsgRx link sec crcOk tile hdrLo payload s = .next t) : Keeps 0x80002041038800400000 s t := by
  unfold execUpstreamMsgRx at h
  cases h
  try dsimp only
  repeat' (first
    | with_reducible exact Keeps.refl _
    | with_reducible apply Keeps.via (kept_messageIn ..) (by decide)
    | with_reducible apply keeps_ite
    | (intro _)
    | split)

theorem kept_wlClear (s : State) (link : Nat) : Keeps 0x400000 s (State.wlClear s link) := by
  unfold State.wlClear
  try dsimp only
  repeat' (first
    | with_reducible exact Keeps.refl _
    | with_reducible apply keeps_setFld_in 22 (by decide) (by first | exact in_pg2 (pg_22 _) (by first | decide | assumption | exact off_le (Nat.mod_lt _ (by decide)) (by first | assumption | decide) | exact off_le (by assumption) (by decide) | exact off_le (List.mem_range.mp (by assumption)) (by decide) | exact all_off (by assumption) (by decide) | (unfold upFld; split <;> decide)) | exact in_pg (pg_22 _) (by decide))
    | with_reducible apply keeps_each_mem
    | with_reducible apply keeps_ite
    | (intro _)
    | split)

end Sys2Proof.Machine
end

