-- ==== Sys2Proof/Laws/KeptJobs.lean ====
section
/-!
SUPPORT. What the operations of Jobs.lean keep.
-/
namespace Sys2Proof.Machine

theorem kept_setJob (s : State) (j : Option TileJob) : Keeps 0x2000000000000000000 s (State.setJob s j) := by
  unfold State.setJob
  try dsimp only
  repeat' (first
    | with_reducible exact Keeps.refl _
    | with_reducible apply keeps_ite
    | (intro _)
    | split
    | with_reducible apply keeps_with_job (by decide))

theorem kept_jobEnd (s : State) (v : Nat) : Keeps 0x2000000000000000020 s (State.jobEnd s v) := by
  unfold State.jobEnd
  try dsimp only
  repeat' (first
    | with_reducible exact Keeps.refl _
    | with_reducible apply keeps_setFld_in 5 (by decide) (by unfold inSpan; first | decide | (split <;> decide) | ((first | unfold driveFld | unfold errFld); split <;> decide))
    | with_reducible apply Keeps.via (kept_setJob ..) (by decide)
    | with_reducible apply keeps_ite
    | (intro _)
    | split)

theorem kept_sendAbort (s : State) : Keeps 0x4000040000800400000 s (State.sendAbort s) := by
  unfold State.sendAbort
  try dsimp only
  repeat' (first
    | with_reducible exact Keeps.refl _
    | with_reducible apply Keeps.via (kept_sendSys ..) (by decide)
    | with_reducible apply keeps_ite
    | (intro _)
    | split
    | with_reducible apply keeps_with_aborts (by decide))

theorem kept_jobHalt (s : State) (code : Nat) : Keeps 0x6000040000800400020 s (State.jobHalt s code) := by
  unfold State.jobHalt
  try dsimp only
  repeat' (first
    | with_reducible exact Keeps.refl _
    | with_reducible apply keeps_setFld_in 5 (by decide) (by unfold inSpan; first | decide | (split <;> decide) | ((first | unfold driveFld | unfold errFld); split <;> decide))
    | with_reducible apply keeps_setCond_in 5 (by decide) (by unfold inSpan; first | decide | (split <;> decide) | ((first | unfold driveFld | unfold errFld); split <;> decide))
    | with_reducible apply keeps_when_on
    | with_reducible apply Keeps.via (kept_sendAbort ..) (by decide)
    | with_reducible apply Keeps.via (kept_jobEnd ..) (by decide)
    | with_reducible apply keeps_ite
    | (intro _)
    | split)

theorem kept_jobSent (s : State) (j : TileJob) : Keeps 0x2000000000000000020 s (State.jobSent s j) := by
  unfold State.jobSent
  try dsimp only
  repeat' (first
    | with_reducible exact Keeps.refl _
    | with_reducible apply keeps_setFld_in 5 (by decide) (by unfold inSpan; first | decide | (split <;> decide) | ((first | unfold driveFld | unfold errFld); split <;> decide))
    | with_reducible apply Keeps.via (kept_setJob ..) (by decide)
    | with_reducible apply keeps_ite
    | (intro _)
    | split)

theorem kept_jobPump (s : State) (n : Nat) : Keeps 0x2000040000800400020 s (s.jobPump n) := by
  induction n generalizing s with
  | zero => exact Keeps.refl _
  | succ n ih =>
    unfold State.jobPump
    split
    · exact Keeps.refl _
    · split
      · exact Keeps.refl _
      · split
        · exact Keeps.via (ih _) (by decide) (Keeps.via (kept_jobSent ..) (by decide) ((kept_sendSys ..).mono (by decide)))
        · exact Keeps.refl _

theorem kept_jobSend (s : State) : Keeps 0x2000040000800400020 s (State.jobSend s) := by
  unfold State.jobSend
  try dsimp only
  repeat' (first
    | with_reducible exact Keeps.refl _
    | with_reducible apply Keeps.via (kept_jobPump ..) (by decide)
    | with_reducible apply keeps_ite
    | (intro _)
    | split)

theorem kept_jobStep (s : State) (j : TileJob) (k : Nat) : Keeps 0x2000040000800400020 s (State.jobStep s j k) := by
  unfold State.jobStep
  try dsimp only
  repeat' (first
    | with_reducible exact Keeps.refl _
    | with_reducible apply keeps_setFld_in 5 (by decide) (by unfold inSpan; first | decide | (split <;> decide) | ((first | unfold driveFld | unfold errFld); split <;> decide))
    | with_reducible apply Keeps.via (kept_setJob ..) (by decide)
    | with_reducible apply Keeps.via (kept_jobSend ..) (by decide)
    | with_reducible apply keeps_ite
    | (intro _)
    | split)

theorem kept_jobVisit (s : State) (j : TileJob) (t n : Nat) : Keeps 0x2000040000800400020 s (s.jobVisit j t n) := by
  induction n generalizing s t with
  | zero => exact keeps_setCond_in 5 (by decide) (by unfold inSpan; decide) ((kept_jobEnd ..).mono (by decide))
  | succ n ih =>
    unfold State.jobVisit
    dsimp only
    split
    · exact Keeps.via (ih _ _) (by decide) (keeps_inc_in 5 (by decide) (by unfold inSpan; decide)
        (keeps_setFld_in 5 (by decide) (by unfold inSpan; decide) (Keeps.refl _)))
    · exact Keeps.via (kept_jobStep ..) (by decide) (keeps_setFld_in 5 (by decide) (by unfold inSpan; decide) (Keeps.refl _))

theorem kept_jobNext (s : State) (j : TileJob) : Keeps 0x2000040000800400020 s (State.jobNext s j) := by
  unfold State.jobNext
  try dsimp only
  repeat' (first
    | with_reducible exact Keeps.refl _
    | with_reducible apply keeps_inc_in 5 (by decide) (by unfold inSpan; first | decide | (split <;> decide) | ((first | unfold driveFld | unfold errFld); split <;> decide))
    | with_reducible apply Keeps.via (kept_jobVisit ..) (by decide)
    | with_reducible apply keeps_ite
    | (intro _)
    | split)

theorem kept_jobCheck (s : State) : Keeps 0x6000040000800400020 s (State.jobCheck s) := by
  unfold State.jobCheck
  try dsimp only
  repeat' (first
    | with_reducible exact Keeps.refl _
    | with_reducible apply Keeps.via (kept_jobHalt ..) (by decide)
    | with_reducible apply keeps_ite
    | (intro _)
    | split
    | with_reducible apply keeps_with_aborts (by decide))

theorem kept_jobReport (s : State) (link pos : Nat) : Keeps 0x2000040000800400020 s (State.jobReport s link pos) := by
  unfold State.jobReport
  try dsimp only
  repeat' (first
    | with_reducible exact Keeps.refl _
    | with_reducible apply Keeps.via (kept_jobNext ..) (by decide)
    | with_reducible apply keeps_ite
    | (intro _)
    | split)

theorem kept_jobRecord (s : State) (link pos job status : Nat) : Keeps 0x6000040000800400020 s (State.jobRecord s link pos job status) := by
  unfold State.jobRecord
  try dsimp only
  repeat' (first
    | with_reducible exact Keeps.refl _
    | with_reducible apply Keeps.via (kept_jobStep ..) (by decide)
    | with_reducible apply Keeps.via (kept_jobHalt ..) (by decide)
    | with_reducible apply keeps_ite
    | (intro _)
    | split)

theorem kept_abortSend (s : State) : Keeps 0x4000040000800400000 s (State.abortSend s) := by
  unfold State.abortSend
  try dsimp only
  repeat' (first
    | with_reducible exact Keeps.refl _
    | with_reducible apply keeps_each_on
    | with_reducible apply Keeps.via (kept_sendSys ..) (by decide)
    | with_reducible apply keeps_ite
    | (intro _)
    | split
    | with_reducible apply keeps_with_aborts (by decide))

theorem kept_creditIn (s : State) (tile pool limit : Nat) : Keeps 0x6000040000800400020 s (State.creditIn s tile pool limit) := by
  unfold State.creditIn
  try dsimp only
  repeat' (first
    | with_reducible exact Keeps.refl _
    | with_reducible apply Keeps.via (kept_setCredit ..) (by decide)
    | with_reducible apply Keeps.via (kept_abortSend ..) (by decide)
    | with_reducible apply Keeps.via (kept_jobSend ..) (by decide)
    | with_reducible apply keeps_ite
    | (intro _)
    | split)

theorem kept_execCreditRx (link : LinkNo) (sec crcOk : Bool) (tile : TileNo) (pool : BitVec 2) (limit : BitVec 24) (s : State) (t : State) (h : execCreditRx link sec crcOk tile pool limit s = .next t) : Keeps 0x86002041038800400020 s t := by
  unfold execCreditRx at h
  cases h
  try dsimp only
  repeat' (first
    | with_reducible exact Keeps.refl _
    | with_reducible apply keeps_upstream_on (by decide)
    | with_reducible apply Keeps.via (kept_creditIn ..) (by decide)
    | with_reducible apply keeps_ite
    | (intro _)
    | split)

theorem kept_execTileImageRecordRx (link : LinkNo) (sec crcOk : Bool) (pos : PosNo) (job : Byte) (status : BitVec 4) (s : State) (t : State) (h : execTileImageRecordRx link sec crcOk pos job status s = .next t) : Keeps 0x86002041038800400020 s t := by
  unfold execTileImageRecordRx at h
  cases h
  try dsimp only
  repeat' (first
    | with_reducible exact Keeps.refl _
    | with_reducible apply keeps_upstream_on (by decide)
    | with_reducible apply Keeps.via (kept_jobRecord ..) (by decide)
    | with_reducible apply keeps_ite
    | (intro _)
    | split)

theorem kept_execTileJobTimeout (s : State) (t : State) (h : execTileJobTimeout s = .next t) : Keeps 0x86002041038800400020 s t := by
  unfold execTileJobTimeout at h
  cases h
  try dsimp only
  repeat' (first
    | with_reducible exact Keeps.refl _
    | with_reducible apply Keeps.via (kept_jobHalt ..) (by decide)
    | with_reducible apply Keeps.via (kept_settle ..) (by decide)
    | with_reducible apply keeps_ite
    | (intro _)
    | split)

theorem kept_execCapabilityReportRx (link : LinkNo) (sec crcOk : Bool) (pos : PosNo) (conflict x_last : Bool) (w1 w2 x_w3 w4 : Quad) (s : State) (t : State) (h : execCapabilityReportRx link sec crcOk pos conflict x_last w1 w2 x_w3 w4 s = .next t) : Keeps 0x8820020c1038820410020 s t := by
  unfold execCapabilityReportRx at h
  cases h
  try dsimp only
  repeat' (first
    | with_reducible exact Keeps.refl _
    | with_reducible apply keeps_upstream_on (by decide)
    | with_reducible apply Keeps.via (kept_capability _ _ _ _ _ _ _ _ (by first | assumption | decide | exact Fin.isLt _ | exact bitsOf_lt64 _ _ | omega | exact List.mem_range.mp (by assumption) | exact presentPos_lt (by assumption) | exact startRecord_len .. | exact presetTrims_len .. | exact take7_len .. | exact take6_len .. | exact ethStart_len .. | exact all_off (by assumption) (by decide))) (by decide)
    | with_reducible apply Keeps.via (kept_jobReport ..) (by decide)
    | with_reducible apply keeps_ite
    | (intro _)
    | split)

theorem kept_execPositionVanish (link : LinkNo) (pos : PosNo) (s : State) (t : State) (h : execPositionVanish link pos s = .next t) : Keeps 0x886002041038800410020 s t := by
  unfold execPositionVanish at h
  cases h
  try dsimp only
  repeat' (first
    | with_reducible exact Keeps.refl _
    | with_reducible apply Keeps.via (kept_vanish _ _ _ (by first | assumption | decide | exact Fin.isLt _ | exact bitsOf_lt64 _ _ | omega | exact List.mem_range.mp (by assumption) | exact presentPos_lt (by assumption) | exact startRecord_len .. | exact presetTrims_len .. | exact take7_len .. | exact take6_len .. | exact ethStart_len .. | exact all_off (by assumption) (by decide))) (by decide)
    | with_reducible apply Keeps.via (kept_jobCheck ..) (by decide)
    | with_reducible apply Keeps.via (kept_settle ..) (by decide)
    | with_reducible apply keeps_ite
    | (intro _)
    | split)

end Sys2Proof.Machine
end

