-- ==== Sys2Proof/Laws/KeptLanes.lean ====
section
/-!
SUPPORT. What the operations of Lanes.lean keep.
-/
namespace Sys2Proof.Machine

theorem kept_setLane (s : State) (l : Nat) (r : LaneRt) : Keeps 0x8000000800000 s (State.setLane s l r) := by
  unfold State.setLane
  try dsimp only
  repeat' (first
    | with_reducible exact Keeps.refl _
    | with_reducible apply keeps_setFld_in 23 (by decide) (by first | exact in_pg2 (pg_23 _) (by first | decide | assumption | exact off_le (Nat.mod_lt _ (by decide)) (by first | assumption | decide) | exact off_le (by assumption) (by decide) | exact off_le (List.mem_range.mp (by assumption)) (by decide) | exact all_off (by assumption) (by decide) | (unfold upFld; split <;> decide)) | exact in_pg (pg_23 _) (by decide))
    | with_reducible apply keeps_ite
    | (intro _)
    | split
    | with_reducible apply keeps_with_lanes (by decide))

theorem kept_setLn (s : State) (l : Nat) (f : Fld) (v : Nat) (hb0 : f.off + (8 - 1) * f.stride < 0x1000) : Keeps 0x800000 s (State.setLn s l f v) := by
  unfold State.setLn
  try dsimp only
  repeat' (first
    | with_reducible exact Keeps.refl _
    | with_reducible apply keeps_setFld_in 23 (by decide) (by first | exact in_pg2 (pg_23 _) (by first | decide | assumption | exact off_le (Nat.mod_lt _ (by decide)) (by first | assumption | decide) | exact off_le (by assumption) (by decide) | exact off_le (List.mem_range.mp (by assumption)) (by decide) | exact all_off (by assumption) (by decide) | (unfold upFld; split <;> decide)) | exact in_pg (pg_23 _) (by decide))
    | with_reducible apply keeps_ite
    | (intro _)
    | split)

theorem kept_incLn (s : State) (l : Nat) (f : Fld) (n : Nat) (hb0 : f.off + (8 - 1) * f.stride < 0x1000) : Keeps 0x800000 s (State.incLn s l f n) := by
  unfold State.incLn
  try dsimp only
  repeat' (first
    | with_reducible exact Keeps.refl _
    | with_reducible apply keeps_inc_in 23 (by decide) (by first | exact in_pg2 (pg_23 _) (by first | decide | assumption | exact off_le (Nat.mod_lt _ (by decide)) (by first | assumption | decide) | exact off_le (by assumption) (by decide) | exact off_le (List.mem_range.mp (by assumption)) (by decide) | exact all_off (by assumption) (by decide) | (unfold upFld; split <;> decide)) | exact in_pg (pg_23 _) (by decide))
    | with_reducible apply keeps_ite
    | (intro _)
    | split)

theorem kept_octetCond (s : State) (f : Feed) (k : Nat) : Keeps 0x800000 s (State.octetCond s f k) := by
  unfold State.octetCond
  try dsimp only
  repeat' (first
    | with_reducible exact Keeps.refl _
    | with_reducible apply keeps_setCond_in 23 (by decide) (by first | exact in_pg2 (pg_23 _) (by first | decide | assumption | exact off_le (Nat.mod_lt _ (by decide)) (by first | assumption | decide) | exact off_le (by assumption) (by decide) | exact off_le (List.mem_range.mp (by assumption)) (by decide) | exact all_off (by assumption) (by decide) | (unfold upFld; split <;> decide)) | exact in_pg (pg_23 _) (by decide))
    | with_reducible apply keeps_each_on
    | with_reducible apply keeps_ite
    | (intro _)
    | split)

theorem kept_putFeed (s : State) (k : Nat) (f : Feed) : Keeps 0x4000000800000 s (State.putFeed s k f) := by
  unfold State.putFeed
  try dsimp only
  repeat' (first
    | with_reducible exact Keeps.refl _
    | with_reducible apply keeps_each_on
    | with_reducible apply Keeps.via (kept_setLn _ _ _ _ (by first | assumption | decide | exact Fin.isLt _ | exact bitsOf_lt64 _ _ | omega | exact List.mem_range.mp (by assumption) | exact presentPos_lt (by assumption) | exact startRecord_len .. | exact presetTrims_len .. | exact take7_len .. | exact take6_len .. | exact ethStart_len .. | exact all_off (by assumption) (by decide))) (by decide)
    | with_reducible apply keeps_ite
    | (intro _)
    | split
    | with_reducible apply keeps_with_feeds (by decide))

theorem kept_dropTrims (s : State) (f : Feed) : Keeps 0x8000000800000 s (State.dropTrims s f) := by
  unfold State.dropTrims
  try dsimp only
  repeat' (first
    | with_reducible exact Keeps.refl _
    | with_reducible apply keeps_each_on
    | with_reducible apply Keeps.via (kept_setLane ..) (by decide)
    | with_reducible apply keeps_ite
    | (intro _)
    | split)

theorem kept_setPll (s : State) (n f : Nat) (freq lock : Fld) (hb0 : freq.off + 0 * freq.stride < 0x1000) (hb1 : lock.off + 0 * lock.stride < 0x1000) : Keeps 0x800000 s (State.setPll s n f freq lock) := by
  unfold State.setPll
  try dsimp only
  repeat' (first
    | with_reducible exact Keeps.refl _
    | with_reducible apply keeps_setFld_in 23 (by decide) (by first | exact in_pg2 (pg_23 _) (by first | decide | assumption | exact off_le (Nat.mod_lt _ (by decide)) (by first | assumption | decide) | exact off_le (by assumption) (by decide) | exact off_le (List.mem_range.mp (by assumption)) (by decide) | exact all_off (by assumption) (by decide) | (unfold upFld; split <;> decide)) | exact in_pg (pg_23 _) (by decide))
    | with_reducible apply keeps_ite
    | (intro _)
    | split)

theorem kept_setPlls (s : State) (n : Nat) (ab : Nat × Nat) : Keeps 0x800000 s (State.setPlls s n ab) := by
  unfold State.setPlls
  try dsimp only
  repeat' (first
    | with_reducible exact Keeps.refl _
    | with_reducible apply Keeps.via (kept_setPll _ _ _ _ _ (by first | assumption | decide | exact Fin.isLt _ | exact bitsOf_lt64 _ _ | omega | exact List.mem_range.mp (by assumption) | exact presentPos_lt (by assumption) | exact startRecord_len .. | exact presetTrims_len .. | exact take7_len .. | exact take6_len .. | exact ethStart_len .. | exact all_off (by assumption) (by decide)) (by first | assumption | decide | exact Fin.isLt _ | exact bitsOf_lt64 _ _ | omega | exact List.mem_range.mp (by assumption) | exact presentPos_lt (by assumption) | exact startRecord_len .. | exact presetTrims_len .. | exact take7_len .. | exact take6_len .. | exact ethStart_len .. | exact all_off (by assumption) (by decide))) (by decide)
    | with_reducible apply keeps_ite
    | (intro _)
    | split)

theorem kept_endTest (s : State) (l : Nat) (err : Bool) : Keeps 0x800000 s (State.endTest s l err) := by
  unfold State.endTest
  try dsimp only
  repeat' (first
    | with_reducible exact Keeps.refl _
    | with_reducible apply Keeps.via (kept_setLn _ _ _ _ (by first | assumption | decide | exact Fin.isLt _ | exact bitsOf_lt64 _ _ | omega | exact List.mem_range.mp (by assumption) | exact presentPos_lt (by assumption) | exact startRecord_len .. | exact presetTrims_len .. | exact take7_len .. | exact take6_len .. | exact ethStart_len .. | exact all_off (by assumption) (by decide))) (by decide)
    | with_reducible apply keeps_ite
    | (intro _)
    | split)

theorem kept_planPlls (s : State) (n : Nat) : Keeps 0x800000 s (State.planPlls s n) := by
  unfold State.planPlls
  try dsimp only
  repeat' (first
    | with_reducible exact Keeps.refl _
    | with_reducible apply keeps_foldl_on
    | with_reducible apply keeps_fold_pair
    | with_reducible apply Keeps.via (kept_setPlls ..) (by decide)
    | with_reducible apply keeps_each_on
    | with_reducible apply Keeps.via (kept_endTest ..) (by decide)
    | with_reducible apply keeps_ite
    | (intro _)
    | split)

theorem in_lnTrim {l k : Nat} (hk : k < 9) : inSpan 23 (lnTrim l k) := by
  unfold lnTrim
  exact in_pg3 (pg_23 _) (by omega)

theorem presetTrims_len (s : State) (l : Nat) : 0 + (s.presetTrims l).length ≤ 9 := by
  unfold State.presetTrims
  split
  · decide
  · simp

theorem startRecord_len (s : State) (f : Feed) (l : Nat) : 0 + (s.startRecord f l).length ≤ 9 := by
  unfold State.startRecord
  split
  · decide
  split
  · simp
  · exact presetTrims_len s l

theorem take7_len (l : List Word) : 1 + (l.take 7).length ≤ 9 := by
  rw [List.length_take]
  omega

theorem take6_len (l : List Word) : 1 + (l.take 6).length ≤ 9 := by
  rw [List.length_take]
  omega

theorem ethStart_len (o : Option Word) (s : State) (f : Feed) (l : Nat) :
    0 + (o.toList ++ (s.startRecord f l).drop 1).length ≤ 9 := by
  have h := startRecord_len s f l
  have ho : o.toList.length ≤ 1 := by cases o <;> simp
  rw [List.length_append, List.length_drop]
  omega

theorem kept_writeTrims (s : State) (l k : Nat) (ws : List Word) (hk : k + ws.length ≤ 9) :
    Keeps 0x800000 s (s.writeTrims l k ws) := by
  induction ws generalizing s k with
  | nil => exact Keeps.refl _
  | cons w t ih =>
    rw [List.length_cons] at hk
    unfold State.writeTrims
    apply Keeps.via (ih _ _ (by omega)) (by decide)
    split
    · exact Keeps.refl _
    · exact keeps_setReg_in 23 (by decide) (in_lnTrim (by omega)) (Keeps.refl _)

theorem kept_markAct (s : State) (l act : Nat) : Keeps 0x800000 s (State.markAct s l act) := by
  unfold State.markAct
  try dsimp only
  repeat' (first
    | with_reducible exact Keeps.refl _
    | with_reducible apply keeps_setCond_in 23 (by decide) (by first | exact in_pg2 (pg_23 _) (by first | decide | assumption | exact off_le (Nat.mod_lt _ (by decide)) (by first | assumption | decide) | exact off_le (by assumption) (by decide) | exact off_le (List.mem_range.mp (by assumption)) (by decide) | exact all_off (by assumption) (by decide) | (unfold upFld; split <;> decide)) | exact in_pg (pg_23 _) (by decide))
    | with_reducible apply Keeps.via (kept_setLn _ _ _ _ (by first | assumption | decide | exact Fin.isLt _ | exact bitsOf_lt64 _ _ | omega | exact List.mem_range.mp (by assumption) | exact presentPos_lt (by assumption) | exact startRecord_len .. | exact presetTrims_len .. | exact take7_len .. | exact take6_len .. | exact ethStart_len .. | exact all_off (by assumption) (by decide))) (by decide)
    | with_reducible apply keeps_when_on
    | with_reducible apply keeps_ite
    | (intro _)
    | split)

theorem kept_giveRole (s : State) (k : Nat) (f : Feed) : Keeps 0x800000 s (State.giveRole s k f) := by
  unfold State.giveRole
  try dsimp only
  repeat' (first
    | with_reducible exact Keeps.refl _
    | with_reducible apply keeps_each_on
    | with_reducible apply keeps_when_on
    | with_reducible apply Keeps.via (kept_endTest ..) (by decide)
    | with_reducible apply Keeps.via (kept_setLn _ _ _ _ (by first | assumption | decide | exact Fin.isLt _ | exact bitsOf_lt64 _ _ | omega | exact List.mem_range.mp (by assumption) | exact presentPos_lt (by assumption) | exact startRecord_len .. | exact presetTrims_len .. | exact take7_len .. | exact take6_len .. | exact ethStart_len .. | exact all_off (by assumption) (by decide))) (by decide)
    | with_reducible apply keeps_ite
    | (intro _)
    | split)

theorem kept_laneBits (s : State) (f : Feed) (signal lock : Nat) : Keeps 0x800000 s (State.laneBits s f signal lock) := by
  unfold State.laneBits
  try dsimp only
  repeat' (first
    | with_reducible exact Keeps.refl _
    | with_reducible apply keeps_each_on
    | with_reducible apply Keeps.via (kept_setLn _ _ _ _ (by first | assumption | decide | exact Fin.isLt _ | exact bitsOf_lt64 _ _ | omega | exact List.mem_range.mp (by assumption) | exact presentPos_lt (by assumption) | exact startRecord_len .. | exact presetTrims_len .. | exact take7_len .. | exact take6_len .. | exact ethStart_len .. | exact all_off (by assumption) (by decide))) (by decide)
    | with_reducible apply keeps_ite
    | (intro _)
    | split)

theorem kept_toDetect (s : State) (k : Nat) (f : Feed) : Keeps 0x4000000800000 s (State.toDetect s k f) := by
  unfold State.toDetect
  try dsimp only
  repeat' (first
    | with_reducible exact Keeps.refl _
    | with_reducible apply Keeps.via (kept_laneBits ..) (by decide)
    | with_reducible apply Keeps.via (kept_putFeed ..) (by decide)
    | with_reducible apply keeps_ite
    | (intro _)
    | split)

theorem kept_linkFall (s : State) (p : Nat) : Keeps 0x4000 s (State.linkFall s p) := by
  unfold State.linkFall
  try dsimp only
  repeat' (first
    | with_reducible exact Keeps.refl _
    | with_reducible apply keeps_setFld_in 14 (by decide) (by first | exact in_pg2 (pg_14 _) (by first | decide | assumption | exact off_le (Nat.mod_lt _ (by decide)) (by first | assumption | decide) | exact off_le (by assumption) (by decide) | exact off_le (List.mem_range.mp (by assumption)) (by decide) | exact all_off (by assumption) (by decide) | (unfold upFld; split <;> decide)) | exact in_pg (pg_14 _) (by decide))
    | with_reducible apply keeps_setCond_in 14 (by decide) (by first | exact in_pg2 (pg_14 _) (by first | decide | assumption | exact off_le (Nat.mod_lt _ (by decide)) (by first | assumption | decide) | exact off_le (by assumption) (by decide) | exact off_le (List.mem_range.mp (by assumption)) (by decide) | exact all_off (by assumption) (by decide) | (unfold upFld; split <;> decide)) | exact in_pg (pg_14 _) (by decide))
    | with_reducible apply keeps_ite
    | (intro _)
    | split)

theorem kept_leaveActive (s : State) (k : Nat) (f : Feed) : Keeps 0x406000048000800c14020 s (State.leaveActive s k f) := by
  unfold State.leaveActive
  try dsimp only
  repeat' (first
    | with_reducible exact Keeps.refl _
    | with_reducible apply Keeps.via (kept_octetCond ..) (by decide)
    | with_reducible apply Keeps.via (kept_dropTrims ..) (by decide)
    | with_reducible apply Keeps.via (kept_linkFall ..) (by decide)
    | with_reducible apply Keeps.via (kept_feedDown ..) (by decide)
    | with_reducible apply Keeps.via (kept_jobCheck ..) (by decide)
    | with_reducible apply keeps_ite
    | (intro _)
    | split)

theorem kept_startFeed (s : State) (k lane width cfg record : Nat) : Keeps 0x4000000800000 s (State.startFeed s k lane width cfg record) := by
  unfold State.startFeed
  try dsimp only
  repeat' (first
    | with_reducible exact Keeps.refl _
    | with_reducible apply Keeps.via (kept_giveRole ..) (by decide)
    | with_reducible apply Keeps.via (kept_toDetect ..) (by decide)
    | with_reducible apply keeps_each_on
    | with_reducible apply Keeps.via (kept_planPlls ..) (by decide)
    | with_reducible apply keeps_ite
    | (intro _)
    | split)

theorem kept_restFeed (s : State) (k : Nat) : Keeps 0x40600004c000800c14020 s (State.restFeed s k) := by
  unfold State.restFeed
  try dsimp only
  repeat' (first
    | with_reducible exact Keeps.refl _
    | with_reducible apply Keeps.via (kept_leaveActive ..) (by decide)
    | with_reducible apply Keeps.via (kept_laneBits ..) (by decide)
    | with_reducible apply keeps_each_on
    | with_reducible apply Keeps.via (kept_setLn _ _ _ _ (by first | assumption | decide | exact Fin.isLt _ | exact bitsOf_lt64 _ _ | omega | exact List.mem_range.mp (by assumption) | exact presentPos_lt (by assumption) | exact startRecord_len .. | exact presetTrims_len .. | exact take7_len .. | exact take6_len .. | exact ethStart_len .. | exact all_off (by assumption) (by decide))) (by decide)
    | with_reducible apply Keeps.via (kept_setLane ..) (by decide)
    | with_reducible apply keeps_ite
    | (intro _)
    | split
    | with_reducible apply keeps_with_feeds (by decide))

theorem kept_dropRole (s : State) (lanes : List Nat) : Keeps 0x800000 s (State.dropRole s lanes) := by
  unfold State.dropRole
  try dsimp only
  repeat' (first
    | with_reducible exact Keeps.refl _
    | with_reducible apply keeps_each_on
    | with_reducible apply Keeps.via (kept_setLn _ _ _ _ (by first | assumption | decide | exact Fin.isLt _ | exact bitsOf_lt64 _ _ | omega | exact List.mem_range.mp (by assumption) | exact presentPos_lt (by assumption) | exact startRecord_len .. | exact presetTrims_len .. | exact take7_len .. | exact take6_len .. | exact ethStart_len .. | exact all_off (by assumption) (by decide))) (by decide)
    | with_reducible apply keeps_ite
    | (intro _)
    | split)

theorem kept_stopFeed (s : State) (k : Nat) : Keeps 0x40600004c000800c14020 s (State.stopFeed s k) := by
  unfold State.stopFeed
  try dsimp only
  repeat' (first
    | with_reducible exact Keeps.refl _
    | with_reducible apply Keeps.via (kept_restFeed ..) (by decide)
    | with_reducible apply Keeps.via (kept_dropRole ..) (by decide)
    | with_reducible apply keeps_ite
    | (intro _)
    | split)

theorem kept_wantFeeds (s : State) (want : List (Nat × Nat × Nat × Nat)) (record : Nat) : Keeps 0x40600004c000800c14020 s (State.wantFeeds s want record) := by
  unfold State.wantFeeds
  try dsimp only
  repeat' (first
    | with_reducible exact Keeps.refl _
    | with_reducible apply keeps_each_on
    | with_reducible apply Keeps.via (kept_stopFeed ..) (by decide)
    | with_reducible apply Keeps.via (kept_planPlls ..) (by decide)
    | with_reducible apply Keeps.via (kept_startFeed ..) (by decide)
    | with_reducible apply keeps_ite
    | (intro _)
    | split)

theorem kept_syncFeeds (s : State) (c : Sparse Word) (record : Nat) : Keeps 0x40600004c000800c14020 s (State.syncFeeds s c record) := by
  unfold State.syncFeeds
  try dsimp only
  repeat' (first
    | with_reducible exact Keeps.refl _
    | with_reducible apply Keeps.via (kept_wantFeeds ..) (by decide)
    | with_reducible apply keeps_ite
    | (intro _)
    | split)

theorem kept_syncCommit (s : State) (old new : Sparse Word) : Keeps 0x40600004c000800c14020 s (State.syncCommit s old new) := by
  unfold State.syncCommit
  try dsimp only
  repeat' (first
    | with_reducible exact Keeps.refl _
    | with_reducible apply Keeps.via (kept_wantFeeds ..) (by decide)
    | with_reducible apply keeps_ite
    | (intro _)
    | split)

theorem kept_syncRest (s : State) (old new : Sparse Word) : Keeps 0x40600004c000800c14020 s (State.syncRest s old new) := by
  unfold State.syncRest
  try dsimp only
  repeat' (first
    | with_reducible exact Keeps.refl _
    | with_reducible apply keeps_each_on
    | with_reducible apply Keeps.via (kept_stopFeed ..) (by decide)
    | with_reducible apply Keeps.via (kept_dropRole ..) (by decide)
    | with_reducible apply Keeps.via (kept_giveRole ..) (by decide)
    | with_reducible apply keeps_ite
    | (intro _)
    | split)

theorem kept_lanesOff (s : State) (ports : Nat) : Keeps 0x40600004c000800c14020 s (State.lanesOff s ports) := by
  unfold State.lanesOff
  try dsimp only
  repeat' (first
    | with_reducible exact Keeps.refl _
    | with_reducible apply keeps_each_on
    | with_reducible apply Keeps.via (kept_restFeed ..) (by decide)
    | with_reducible apply Keeps.via (kept_endTest ..) (by decide)
    | with_reducible apply Keeps.via (kept_planPlls ..) (by decide)
    | with_reducible apply keeps_ite
    | (intro _)
    | split)

theorem kept_unlock (s : State) (n : Nat) (f : Fld) (hb0 : f.off + 0 * f.stride < 0x1000) : Keeps 0x800000 s (State.unlock s n f) := by
  unfold State.unlock
  try dsimp only
  repeat' (first
    | with_reducible exact Keeps.refl _
    | with_reducible apply keeps_setFld_in 23 (by decide) (by first | exact in_pg2 (pg_23 _) (by first | decide | assumption | exact off_le (Nat.mod_lt _ (by decide)) (by first | assumption | decide) | exact off_le (by assumption) (by decide) | exact off_le (List.mem_range.mp (by assumption)) (by decide) | exact all_off (by assumption) (by decide) | (unfold upFld; split <;> decide)) | exact in_pg (pg_23 _) (by decide))
    | with_reducible apply keeps_setCond_in 23 (by decide) (by first | exact in_pg2 (pg_23 _) (by first | decide | assumption | exact off_le (Nat.mod_lt _ (by decide)) (by first | assumption | decide) | exact off_le (by assumption) (by decide) | exact off_le (List.mem_range.mp (by assumption)) (by decide) | exact all_off (by assumption) (by decide) | (unfold upFld; split <;> decide)) | exact in_pg (pg_23 _) (by decide))
    | with_reducible apply keeps_when_on
    | with_reducible apply keeps_ite
    | (intro _)
    | split)

theorem kept_refLost (s : State) (g : Nat) : Keeps 0x40600004c000800c14020 s (State.refLost s g) := by
  unfold State.refLost
  try dsimp only
  repeat' (first
    | with_reducible exact Keeps.refl _
    | with_reducible apply keeps_each_on
    | with_reducible apply Keeps.via (kept_unlock _ _ _ (by first | assumption | decide | exact Fin.isLt _ | exact bitsOf_lt64 _ _ | omega | exact List.mem_range.mp (by assumption) | exact presentPos_lt (by assumption) | exact startRecord_len .. | exact presetTrims_len .. | exact take7_len .. | exact take6_len .. | exact ethStart_len .. | exact all_off (by assumption) (by decide))) (by decide)
    | with_reducible apply Keeps.via (kept_setLn _ _ _ _ (by first | assumption | decide | exact Fin.isLt _ | exact bitsOf_lt64 _ _ | omega | exact List.mem_range.mp (by assumption) | exact presentPos_lt (by assumption) | exact startRecord_len .. | exact presetTrims_len .. | exact take7_len .. | exact take6_len .. | exact ethStart_len .. | exact all_off (by assumption) (by decide))) (by decide)
    | with_reducible apply Keeps.via (kept_leaveActive ..) (by decide)
    | with_reducible apply Keeps.via (kept_laneBits ..) (by decide)
    | with_reducible apply Keeps.via (kept_putFeed ..) (by decide)
    | with_reducible apply keeps_ite
    | (intro _)
    | split)

theorem kept_refBack (s : State) (g : Nat) : Keeps 0x4000000800000 s (State.refBack s g) := by
  unfold State.refBack
  try dsimp only
  repeat' (first
    | with_reducible exact Keeps.refl _
    | with_reducible apply keeps_setFld_in 23 (by decide) (by first | exact in_pg2 (pg_23 _) (by first | decide | assumption | exact off_le (Nat.mod_lt _ (by decide)) (by first | assumption | decide) | exact off_le (by assumption) (by decide) | exact off_le (List.mem_range.mp (by assumption)) (by decide) | exact all_off (by assumption) (by decide) | (unfold upFld; split <;> decide)) | exact in_pg (pg_23 _) (by decide))
    | with_reducible apply keeps_each_on
    | with_reducible apply keeps_when_on
    | with_reducible apply Keeps.via (kept_setLn _ _ _ _ (by first | assumption | decide | exact Fin.isLt _ | exact bitsOf_lt64 _ _ | omega | exact List.mem_range.mp (by assumption) | exact presentPos_lt (by assumption) | exact startRecord_len .. | exact presetTrims_len .. | exact take7_len .. | exact take6_len .. | exact ethStart_len .. | exact all_off (by assumption) (by decide))) (by decide)
    | with_reducible apply Keeps.via (kept_toDetect ..) (by decide)
    | with_reducible apply keeps_ite
    | (intro _)
    | split)

theorem kept_loadLane (s : State) (k : Nat) (f : Feed) (l : Nat) (offset : Word) : Keeps 0x8000000800000 s (State.loadLane s k f l offset) := by
  unfold State.loadLane
  try dsimp only
  repeat' (first
    | with_reducible exact Keeps.refl _
    | with_reducible apply keeps_setReg_in 23 (by decide) (by first | exact in_pg2 (pg_23 _) (by first | decide | assumption | exact off_le (Nat.mod_lt _ (by decide)) (by first | assumption | decide) | exact off_le (by assumption) (by decide) | exact off_le (List.mem_range.mp (by assumption)) (by decide) | exact all_off (by assumption) (by decide) | (unfold upFld; split <;> decide)) | exact in_pg (pg_23 _) (by decide) | exact in_lnTrim (by decide))
    | with_reducible apply Keeps.via (kept_writeTrims _ _ _ _ (by first | assumption | decide | exact Fin.isLt _ | exact bitsOf_lt64 _ _ | omega | exact List.mem_range.mp (by assumption) | exact presentPos_lt (by assumption) | exact startRecord_len .. | exact presetTrims_len .. | exact take7_len .. | exact take6_len .. | exact ethStart_len .. | exact all_off (by assumption) (by decide))) (by decide)
    | with_reducible apply Keeps.via (kept_setLane ..) (by decide)
    | with_reducible apply keeps_ite
    | (intro _)
    | split)

theorem kept_detectDone (s : State) (k : Nat) (offsets : List Word) : Keeps 0xc000000800000 s (State.detectDone s k offsets) := by
  unfold State.detectDone
  try dsimp only
  repeat' (first
    | with_reducible exact Keeps.refl _
    | with_reducible apply keeps_each_on
    | with_reducible apply Keeps.via (kept_loadLane ..) (by decide)
    | with_reducible apply Keeps.via (kept_laneBits ..) (by decide)
    | with_reducible apply Keeps.via (kept_putFeed ..) (by decide)
    | with_reducible apply keeps_ite
    | (intro _)
    | split)

theorem kept_execDetectDone (feed : FeedId) (offsets : List Word) (s : State) (t : State) (h : execDetectDone feed offsets s = .next t) : Keeps 0xc000000800000 s t := by
  unfold execDetectDone at h
  cases h
  try dsimp only
  repeat' (first
    | with_reducible exact Keeps.refl _
    | with_reducible apply Keeps.via (kept_detectDone ..) (by decide)
    | with_reducible apply keeps_ite
    | (intro _)
    | split)

theorem kept_setFfe (s : State) (l pre post : Nat) : Keeps 0x800000 s (State.setFfe s l pre post) := by
  unfold State.setFfe
  try dsimp only
  repeat' (first
    | with_reducible exact Keeps.refl _
    | with_reducible apply Keeps.via (kept_setLn _ _ _ _ (by first | assumption | decide | exact Fin.isLt _ | exact bitsOf_lt64 _ _ | omega | exact List.mem_range.mp (by assumption) | exact presentPos_lt (by assumption) | exact startRecord_len .. | exact presetTrims_len .. | exact take7_len .. | exact take6_len .. | exact ethStart_len .. | exact all_off (by assumption) (by decide))) (by decide)
    | with_reducible apply keeps_ite
    | (intro _)
    | split)

theorem kept_tapRequests (s : State) (l : Nat) (qp qo : Nat × Nat) : Keeps 0x8000000800000 s (State.tapRequests s l qp qo) := by
  unfold State.tapRequests
  try dsimp only
  repeat' (first
    | with_reducible exact Keeps.refl _
    | with_reducible apply Keeps.via (kept_setFfe ..) (by decide)
    | with_reducible apply Keeps.via (kept_setLane ..) (by decide)
    | with_reducible apply keeps_ite
    | (intro _)
    | split)

theorem kept_respond (s : State) (l c : Nat) : Keeps 0x8000000800000 s (State.respond s l c) := by
  unfold State.respond
  try dsimp only
  repeat' (first
    | with_reducible exact Keeps.refl _
    | with_reducible apply Keeps.via (kept_setLane ..) (by decide)
    | with_reducible apply Keeps.via (kept_setFfe ..) (by decide)
    | with_reducible apply Keeps.via (kept_tapRequests ..) (by decide)
    | with_reducible apply keeps_ite
    | (intro _)
    | split)

theorem kept_setRemote (s : State) (l : Nat) (pre : Bool) (v : Int) : Keeps 0x800000 s (State.setRemote s l pre v) := by
  unfold State.setRemote
  try dsimp only
  repeat' (first
    | with_reducible exact Keeps.refl _
    | with_reducible apply keeps_setS_in 23 (by decide) (by first | exact in_pg2 (pg_23 _) (by first | decide | assumption | exact off_le (Nat.mod_lt _ (by decide)) (by first | assumption | decide) | exact off_le (by assumption) (by decide) | exact off_le (List.mem_range.mp (by assumption)) (by decide) | exact all_off (by assumption) (by decide) | (unfold upFld; split <;> decide)) | exact in_pg (pg_23 _) (by decide))
    | with_reducible apply keeps_ite
    | (intro _)
    | split)

theorem kept_trainHear (s : State) (l control status : Nat) (metric : Option Int) : Keeps 0x8000000800000 s (State.trainHear s l control status metric) := by
  unfold State.trainHear
  try dsimp only
  repeat' (first
    | with_reducible exact Keeps.refl _
    | with_reducible apply Keeps.via (kept_setLane ..) (by decide)
    | with_reducible apply Keeps.via (kept_setRemote ..) (by decide)
    | with_reducible apply keeps_ite
    | (intro _)
    | split)

theorem kept_trainingFrame (s : State) (l control status : Nat) (inverted : Bool) (metric : Option Int) : Keeps 0x8000800800000 s (State.trainingFrame s l control status inverted metric) := by
  unfold State.trainingFrame
  try dsimp only
  repeat' (first
    | with_reducible exact Keeps.refl _
    | with_reducible apply Keeps.via (kept_setLane ..) (by decide)
    | with_reducible apply Keeps.via (kept_respond ..) (by decide)
    | with_reducible apply keeps_when_on
    | with_reducible apply Keeps.via (kept_setLn _ _ _ _ (by first | assumption | decide | exact Fin.isLt _ | exact bitsOf_lt64 _ _ | omega | exact List.mem_range.mp (by assumption) | exact presentPos_lt (by assumption) | exact startRecord_len .. | exact presetTrims_len .. | exact take7_len .. | exact take6_len .. | exact ethStart_len .. | exact all_off (by assumption) (by decide))) (by decide)
    | with_reducible apply Keeps.via (kept_trainHear ..) (by decide)
    | with_reducible apply Keeps.via (kept_emit ..) (by decide)
    | with_reducible apply keeps_ite
    | (intro _)
    | split)

theorem kept_execTrainingFrameRx (lane : LaneNo) (control status : Word) (inverted : Bool) (metric : Option Int) (s : State) (t : State) (h : execTrainingFrameRx lane control status inverted metric s = .next t) : Keeps 0x8000800800000 s t := by
  unfold execTrainingFrameRx at h
  cases h
  try dsimp only
  repeat' (first
    | with_reducible exact Keeps.refl _
    | with_reducible apply Keeps.via (kept_trainingFrame ..) (by decide)
    | with_reducible apply keeps_ite
    | (intro _)
    | split)

theorem kept_trained (s : State) (l : Nat) (t : List Word) (eye : Word) : Keeps 0x8000000800000 s (State.trained s l t eye) := by
  unfold State.trained
  try dsimp only
  repeat' (first
    | with_reducible exact Keeps.refl _
    | with_reducible apply keeps_setReg_in 23 (by decide) (by first | exact in_pg2 (pg_23 _) (by first | decide | assumption | exact off_le (Nat.mod_lt _ (by decide)) (by first | assumption | decide) | exact off_le (by assumption) (by decide) | exact off_le (List.mem_range.mp (by assumption)) (by decide) | exact all_off (by assumption) (by decide) | (unfold upFld; split <;> decide)) | exact in_pg (pg_23 _) (by decide) | with_unfolding_all exact in_pg2 (pg_23 (l / 8)) (show 0x26C + 0x80 * (l % 8) < 0x1000 by omega))
    | with_reducible apply keeps_setS_in 23 (by decide) (by first | exact in_pg2 (pg_23 _) (by first | decide | assumption | exact off_le (Nat.mod_lt _ (by decide)) (by first | assumption | decide) | exact off_le (by assumption) (by decide) | exact off_le (List.mem_range.mp (by assumption)) (by decide) | exact all_off (by assumption) (by decide) | (unfold upFld; split <;> decide)) | exact in_pg (pg_23 _) (by decide) | with_unfolding_all exact in_pg2 (pg_23 (l / 8)) (show 0x26C + 0x80 * (l % 8) < 0x1000 by omega))
    | with_reducible apply Keeps.via (kept_writeTrims _ _ _ _ (by first | assumption | decide | exact Fin.isLt _ | exact bitsOf_lt64 _ _ | omega | exact List.mem_range.mp (by assumption) | exact presentPos_lt (by assumption) | exact startRecord_len .. | exact presetTrims_len .. | exact take7_len .. | exact take6_len .. | exact ethStart_len .. | exact all_off (by assumption) (by decide))) (by decide)
    | with_reducible apply Keeps.via (kept_setLn _ _ _ _ (by first | assumption | decide | exact Fin.isLt _ | exact bitsOf_lt64 _ _ | omega | exact List.mem_range.mp (by assumption) | exact presentPos_lt (by assumption) | exact startRecord_len .. | exact presetTrims_len .. | exact take7_len .. | exact take6_len .. | exact ethStart_len .. | exact all_off (by assumption) (by decide))) (by decide)
    | with_reducible apply Keeps.via (kept_setLane ..) (by decide)
    | with_reducible apply Keeps.via (kept_markAct ..) (by decide)
    | with_reducible apply keeps_ite
    | (intro _)
    | split)

theorem kept_execTrainDone (feed : FeedId) (trims : List LaneTrim) (eyes : List Word) (codewords : Bool) (s : State) (t : State) (h : execTrainDone feed trims eyes codewords s = .next t) : Keeps 0x8000200d038800800000 s t := by
  unfold execTrainDone at h
  cases h
  try dsimp only
  repeat' (first
    | with_reducible exact Keeps.refl _
    | with_reducible apply keeps_each_on
    | with_reducible apply Keeps.via (kept_trained ..) (by decide)
    | with_reducible apply Keeps.via (kept_putFeed ..) (by decide)
    | with_reducible apply Keeps.via (kept_settle ..) (by decide)
    | with_reducible apply keeps_ite
    | (intro _)
    | split)

theorem kept_execLockDone (feed : FeedId) (aligns : List AlignRx) (s : State) (t : State) (h : execLockDone feed aligns s = .next t) : Keeps 0xc000000800000 s t := by
  unfold execLockDone at h
  cases h
  try dsimp only
  repeat' (first
    | with_reducible exact Keeps.refl _
    | with_reducible apply keeps_each_on
    | with_reducible apply Keeps.via (kept_setLane ..) (by decide)
    | with_reducible apply Keeps.via (kept_laneBits ..) (by decide)
    | with_reducible apply Keeps.via (kept_putFeed ..) (by decide)
    | with_reducible apply keeps_ite
    | (intro _)
    | split)

theorem kept_reachActive (s : State) (k : Nat) : Keeps 0x1c000000800000 s (State.reachActive s k) := by
  unfold State.reachActive
  try dsimp only
  repeat' (first
    | with_reducible exact Keeps.refl _
    | with_reducible apply keeps_setFld_in 23 (by decide) (by first | exact in_pg2 (pg_23 _) (by first | decide | assumption | exact off_le (Nat.mod_lt _ (by decide)) (by first | assumption | decide) | exact off_le (by assumption) (by decide) | exact off_le (List.mem_range.mp (by assumption)) (by decide) | exact all_off (by assumption) (by decide) | (unfold upFld; split <;> decide)) | exact in_pg (pg_23 _) (by decide))
    | with_reducible apply keeps_each_on
    | with_reducible apply Keeps.via (kept_setLane ..) (by decide)
    | with_reducible apply Keeps.via (kept_putFeed ..) (by decide)
    | with_reducible apply keeps_ite
    | (intro _)
    | split
    | with_reducible apply keeps_with_busy (by decide))

theorem kept_execCapDone (feed : FeedId) (widths : Byte) (s : State) (t : State) (h : execCapDone feed widths s = .next t) : Keeps 0xc800020dd038800c10000 s t := by
  unfold execCapDone at h
  cases h
  try dsimp only
  repeat' (first
    | with_reducible exact Keeps.refl _
    | with_reducible apply Keeps.via (kept_reachActive ..) (by decide)
    | with_reducible apply Keeps.via (kept_feedUp ..) (by decide)
    | with_reducible apply Keeps.via (kept_settle ..) (by decide)
    | with_reducible apply keeps_each_on
    | with_reducible apply Keeps.via (kept_setLn _ _ _ _ (by first | assumption | decide | exact Fin.isLt _ | exact bitsOf_lt64 _ _ | omega | exact List.mem_range.mp (by assumption) | exact presentPos_lt (by assumption) | exact startRecord_len .. | exact presetTrims_len .. | exact take7_len .. | exact take6_len .. | exact ethStart_len .. | exact all_off (by assumption) (by decide))) (by decide)
    | with_reducible apply Keeps.via (kept_laneBits ..) (by decide)
    | with_reducible apply Keeps.via (kept_putFeed ..) (by decide)
    | with_reducible apply Keeps.via (kept_octetCond ..) (by decide)
    | with_reducible apply keeps_ite
    | (intro _)
    | split)

theorem kept_failFeed (s : State) (k : Nat) : Keeps 0x4000000800000 s (State.failFeed s k) := by
  unfold State.failFeed
  try dsimp only
  repeat' (first
    | with_reducible exact Keeps.refl _
    | with_reducible apply keeps_each_on
    | with_reducible apply Keeps.via (kept_incLn _ _ _ _ (by first | assumption | decide | exact Fin.isLt _ | exact bitsOf_lt64 _ _ | omega | exact List.mem_range.mp (by assumption) | exact presentPos_lt (by assumption) | exact startRecord_len .. | exact presetTrims_len .. | exact take7_len .. | exact take6_len .. | exact ethStart_len .. | exact all_off (by assumption) (by decide))) (by decide)
    | with_reducible apply Keeps.via (kept_setLn _ _ _ _ (by first | assumption | decide | exact Fin.isLt _ | exact bitsOf_lt64 _ _ | omega | exact List.mem_range.mp (by assumption) | exact presentPos_lt (by assumption) | exact startRecord_len .. | exact presetTrims_len .. | exact take7_len .. | exact take6_len .. | exact ethStart_len .. | exact all_off (by assumption) (by decide))) (by decide)
    | with_reducible apply Keeps.via (kept_octetCond ..) (by decide)
    | with_reducible apply Keeps.via (kept_laneBits ..) (by decide)
    | with_reducible apply Keeps.via (kept_putFeed ..) (by decide)
    | with_reducible apply Keeps.via (kept_toDetect ..) (by decide)
    | with_reducible apply keeps_ite
    | (intro _)
    | split)

theorem kept_execStageTimeout (feed : FeedId) (s : State) (t : State) (h : execStageTimeout feed s = .next t) : Keeps 0x80002005038800800000 s t := by
  unfold execStageTimeout at h
  cases h
  try dsimp only
  repeat' (first
    | with_reducible exact Keeps.refl _
    | with_reducible apply Keeps.via (kept_failFeed ..) (by decide)
    | with_reducible apply Keeps.via (kept_settle ..) (by decide)
    | with_reducible apply keeps_ite
    | (intro _)
    | split)

theorem kept_execFeedLoss (feed : FeedId) (signal : Bool) (s : State) (t : State) (h : execFeedLoss feed signal s = .next t) : Keeps 0x48600204d038800c14020 s t := by
  unfold execFeedLoss at h
  cases h
  try dsimp only
  repeat' (first
    | with_reducible exact Keeps.refl _
    | with_reducible apply Keeps.via (kept_leaveActive ..) (by decide)
    | with_reducible apply Keeps.via (kept_laneBits ..) (by decide)
    | with_reducible apply Keeps.via (kept_putFeed ..) (by decide)
    | with_reducible apply Keeps.via (kept_settle ..) (by decide)
    | with_reducible apply keeps_ite
    | (intro _)
    | split)

theorem kept_execBackoffEnd (feed : FeedId) (s : State) (t : State) (h : execBackoffEnd feed s = .next t) : Keeps 0x4000000800000 s t := by
  unfold execBackoffEnd at h
  cases h
  try dsimp only
  repeat' (first
    | with_reducible exact Keeps.refl _
    | with_reducible apply Keeps.via (kept_toDetect ..) (by decide)
    | with_reducible apply keeps_ite
    | (intro _)
    | split)

theorem kept_execFaultRetry (feed : FeedId) (s : State) (t : State) (h : execFaultRetry feed s = .next t) : Keeps 0x4000000800000 s t := by
  unfold execFaultRetry at h
  cases h
  try dsimp only
  repeat' (first
    | with_reducible exact Keeps.refl _
    | with_reducible apply Keeps.via (kept_toDetect ..) (by decide)
    | with_reducible apply keeps_ite
    | (intro _)
    | split)

theorem kept_retrainLane (s : State) (l : Nat) : Keeps 0x48600204d038800c14020 s (State.retrainLane s l) := by
  unfold State.retrainLane
  try dsimp only
  repeat' (first
    | with_reducible exact Keeps.refl _
    | with_reducible apply Keeps.via (kept_leaveActive ..) (by decide)
    | with_reducible apply Keeps.via (kept_toDetect ..) (by decide)
    | with_reducible apply Keeps.via (kept_settle ..) (by decide)
    | with_reducible apply keeps_ite
    | (intro _)
    | split)

theorem kept_execActivityWindow (octet : OctetNo) (blocks nonFill : Nat) (s : State) (t : State) (h : execActivityWindow octet blocks nonFill s = .next t) : Keeps 0x18000000800000 s t := by
  unfold execActivityWindow at h
  cases h
  try dsimp only
  repeat' (first
    | with_reducible exact Keeps.refl _
    | with_reducible apply keeps_setFld_in 23 (by decide) (by first | exact in_pg2 (pg_23 _) (by first | decide | assumption | exact off_le (Nat.mod_lt _ (by decide)) (by first | assumption | decide) | exact off_le (by assumption) (by decide) | exact off_le (List.mem_range.mp (by assumption)) (by decide) | exact all_off (by assumption) (by decide) | (unfold upFld; split <;> decide)) | exact in_pg (pg_23 _) (by decide))
    | with_reducible apply keeps_each_on
    | with_reducible apply Keeps.via (kept_setLane ..) (by decide)
    | with_reducible apply keeps_ite
    | (intro _)
    | split
    | with_reducible apply keeps_with_busy (by decide))

theorem kept_setTrim (s : State) (l : Nat) (t : TrimStep) (code : Nat) : Keeps 0x800000 s (State.setTrim s l t code) := by
  unfold State.setTrim
  try dsimp only
  repeat' (first
    | with_reducible exact Keeps.refl _
    | with_reducible apply keeps_setReg_in 23 (by decide) (by first | exact in_pg2 (pg_23 _) (by first | decide | assumption | exact off_le (Nat.mod_lt _ (by decide)) (by first | assumption | decide) | exact off_le (by assumption) (by decide) | exact off_le (List.mem_range.mp (by assumption)) (by decide) | exact all_off (by assumption) (by decide) | (unfold upFld; split <;> decide)) | exact in_pg (pg_23 _) (by decide) | exact in_lnTrim (Nat.lt_of_lt_of_le (Fin.isLt _) (by decide)))
    | with_reducible apply keeps_ite
    | (intro _)
    | split)

theorem kept_moveTrims (s : State) (l : Nat) (ts : List TrimStep) : Keeps 0x8000000800000 s (State.moveTrims s l ts) := by
  unfold State.moveTrims
  try dsimp only
  repeat' (first
    | with_reducible exact Keeps.refl _
    | with_reducible apply keeps_each_on
    | with_reducible apply Keeps.via (kept_setTrim ..) (by decide)
    | with_reducible apply Keeps.via (kept_setLane ..) (by decide)
    | with_reducible apply keeps_ite
    | (intro _)
    | split)

theorem kept_laneStats (s : State) (l : Nat) (eye : Word) (syms cws : Nat) : Keeps 0xc04000 s (State.laneStats s l eye syms cws) := by
  unfold State.laneStats
  try dsimp only
  repeat' (first
    | with_reducible exact Keeps.refl _
    | with_reducible apply keeps_setReg_in 23 (by decide) (by first | exact in_pg2 (pg_23 _) (by first | decide | assumption | exact off_le (Nat.mod_lt _ (by decide)) (by first | assumption | decide) | exact off_le (by assumption) (by decide) | exact off_le (List.mem_range.mp (by assumption)) (by decide) | exact all_off (by assumption) (by decide) | (unfold upFld; split <;> decide)) | exact in_pg (pg_23 _) (by decide) | with_unfolding_all exact in_pg2 (pg_23 (l / 8)) (show 0x26C + 0x80 * (l % 8) < 0x1000 by omega))
    | with_reducible apply keeps_inc_in 14 (by decide) (by first | exact in_pg2 (pg_14 _) (by first | decide | assumption | exact off_le (Nat.mod_lt _ (by decide)) (by first | assumption | decide) | exact off_le (by assumption) (by decide) | exact off_le (List.mem_range.mp (by assumption)) (by decide) | exact all_off (by assumption) (by decide) | (unfold upFld; split <;> decide)) | exact in_pg (pg_14 _) (by decide) | with_unfolding_all exact in_pg2 (pg_23 (l / 8)) (show 0x26C + 0x80 * (l % 8) < 0x1000 by omega))
    | with_reducible apply keeps_inc_in 22 (by decide) (by first | exact in_pg2 (pg_22 _) (by first | decide | assumption | exact off_le (Nat.mod_lt _ (by decide)) (by first | assumption | decide) | exact off_le (by assumption) (by decide) | exact off_le (List.mem_range.mp (by assumption)) (by decide) | exact all_off (by assumption) (by decide) | (unfold upFld; split <;> decide)) | exact in_pg (pg_22 _) (by decide) | with_unfolding_all exact in_pg2 (pg_23 (l / 8)) (show 0x26C + 0x80 * (l % 8) < 0x1000 by omega))
    | with_reducible apply Keeps.via (kept_incLn _ _ _ _ (by first | assumption | decide | exact Fin.isLt _ | exact bitsOf_lt64 _ _ | omega | exact List.mem_range.mp (by assumption) | exact presentPos_lt (by assumption) | exact startRecord_len .. | exact presetTrims_len .. | exact take7_len .. | exact take6_len .. | exact ethStart_len .. | exact all_off (by assumption) (by decide))) (by decide)
    | with_reducible apply keeps_ite
    | (intro _)
    | split)

theorem kept_trackMeta (s : State) (l act : Nat) : Keeps 0x800000 s (State.trackMeta s l act) := by
  unfold State.trackMeta
  try dsimp only
  repeat' (first
    | with_reducible exact Keeps.refl _
    | with_reducible apply keeps_setS_in 23 (by decide) (by first | exact in_pg2 (pg_23 _) (by first | decide | assumption | exact off_le (Nat.mod_lt _ (by decide)) (by first | assumption | decide) | exact off_le (by assumption) (by decide) | exact off_le (List.mem_range.mp (by assumption)) (by decide) | exact all_off (by assumption) (by decide) | (unfold upFld; split <;> decide)) | exact in_pg (pg_23 _) (by decide))
    | with_reducible apply Keeps.via (kept_setLn _ _ _ _ (by first | assumption | decide | exact Fin.isLt _ | exact bitsOf_lt64 _ _ | omega | exact List.mem_range.mp (by assumption) | exact presentPos_lt (by assumption) | exact startRecord_len .. | exact presetTrims_len .. | exact take7_len .. | exact take6_len .. | exact ethStart_len .. | exact all_off (by assumption) (by decide))) (by decide)
    | with_reducible apply Keeps.via (kept_markAct ..) (by decide)
    | with_reducible apply keeps_ite
    | (intro _)
    | split)

theorem kept_queueTrims (s : State) (l : Nat) (ts : List TrimStep) : Keeps 0x8000000800000 s (State.queueTrims s l ts) := by
  unfold State.queueTrims
  try dsimp only
  repeat' (first
    | with_reducible exact Keeps.refl _
    | with_reducible apply Keeps.via (kept_moveTrims ..) (by decide)
    | with_reducible apply Keeps.via (kept_setLane ..) (by decide)
    | with_reducible apply keeps_ite
    | (intro _)
    | split)

theorem kept_execTrimTrack (lane : LaneNo) (steps : List TrimStep) (eye : Word) (corrSymbols corrWords : Nat) (s : State) (t : State) (h : execTrimTrack lane steps eye corrSymbols corrWords s = .next t) : Keeps 0x80002009038800c04000 s t := by
  unfold execTrimTrack at h
  cases h
  try dsimp only
  repeat' (first
    | with_reducible exact Keeps.refl _
    | with_reducible apply Keeps.via (kept_laneStats ..) (by decide)
    | with_reducible apply Keeps.via (kept_setLane ..) (by decide)
    | with_reducible apply Keeps.via (kept_queueTrims ..) (by decide)
    | with_reducible apply Keeps.via (kept_trackMeta ..) (by decide)
    | with_reducible apply Keeps.via (kept_settle ..) (by decide)
    | with_reducible apply keeps_ite
    | (intro _)
    | split)

theorem kept_regatherDone (s : State) (l : Nat) : Keeps 0x8000000800000 s (State.regatherDone s l) := by
  unfold State.regatherDone
  try dsimp only
  repeat' (first
    | with_reducible exact Keeps.refl _
    | with_reducible apply keeps_setCond_in 23 (by decide) (by first | exact in_pg2 (pg_23 _) (by first | decide | assumption | exact off_le (Nat.mod_lt _ (by decide)) (by first | assumption | decide) | exact off_le (by assumption) (by decide) | exact off_le (List.mem_range.mp (by assumption)) (by decide) | exact all_off (by assumption) (by decide) | (unfold upFld; split <;> decide)) | exact in_pg (pg_23 _) (by decide))
    | with_reducible apply Keeps.via (kept_setLane ..) (by decide)
    | with_reducible apply Keeps.via (kept_setLn _ _ _ _ (by first | assumption | decide | exact Fin.isLt _ | exact bitsOf_lt64 _ _ | omega | exact List.mem_range.mp (by assumption) | exact presentPos_lt (by assumption) | exact startRecord_len .. | exact presetTrims_len .. | exact take7_len .. | exact take6_len .. | exact ethStart_len .. | exact all_off (by assumption) (by decide))) (by decide)
    | with_reducible apply Keeps.via (kept_markAct ..) (by decide)
    | with_reducible apply keeps_ite
    | (intro _)
    | split)

theorem kept_execTrimStepApply (lane : LaneNo) (s : State) (t : State) (h : execTrimStepApply lane s = .next t) : Keeps 0x80002009038800800000 s t := by
  unfold execTrimStepApply at h
  cases h
  try dsimp only
  repeat' (first
    | with_reducible exact Keeps.refl _
    | with_reducible apply Keeps.via (kept_moveTrims ..) (by decide)
    | with_reducible apply Keeps.via (kept_regatherDone ..) (by decide)
    | with_reducible apply Keeps.via (kept_settle ..) (by decide)
    | with_reducible apply Keeps.via (kept_setLane ..) (by decide)
    | with_reducible apply keeps_ite
    | (intro _)
    | split)

theorem kept_execTrimStepDrop (lane : LaneNo) (s : State) (t : State) (h : execTrimStepDrop lane s = .next t) : Keeps 0x8000000800000 s t := by
  unfold execTrimStepDrop at h
  cases h
  try dsimp only
  repeat' (first
    | with_reducible exact Keeps.refl _
    | with_reducible apply Keeps.via (kept_incLn _ _ _ _ (by first | assumption | decide | exact Fin.isLt _ | exact bitsOf_lt64 _ _ | omega | exact List.mem_range.mp (by assumption) | exact presentPos_lt (by assumption) | exact startRecord_len .. | exact presetTrims_len .. | exact take7_len .. | exact take6_len .. | exact ethStart_len .. | exact all_off (by assumption) (by decide))) (by decide)
    | with_reducible apply Keeps.via (kept_setLane ..) (by decide)
    | with_reducible apply keeps_ite
    | (intro _)
    | split)

theorem kept_revertTrims (s : State) (l : Nat) : Keeps 0x8000000800000 s (State.revertTrims s l) := by
  unfold State.revertTrims
  try dsimp only
  repeat' (first
    | with_reducible exact Keeps.refl _
    | with_reducible apply keeps_setCond_in 23 (by decide) (by first | exact in_pg2 (pg_23 _) (by first | decide | assumption | exact off_le (Nat.mod_lt _ (by decide)) (by first | assumption | decide) | exact off_le (by assumption) (by decide) | exact off_le (List.mem_range.mp (by assumption)) (by decide) | exact all_off (by assumption) (by decide) | (unfold upFld; split <;> decide)) | exact in_pg (pg_23 _) (by decide))
    | with_reducible apply keeps_each_on
    | with_reducible apply Keeps.via (kept_setTrim ..) (by decide)
    | with_reducible apply Keeps.via (kept_setLane ..) (by decide)
    | with_reducible apply Keeps.via (kept_incLn _ _ _ _ (by first | assumption | decide | exact Fin.isLt _ | exact bitsOf_lt64 _ _ | omega | exact List.mem_range.mp (by assumption) | exact presentPos_lt (by assumption) | exact startRecord_len .. | exact presetTrims_len .. | exact take7_len .. | exact take6_len .. | exact ethStart_len .. | exact all_off (by assumption) (by decide))) (by decide)
    | with_reducible apply keeps_ite
    | (intro _)
    | split)

theorem kept_execTrimRevert (lane : LaneNo) (before after : Nat) (s : State) (t : State) (h : execTrimRevert lane before after s = .next t) : Keeps 0x80002009038800800000 s t := by
  unfold execTrimRevert at h
  cases h
  try dsimp only
  repeat' (first
    | with_reducible exact Keeps.refl _
    | with_reducible apply Keeps.via (kept_revertTrims ..) (by decide)
    | with_reducible apply Keeps.via (kept_settle ..) (by decide)
    | with_reducible apply keeps_ite
    | (intro _)
    | split)

theorem kept_execRegatherStart (lane : LaneNo) (s : State) (t : State) (h : execRegatherStart lane s = .next t) : Keeps 0x8000000800000 s t := by
  unfold execRegatherStart at h
  cases h
  try dsimp only
  repeat' (first
    | with_reducible exact Keeps.refl _
    | with_reducible apply Keeps.via (kept_setLane ..) (by decide)
    | with_reducible apply keeps_ite
    | (intro _)
    | split)

theorem kept_hostRegather (s : State) (l : Nat) : Keeps 0x8000000800000 s (State.hostRegather s l) := by
  unfold State.hostRegather
  try dsimp only
  repeat' (first
    | with_reducible exact Keeps.refl _
    | with_reducible apply Keeps.via (kept_setLane ..) (by decide)
    | with_reducible apply keeps_ite
    | (intro _)
    | split)

theorem kept_execRegatherGatherEnd (lane : LaneNo) (targets : List TrimStep) (s : State) (t : State) (h : execRegatherGatherEnd lane targets s = .next t) : Keeps 0x80002009038800800000 s t := by
  unfold execRegatherGatherEnd at h
  cases h
  try dsimp only
  repeat' (first
    | with_reducible exact Keeps.refl _
    | with_reducible apply keeps_setS_in 23 (by decide) (by first | exact in_pg2 (pg_23 _) (by first | decide | assumption | exact off_le (Nat.mod_lt _ (by decide)) (by first | assumption | decide) | exact off_le (by assumption) (by decide) | exact off_le (List.mem_range.mp (by assumption)) (by decide) | exact all_off (by assumption) (by decide) | (unfold upFld; split <;> decide)) | exact in_pg (pg_23 _) (by decide))
    | with_reducible apply Keeps.via (kept_setLane ..) (by decide)
    | with_reducible apply Keeps.via (kept_regatherDone ..) (by decide)
    | with_reducible apply Keeps.via (kept_settle ..) (by decide)
    | with_reducible apply keeps_ite
    | (intro _)
    | split)

theorem kept_beginTest (s : State) (l : Nat) (fresh : Bool) : Keeps 0x8000000800000 s (State.beginTest s l fresh) := by
  unfold State.beginTest
  try dsimp only
  repeat' (first
    | with_reducible exact Keeps.refl _
    | with_reducible apply Keeps.via (kept_writeTrims _ _ _ _ (by first | assumption | decide | exact Fin.isLt _ | exact bitsOf_lt64 _ _ | omega | exact List.mem_range.mp (by assumption) | exact presentPos_lt (by assumption) | exact startRecord_len .. | exact presetTrims_len .. | exact take7_len .. | exact take6_len .. | exact ethStart_len .. | exact all_off (by assumption) (by decide))) (by decide)
    | with_reducible apply Keeps.via (kept_setLane ..) (by decide)
    | with_reducible apply Keeps.via (kept_setLn _ _ _ _ (by first | assumption | decide | exact Fin.isLt _ | exact bitsOf_lt64 _ _ | omega | exact List.mem_range.mp (by assumption) | exact presentPos_lt (by assumption) | exact startRecord_len .. | exact presetTrims_len .. | exact take7_len .. | exact take6_len .. | exact ethStart_len .. | exact all_off (by assumption) (by decide))) (by decide)
    | with_reducible apply keeps_when_on
    | with_reducible apply keeps_ite
    | (intro _)
    | split)

theorem kept_testWritten (s : State) (l : Nat) (was : Bool) : Keeps 0x8000000800000 s (State.testWritten s l was) := by
  unfold State.testWritten
  try dsimp only
  repeat' (first
    | with_reducible exact Keeps.refl _
    | with_reducible apply Keeps.via (kept_endTest ..) (by decide)
    | with_reducible apply Keeps.via (kept_planPlls ..) (by decide)
    | with_reducible apply keeps_when_on
    | with_reducible apply Keeps.via (kept_setLn _ _ _ _ (by first | assumption | decide | exact Fin.isLt _ | exact bitsOf_lt64 _ _ | omega | exact List.mem_range.mp (by assumption) | exact presentPos_lt (by assumption) | exact startRecord_len .. | exact presetTrims_len .. | exact take7_len .. | exact take6_len .. | exact ethStart_len .. | exact all_off (by assumption) (by decide))) (by decide)
    | with_reducible apply Keeps.via (kept_setPlls ..) (by decide)
    | with_reducible apply Keeps.via (kept_beginTest ..) (by decide)
    | with_reducible apply keeps_ite
    | (intro _)
    | split)

theorem kept_execPllLockLoss (octet : OctetNo) (pllB : Bool) (s : State) (t : State) (h : execPllLockLoss octet pllB s = .next t) : Keeps 0x80002001038800800000 s t := by
  unfold execPllLockLoss at h
  cases h
  try dsimp only
  repeat' (first
    | with_reducible exact Keeps.refl _
    | with_reducible apply keeps_setFld_in 23 (by decide) (by first | exact in_pg2 (pg_23 _) (by first | decide | assumption | exact off_le (Nat.mod_lt _ (by decide)) (by first | assumption | decide) | exact off_le (by assumption) (by decide) | exact off_le (List.mem_range.mp (by assumption)) (by decide) | exact all_off (by assumption) (by decide) | (unfold upFld; split <;> decide)) | exact in_pg (pg_23 _) (by decide))
    | with_reducible apply kept_raise_in 23 (by decide) (by decide) (by first | exact in_pg2 (pg_23 _) (by first | decide | assumption | exact off_le (Nat.mod_lt _ (by decide)) (by first | assumption | decide) | exact off_le (by assumption) (by decide) | exact off_le (List.mem_range.mp (by assumption)) (by decide) | exact all_off (by assumption) (by decide) | (unfold upFld; split <;> decide)) | exact in_pg (pg_23 _) (by decide))
    | with_reducible apply keeps_ite
    | (intro _)
    | split)

end Sys2Proof.Machine
end

