-- ==== Sys2Proof/Laws/KeptLine.lean ====
section
/-!
SUPPORT. What the operations of Line.lean keep.
-/
namespace Sys2Proof.Machine

theorem kept_sendSymbols (s : State) (l : Nat) (hist : Nat × Nat) (levels : List Nat) : Keeps 0x800000000 s (State.sendSymbols s l hist levels) := by
  unfold State.sendSymbols
  try dsimp only
  repeat' (first
    | with_reducible exact Keeps.refl _
    | with_reducible apply Keeps.via (kept_emit ..) (by decide)
    | with_reducible apply keeps_ite
    | (intro _)
    | split)

theorem kept_sendUnit (s : State) (key : Nat) (f : Feed) (tx : LineTx) : Keeps 0x800000000 s (State.sendUnit s key f tx).1 := by
  unfold State.sendUnit
  try dsimp only
  repeat' (first
    | with_reducible exact Keeps.refl _
    | with_reducible apply keeps_foldl_on
    | with_reducible apply keeps_fold_pair
    | with_reducible apply keeps_each_on
    | with_reducible apply Keeps.via (kept_emit ..) (by decide)
    | with_reducible apply Keeps.via (kept_sendSymbols ..) (by decide)
    | with_reducible apply keeps_ite
    | (intro _)
    | split)

theorem kept_lineTick (s : State) (key : Nat) (f : Feed) : Keeps 0x400000000000800000000 s (State.lineTick s key f) := by
  unfold State.lineTick
  try dsimp only
  repeat' (first
    | with_reducible exact Keeps.refl _
    | with_reducible apply Keeps.via (kept_setLine ..) (by decide)
    | with_reducible apply Keeps.via (kept_sendUnit ..) (by decide)
    | with_reducible apply keeps_ite
    | (intro _)
    | split)

theorem kept_check (s : State) (l : Nat) (levels : List Nat) : Keeps 0x80002009038800800000 s (State.check s l levels) := by
  unfold State.check
  try dsimp only
  repeat' (first
    | with_reducible exact Keeps.refl _
    | with_reducible apply keeps_foldl_on
    | with_reducible apply keeps_fold_pair
    | with_reducible apply kept_raise_in 23 (by decide) (by decide) (by first | exact in_pg2 (pg_23 _) (by first | decide | assumption | exact off_le (Nat.mod_lt _ (by decide)) (by first | assumption | decide) | exact off_le (by assumption) (by decide) | exact off_le (List.mem_range.mp (by assumption)) (by decide) | exact all_off (by assumption) (by decide) | (unfold upFld; split <;> decide)) | exact in_pg (pg_23 _) (by decide))
    | with_reducible apply Keeps.via (kept_setLane ..) (by decide)
    | with_reducible apply Keeps.via (kept_setLn _ _ _ _ (by first | assumption | decide | exact Fin.isLt _ | exact bitsOf_lt64 _ _ | omega | exact List.mem_range.mp (by assumption) | exact presentPos_lt (by assumption) | exact startRecord_len .. | exact presetTrims_len .. | exact take7_len .. | exact take6_len .. | exact ethStart_len .. | exact all_off (by assumption) (by decide))) (by decide)
    | with_reducible apply Keeps.via (kept_incLn _ _ _ _ (by first | assumption | decide | exact Fin.isLt _ | exact bitsOf_lt64 _ _ | omega | exact List.mem_range.mp (by assumption) | exact presentPos_lt (by assumption) | exact startRecord_len .. | exact presetTrims_len .. | exact take7_len .. | exact take6_len .. | exact ethStart_len .. | exact all_off (by assumption) (by decide))) (by decide)
    | with_reducible apply keeps_when_on
    | with_reducible apply keeps_ite
    | (intro _)
    | split)

theorem kept_testReceive (s : State) (l : Nat) (ls : List Nat) : Keeps 0x80002009038800800000 s (State.testReceive s l ls) := by
  unfold State.testReceive
  try dsimp only
  repeat' (first
    | with_reducible exact Keeps.refl _
    | with_reducible apply keeps_when_on
    | with_reducible apply Keeps.via (kept_sendSymbols ..) (by decide)
    | with_reducible apply Keeps.via (kept_setLane ..) (by decide)
    | with_reducible apply Keeps.via (kept_check ..) (by decide)
    | with_reducible apply keeps_ite
    | (intro _)
    | split)

theorem kept_execCheckerSyncGain (lane : LaneNo) (symbols : List (Fin 4)) (s : State) (t : State) (h : execCheckerSyncGain lane symbols s = .next t) : Keeps 0x80002009038800800000 s t := by
  unfold execCheckerSyncGain at h
  cases h
  try dsimp only
  repeat' (first
    | with_reducible exact Keeps.refl _
    | with_reducible apply Keeps.via (kept_testReceive ..) (by decide)
    | with_reducible apply keeps_ite
    | (intro _)
    | split)

theorem kept_execCheckerSyncLoss (lane : LaneNo) (symbols : List (Fin 4)) (s : State) (t : State) (h : execCheckerSyncLoss lane symbols s = .next t) : Keeps 0x80002009038800800000 s t := by
  unfold execCheckerSyncLoss at h
  cases h
  try dsimp only
  repeat' (first
    | with_reducible exact Keeps.refl _
    | with_reducible apply Keeps.via (kept_testReceive ..) (by decide)
    | with_reducible apply keeps_ite
    | (intro _)
    | split)

theorem kept_testTick (s : State) (l : Nat) : Keeps 0x80002009038800800000 s (State.testTick s l) := by
  unfold State.testTick
  try dsimp only
  repeat' (first
    | with_reducible exact Keeps.refl _
    | with_reducible apply keeps_when_on
    | with_reducible apply Keeps.via (kept_sendSymbols ..) (by decide)
    | with_reducible apply Keeps.via (kept_setLane ..) (by decide)
    | with_reducible apply Keeps.via (kept_check ..) (by decide)
    | with_reducible apply keeps_ite
    | (intro _)
    | split)

theorem kept_tick (s : State) : Keeps 0x480002009138800800000 s (State.tick s) := by
  unfold State.tick
  try dsimp only
  repeat' (first
    | with_reducible exact Keeps.refl _
    | with_reducible apply keeps_each_on
    | with_reducible apply Keeps.via (kept_lineTick ..) (by decide)
    | with_reducible apply Keeps.via (kept_testTick ..) (by decide)
    | with_reducible apply keeps_ite
    | (intro _)
    | split
    | with_reducible apply keeps_with_clk (by decide))

end Sys2Proof.Machine
end

