-- ==== Sys2Proof/Laws/KeptMemory.lean ====
section
/-!
SUPPORT. What the operations of Memory.lean keep.
-/
namespace Sys2Proof.Machine

theorem kept_setChan (s : State) (c : Nat) (r : ChanRt) : Keeps 0x20000002000000 s (State.setChan s c r) := by
  unfold State.setChan
  try dsimp only
  repeat' (first
    | with_reducible exact Keeps.refl _
    | with_reducible apply keeps_setFld_in 25 (by decide) (by first | exact in_pg2 (pg_25 _) (by first | decide | assumption | exact off_le (Nat.mod_lt _ (by decide)) (by first | assumption | decide) | exact off_le (by assumption) (by decide) | exact off_le (List.mem_range.mp (by assumption)) (by decide) | exact all_off (by assumption) (by decide) | (unfold upFld; split <;> decide)) | exact in_pg (pg_25 _) (by decide))
    | with_reducible apply keeps_ite
    | (intro _)
    | split
    | with_reducible apply keeps_with_chans (by decide))

theorem kept_markChan (s : State) (c act : Nat) : Keeps 0x2000000 s (State.markChan s c act) := by
  unfold State.markChan
  try dsimp only
  repeat' (first
    | with_reducible exact Keeps.refl _
    | with_reducible apply keeps_setFld_in 25 (by decide) (by first | exact in_pg2 (pg_25 _) (by first | decide | assumption | exact off_le (Nat.mod_lt _ (by decide)) (by first | assumption | decide) | exact off_le (by assumption) (by decide) | exact off_le (List.mem_range.mp (by assumption)) (by decide) | exact all_off (by assumption) (by decide) | (unfold upFld; split <;> decide)) | exact in_pg (pg_25 _) (by decide))
    | with_reducible apply keeps_setCond_in 25 (by decide) (by first | exact in_pg2 (pg_25 _) (by first | decide | assumption | exact off_le (Nat.mod_lt _ (by decide)) (by first | assumption | decide) | exact off_le (by assumption) (by decide) | exact off_le (List.mem_range.mp (by assumption)) (by decide) | exact all_off (by assumption) (by decide) | (unfold upFld; split <;> decide)) | exact in_pg (pg_25 _) (by decide))
    | with_reducible apply keeps_when_on
    | with_reducible apply keeps_ite
    | (intro _)
    | split)

theorem kept_bootErr (s : State) (e : Nat) : Keeps 0x1 s (State.bootErr s e) := by
  unfold State.bootErr
  try dsimp only
  repeat' (first
    | with_reducible exact Keeps.refl _
    | with_reducible apply keeps_setFld_in 0 (by decide) (by unfold inSpan; first | decide | (split <;> decide) | ((first | unfold driveFld | unfold errFld); split <;> decide))
    | with_reducible apply keeps_setCond_in 0 (by decide) (by unfold inSpan; first | decide | (split <;> decide) | ((first | unfold driveFld | unfold errFld); split <;> decide))
    | with_reducible apply keeps_ite
    | (intro _)
    | split)

theorem kept_bar2Write (s : State) (a : Nat) (bs : List Byte) : Keeps 0x8204000000 s (State.bar2Write s a bs) := by
  unfold State.bar2Write
  try dsimp only
  repeat' (first
    | with_reducible exact Keeps.refl _
    | with_reducible apply keeps_inc_in 26 (by decide) (by unfold inSpan; first | decide | (split <;> decide) | ((first | unfold driveFld | unfold errFld); split <;> decide))
    | with_reducible apply Keeps.via (kept_poke ..) (by decide)
    | with_reducible apply keeps_ite
    | (intro _)
    | split)

theorem kept_bar2Read (s : State) (a n : Nat) : Keeps 0x804000000 s (State.bar2Read s a n) := by
  unfold State.bar2Read
  try dsimp only
  repeat' (first
    | with_reducible exact Keeps.refl _
    | with_reducible apply keeps_inc_in 26 (by decide) (by unfold inSpan; first | decide | (split <;> decide) | ((first | unfold driveFld | unfold errFld); split <;> decide))
    | with_reducible apply Keeps.via (kept_emit ..) (by decide)
    | with_reducible apply keeps_ite
    | (intro _)
    | split)

theorem kept_bar2Do (s : State) (q : Bar2Req) : Keeps 0x8a04000000 s (State.bar2Do s q) := by
  unfold State.bar2Do
  try dsimp only
  repeat' (first
    | with_reducible exact Keeps.refl _
    | with_reducible apply Keeps.via (kept_bar2Write ..) (by decide)
    | with_reducible apply Keeps.via (kept_bar2Read ..) (by decide)
    | with_reducible apply keeps_ite
    | (intro _)
    | split)

theorem kept_bar2Take (s : State) (q : Bar2Req) : Keeps 0x2000000000008a04000000 s (State.bar2Take s q) := by
  unfold State.bar2Take
  try dsimp only
  repeat' (first
    | with_reducible exact Keeps.refl _
    | with_reducible apply Keeps.via (kept_bar2Do ..) (by decide)
    | with_reducible apply keeps_ite
    | (intro _)
    | split
    | with_reducible apply keeps_with_bar2Held (by decide))

theorem kept_bar2Release (s : State) : Keeps 0x2000000000008a04000000 s (State.bar2Release s) := by
  unfold State.bar2Release
  try dsimp only
  repeat' (first
    | with_reducible exact Keeps.refl _
    | with_reducible apply keeps_each_on
    | with_reducible apply Keeps.via (kept_bar2Do ..) (by decide)
    | with_reducible apply keeps_ite
    | (intro _)
    | split
    | with_reducible apply keeps_with_bar2Held (by decide))

theorem kept_memFail (s : State) : Keeps 0x2000000000008a05000001 s (State.memFail s) := by
  unfold State.memFail
  try dsimp only
  repeat' (first
    | with_reducible exact Keeps.refl _
    | with_reducible apply keeps_setFld_in 0 (by decide) (by unfold inSpan; first | decide | (split <;> decide) | ((first | unfold driveFld | unfold errFld); split <;> decide))
    | with_reducible apply keeps_setCond_in 24 (by decide) (by unfold inSpan; first | decide | (split <;> decide) | ((first | unfold driveFld | unfold errFld); split <;> decide))
    | with_reducible apply keeps_setCond_in 0 (by decide) (by unfold inSpan; first | decide | (split <;> decide) | ((first | unfold driveFld | unfold errFld); split <;> decide))
    | with_reducible apply keeps_setFld_in 24 (by decide) (by unfold inSpan; first | decide | (split <;> decide) | ((first | unfold driveFld | unfold errFld); split <;> decide))
    | with_reducible apply Keeps.via (kept_bar2Release ..) (by decide)
    | with_reducible apply keeps_ite
    | (intro _)
    | split)

theorem kept_restChan (s : State) (c : Nat) : Keeps 0x30000002000000 s (State.restChan s c) := by
  unfold State.restChan
  try dsimp only
  repeat' (first
    | with_reducible exact Keeps.refl _
    | with_reducible apply keeps_setFld_in 25 (by decide) (by first | exact in_pg2 (pg_25 _) (by first | decide | assumption | exact off_le (Nat.mod_lt _ (by decide)) (by first | assumption | decide) | exact off_le (by assumption) (by decide) | exact off_le (List.mem_range.mp (by assumption)) (by decide) | exact all_off (by assumption) (by decide) | (unfold upFld; split <;> decide)) | exact in_pg (pg_25 _) (by decide))
    | with_reducible apply Keeps.via (kept_setChan ..) (by decide)
    | with_reducible apply keeps_ite
    | (intro _)
    | split
    | with_reducible apply keeps_with_busy (by decide))

theorem kept_trainChannel (s : State) (c : Nat) (failed : Bool) (t : ChanTrim) : Keeps 0x30000002000000 s (State.trainChannel s c failed t) := by
  unfold State.trainChannel
  try dsimp only
  repeat' (first
    | with_reducible exact Keeps.refl _
    | with_reducible apply keeps_setFld_in 25 (by decide) (by first | exact in_pg2 (pg_25 _) (by first | decide | assumption | exact off_le (Nat.mod_lt _ (by decide)) (by first | assumption | decide) | exact off_le (by assumption) (by decide) | exact off_le (List.mem_range.mp (by assumption)) (by decide) | exact all_off (by assumption) (by decide) | (unfold upFld; split <;> decide)) | exact in_pg (pg_25 _) (by decide))
    | with_reducible apply keeps_setCond_in 25 (by decide) (by first | exact in_pg2 (pg_25 _) (by first | decide | assumption | exact off_le (Nat.mod_lt _ (by decide)) (by first | assumption | decide) | exact off_le (by assumption) (by decide) | exact off_le (List.mem_range.mp (by assumption)) (by decide) | exact all_off (by assumption) (by decide) | (unfold upFld; split <;> decide)) | exact in_pg (pg_25 _) (by decide))
    | with_reducible apply keeps_setReg_in 25 (by decide) (by first | exact in_pg2 (pg_25 _) (by first | decide | assumption | exact off_le (Nat.mod_lt _ (by decide)) (by first | assumption | decide) | exact off_le (by assumption) (by decide) | exact off_le (List.mem_range.mp (by assumption)) (by decide) | exact all_off (by assumption) (by decide) | (unfold upFld; split <;> decide)) | exact in_pg (pg_25 _) (by decide))
    | with_reducible apply keeps_setS_in 25 (by decide) (by first | exact in_pg2 (pg_25 _) (by first | decide | assumption | exact off_le (Nat.mod_lt _ (by decide)) (by first | assumption | decide) | exact off_le (by assumption) (by decide) | exact off_le (List.mem_range.mp (by assumption)) (by decide) | exact all_off (by assumption) (by decide) | (unfold upFld; split <;> decide)) | exact in_pg (pg_25 _) (by decide))
    | with_reducible apply Keeps.via (kept_restChan ..) (by decide)
    | with_reducible apply Keeps.via (kept_markChan ..) (by decide)
    | with_reducible apply keeps_ite
    | (intro _)
    | split)

theorem kept_loseTop (s : State) : Keeps 0x8600000000 s (State.loseTop s) := by
  unfold State.loseTop
  try dsimp only
  repeat' (first
    | with_reducible exact Keeps.refl _
    | with_reducible apply keeps_ite
    | (intro _)
    | split
    | with_reducible apply keeps_with_free_mem (by decide))

theorem kept_trainingEnds (s : State) (fail : BitVec 32) (trims : List ChanTrim) : Keeps 0x3000000030008e07000001 s (State.trainingEnds s fail trims) := by
  unfold State.trainingEnds
  try dsimp only
  repeat' (first
    | with_reducible exact Keeps.refl _
    | with_reducible apply keeps_setFld_in 24 (by decide) (by unfold inSpan; first | decide | (split <;> decide) | ((first | unfold driveFld | unfold errFld); split <;> decide))
    | with_reducible apply keeps_setFld_in 0 (by decide) (by unfold inSpan; first | decide | (split <;> decide) | ((first | unfold driveFld | unfold errFld); split <;> decide))
    | with_reducible apply keeps_setCond_in 24 (by decide) (by unfold inSpan; first | decide | (split <;> decide) | ((first | unfold driveFld | unfold errFld); split <;> decide))
    | with_reducible apply keeps_each_on
    | with_reducible apply Keeps.via (kept_trainChannel ..) (by decide)
    | with_reducible apply Keeps.via (kept_loseTop ..) (by decide)
    | with_reducible apply Keeps.via (kept_bar2Release ..) (by decide)
    | with_reducible apply keeps_when_on
    | with_reducible apply Keeps.via (kept_memFail ..) (by decide)
    | with_reducible apply Keeps.via (kept_bootErr ..) (by decide)
    | with_reducible apply keeps_ite
    | (intro _)
    | split
    | with_reducible apply keeps_with_rateTo (by decide))

theorem kept_trainingStarts (s : State) : Keeps 0x30000003000000 s (State.trainingStarts s) := by
  unfold State.trainingStarts
  try dsimp only
  repeat' (first
    | with_reducible exact Keeps.refl _
    | with_reducible apply keeps_setFld_in 25 (by decide) (by first | exact in_pg2 (pg_25 _) (by first | decide | assumption | exact off_le (Nat.mod_lt _ (by decide)) (by first | assumption | decide) | exact off_le (by assumption) (by decide) | exact off_le (List.mem_range.mp (by assumption)) (by decide) | exact all_off (by assumption) (by decide) | (unfold upFld; split <;> decide)) | exact in_pg (pg_25 _) (by decide))
    | with_reducible apply keeps_setFld_in 24 (by decide) (by unfold inSpan; first | decide | (split <;> decide) | ((first | unfold driveFld | unfold errFld); split <;> decide))
    | with_reducible apply keeps_each_on
    | with_reducible apply Keeps.via (kept_restChan ..) (by decide)
    | with_reducible apply keeps_ite
    | (intro _)
    | split)

theorem kept_retrainMem (s : State) : Keeps 0x30000003000000 s (State.retrainMem s) := by
  unfold State.retrainMem
  try dsimp only
  repeat' (first
    | with_reducible exact Keeps.refl _
    | with_reducible apply Keeps.via (kept_trainingStarts ..) (by decide)
    | with_reducible apply keeps_ite
    | (intro _)
    | split)

theorem kept_execMemRetrainTimer (s : State) (t : State) (h : execMemRetrainTimer s = .next t) : Keeps 0x30000003000000 s t := by
  unfold execMemRetrainTimer at h
  cases h
  try dsimp only
  repeat' (first
    | with_reducible exact Keeps.refl _
    | with_reducible apply Keeps.via (kept_retrainMem ..) (by decide)
    | with_reducible apply keeps_ite
    | (intro _)
    | split)

theorem kept_execMemRetrainDone (fail : BitVec 32) (trims : List ChanTrim) (s : State) (t : State) (h : execMemRetrainDone fail trims s = .next t) : Keeps 0x3080002031038e07000001 s t := by
  unfold execMemRetrainDone at h
  cases h
  try dsimp only
  repeat' (first
    | with_reducible exact Keeps.refl _
    | with_reducible apply Keeps.via (kept_trainingEnds ..) (by decide)
    | with_reducible apply Keeps.via (kept_settle ..) (by decide)
    | with_reducible apply keeps_ite
    | (intro _)
    | split)

theorem kept_execRefreshDue (ch : ChanNo) (bank : Fin 16) (busy : Bool) (s : State) (t : State) (h : execRefreshDue ch bank busy s = .next t) : Keeps 0x20000002000000 s t := by
  unfold execRefreshDue at h
  cases h
  try dsimp only
  repeat' (first
    | with_reducible exact Keeps.refl _
    | with_reducible apply keeps_setFld_in 25 (by decide) (by first | exact in_pg2 (pg_25 _) (by first | decide | assumption | exact off_le (Nat.mod_lt _ (by decide)) (by first | assumption | decide) | exact off_le (by assumption) (by decide) | exact off_le (List.mem_range.mp (by assumption)) (by decide) | exact all_off (by assumption) (by decide) | (unfold upFld; split <;> decide)) | exact in_pg (pg_25 _) (by decide))
    | with_reducible apply Keeps.via (kept_setChan ..) (by decide)
    | with_reducible apply keeps_ite
    | (intro _)
    | split)

theorem kept_refreshAll (s : State) : Keeps 0x20000002000000 s (State.refreshAll s) := by
  unfold State.refreshAll
  try dsimp only
  repeat' (first
    | with_reducible exact Keeps.refl _
    | with_reducible apply keeps_each_on
    | with_reducible apply Keeps.via (kept_setChan ..) (by decide)
    | with_reducible apply keeps_ite
    | (intro _)
    | split)

theorem kept_execForcedRefresh (ch : ChanNo) (bank : Fin 16) (s : State) (t : State) (h : execForcedRefresh ch bank s = .next t) : Keeps 0x80002021038803000000 s t := by
  unfold execForcedRefresh at h
  cases h
  try dsimp only
  repeat' (first
    | with_reducible exact Keeps.refl _
    | with_reducible apply keeps_inc_in 24 (by decide) (by unfold inSpan; first | decide | (split <;> decide) | ((first | unfold driveFld | unfold errFld); split <;> decide))
    | with_reducible apply kept_raise_in 24 (by decide) (by decide) (by unfold inSpan; decide)
    | with_reducible apply Keeps.via (kept_setChan ..) (by decide)
    | with_reducible apply keeps_ite
    | (intro _)
    | split)

theorem kept_execEdcMismatch (ch : ChanNo) (write : Bool) (again : Fin 4) (s : State) (t : State) (h : execEdcMismatch ch write again s = .next t) : Keeps 0x80002001038802000000 s t := by
  unfold execEdcMismatch at h
  cases h
  try dsimp only
  repeat' (first
    | with_reducible exact Keeps.refl _
    | with_reducible apply keeps_inc_in 25 (by decide) (by first | exact in_pg2 (pg_25 _) (by first | decide | assumption | exact off_le (Nat.mod_lt _ (by decide)) (by first | assumption | decide) | exact off_le (by assumption) (by decide) | exact off_le (List.mem_range.mp (by assumption)) (by decide) | exact all_off (by assumption) (by decide) | (unfold upFld; split <;> decide)) | exact in_pg (pg_25 _) (by decide))
    | with_reducible apply kept_raise_in 25 (by decide) (by decide) (by first | exact in_pg2 (pg_25 _) (by first | decide | assumption | exact off_le (Nat.mod_lt _ (by decide)) (by first | assumption | decide) | exact off_le (by assumption) (by decide) | exact off_le (List.mem_range.mp (by assumption)) (by decide) | exact all_off (by assumption) (by decide) | (unfold upFld; split <;> decide)) | exact in_pg (pg_25 _) (by decide))
    | with_reducible apply keeps_ite
    | (intro _)
    | split)

theorem kept_execMemUnderrun (x_group : Fin 7) (x_flow : Option FlowNo) (s : State) (t : State) (h : execMemUnderrun x_group x_flow s = .next t) : Keeps 0x80002001038801000000 s t := by
  unfold execMemUnderrun at h
  cases h
  try dsimp only
  repeat' (first
    | with_reducible exact Keeps.refl _
    | with_reducible apply keeps_inc_in 24 (by decide) (by unfold inSpan; first | decide | (split <;> decide) | ((first | unfold driveFld | unfold errFld); split <;> decide))
    | with_reducible apply kept_raise_in 24 (by decide) (by decide) (by unfold inSpan; decide)
    | with_reducible apply keeps_ite
    | (intro _)
    | split)

theorem kept_execPanicEntry (port : Fin 30) (level : Nat) (s : State) (t : State) (h : execPanicEntry port level s = .next t) : Keeps 0x8000000000001000000 s t := by
  unfold execPanicEntry at h
  cases h
  try dsimp only
  repeat' (first
    | with_reducible exact Keeps.refl _
    | with_reducible apply keeps_inc_in 24 (by decide) (by unfold inSpan; first | decide | (split <;> decide) | ((first | unfold driveFld | unfold errFld); split <;> decide))
    | with_reducible apply keeps_ite
    | (intro _)
    | split
    | with_reducible apply keeps_with_panic (by decide))

theorem kept_execPanicExit (port : Fin 30) (level : Nat) (s : State) (t : State) (h : execPanicExit port level s = .next t) : Keeps 0x8000000000000000000 s t := by
  unfold execPanicExit at h
  cases h
  try dsimp only
  repeat' (first
    | with_reducible exact Keeps.refl _
    | with_reducible apply keeps_ite
    | (intro _)
    | split
    | with_reducible apply keeps_with_panic (by decide))

theorem in_mcTrim (c : Nat) (t : MemStep) : inSpan 25 (mcTrim c t) := by
  unfold mcTrim
  exact in_pg2 (pg_25 _) (by have := t.byteLane.isLt; omega)

theorem kept_setMemCode (s : State) (c : Nat) (t : MemStep) (v : Nat) : Keeps 0x2000000 s (State.setMemCode s c t v) := by
  unfold State.setMemCode
  try dsimp only
  repeat' (first
    | with_reducible exact Keeps.refl _
    | with_reducible apply keeps_setReg_in 25 (by decide) (by first | exact in_pg2 (pg_25 _) (by first | decide | assumption | exact off_le (Nat.mod_lt _ (by decide)) (by first | assumption | decide) | exact off_le (by assumption) (by decide) | exact off_le (List.mem_range.mp (by assumption)) (by decide) | exact all_off (by assumption) (by decide) | (unfold upFld; split <;> decide)) | exact in_pg (pg_25 _) (by decide) | exact in_mcTrim ..)
    | with_reducible apply keeps_ite
    | (intro _)
    | split)

theorem kept_moveMem (s : State) (c : Nat) (ts : List MemStep) : Keeps 0x20000002000000 s (State.moveMem s c ts) := by
  unfold State.moveMem
  try dsimp only
  repeat' (first
    | with_reducible exact Keeps.refl _
    | with_reducible apply keeps_each_on
    | with_reducible apply Keeps.via (kept_setMemCode ..) (by decide)
    | with_reducible apply Keeps.via (kept_setChan ..) (by decide)
    | with_reducible apply keeps_ite
    | (intro _)
    | split)

theorem kept_chanWindows (s : State) (c : Nat) (ws : List (Nat × Nat)) : Keeps 0x10000002000000 s (State.chanWindows s c ws) := by
  unfold State.chanWindows
  try dsimp only
  repeat' (first
    | with_reducible exact Keeps.refl _
    | with_reducible apply keeps_foldl_on
    | with_reducible apply keeps_fold_pair
    | with_reducible apply keeps_setFld_in 25 (by decide) (by first | exact in_pg2 (pg_25 _) (by first | decide | assumption | exact off_le (Nat.mod_lt _ (by decide)) (by first | assumption | decide) | exact off_le (by assumption) (by decide) | exact off_le (List.mem_range.mp (by assumption)) (by decide) | exact all_off (by assumption) (by decide) | (unfold upFld; split <;> decide)) | exact in_pg (pg_25 _) (by decide))
    | with_reducible apply keeps_ite
    | (intro _)
    | split
    | with_reducible apply keeps_with_busy (by decide))

theorem kept_memTrackMeta (s : State) (c act : Nat) : Keeps 0x2000000 s (State.memTrackMeta s c act) := by
  unfold State.memTrackMeta
  try dsimp only
  repeat' (first
    | with_reducible exact Keeps.refl _
    | with_reducible apply keeps_setS_in 25 (by decide) (by first | exact in_pg2 (pg_25 _) (by first | decide | assumption | exact off_le (Nat.mod_lt _ (by decide)) (by first | assumption | decide) | exact off_le (by assumption) (by decide) | exact off_le (List.mem_range.mp (by assumption)) (by decide) | exact all_off (by assumption) (by decide) | (unfold upFld; split <;> decide)) | exact in_pg (pg_25 _) (by decide))
    | with_reducible apply keeps_setFld_in 25 (by decide) (by first | exact in_pg2 (pg_25 _) (by first | decide | assumption | exact off_le (Nat.mod_lt _ (by decide)) (by first | assumption | decide) | exact off_le (by assumption) (by decide) | exact off_le (List.mem_range.mp (by assumption)) (by decide) | exact all_off (by assumption) (by decide) | (unfold upFld; split <;> decide)) | exact in_pg (pg_25 _) (by decide))
    | with_reducible apply Keeps.via (kept_markChan ..) (by decide)
    | with_reducible apply keeps_ite
    | (intro _)
    | split)

theorem kept_memTrackStep (s : State) (c : Nat) (steps : List MemStep) (ws : List (Nat × Nat)) : Keeps 0x30000002000000 s (State.memTrackStep s c steps ws) := by
  unfold State.memTrackStep
  try dsimp only
  repeat' (first
    | with_reducible exact Keeps.refl _
    | with_reducible apply Keeps.via (kept_chanWindows ..) (by decide)
    | with_reducible apply Keeps.via (kept_setChan ..) (by decide)
    | with_reducible apply Keeps.via (kept_memTrackMeta ..) (by decide)
    | with_reducible apply keeps_ite
    | (intro _)
    | split)

theorem kept_execMemTrack (ch : ChanNo) (steps : List MemStep) (windows : List (Nat × Nat)) (s : State) (t : State) (h : execMemTrack ch steps windows s = .next t) : Keeps 0x80002031038802000000 s t := by
  unfold execMemTrack at h
  cases h
  try dsimp only
  repeat' (first
    | with_reducible exact Keeps.refl _
    | with_reducible apply Keeps.via (kept_memTrackStep ..) (by decide)
    | with_reducible apply Keeps.via (kept_settle ..) (by decide)
    | with_reducible apply keeps_ite
    | (intro _)
    | split)

theorem kept_memRegatherDone (s : State) (c : Nat) : Keeps 0x20000002000000 s (State.memRegatherDone s c) := by
  unfold State.memRegatherDone
  try dsimp only
  repeat' (first
    | with_reducible exact Keeps.refl _
    | with_reducible apply keeps_setFld_in 25 (by decide) (by first | exact in_pg2 (pg_25 _) (by first | decide | assumption | exact off_le (Nat.mod_lt _ (by decide)) (by first | assumption | decide) | exact off_le (by assumption) (by decide) | exact off_le (List.mem_range.mp (by assumption)) (by decide) | exact all_off (by assumption) (by decide) | (unfold upFld; split <;> decide)) | exact in_pg (pg_25 _) (by decide))
    | with_reducible apply keeps_setCond_in 25 (by decide) (by first | exact in_pg2 (pg_25 _) (by first | decide | assumption | exact off_le (Nat.mod_lt _ (by decide)) (by first | assumption | decide) | exact off_le (by assumption) (by decide) | exact off_le (List.mem_range.mp (by assumption)) (by decide) | exact all_off (by assumption) (by decide) | (unfold upFld; split <;> decide)) | exact in_pg (pg_25 _) (by decide))
    | with_reducible apply Keeps.via (kept_setChan ..) (by decide)
    | with_reducible apply keeps_ite
    | (intro _)
    | split)

theorem kept_execMemIdleWindow (ch : ChanNo) (s : State) (t : State) (h : execMemIdleWindow ch s = .next t) : Keeps 0x80002021038802000000 s t := by
  unfold execMemIdleWindow at h
  cases h
  try dsimp only
  repeat' (first
    | with_reducible exact Keeps.refl _
    | with_reducible apply Keeps.via (kept_setChan ..) (by decide)
    | with_reducible apply Keeps.via (kept_moveMem ..) (by decide)
    | with_reducible apply Keeps.via (kept_memRegatherDone ..) (by decide)
    | with_reducible apply Keeps.via (kept_settle ..) (by decide)
    | with_reducible apply keeps_ite
    | (intro _)
    | split)

theorem kept_execMemTrimDrop (ch : ChanNo) (s : State) (t : State) (h : execMemTrimDrop ch s = .next t) : Keeps 0x20000002000000 s t := by
  unfold execMemTrimDrop at h
  cases h
  try dsimp only
  repeat' (first
    | with_reducible exact Keeps.refl _
    | with_reducible apply keeps_inc_in 25 (by decide) (by first | exact in_pg2 (pg_25 _) (by first | decide | assumption | exact off_le (Nat.mod_lt _ (by decide)) (by first | assumption | decide) | exact off_le (by assumption) (by decide) | exact off_le (List.mem_range.mp (by assumption)) (by decide) | exact all_off (by assumption) (by decide) | (unfold upFld; split <;> decide)) | exact in_pg (pg_25 _) (by decide))
    | with_reducible apply Keeps.via (kept_setChan ..) (by decide)
    | with_reducible apply keeps_ite
    | (intro _)
    | split)

theorem kept_memRevert (s : State) (c : Nat) : Keeps 0x20000002000000 s (State.memRevert s c) := by
  unfold State.memRevert
  try dsimp only
  repeat' (first
    | with_reducible exact Keeps.refl _
    | with_reducible apply keeps_inc_in 25 (by decide) (by first | exact in_pg2 (pg_25 _) (by first | decide | assumption | exact off_le (Nat.mod_lt _ (by decide)) (by first | assumption | decide) | exact off_le (by assumption) (by decide) | exact off_le (List.mem_range.mp (by assumption)) (by decide) | exact all_off (by assumption) (by decide) | (unfold upFld; split <;> decide)) | exact in_pg (pg_25 _) (by decide))
    | with_reducible apply keeps_setCond_in 25 (by decide) (by first | exact in_pg2 (pg_25 _) (by first | decide | assumption | exact off_le (Nat.mod_lt _ (by decide)) (by first | assumption | decide) | exact off_le (by assumption) (by decide) | exact off_le (List.mem_range.mp (by assumption)) (by decide) | exact all_off (by assumption) (by decide) | (unfold upFld; split <;> decide)) | exact in_pg (pg_25 _) (by decide))
    | with_reducible apply keeps_each_on
    | with_reducible apply Keeps.via (kept_setMemCode ..) (by decide)
    | with_reducible apply Keeps.via (kept_setChan ..) (by decide)
    | with_reducible apply keeps_ite
    | (intro _)
    | split)

theorem kept_execMemTrimRevert (ch : ChanNo) (before after : Nat) (s : State) (t : State) (h : execMemTrimRevert ch before after s = .next t) : Keeps 0x80002021038802000000 s t := by
  unfold execMemTrimRevert at h
  cases h
  try dsimp only
  repeat' (first
    | with_reducible exact Keeps.refl _
    | with_reducible apply Keeps.via (kept_memRevert ..) (by decide)
    | with_reducible apply Keeps.via (kept_settle ..) (by decide)
    | with_reducible apply keeps_ite
    | (intro _)
    | split)

theorem kept_execMemRegatherStart (ch : ChanNo) (s : State) (t : State) (h : execMemRegatherStart ch s = .next t) : Keeps 0x20000002000000 s t := by
  unfold execMemRegatherStart at h
  cases h
  try dsimp only
  repeat' (first
    | with_reducible exact Keeps.refl _
    | with_reducible apply Keeps.via (kept_setChan ..) (by decide)
    | with_reducible apply keeps_ite
    | (intro _)
    | split)

theorem kept_execMemRegatherGatherEnd (ch : ChanNo) (targets : List MemStep) (windows : List (Nat × Nat)) (s : State) (t : State) (h : execMemRegatherGatherEnd ch targets windows s = .next t) : Keeps 0x80002021038802000000 s t := by
  unfold execMemRegatherGatherEnd at h
  cases h
  try dsimp only
  repeat' (first
    | with_reducible exact Keeps.refl _
    | with_reducible apply keeps_setS_in 25 (by decide) (by first | exact in_pg2 (pg_25 _) (by first | decide | assumption | exact off_le (Nat.mod_lt _ (by decide)) (by first | assumption | decide) | exact off_le (by assumption) (by decide) | exact off_le (List.mem_range.mp (by assumption)) (by decide) | exact all_off (by assumption) (by decide) | (unfold upFld; split <;> decide)) | exact in_pg (pg_25 _) (by decide))
    | with_reducible apply Keeps.via (kept_setChan ..) (by decide)
    | with_reducible apply Keeps.via (kept_memRegatherDone ..) (by decide)
    | with_reducible apply Keeps.via (kept_settle ..) (by decide)
    | with_reducible apply keeps_ite
    | (intro _)
    | split)

theorem kept_rateAtCompose (s : State) : Keeps 0x1000000 s (State.rateAtCompose s).1 := by
  unfold State.rateAtCompose
  try dsimp only
  repeat' (first
    | with_reducible exact Keeps.refl _
    | with_reducible apply keeps_setFld_in 24 (by decide) (by unfold inSpan; first | decide | (split <;> decide) | ((first | unfold driveFld | unfold errFld); split <;> decide))
    | with_reducible apply keeps_ite
    | (intro _)
    | split)

theorem kept_pauseChan (s : State) (c : Nat) : Keeps 0x30000002000000 s (State.pauseChan s c) := by
  unfold State.pauseChan
  try dsimp only
  repeat' (first
    | with_reducible exact Keeps.refl _
    | with_reducible apply keeps_setFld_in 25 (by decide) (by first | exact in_pg2 (pg_25 _) (by first | decide | assumption | exact off_le (Nat.mod_lt _ (by decide)) (by first | assumption | decide) | exact off_le (by assumption) (by decide) | exact off_le (List.mem_range.mp (by assumption)) (by decide) | exact all_off (by assumption) (by decide) | (unfold upFld; split <;> decide)) | exact in_pg (pg_25 _) (by decide))
    | with_reducible apply Keeps.via (kept_setChan ..) (by decide)
    | with_reducible apply Keeps.via (kept_restChan ..) (by decide)
    | with_reducible apply keeps_ite
    | (intro _)
    | split)

theorem kept_execRateChangeBegin (s : State) (t : State) (h : execRateChangeBegin s = .next t) : Keeps 0x1010000030000003000000 s t := by
  unfold execRateChangeBegin at h
  cases h
  try dsimp only
  repeat' (first
    | with_reducible exact Keeps.refl _
    | with_reducible apply keeps_setFld_in 24 (by decide) (by unfold inSpan; first | decide | (split <;> decide) | ((first | unfold driveFld | unfold errFld); split <;> decide))
    | with_reducible apply keeps_each_on
    | with_reducible apply Keeps.via (kept_pauseChan ..) (by decide)
    | with_reducible apply keeps_ite
    | (intro _)
    | split
    | with_reducible apply keeps_with_rateTo_rateWait (by decide))

theorem kept_execRateChangeEnd (us : Word) (fail : BitVec 32) (trims : List ChanTrim) (s : State) (t : State) (h : execRateChangeEnd us fail trims s = .next t) : Keeps 0x3080002031038e07000001 s t := by
  unfold execRateChangeEnd at h
  cases h
  try dsimp only
  repeat' (first
    | with_reducible exact Keeps.refl _
    | with_reducible apply keeps_setFld_in 24 (by decide) (by unfold inSpan; first | decide | (split <;> decide) | ((first | unfold driveFld | unfold errFld); split <;> decide))
    | with_reducible apply keeps_inc_in 24 (by decide) (by unfold inSpan; first | decide | (split <;> decide) | ((first | unfold driveFld | unfold errFld); split <;> decide))
    | with_reducible apply keeps_setCond_in 24 (by decide) (by unfold inSpan; first | decide | (split <;> decide) | ((first | unfold driveFld | unfold errFld); split <;> decide))
    | with_reducible apply Keeps.via (kept_trainingEnds ..) (by decide)
    | with_reducible apply Keeps.via (kept_settle ..) (by decide)
    | with_reducible apply keeps_ite
    | (intro _)
    | split)

end Sys2Proof.Machine
end

