-- ==== Sys2Proof/Laws/KeptTiles.lean ====
section
/-!
SUPPORT. What the operations of Tiles.lean keep.
-/
namespace Sys2Proof.Machine

theorem zip_lt {s : State} {e : (Int × Bool) × Nat} (h : e ∈ s.dieReadings.zipIdx) : e.2 < 24 := by
  have := List.snd_lt_of_mem_zipIdx h
  simpa [State.dieReadings] using this

theorem kept_showDie (s : State) : Keeps 0x4 s (State.showDie s) := by
  unfold State.showDie
  try dsimp only
  repeat' (first
    | with_reducible exact Keeps.refl _
    | with_reducible apply keeps_setS_ix 2 24 (by decide) (by decide) (by decide) (by first | assumption | omega | exact Fin.isLt _ | exact List.mem_range.mp (by assumption) | exact lifeBand_lt _ | exact zip_lt (by assumption)) (by decide)
    | with_reducible apply keeps_setFld_ix 2 24 (by decide) (by decide) (by decide) (by first | assumption | omega | exact Fin.isLt _ | exact List.mem_range.mp (by assumption) | exact lifeBand_lt _ | exact zip_lt (by assumption)) (by decide)
    | with_reducible apply keeps_setS_in 2 (by decide) (by unfold inSpan; first | decide | (split <;> decide) | ((first | unfold driveFld | unfold errFld); split <;> decide))
    | with_reducible apply keeps_setFld_in 2 (by decide) (by unfold inSpan; first | decide | (split <;> decide) | ((first | unfold driveFld | unfold errFld); split <;> decide))
    | with_reducible apply keeps_each_mem
    | with_reducible apply keeps_ite
    | (intro _)
    | split)

theorem kept_convert (s : State) (k : Nat) (error : Bool) (r : Int) : Keeps 0x80000000000004 s (State.convert s k error r) := by
  unfold State.convert
  try dsimp only
  repeat' (first
    | with_reducible exact Keeps.refl _
    | with_reducible apply keeps_setCond_in 2 (by decide) (by unfold inSpan; first | decide | (split <;> decide) | ((first | unfold driveFld | unfold errFld); split <;> decide))
    | with_reducible apply Keeps.via (kept_setHouse ..) (by decide)
    | with_reducible apply Keeps.via (kept_showDie ..) (by decide)
    | with_reducible apply keeps_when_on
    | with_reducible apply keeps_ite
    | (intro _)
    | split)

theorem kept_checkShut (s : State) : Keeps 0x200000000000 s (State.checkShut s) := by
  unfold State.checkShut
  try dsimp only
  repeat' (first
    | with_reducible exact Keeps.refl _
    | with_reducible apply keeps_ite
    | (intro _)
    | split
    | with_reducible apply keeps_with_pow (by decide))

theorem kept_execDieSensorConversion (k : Fin 24) (error : Bool) (reading : BitVec 16) (s : State) (t : State) (h : execDieSensorConversion k error reading s = .next t) : Keeps 0x80002081238800000004 s t := by
  unfold execDieSensorConversion at h
  cases h
  try dsimp only
  repeat' (first
    | with_reducible exact Keeps.refl _
    | with_reducible apply Keeps.via (kept_convert ..) (by decide)
    | with_reducible apply Keeps.via (kept_checkShut ..) (by decide)
    | with_reducible apply Keeps.via (kept_settle ..) (by decide)
    | with_reducible apply keeps_ite
    | (intro _)
    | split)

theorem kept_holdFor (s : State) (z : Nat) : Keeps 0x80000000000000 s (State.holdFor s z) := by
  unfold State.holdFor
  try dsimp only
  repeat' (first
    | with_reducible exact Keeps.refl _
    | with_reducible apply Keeps.via (kept_setHouse ..) (by decide)
    | with_reducible apply keeps_ite
    | (intro _)
    | split)

theorem kept_dieRound (s : State) : Keeps 0x80000000000004 s (State.dieRound s) := by
  unfold State.dieRound
  try dsimp only
  repeat' (first
    | with_reducible exact Keeps.refl _
    | with_reducible apply keeps_setCond_in 2 (by decide) (by unfold inSpan; first | decide | (split <;> decide) | ((first | unfold driveFld | unfold errFld); split <;> decide))
    | with_reducible apply Keeps.via (kept_setHouse ..) (by decide)
    | with_reducible apply keeps_when_on
    | with_reducible apply Keeps.via (kept_holdFor ..) (by decide)
    | with_reducible apply keeps_ite
    | (intro _)
    | split)

theorem kept_tileAlert (s : State) (t : Nat) (hb0 : t < 4096) : Keeps 0x8 s (State.tileAlert s t) := by
  unfold State.tileAlert
  try dsimp only
  repeat' (first
    | with_reducible exact Keeps.refl _
    | with_reducible apply keeps_setFld_ix 3 128 (by decide) (by decide) (by decide) (by first | assumption | omega | exact Fin.isLt _ | exact List.mem_range.mp (by assumption) | exact lifeBand_lt _ | exact zip_lt (by assumption)) (by decide)
    | with_reducible apply keeps_ite
    | (intro _)
    | split)

theorem kept_missPoll (s : State) (t : Nat) (hb0 : t < 4096) : Keeps 0x80000000000008 s (State.missPoll s t) := by
  unfold State.missPoll
  try dsimp only
  repeat' (first
    | with_reducible exact Keeps.refl _
    | with_reducible apply keeps_inc_in 3 (by decide) (by unfold inSpan; first | decide | (split <;> decide) | ((first | unfold driveFld | unfold errFld); split <;> decide))
    | with_reducible apply keeps_setCond_in 3 (by decide) (by unfold inSpan; first | decide | (split <;> decide) | ((first | unfold driveFld | unfold errFld); split <;> decide))
    | with_reducible apply Keeps.via (kept_setTele ..) (by decide)
    | with_reducible apply keeps_when_on
    | with_reducible apply Keeps.via (kept_tileAlert _ _ (by first | assumption | decide | exact Fin.isLt _ | exact bitsOf_lt64 _ _ | omega | exact List.mem_range.mp (by assumption) | exact presentPos_lt (by assumption) | exact startRecord_len .. | exact presetTrims_len .. | exact take7_len .. | exact take6_len .. | exact ethStart_len .. | exact all_off (by assumption) (by decide))) (by decide)
    | with_reducible apply keeps_ite
    | (intro _)
    | split)

theorem kept_pollTile (s : State) (t : Nat) (hb0 : t < 4096) : Keeps 0xc0000800400008 s (State.pollTile s t) := by
  unfold State.pollTile
  try dsimp only
  repeat' (first
    | with_reducible exact Keeps.refl _
    | with_reducible apply keeps_inc_in 3 (by decide) (by unfold inSpan; first | decide | (split <;> decide) | ((first | unfold driveFld | unfold errFld); split <;> decide))
    | with_reducible apply Keeps.via (kept_missPoll _ _ (by first | assumption | decide | exact Fin.isLt _ | exact bitsOf_lt64 _ _ | omega | exact List.mem_range.mp (by assumption) | exact presentPos_lt (by assumption) | exact startRecord_len .. | exact presetTrims_len .. | exact take7_len .. | exact take6_len .. | exact ethStart_len .. | exact all_off (by assumption) (by decide))) (by decide)
    | with_reducible apply Keeps.via (kept_setTele ..) (by decide)
    | with_reducible apply Keeps.via (kept_sendSys ..) (by decide)
    | with_reducible apply keeps_ite
    | (intro _)
    | split)

theorem listedOn_lt {c : Sparse Word} {b st n t : Nat} (h : t ∈ listedOn c b st n) : t < n := by
  simp only [listedOn, List.mem_filterMap] at h
  obtain ⟨e, _, h⟩ := h
  split at h
  · next hc =>
    cases h
    exact Nat.div_lt_of_lt_mul (by have := hc.2.1; rw [Nat.mul_comm] at this; omega)
  · cases h

theorem kept_pollRound (s₀ : State) : Keeps 0xc0000800400008 s₀ s₀.pollRound := by
  unfold State.pollRound
  dsimp only
  split
  · exact Keeps.refl _
  · refine Keeps.via (kept_setHouse ..) (by decide) (keeps_each_mem (fun s t ht => (kept_pollTile s t ?_).mono (by decide)) (Keeps.refl _))
    have hp : t ∈ s₀.pollable := by
      rcases List.mem_append.mp (List.mem_of_mem_take ht) with h | h <;> exact (List.mem_filter.mp h).1
    exact listedOn_lt (List.mem_filter.mp hp).1

theorem kept_measure (s : State) : Keeps 0x80000000000008 s (State.measure s) := by
  unfold State.measure
  try dsimp only
  repeat' (first
    | with_reducible exact Keeps.refl _
    | with_reducible apply keeps_setFld_in 3 (by decide) (by unfold inSpan; first | decide | (split <;> decide) | ((first | unfold driveFld | unfold errFld); split <;> decide))
    | with_reducible apply keeps_setCond_in 3 (by decide) (by unfold inSpan; first | decide | (split <;> decide) | ((first | unfold driveFld | unfold errFld); split <;> decide))
    | with_reducible apply Keeps.via (kept_setHouse ..) (by decide)
    | with_reducible apply keeps_when_on
    | with_reducible apply keeps_ite
    | (intro _)
    | split)

theorem kept_rails (s : State) (mv : List (BitVec 16)) (out : BitVec 9) : Keeps 0x4 s (State.rails s mv out) := by
  unfold State.rails
  try dsimp only
  repeat' (first
    | with_reducible exact Keeps.refl _
    | with_reducible apply keeps_setFld_ix 2 9 (by decide) (by decide) (by decide) (by first | assumption | omega | exact Fin.isLt _ | exact List.mem_range.mp (by assumption) | exact lifeBand_lt _ | exact zip_lt (by assumption)) (by decide)
    | with_reducible apply keeps_setCond_in 2 (by decide) (by unfold inSpan; first | decide | (split <;> decide) | ((first | unfold driveFld | unfold errFld); split <;> decide))
    | with_reducible apply keeps_each_mem
    | with_reducible apply keeps_when_on
    | with_reducible apply keeps_ite
    | (intro _)
    | split)

theorem kept_execGlimRound (railMv : List (BitVec 16)) (railOut : BitVec 9) (s : State) (t : State) (h : execGlimRound railMv railOut s = .next t) : Keeps 0x800020c103880040000c s t := by
  unfold execGlimRound at h
  cases h
  try dsimp only
  repeat' (first
    | with_reducible exact Keeps.refl _
    | with_reducible apply keeps_setPair_in 3 (by decide) (by unfold inSpan; decide) (by unfold inSpan; decide)
    | with_reducible apply Keeps.via (kept_dieRound ..) (by decide)
    | with_reducible apply Keeps.via (kept_rails ..) (by decide)
    | with_reducible apply Keeps.via (kept_measure ..) (by decide)
    | with_reducible apply Keeps.via (kept_pollRound ..) (by decide)
    | with_reducible apply Keeps.via (kept_settle ..) (by decide)
    | with_reducible apply keeps_ite
    | (intro _)
    | split)

theorem kept_judgeTemps (s : State) (t : Nat) (ts : List (BitVec 16)) (hb0 : t < 4096) : Keeps 0x80000020000008 s (State.judgeTemps s t ts) := by
  unfold State.judgeTemps
  try dsimp only
  repeat' (first
    | with_reducible exact Keeps.refl _
    | with_reducible apply keeps_setCond_in 3 (by decide) (by unfold inSpan; first | decide | (split <;> decide) | ((first | unfold driveFld | unfold errFld); split <;> decide))
    | with_reducible apply keeps_setS_in 29 (by decide) (by first | exact in_pg2 (pg_29 _) (by first | decide | assumption | exact off_le (Nat.mod_lt _ (by decide)) (by first | assumption | decide) | exact off_le (by assumption) (by decide) | exact off_le (List.mem_range.mp (by assumption)) (by decide) | exact all_off (by assumption) (by decide) | (unfold upFld; split <;> decide)) | exact in_pg (pg_29 _) (by decide))
    | with_reducible apply keeps_setFld_in 29 (by decide) (by first | exact in_pg2 (pg_29 _) (by first | decide | assumption | exact off_le (Nat.mod_lt _ (by decide)) (by first | assumption | decide) | exact off_le (by assumption) (by decide) | exact off_le (List.mem_range.mp (by assumption)) (by decide) | exact all_off (by assumption) (by decide) | (unfold upFld; split <;> decide)) | exact in_pg (pg_29 _) (by decide))
    | with_reducible apply keeps_when_on
    | with_reducible apply Keeps.via (kept_tileAlert _ _ (by first | assumption | decide | exact Fin.isLt _ | exact bitsOf_lt64 _ _ | omega | exact List.mem_range.mp (by assumption) | exact presentPos_lt (by assumption) | exact startRecord_len .. | exact presetTrims_len .. | exact take7_len .. | exact take6_len .. | exact ethStart_len .. | exact all_off (by assumption) (by decide))) (by decide)
    | with_reducible apply Keeps.via (kept_setHouse ..) (by decide)
    | with_reducible apply Keeps.via (kept_holdFor ..) (by decide)
    | with_reducible apply Keeps.via (kept_setTele ..) (by decide)
    | with_reducible apply keeps_ite
    | (intro _)
    | split)

theorem kept_stateRecord (s : State) (link t pos pseq : Nat) (temps : List (BitVec 16)) (power : Nat) :
    Keeps 0x80000020000008 s (State.stateRecord s link t pos pseq temps power) := by
  unfold State.stateRecord
  dsimp only
  split
  · next h =>
    have ht : t < 4096 := by
      unfold State.holdsNumber at h
      simp only [Bool.and_eq_true, decide_eq_true_eq] at h
      exact h.1.1.1.1
    exact Keeps.via (kept_judgeTemps _ _ _ ht) (by decide) ((kept_setTele ..).mono (by decide))
  · exact keeps_inc_in 3 (by decide) (by unfold inSpan; decide) (Keeps.refl _)

theorem kept_execStateRecordRx (link : LinkNo) (sec crcOk : Bool) (tile : TileNo) (pos : PosNo) (pseq : Byte) (temps : List (BitVec 16)) (power : BitVec 20) (x_faultPend : BitVec 16) (s : State) (t : State) (h : execStateRecordRx link sec crcOk tile pos pseq temps power x_faultPend s = .next t) : Keeps 0x80002081038820400008 s t := by
  unfold execStateRecordRx at h
  cases h
  try dsimp only
  repeat' (first
    | with_reducible exact Keeps.refl _
    | with_reducible apply keeps_upstream_on (by decide)
    | with_reducible apply Keeps.via (kept_stateRecord ..) (by decide)
    | with_reducible apply keeps_ite
    | (intro _)
    | split)

theorem kept_levelCond (s : State) (p old new a b : Nat) (hp : p = pTherm ∨ p = pHk) : Keeps 0xc s (s.levelCond p old new a b) := by
  have h : ∀ s k, Keeps 0xc s (State.setCond s p k) := by
    intro s k
    rcases hp with rfl | rfl
    · exact keeps_setCond_in 2 (by decide) (by unfold inSpan; decide) (Keeps.refl _)
    · exact keeps_setCond_in 3 (by decide) (by unfold inSpan; decide) (Keeps.refl _)
  unfold State.levelCond
  exact keeps_when_on (fun s => h s b) (keeps_when_on (fun s => h s a) (Keeps.refl _))

theorem kept_zoneStep (s : State) (four : Bool) (z : Nat) : Keeps 0x8000000000000c s (State.zoneStep s four z) := by
  unfold State.zoneStep
  try dsimp only
  repeat' (first
    | with_reducible exact Keeps.refl _
    | with_reducible apply Keeps.via (kept_setHouse ..) (by decide)
    | with_reducible apply Keeps.via (kept_levelCond _ _ _ _ _ _ (by decide)) (by decide)
    | with_reducible apply keeps_ite
    | (intro _)
    | split)

theorem kept_dieStep (s : State) (four : Bool) : Keeps 0x8000000000000c s (State.dieStep s four) := by
  unfold State.dieStep
  try dsimp only
  repeat' (first
    | with_reducible exact Keeps.refl _
    | with_reducible apply keeps_setFld_in 2 (by decide) (by unfold inSpan; first | decide | (split <;> decide) | ((first | unfold driveFld | unfold errFld); split <;> decide))
    | with_reducible apply Keeps.via (kept_setHouse ..) (by decide)
    | with_reducible apply Keeps.via (kept_levelCond _ _ _ _ _ _ (by decide)) (by decide)
    | with_reducible apply keeps_ite
    | (intro _)
    | split)

theorem kept_execThrottleStep (s : State) (t : State) (h : execThrottleStep s = .next t) : Keeps 0x8000208103880000000c s t := by
  unfold execThrottleStep at h
  cases h
  try dsimp only
  repeat' (first
    | with_reducible exact Keeps.refl _
    | with_reducible apply keeps_foldl_on
    | with_reducible apply keeps_fold_pair
    | with_reducible apply keeps_each_on
    | with_reducible apply Keeps.via (kept_zoneStep ..) (by decide)
    | with_reducible apply Keeps.via (kept_dieStep ..) (by decide)
    | with_reducible apply Keeps.via (kept_settle ..) (by decide)
    | with_reducible apply keeps_ite
    | (intro _)
    | split)

theorem kept_execHoldEnd (zone : Option ZoneNo) (s : State) (t : State) (h : execHoldEnd zone s = .next t) : Keeps 0x80000000000000 s t := by
  unfold execHoldEnd at h
  cases h
  try dsimp only
  repeat' (first
    | with_reducible exact Keeps.refl _
    | with_reducible apply Keeps.via (kept_setHouse ..) (by decide)
    | with_reducible apply keeps_ite
    | (intro _)
    | split)

theorem kept_latchZones (s : State) : Keeps 0x40080000040000000 s (State.latchZones s) := by
  unfold State.latchZones
  try dsimp only
  repeat' (first
    | with_reducible exact Keeps.refl _
    | with_reducible apply keeps_setFld_in 30 (by decide) (by first | exact in_pg2 (pg_30 _) (by first | decide | assumption | exact off_le (Nat.mod_lt _ (by decide)) (by first | assumption | decide) | exact off_le (by assumption) (by decide) | exact off_le (List.mem_range.mp (by assumption)) (by decide) | exact all_off (by assumption) (by decide) | (unfold upFld; split <;> decide)) | exact in_pg (pg_30 _) (by decide))
    | with_reducible apply keeps_each_on
    | with_reducible apply Keeps.via (kept_setHouse ..) (by decide)
    | with_reducible apply keeps_ite
    | (intro _)
    | split
    | with_reducible apply keeps_with_corrTouched (by decide))

theorem kept_latchGains (s : State) : Keeps 0x40000000020000000 s (State.latchGains s) := by
  unfold State.latchGains
  try dsimp only
  repeat' (first
    | with_reducible exact Keeps.refl _
    | with_reducible apply keeps_setFld_in 29 (by decide) (by first | exact in_pg2 (pg_29 _) (by first | decide | assumption | exact off_le (Nat.mod_lt _ (by decide)) (by first | assumption | decide) | exact off_le (by assumption) (by decide) | exact off_le (List.mem_range.mp (by assumption)) (by decide) | exact all_off (by assumption) (by decide) | (unfold upFld; split <;> decide)) | exact in_pg (pg_29 _) (by decide))
    | with_reducible apply keeps_each_on
    | with_reducible apply keeps_ite
    | (intro _)
    | split
    | with_reducible apply keeps_with_corrTouched (by decide))

theorem kept_queueLamp (s : State) (t pixel lamp : Nat) : Keeps 0x80000000000008 s (State.queueLamp s t pixel lamp) := by
  unfold State.queueLamp
  try dsimp only
  repeat' (first
    | with_reducible exact Keeps.refl _
    | with_reducible apply keeps_inc_in 3 (by decide) (by unfold inSpan; first | decide | (split <;> decide) | ((first | unfold driveFld | unfold errFld); split <;> decide))
    | with_reducible apply keeps_setCond_in 3 (by decide) (by unfold inSpan; first | decide | (split <;> decide) | ((first | unfold driveFld | unfold errFld); split <;> decide))
    | with_reducible apply Keeps.via (kept_setHouse ..) (by decide)
    | with_reducible apply keeps_ite
    | (intro _)
    | split)

theorem kept_offEntry (s : State) (r lamp : Nat) (off : Bool) : Keeps 0x40080000000000008 s (State.offEntry s r lamp off) := by
  unfold State.offEntry
  try dsimp only
  repeat' (first
    | with_reducible exact Keeps.refl _
    | with_reducible apply keeps_setFld_in 3 (by decide) (by unfold inSpan; first | decide | (split <;> decide) | ((first | unfold driveFld | unfold errFld); split <;> decide))
    | with_reducible apply keeps_setCond_in 3 (by decide) (by unfold inSpan; first | decide | (split <;> decide) | ((first | unfold driveFld | unfold errFld); split <;> decide))
    | with_reducible apply Keeps.via (kept_setHouse ..) (by decide)
    | with_reducible apply keeps_ite
    | (intro _)
    | split
    | with_reducible apply keeps_with_corrTouched (by decide))

theorem kept_setLamp (s : State) (t pixel lamp new : Nat) : Keeps 0x40080008200000008 s (State.setLamp s t pixel lamp new) := by
  unfold State.setLamp
  try dsimp only
  repeat' (first
    | with_reducible exact Keeps.refl _
    | with_reducible apply keeps_setFld_in 3 (by decide) (by unfold inSpan; first | decide | (split <;> decide) | ((first | unfold driveFld | unfold errFld); split <;> decide))
    | with_reducible apply Keeps.via (kept_poke ..) (by decide)
    | with_reducible apply Keeps.via (kept_offEntry ..) (by decide)
    | with_reducible apply Keeps.via (kept_queueLamp ..) (by decide)
    | with_reducible apply keeps_ite
    | (intro _)
    | split)

theorem kept_lampFault (s : State) (t : Nat) : Keeps 0x80000000000008 s (State.lampFault s t) := by
  unfold State.lampFault
  try dsimp only
  repeat' (first
    | with_reducible exact Keeps.refl _
    | with_reducible apply keeps_inc_in 3 (by decide) (by unfold inSpan; first | decide | (split <;> decide) | ((first | unfold driveFld | unfold errFld); split <;> decide))
    | with_reducible apply keeps_setCond_in 3 (by decide) (by unfold inSpan; first | decide | (split <;> decide) | ((first | unfold driveFld | unfold errFld); split <;> decide))
    | with_reducible apply Keeps.via (kept_setHouse ..) (by decide)
    | with_reducible apply keeps_ite
    | (intro _)
    | split)

theorem kept_lampMoves (s : State) (t pixel lamp new : Nat) : Keeps 0x40080008200000008 s (State.lampMoves s t pixel lamp new) := by
  unfold State.lampMoves
  try dsimp only
  repeat' (first
    | with_reducible exact Keeps.refl _
    | with_reducible apply Keeps.via (kept_setLamp ..) (by decide)
    | with_reducible apply Keeps.via (kept_lampFault ..) (by decide)
    | with_reducible apply keeps_ite
    | (intro _)
    | split)

theorem kept_faultEntry (s : State) (t : Nat) (e : FaultEntry) : Keeps 0x40080008200000008 s (State.faultEntry s t e) := by
  unfold State.faultEntry
  try dsimp only
  repeat' (first
    | with_reducible exact Keeps.refl _
    | with_reducible apply keeps_inc_in 3 (by decide) (by unfold inSpan; first | decide | (split <;> decide) | ((first | unfold driveFld | unfold errFld); split <;> decide))
    | with_reducible apply Keeps.via (kept_lampMoves ..) (by decide)
    | with_reducible apply keeps_ite
    | (intro _)
    | split)

theorem kept_faultRecord (s : State) (link t pos fseq : Nat) (es : List FaultEntry) : Keeps 0x40080008200000008 s (State.faultRecord s link t pos fseq es) := by
  unfold State.faultRecord
  try dsimp only
  repeat' (first
    | with_reducible exact Keeps.refl _
    | with_reducible apply Keeps.via (kept_setTele ..) (by decide)
    | with_reducible apply keeps_each_on
    | with_reducible apply Keeps.via (kept_faultEntry ..) (by decide)
    | with_reducible apply keeps_ite
    | (intro _)
    | split)

theorem kept_execFaultRecordRx (link : LinkNo) (sec crcOk : Bool) (tile : TileNo) (pos : PosNo) (fseq : Byte) (entries : List FaultEntry) (s : State) (t : State) (h : execFaultRecordRx link sec crcOk tile pos fseq entries s = .next t) : Keeps 0x80042081038a00400008 s t := by
  unfold execFaultRecordRx at h
  cases h
  try dsimp only
  repeat' (first
    | with_reducible exact Keeps.refl _
    | with_reducible apply keeps_upstream_on (by decide)
    | with_reducible apply Keeps.via (kept_faultRecord ..) (by decide)
    | with_reducible apply keeps_ite
    | (intro _)
    | split)

theorem kept_scanStarts (s : State) : Keeps 0x40080000000000008 s (State.scanStarts s) := by
  unfold State.scanStarts
  try dsimp only
  repeat' (first
    | with_reducible exact Keeps.refl _
    | with_reducible apply keeps_setFld_in 3 (by decide) (by unfold inSpan; first | decide | (split <;> decide) | ((first | unfold driveFld | unfold errFld); split <;> decide))
    | with_reducible apply Keeps.via (kept_setHouse ..) (by decide)
    | with_reducible apply keeps_ite
    | (intro _)
    | split
    | with_reducible apply keeps_with_corrTouched (by decide))

theorem kept_scanLamp (s : State) (r lamp : Nat) : Keeps 0x40080000000000008 s (State.scanLamp s r lamp) := by
  unfold State.scanLamp
  try dsimp only
  repeat' (first
    | with_reducible exact Keeps.refl _
    | with_reducible apply keeps_inc_in 3 (by decide) (by unfold inSpan; first | decide | (split <;> decide) | ((first | unfold driveFld | unfold errFld); split <;> decide))
    | with_reducible apply Keeps.via (kept_offEntry ..) (by decide)
    | with_reducible apply Keeps.via (kept_queueLamp ..) (by decide)
    | with_reducible apply keeps_ite
    | (intro _)
    | split)

theorem kept_execLhScanEnd (s : State) (t : State) (h : execLhScanEnd s = .next t) : Keeps 0x80042081038800000008 s t := by
  unfold execLhScanEnd at h
  cases h
  try dsimp only
  repeat' (first
    | with_reducible exact Keeps.refl _
    | with_reducible apply keeps_setFld_in 3 (by decide) (by unfold inSpan; first | decide | (split <;> decide) | ((first | unfold driveFld | unfold errFld); split <;> decide))
    | with_reducible apply keeps_setCond_in 3 (by decide) (by unfold inSpan; first | decide | (split <;> decide) | ((first | unfold driveFld | unfold errFld); split <;> decide))
    | with_reducible apply keeps_each_on
    | with_reducible apply Keeps.via (kept_scanLamp ..) (by decide)
    | with_reducible apply Keeps.via (kept_settle ..) (by decide)
    | with_reducible apply keeps_ite
    | (intro _)
    | split)

theorem kept_lampCmd (s : State) (w : Nat) : Keeps 0x40080008200000008 s (State.lampCmd s w) := by
  unfold State.lampCmd
  try dsimp only
  repeat' (first
    | with_reducible exact Keeps.refl _
    | with_reducible apply keeps_setReg_in 3 (by decide) (by unfold inSpan; first | decide | (split <;> decide) | ((first | unfold driveFld | unfold errFld); split <;> decide))
    | with_reducible apply keeps_setFld_in 3 (by decide) (by unfold inSpan; first | decide | (split <;> decide) | ((first | unfold driveFld | unfold errFld); split <;> decide))
    | with_reducible apply Keeps.via (kept_setLamp ..) (by decide)
    | with_reducible apply keeps_ite
    | (intro _)
    | split)

theorem kept_diagTile (s : State) (cycle launch slot dur t : Nat) (lamps : List (Nat × Nat)) : Keeps 0xc0000800400000 s (State.diagTile s cycle launch slot dur t lamps) := by
  unfold State.diagTile
  try dsimp only
  repeat' (first
    | with_reducible exact Keeps.refl _
    | with_reducible apply Keeps.via (kept_setHouse ..) (by decide)
    | with_reducible apply Keeps.via (kept_sendSys ..) (by decide)
    | with_reducible apply keeps_ite
    | (intro _)
    | split)

theorem kept_diagDispatch (s : State) (cycle launch : Nat) : Keeps 0xc0000800400000 s (State.diagDispatch s cycle launch) := by
  unfold State.diagDispatch
  try dsimp only
  repeat' (first
    | with_reducible exact Keeps.refl _
    | with_reducible apply Keeps.via (kept_setHouse ..) (by decide)
    | with_reducible apply keeps_each_on
    | with_reducible apply Keeps.via (kept_diagTile ..) (by decide)
    | with_reducible apply keeps_ite
    | (intro _)
    | split)

theorem kept_diagEntry (s : State) (t : Nat) (sent : List (Nat × Nat)) (e : DiagEntry) : Keeps 0x40080008200000008 s (State.diagEntry s t sent e) := by
  unfold State.diagEntry
  try dsimp only
  repeat' (first
    | with_reducible exact Keeps.refl _
    | with_reducible apply keeps_inc_in 3 (by decide) (by unfold inSpan; first | decide | (split <;> decide) | ((first | unfold driveFld | unfold errFld); split <;> decide))
    | with_reducible apply keeps_setCond_in 3 (by decide) (by unfold inSpan; first | decide | (split <;> decide) | ((first | unfold driveFld | unfold errFld); split <;> decide))
    | with_reducible apply Keeps.via (kept_queueLamp ..) (by decide)
    | with_reducible apply Keeps.via (kept_lampMoves ..) (by decide)
    | with_reducible apply keeps_ite
    | (intro _)
    | split)

theorem kept_diagClose (s : State) (t d : Nat) (left : List (Nat × Nat)) : Keeps 0x80000000000000 s (State.diagClose s t d left) := by
  unfold State.diagClose
  try dsimp only
  repeat' (first
    | with_reducible exact Keeps.refl _
    | with_reducible apply Keeps.via (kept_setHouse ..) (by decide)
    | with_reducible apply keeps_ite
    | (intro _)
    | split)

theorem kept_diagResult (s : State) (t dseq : Nat) (entries : List DiagEntry) : Keeps 0x40080008200000008 s (State.diagResult s t dseq entries) := by
  unfold State.diagResult
  try dsimp only
  repeat' (first
    | with_reducible exact Keeps.refl _
    | with_reducible apply Keeps.via (kept_diagClose ..) (by decide)
    | with_reducible apply keeps_each_on
    | with_reducible apply Keeps.via (kept_diagEntry ..) (by decide)
    | with_reducible apply keeps_ite
    | (intro _)
    | split)

theorem kept_execDiagResultRx (link : LinkNo) (sec crcOk : Bool) (tile : TileNo) (dseq : Byte) (entries : List DiagEntry) (s : State) (t : State) (h : execDiagResultRx link sec crcOk tile dseq entries s = .next t) : Keeps 0x80042081038a00400008 s t := by
  unfold execDiagResultRx at h
  cases h
  try dsimp only
  repeat' (first
    | with_reducible exact Keeps.refl _
    | with_reducible apply keeps_upstream_on (by decide)
    | with_reducible apply Keeps.via (kept_diagResult ..) (by decide)
    | with_reducible apply keeps_ite
    | (intro _)
    | split)

theorem kept_execDiagResultTimeout (tile : TileNo) (dseq : Byte) (s : State) (t : State) (h : execDiagResultTimeout tile dseq s = .next t) : Keeps 0x80002081038800000008 s t := by
  unfold execDiagResultTimeout at h
  cases h
  try dsimp only
  repeat' (first
    | with_reducible exact Keeps.refl _
    | with_reducible apply keeps_inc_in 3 (by decide) (by unfold inSpan; first | decide | (split <;> decide) | ((first | unfold driveFld | unfold errFld); split <;> decide))
    | with_reducible apply Keeps.via (kept_diagClose ..) (by decide)
    | with_reducible apply keeps_each_on
    | with_reducible apply Keeps.via (kept_queueLamp ..) (by decide)
    | with_reducible apply Keeps.via (kept_settle ..) (by decide)
    | with_reducible apply keeps_ite
    | (intro _)
    | split)

end Sys2Proof.Machine
end

