-- ==== Sys2Proof/Laws/KeptReceive.lean ====
section
/-!
SUPPORT. What the operations of Receive.lean keep.
-/
namespace Sys2Proof.Machine

theorem kept_telemetry (s : State) (link : Nat) (sec : Bool) (tile lo : Nat) (ws : List Nat) : Keeps 0x8860420c1038a20410028 s (State.telemetry s link sec tile lo ws) := by
  unfold State.telemetry
  try dsimp only
  repeat' (first
    | with_reducible exact Keeps.refl _
    | with_reducible apply keeps_inc_in 22 (by decide) (by first | exact in_pg2 (pg_22 _) (by first | decide | assumption | exact off_le (Nat.mod_lt _ (by decide)) (by first | assumption | decide) | exact off_le (by assumption) (by decide) | exact off_le (List.mem_range.mp (by assumption)) (by decide) | exact all_off (by assumption) (by decide) | (unfold upFld; split <;> decide)) | exact in_pg (pg_22 _) (by decide))
    | with_reducible apply keeps_upstream_on (by decide)
    | with_reducible apply Keeps.via (kept_linkReport _ _ _ _ _ _ _ (by first | assumption | decide | exact Fin.isLt _ | exact bitsOf_lt64 _ _ | omega | exact List.mem_range.mp (by assumption) | exact presentPos_lt (by assumption) | exact startRecord_len .. | exact presetTrims_len .. | exact take7_len .. | exact take6_len .. | exact ethStart_len .. | exact all_off (by assumption) (by decide))) (by decide)
    | with_reducible apply Keeps.via (kept_capability _ _ _ _ _ _ _ _ (by first | assumption | decide | exact Fin.isLt _ | exact bitsOf_lt64 _ _ | omega | exact List.mem_range.mp (by assumption) | exact presentPos_lt (by assumption) | exact startRecord_len .. | exact presetTrims_len .. | exact take7_len .. | exact take6_len .. | exact ethStart_len .. | exact all_off (by assumption) (by decide))) (by decide)
    | with_reducible apply Keeps.via (kept_jobReport ..) (by decide)
    | with_reducible apply Keeps.via (kept_stateRecord ..) (by decide)
    | with_reducible apply Keeps.via (kept_faultRecord ..) (by decide)
    | with_reducible apply keeps_when_on
    | with_reducible apply Keeps.via (kept_diagResult ..) (by decide)
    | with_reducible apply Keeps.via (kept_jobRecord ..) (by decide)
    | with_reducible apply keeps_ite
    | (intro _)
    | split)

theorem kept_packetIn (s : State) (link : Nat) (sec : Bool) (p : List Nat × Bool) : Keeps 0x8860420c1038a20410028 s (State.packetIn s link sec p) := by
  unfold State.packetIn
  try dsimp only
  repeat' (first
    | with_reducible exact Keeps.refl _
    | with_reducible apply keeps_inc_in 22 (by decide) (by first | exact in_pg2 (pg_22 _) (by first | decide | assumption | exact off_le (Nat.mod_lt _ (by decide)) (by first | assumption | decide) | exact off_le (by assumption) (by decide) | exact off_le (List.mem_range.mp (by assumption)) (by decide) | exact all_off (by assumption) (by decide) | (unfold upFld; split <;> decide)) | exact in_pg (pg_22 _) (by decide))
    | with_reducible apply Keeps.via (kept_messageIn ..) (by decide)
    | with_reducible apply Keeps.via (kept_telemetry ..) (by decide)
    | with_reducible apply keeps_upstream_on (by decide)
    | with_reducible apply keeps_when_on
    | with_reducible apply Keeps.via (kept_creditIn ..) (by decide)
    | with_reducible apply keeps_ite
    | (intro _)
    | split)

theorem kept_blockIn (link : Nat) (sec : Bool) (s : State) (b : Block) : Keeps 0xc860420c1038a20410028 s (State.blockIn link sec s b) := by
  unfold State.blockIn
  try dsimp only
  repeat' (first
    | with_reducible exact Keeps.refl _
    | with_reducible apply keeps_inc_in 22 (by decide) (by first | exact in_pg2 (pg_22 _) (by first | decide | assumption | exact off_le (Nat.mod_lt _ (by decide)) (by first | assumption | decide) | exact off_le (by assumption) (by decide) | exact off_le (List.mem_range.mp (by assumption)) (by decide) | exact all_off (by assumption) (by decide) | (unfold upFld; split <;> decide)) | exact in_pg (pg_22 _) (by decide))
    | with_reducible apply kept_raise_in 22 (by decide) (by decide) (by first | exact in_pg2 (pg_22 _) (by first | decide | assumption | exact off_le (Nat.mod_lt _ (by decide)) (by first | assumption | decide) | exact off_le (by assumption) (by decide) | exact off_le (List.mem_range.mp (by assumption)) (by decide) | exact all_off (by assumption) (by decide) | (unfold upFld; split <;> decide)) | exact in_pg (pg_22 _) (by decide))
    | with_reducible apply Keeps.via (kept_setLine ..) (by decide)
    | with_reducible apply keeps_when_on
    | with_reducible apply keeps_each_on
    | with_reducible apply Keeps.via (kept_packetIn ..) (by decide)
    | with_reducible apply keeps_ite
    | (intro _)
    | split)

theorem kept_badCodeword (s : State) (link : Nat) (sec : Bool) : Keeps 0x480002001038800400000 s (State.badCodeword s link sec) := by
  unfold State.badCodeword
  try dsimp only
  repeat' (first
    | with_reducible exact Keeps.refl _
    | with_reducible apply keeps_inc_in 22 (by decide) (by first | exact in_pg2 (pg_22 _) (by first | decide | assumption | exact off_le (Nat.mod_lt _ (by decide)) (by first | assumption | decide) | exact off_le (by assumption) (by decide) | exact off_le (List.mem_range.mp (by assumption)) (by decide) | exact all_off (by assumption) (by decide) | (unfold upFld; split <;> decide)) | exact in_pg (pg_22 _) (by decide))
    | with_reducible apply kept_raise_in 22 (by decide) (by decide) (by first | exact in_pg2 (pg_22 _) (by first | decide | assumption | exact off_le (Nat.mod_lt _ (by decide)) (by first | assumption | decide) | exact off_le (by assumption) (by decide) | exact off_le (List.mem_range.mp (by assumption)) (by decide) | exact all_off (by assumption) (by decide) | (unfold upFld; split <;> decide)) | exact in_pg (pg_22 _) (by decide))
    | with_reducible apply Keeps.via (kept_setLine ..) (by decide)
    | with_reducible apply keeps_ite
    | (intro _)
    | split)

theorem kept_codewordIn (s : State) (link : Nat) (sec : Bool) (i : Nat) (symbols : List Nat) : Keeps 0xc860420c1038a20c10028 s (State.codewordIn s link sec i symbols) := by
  unfold State.codewordIn
  try dsimp only
  repeat' (first
    | with_reducible exact Keeps.refl _
    | with_reducible apply keeps_inc_in 22 (by decide) (by first | exact in_pg2 (pg_22 _) (by first | decide | assumption | exact off_le (Nat.mod_lt _ (by decide)) (by first | assumption | decide) | exact off_le (by assumption) (by decide) | exact off_le (List.mem_range.mp (by assumption)) (by decide) | exact all_off (by assumption) (by decide) | (unfold upFld; split <;> decide)) | exact in_pg (pg_22 _) (by decide))
    | with_reducible apply Keeps.via (kept_setLine ..) (by decide)
    | with_reducible apply Keeps.via (kept_badCodeword ..) (by decide)
    | with_reducible apply keeps_when_on
    | with_reducible apply Keeps.via (kept_incLn _ _ _ _ (by first | assumption | decide | exact Fin.isLt _ | exact bitsOf_lt64 _ _ | omega | exact List.mem_range.mp (by assumption) | exact presentPos_lt (by assumption) | exact startRecord_len .. | exact presetTrims_len .. | exact take7_len .. | exact take6_len .. | exact ethStart_len .. | exact all_off (by assumption) (by decide))) (by decide)
    | with_reducible apply keeps_each_on
    | with_reducible apply Keeps.via (kept_blockIn ..) (by decide)
    | with_reducible apply keeps_ite
    | (intro _)
    | split)

theorem kept_lineIn (s : State) (f : FeedId) (what : LineIn) : Keeps 0xc860420c1038a20c14028 s (State.lineIn s f what) := by
  unfold State.lineIn
  try dsimp only
  repeat' (first
    | with_reducible exact Keeps.refl _
    | with_reducible apply keeps_inc_in 14 (by decide) (by first | exact in_pg2 (pg_14 _) (by first | decide | assumption | exact off_le (Nat.mod_lt _ (by decide)) (by first | assumption | decide) | exact off_le (by assumption) (by decide) | exact off_le (List.mem_range.mp (by assumption)) (by decide) | exact all_off (by assumption) (by decide) | (unfold upFld; split <;> decide)) | exact in_pg (pg_14 _) (by decide))
    | with_reducible apply kept_raise_in 14 (by decide) (by decide) (by first | exact in_pg2 (pg_14 _) (by first | decide | assumption | exact off_le (Nat.mod_lt _ (by decide)) (by first | assumption | decide) | exact off_le (by assumption) (by decide) | exact off_le (List.mem_range.mp (by assumption)) (by decide) | exact all_off (by assumption) (by decide) | (unfold upFld; split <;> decide)) | exact in_pg (pg_14 _) (by decide))
    | with_reducible apply Keeps.via (kept_codewordIn ..) (by decide)
    | with_reducible apply Keeps.via (kept_blockIn ..) (by decide)
    | with_reducible apply keeps_ite
    | (intro _)
    | split)

theorem kept_execUncorrectableCodeword (feed : FeedId) (what : LineIn) (s : State) (t : State) (h : execUncorrectableCodeword feed what s = .next t) : Keeps 0xc860420c1038a20c14028 s t := by
  unfold execUncorrectableCodeword at h
  cases h
  try dsimp only
  repeat' (first
    | with_reducible exact Keeps.refl _
    | with_reducible apply Keeps.via (kept_lineIn ..) (by decide)
    | with_reducible apply keeps_ite
    | (intro _)
    | split)

end Sys2Proof.Machine
end

