-- ==== Sys2Proof/Laws/KeptIngest.lean ====
section
/-!
SUPPORT. What the operations of Ingest.lean keep.
-/
namespace Sys2Proof.Machine

theorem kept_report (s : State) (p : Nat) (rs : List GroupRec) (change : Bool) : Keeps 0x800024000 s (State.report s p rs change) := by
  unfold State.report
  try dsimp only
  repeat' (first
    | with_reducible exact Keeps.refl _
    | with_reducible apply keeps_when_on
    | with_reducible apply Keeps.via (kept_txFrame ..) (by decide)
    | with_reducible apply keeps_ite
    | (intro _)
    | split)

theorem kept_joinPorts (s : State) (c : Sparse Word) : Keeps 0x1000800024000 s (State.joinPorts s c) := by
  unfold State.joinPorts
  try dsimp only
  repeat' (first
    | with_reducible exact Keeps.refl _
    | with_reducible apply keeps_each_on
    | with_reducible apply Keeps.via (kept_setPort ..) (by decide)
    | with_reducible apply Keeps.via (kept_report ..) (by decide)
    | with_reducible apply keeps_ite
    | (intro _)
    | split)

theorem kept_execStateChangeRepeat (port : PortNo) (s : State) (t : State) (h : execStateChangeRepeat port s = .next t) : Keeps 0x1000800024000 s t := by
  unfold execStateChangeRepeat at h
  cases h
  try dsimp only
  repeat' (first
    | with_reducible exact Keeps.refl _
    | with_reducible apply Keeps.via (kept_setPort ..) (by decide)
    | with_reducible apply Keeps.via (kept_report ..) (by decide)
    | with_reducible apply keeps_ite
    | (intro _)
    | split)

theorem kept_execCurrentStateReport (port : PortNo) (s : State) (t : State) (h : execCurrentStateReport port s = .next t) : Keeps 0x1000800024000 s t := by
  unfold execCurrentStateReport at h
  cases h
  try dsimp only
  repeat' (first
    | with_reducible exact Keeps.refl _
    | with_reducible apply Keeps.via (kept_setPort ..) (by decide)
    | with_reducible apply Keeps.via (kept_report ..) (by decide)
    | with_reducible apply keeps_ite
    | (intro _)
    | split)

theorem kept_announceIp (s : State) (p : Nat) (v4 v6 ll : Bool) : Keeps 0x800024000 s (State.announceIp s p v4 v6 ll) := by
  unfold State.announceIp
  try dsimp only
  repeat' (first
    | with_reducible exact Keeps.refl _
    | with_reducible apply keeps_when_on
    | with_reducible apply Keeps.via (kept_txFrame ..) (by decide)
    | with_reducible apply keeps_ite
    | (intro _)
    | split)

theorem kept_readdress (s : State) (old : Sparse Word) : Keeps 0x1800024000 s (State.readdress s old) := by
  unfold State.readdress
  try dsimp only
  repeat' (first
    | with_reducible exact Keeps.refl _
    | with_reducible apply keeps_each_on
    | with_reducible apply Keeps.via (kept_announceIp ..) (by decide)
    | with_reducible apply keeps_ite
    | (intro _)
    | split
    | with_reducible apply keeps_with_force (by decide))

theorem kept_learn (s : State) (p : Nat) (ip : BitVec 128) (mac : BitVec 48) : Keeps 0x1000800024000 s (State.learn s p ip mac) := by
  unfold State.learn
  try dsimp only
  repeat' (first
    | with_reducible exact Keeps.refl _
    | with_reducible apply Keeps.via (kept_setPort ..) (by decide)
    | with_reducible apply keeps_each_on
    | with_reducible apply Keeps.via (kept_txFrame ..) (by decide)
    | with_reducible apply keeps_ite
    | (intro _)
    | split)

theorem kept_execNeighbourRetry (port : PortNo) (ip : BitVec 128) (s : State) (t : State) (h : execNeighbourRetry port ip s = .next t) : Keeps 0x1000800024000 s t := by
  unfold execNeighbourRetry at h
  cases h
  try dsimp only
  repeat' (first
    | with_reducible exact Keeps.refl _
    | with_reducible apply Keeps.via (kept_setPort ..) (by decide)
    | with_reducible apply Keeps.via (kept_askNeighbour ..) (by decide)
    | with_reducible apply keeps_ite
    | (intro _)
    | split)

theorem kept_dropPreview (s : State) (v : Nat) : Keeps 0x20000 s (State.dropPreview s v) := by
  unfold State.dropPreview
  try dsimp only
  repeat' (first
    | with_reducible exact Keeps.refl _
    | with_reducible apply keeps_inc_in 17 (by decide) (by first | exact in_pg2 (pg_17 _) (by first | decide | assumption | exact off_le (Nat.mod_lt _ (by decide)) (by first | assumption | decide) | exact off_le (by assumption) (by decide) | exact off_le (List.mem_range.mp (by assumption)) (by decide) | exact all_off (by assumption) (by decide) | (unfold upFld; split <;> decide)) | exact in_pg (pg_17 _) (by decide))
    | with_reducible apply keeps_setCond_in 17 (by decide) (by first | exact in_pg2 (pg_17 _) (by first | decide | assumption | exact off_le (Nat.mod_lt _ (by decide)) (by first | assumption | decide) | exact off_le (by assumption) (by decide) | exact off_le (List.mem_range.mp (by assumption)) (by decide) | exact all_off (by assumption) (by decide) | (unfold upFld; split <;> decide)) | exact in_pg (pg_17 _) (by decide))
    | with_reducible apply keeps_ite
    | (intro _)
    | split)

theorem kept_dropFrame (s : State) (p : Nat) (o : Tx) : Keeps 0x24000 s (State.dropFrame s p o) := by
  unfold State.dropFrame
  try dsimp only
  repeat' (first
    | with_reducible exact Keeps.refl _
    | with_reducible apply keeps_inc_in 14 (by decide) (by first | exact in_pg2 (pg_14 _) (by first | decide | assumption | exact off_le (Nat.mod_lt _ (by decide)) (by first | assumption | decide) | exact off_le (by assumption) (by decide) | exact off_le (List.mem_range.mp (by assumption)) (by decide) | exact all_off (by assumption) (by decide) | (unfold upFld; split <;> decide)) | exact in_pg (pg_14 _) (by decide))
    | with_reducible apply Keeps.via (kept_dropPreview ..) (by decide)
    | with_reducible apply keeps_ite
    | (intro _)
    | split)

theorem kept_execNeighbourFailure (port : PortNo) (ip : BitVec 128) (s : State) (t : State) (h : execNeighbourFailure port ip s = .next t) : Keeps 0x80002001038800024000 s t := by
  unfold execNeighbourFailure at h
  cases h
  try dsimp only
  repeat' (first
    | with_reducible exact Keeps.refl _
    | with_reducible apply keeps_setCond_in 14 (by decide) (by first | exact in_pg2 (pg_14 _) (by first | decide | assumption | exact off_le (Nat.mod_lt _ (by decide)) (by first | assumption | decide) | exact off_le (by assumption) (by decide) | exact off_le (List.mem_range.mp (by assumption)) (by decide) | exact all_off (by assumption) (by decide) | (unfold upFld; split <;> decide)) | exact in_pg (pg_14 _) (by decide))
    | with_reducible apply Keeps.via (kept_setPort ..) (by decide)
    | with_reducible apply keeps_each_on
    | with_reducible apply Keeps.via (kept_dropFrame ..) (by decide)
    | with_reducible apply Keeps.via (kept_settle ..) (by decide)
    | with_reducible apply keeps_ite
    | (intro _)
    | split)

theorem kept_execNeighbourEntryExpire (port : PortNo) (ip : BitVec 128) (s : State) (t : State) (h : execNeighbourEntryExpire port ip s = .next t) : Keeps 0x1000000000000 s t := by
  unfold execNeighbourEntryExpire at h
  cases h
  try dsimp only
  repeat' (first
    | with_reducible exact Keeps.refl _
    | with_reducible apply Keeps.via (kept_setPort ..) (by decide)
    | with_reducible apply keeps_ite
    | (intro _)
    | split)

theorem kept_execEthLinkUp (port : PortNo) (trims : List LaneTrim) (s : State) (t : State) (h : execEthLinkUp port trims s = .next t) : Keeps 0x8000201d038800824000 s t := by
  unfold execEthLinkUp at h
  cases h
  try dsimp only
  repeat' (first
    | with_reducible exact Keeps.refl _
    | with_reducible apply keeps_setFld_in 14 (by decide) (by first | exact in_pg2 (pg_14 _) (by first | decide | assumption | exact off_le (Nat.mod_lt _ (by decide)) (by first | assumption | decide) | exact off_le (by assumption) (by decide) | exact off_le (List.mem_range.mp (by assumption)) (by decide) | exact all_off (by assumption) (by decide) | (unfold upFld; split <;> decide)) | exact in_pg (pg_14 _) (by decide))
    | with_reducible apply keeps_setCond_in 14 (by decide) (by first | exact in_pg2 (pg_14 _) (by first | decide | assumption | exact off_le (Nat.mod_lt _ (by decide)) (by first | assumption | decide) | exact off_le (by assumption) (by decide) | exact off_le (List.mem_range.mp (by assumption)) (by decide) | exact all_off (by assumption) (by decide) | (unfold upFld; split <;> decide)) | exact in_pg (pg_14 _) (by decide))
    | with_reducible apply keeps_each_on
    | with_reducible apply Keeps.via (kept_writeTrims _ _ _ _ (by first | assumption | decide | exact Fin.isLt _ | exact bitsOf_lt64 _ _ | omega | exact List.mem_range.mp (by assumption) | exact presentPos_lt (by assumption) | exact startRecord_len .. | exact presetTrims_len .. | exact take7_len .. | exact take6_len .. | exact ethStart_len .. | exact all_off (by assumption) (by decide))) (by decide)
    | with_reducible apply Keeps.via (kept_laneBits ..) (by decide)
    | with_reducible apply Keeps.via (kept_reachActive ..) (by decide)
    | with_reducible apply Keeps.via (kept_announceIp ..) (by decide)
    | with_reducible apply Keeps.via (kept_settle ..) (by decide)
    | with_reducible apply keeps_ite
    | (intro _)
    | split)

theorem kept_execEthLinkDown (port : PortNo) (s : State) (t : State) (h : execEthLinkDown port s = .next t) : Keeps 0x48600204d038800c14020 s t := by
  unfold execEthLinkDown at h
  cases h
  try dsimp only
  repeat' (first
    | with_reducible exact Keeps.refl _
    | with_reducible apply Keeps.via (kept_leaveActive ..) (by decide)
    | with_reducible apply Keeps.via (kept_toDetect ..) (by decide)
    | with_reducible apply Keeps.via (kept_settle ..) (by decide)
    | with_reducible apply keeps_ite
    | (intro _)
    | split)

theorem kept_ethClear (s : State) (p : Nat) : Keeps 0x4000 s (State.ethClear s p) := by
  unfold State.ethClear
  try dsimp only
  repeat' (first
    | with_reducible exact Keeps.refl _
    | with_reducible apply keeps_setFld_in 14 (by decide) (by first | exact in_pg2 (pg_14 _) (by first | decide | assumption | exact off_le (Nat.mod_lt _ (by decide)) (by first | assumption | decide) | exact off_le (by assumption) (by decide) | exact off_le (List.mem_range.mp (by assumption)) (by decide) | exact all_off (by assumption) (by decide) | (unfold upFld; split <;> decide)) | exact in_pg (pg_14 _) (by decide))
    | with_reducible apply keeps_each_mem
    | with_reducible apply keeps_ite
    | (intro _)
    | split)

theorem kept_setFlow (s : State) (f : Nat) (r : FlowRt) : Keeps 0x800000000000 s (State.setFlow s f r) := by
  unfold State.setFlow
  try dsimp only
  repeat' (first
    | with_reducible exact Keeps.refl _
    | with_reducible apply keeps_ite
    | (intro _)
    | split
    | with_reducible apply keeps_with_flows (by decide))

theorem kept_ingCond (s : State) (f k : Nat) : Keeps 0x8000 s (State.ingCond s f k) := by
  unfold State.ingCond
  try dsimp only
  repeat' (first
    | with_reducible exact Keeps.refl _
    | with_reducible apply keeps_setFld_in 15 (by decide) (by unfold inSpan; first | decide | (split <;> decide) | ((first | unfold driveFld | unfold errFld); split <;> decide))
    | with_reducible apply keeps_setCond_in 15 (by decide) (by unfold inSpan; first | decide | (split <;> decide) | ((first | unfold driveFld | unfold errFld); split <;> decide))
    | with_reducible apply keeps_ite
    | (intro _)
    | split)

theorem kept_flowEvent (s : State) (f kind ts path buf time : Nat) (lead : Int) : Keeps 0x38800000000 s (State.flowEvent s f kind ts path buf time lead) := by
  unfold State.flowEvent
  try dsimp only
  repeat' (first
    | with_reducible exact Keeps.refl _
    | with_reducible apply keeps_refPush_on (by decide)
    | exact Nat.le_refl 4
    | assumption
    | with_reducible apply keeps_ite
    | (intro _)
    | split)

theorem kept_completeFrame (s : State) (f buf ts : Nat) : Keeps 0x838810000000 s (State.completeFrame s f buf ts) := by
  unfold State.completeFrame
  try dsimp only
  repeat' (first
    | with_reducible exact Keeps.refl _
    | with_reducible apply keeps_inc_in 28 (by decide) (by first | exact in_pg2 (pg_28 _) (by first | decide | assumption | exact off_le (Nat.mod_lt _ (by decide)) (by first | assumption | decide) | exact off_le (by assumption) (by decide) | exact off_le (List.mem_range.mp (by assumption)) (by decide) | exact all_off (by assumption) (by decide) | (unfold upFld; split <;> decide)) | exact in_pg (pg_28 _) (by decide))
    | with_reducible apply keeps_when_on
    | with_reducible apply Keeps.via (kept_setFlow ..) (by decide)
    | with_reducible apply Keeps.via (kept_flowEvent ..) (by decide)
    | with_reducible apply keeps_ite
    | (intro _)
    | split)

theorem kept_completeAsm (s : State) (f : Nat) (a : Asm) : Keeps 0x838810000000 s (State.completeAsm s f a) := by
  unfold State.completeAsm
  try dsimp only
  repeat' (first
    | with_reducible exact Keeps.refl _
    | with_reducible apply Keeps.via (kept_setFlow ..) (by decide)
    | with_reducible apply Keeps.via (kept_completeFrame ..) (by decide)
    | with_reducible apply keeps_ite
    | (intro _)
    | split)

theorem kept_endAsm (s : State) (f : Nat) : Keeps 0x838810008000 s (State.endAsm s f) := by
  unfold State.endAsm
  try dsimp only
  repeat' (first
    | with_reducible exact Keeps.refl _
    | with_reducible apply keeps_inc_in 28 (by decide) (by first | exact in_pg2 (pg_28 _) (by first | decide | assumption | exact off_le (Nat.mod_lt _ (by decide)) (by first | assumption | decide) | exact off_le (by assumption) (by decide) | exact off_le (List.mem_range.mp (by assumption)) (by decide) | exact all_off (by assumption) (by decide) | (unfold upFld; split <;> decide)) | exact in_pg (pg_28 _) (by decide))
    | with_reducible apply Keeps.via (kept_completeAsm ..) (by decide)
    | with_reducible apply Keeps.via (kept_setFlow ..) (by decide)
    | with_reducible apply Keeps.via (kept_ingCond ..) (by decide)
    | with_reducible apply Keeps.via (kept_flowEvent ..) (by decide)
    | with_reducible apply keeps_ite
    | (intro _)
    | split)

theorem kept_execFrameComplete (flow : FlowNo) (s : State) (t : State) (h : execFrameComplete flow s = .next t) : Keeps 0x80002001838810000000 s t := by
  unfold execFrameComplete at h
  cases h
  try dsimp only
  repeat' (first
    | with_reducible exact Keeps.refl _
    | with_reducible apply Keeps.via (kept_completeAsm ..) (by decide)
    | with_reducible apply Keeps.via (kept_settle ..) (by decide)
    | with_reducible apply keeps_ite
    | (intro _)
    | split)

theorem kept_judgeRisk (s : State) (f : Nat) : Keeps 0x10008000 s (State.judgeRisk s f) := by
  unfold State.judgeRisk
  try dsimp only
  repeat' (first
    | with_reducible exact Keeps.refl _
    | with_reducible apply keeps_setFld_in 28 (by decide) (by first | exact in_pg2 (pg_28 _) (by first | decide | assumption | exact off_le (Nat.mod_lt _ (by decide)) (by first | assumption | decide) | exact off_le (by assumption) (by decide) | exact off_le (List.mem_range.mp (by assumption)) (by decide) | exact all_off (by assumption) (by decide) | (unfold upFld; split <;> decide)) | exact in_pg (pg_28 _) (by decide))
    | with_reducible apply keeps_when_on
    | with_reducible apply Keeps.via (kept_ingCond ..) (by decide)
    | with_reducible apply keeps_ite
    | (intro _)
    | split)

theorem kept_firstPacket (s : State) (f : Nat) : Keeps 0x800810008000 s (State.firstPacket s f) := by
  unfold State.firstPacket
  try dsimp only
  repeat' (first
    | with_reducible exact Keeps.refl _
    | with_reducible apply keeps_foldl_on
    | with_reducible apply keeps_fold_pair
    | with_reducible apply keeps_setFld_in 28 (by decide) (by first | exact in_pg2 (pg_28 _) (by first | decide | assumption | exact off_le (Nat.mod_lt _ (by decide)) (by first | assumption | decide) | exact off_le (by assumption) (by decide) | exact off_le (List.mem_range.mp (by assumption)) (by decide) | exact all_off (by assumption) (by decide) | (unfold upFld; split <;> decide)) | exact in_pg (pg_28 _) (by decide))
    | with_reducible apply Keeps.via (kept_setFlow ..) (by decide)
    | with_reducible apply Keeps.via (kept_emit ..) (by decide)
    | with_reducible apply Keeps.via (kept_judgeRisk ..) (by decide)
    | with_reducible apply keeps_ite
    | (intro _)
    | split)

theorem kept_startAsm (s : State) (f ts : Nat) : Keeps 0x800810008000 s (State.startAsm s f ts) := by
  unfold State.startAsm
  try dsimp only
  repeat' (first
    | with_reducible exact Keeps.refl _
    | with_reducible apply Keeps.via (kept_firstPacket ..) (by decide)
    | with_reducible apply Keeps.via (kept_setFlow ..) (by decide)
    | with_reducible apply keeps_ite
    | (intro _)
    | split)

theorem kept_putPixel (s : State) (f : Nat) (a : Asm) (x y : Nat) (code : Rgb) : Keeps 0x80008200000004 s (State.putPixel s f a x y code).1 := by
  unfold State.putPixel
  try dsimp only
  repeat' (first
    | with_reducible exact Keeps.refl _
    | with_reducible apply Keeps.via (kept_poke ..) (by decide)
    | with_reducible apply Keeps.via (kept_convert ..) (by decide)
    | with_reducible apply keeps_ite
    | (intro _)
    | split)

theorem kept_put422 (s : State) (f : Nat) (a : Asm) (x y cb y0 cr y1 : Nat) : Keeps 0x80008200000004 s (State.put422 s f a x y cb y0 cr y1).1 := by
  unfold State.put422
  try dsimp only
  repeat' (first
    | with_reducible exact Keeps.refl _
    | with_reducible apply Keeps.via (kept_putPixel ..) (by decide)
    | with_reducible apply keeps_ite
    | (intro _)
    | split)

theorem kept_putGroup (s : State) (f : Nat) (a : Asm) (x y : Nat) (g : List Byte) : Keeps 0x80008200000004 s (State.putGroup s f a x y g).1 := by
  unfold State.putGroup
  try dsimp only
  repeat' (first
    | with_reducible exact Keeps.refl _
    | with_reducible apply keeps_foldl_on
    | with_reducible apply keeps_fold_pair
    | with_reducible apply Keeps.via (kept_put422 ..) (by decide)
    | with_reducible apply Keeps.via (kept_putPixel ..) (by decide)
    | with_reducible apply keeps_ite
    | (intro _)
    | split)

theorem kept_putSrd (s : State) (f : Nat) (a : Asm) (d : Srd) (bs : List Byte) : Keeps 0x80008200000004 s (State.putSrd s f a d bs).1 := by
  unfold State.putSrd
  try dsimp only
  repeat' (first
    | with_reducible exact Keeps.refl _
    | with_reducible apply keeps_foldl_on
    | with_reducible apply keeps_fold_pair
    | with_reducible apply Keeps.via (kept_putGroup ..) (by decide)
    | with_reducible apply keeps_ite
    | (intro _)
    | split)

theorem kept_putSrds (s : State) (f : Nat) (a : Asm) (l : List Srd) (bs : List Byte) : Keeps 0x80008200000004 s (s.putSrds f a l bs).1 := by
  induction l generalizing s a bs with
  | nil => exact Keeps.refl _
  | cons d t ih =>
    unfold State.putSrds
    dsimp only
    exact Keeps.via (ih _ _ _) (by decide) ((kept_putSrd ..).mono (by decide))

theorem kept_measureSkew (s : State) (f q : Nat) (b : Bool) : Keeps 0x10008000 s (State.measureSkew s f q b) := by
  unfold State.measureSkew
  try dsimp only
  repeat' (first
    | with_reducible exact Keeps.refl _
    | with_reducible apply keeps_setS_in 28 (by decide) (by first | exact in_pg2 (pg_28 _) (by first | decide | assumption | exact off_le (Nat.mod_lt _ (by decide)) (by first | assumption | decide) | exact off_le (by assumption) (by decide) | exact off_le (List.mem_range.mp (by assumption)) (by decide) | exact all_off (by assumption) (by decide) | (unfold upFld; split <;> decide)) | exact in_pg (pg_28 _) (by decide))
    | with_reducible apply Keeps.via (kept_judgeRisk ..) (by decide)
    | with_reducible apply keeps_ite
    | (intro _)
    | split)

theorem kept_keepPath (s : State) (f : Nat) (b : Bool) : Keeps 0x38810008000 s (State.keepPath s f b) := by
  unfold State.keepPath
  try dsimp only
  repeat' (first
    | with_reducible exact Keeps.refl _
    | with_reducible apply keeps_setFld_in 28 (by decide) (by first | exact in_pg2 (pg_28 _) (by first | decide | assumption | exact off_le (Nat.mod_lt _ (by decide)) (by first | assumption | decide) | exact off_le (by assumption) (by decide) | exact off_le (List.mem_range.mp (by assumption)) (by decide) | exact all_off (by assumption) (by decide) | (unfold upFld; split <;> decide)) | exact in_pg (pg_28 _) (by decide))
    | with_reducible apply Keeps.via (kept_ingCond ..) (by decide)
    | with_reducible apply Keeps.via (kept_flowEvent ..) (by decide)
    | with_reducible apply keeps_ite
    | (intro _)
    | split)

theorem kept_acceptPacket (s : State) (f : Nat) (p : VideoPacket) : Keeps 0x80838a10008004 s (State.acceptPacket s f p) := by
  unfold State.acceptPacket
  try dsimp only
  repeat' (first
    | with_reducible exact Keeps.refl _
    | with_reducible apply Keeps.via (kept_startAsm ..) (by decide)
    | with_reducible apply Keeps.via (kept_endAsm ..) (by decide)
    | with_reducible apply Keeps.via (kept_putSrds ..) (by decide)
    | with_reducible apply Keeps.via (kept_setFlow ..) (by decide)
    | with_reducible apply keeps_ite
    | (intro _)
    | split)

theorem kept_flowPacket (s : State) (f : Nat) (b : Bool) (p : VideoPacket) : Keeps 0x80838a10008004 s (State.flowPacket s f b p) := by
  unfold State.flowPacket
  try dsimp only
  repeat' (first
    | with_reducible exact Keeps.refl _
    | with_reducible apply keeps_inc_in 28 (by decide) (by first | exact in_pg2 (pg_28 _) (by first | decide | assumption | exact off_le (Nat.mod_lt _ (by decide)) (by first | assumption | decide) | exact off_le (by assumption) (by decide) | exact off_le (List.mem_range.mp (by assumption)) (by decide) | exact all_off (by assumption) (by decide) | (unfold upFld; split <;> decide)) | exact in_pg (pg_28 _) (by decide))
    | with_reducible apply Keeps.via (kept_ingCond ..) (by decide)
    | with_reducible apply Keeps.via (kept_setFlow ..) (by decide)
    | with_reducible apply Keeps.via (kept_measureSkew ..) (by decide)
    | with_reducible apply Keeps.via (kept_keepPath ..) (by decide)
    | with_reducible apply Keeps.via (kept_acceptPacket ..) (by decide)
    | with_reducible apply keeps_ite
    | (intro _)
    | split)

theorem kept_loseFlow (s : State) (f : Nat) : Keeps 0x838810008000 s (State.loseFlow s f) := by
  unfold State.loseFlow
  try dsimp only
  repeat' (first
    | with_reducible exact Keeps.refl _
    | with_reducible apply Keeps.via (kept_endAsm ..) (by decide)
    | with_reducible apply Keeps.via (kept_setFlow ..) (by decide)
    | with_reducible apply keeps_ite
    | (intro _)
    | split)

theorem kept_execPathLost (flow : FlowNo) (pathB : Bool) (s : State) (t : State) (h : execPathLost flow pathB s = .next t) : Keeps 0x80002001838810008000 s t := by
  unfold execPathLost at h
  cases h
  try dsimp only
  repeat' (first
    | with_reducible exact Keeps.refl _
    | with_reducible apply keeps_setFld_in 28 (by decide) (by first | exact in_pg2 (pg_28 _) (by first | decide | assumption | exact off_le (Nat.mod_lt _ (by decide)) (by first | assumption | decide) | exact off_le (by assumption) (by decide) | exact off_le (List.mem_range.mp (by assumption)) (by decide) | exact all_off (by assumption) (by decide) | (unfold upFld; split <;> decide)) | exact in_pg (pg_28 _) (by decide))
    | with_reducible apply Keeps.via (kept_ingCond ..) (by decide)
    | with_reducible apply Keeps.via (kept_flowEvent ..) (by decide)
    | with_reducible apply Keeps.via (kept_loseFlow ..) (by decide)
    | with_reducible apply Keeps.via (kept_settle ..) (by decide)
    | with_reducible apply keeps_ite
    | (intro _)
    | split)

theorem kept_flowClear (s : State) (f : Nat) : Keeps 0x800010008000 s (State.flowClear s f) := by
  unfold State.flowClear
  try dsimp only
  repeat' (first
    | with_reducible exact Keeps.refl _
    | with_reducible apply keeps_setFld_in 28 (by decide) (by first | exact in_pg2 (pg_28 _) (by first | decide | assumption | exact off_le (Nat.mod_lt _ (by decide)) (by first | assumption | decide) | exact off_le (by assumption) (by decide) | exact off_le (List.mem_range.mp (by assumption)) (by decide) | exact all_off (by assumption) (by decide) | (unfold upFld; split <;> decide)) | exact in_pg (pg_28 _) (by decide))
    | with_reducible apply keeps_each_mem
    | with_reducible apply Keeps.via (kept_setFlow ..) (by decide)
    | with_reducible apply Keeps.via (kept_judgeRisk ..) (by decide)
    | with_reducible apply keeps_ite
    | (intro _)
    | split)

theorem kept_ingPush (s : State) (seat f : Nat) : Keeps 0x80002001838800008000 s (State.ingPush s seat f) := by
  unfold State.ingPush
  try dsimp only
  repeat' (first
    | with_reducible exact Keeps.refl _
    | with_reducible apply keeps_setFld_in 15 (by decide) (by unfold inSpan; first | decide | (split <;> decide) | ((first | unfold driveFld | unfold errFld); split <;> decide))
    | with_reducible apply keeps_inc_in 15 (by decide) (by unfold inSpan; first | decide | (split <;> decide) | ((first | unfold driveFld | unfold errFld); split <;> decide))
    | with_reducible apply keeps_setCond_in 15 (by decide) (by unfold inSpan; first | decide | (split <;> decide) | ((first | unfold driveFld | unfold errFld); split <;> decide))
    | with_reducible apply Keeps.via (kept_setFlow ..) (by decide)
    | with_reducible apply Keeps.via (kept_settle ..) (by decide)
    | with_reducible apply keeps_ite
    | (intro _)
    | split)

theorem kept_execPushComplete (flow : FlowNo) (s : State) (t : State) (h : execPushComplete flow s = .next t) : Keeps 0x80002001838810000000 s t := by
  unfold execPushComplete at h
  cases h
  try dsimp only
  repeat' (first
    | with_reducible exact Keeps.refl _
    | with_reducible apply Keeps.via (kept_setFlow ..) (by decide)
    | with_reducible apply Keeps.via (kept_completeFrame ..) (by decide)
    | with_reducible apply Keeps.via (kept_emit ..) (by decide)
    | with_reducible apply Keeps.via (kept_settle ..) (by decide)
    | with_reducible apply keeps_ite
    | (intro _)
    | split)

theorem kept_selectFlow (s : State) (t f : Nat) : Keeps 0x838810008000 s (State.selectFlow s t f) := by
  unfold State.selectFlow
  try dsimp only
  repeat' (first
    | with_reducible exact Keeps.refl _
    | with_reducible apply keeps_setS_in 28 (by decide) (by first | exact in_pg2 (pg_28 _) (by first | decide | assumption | exact off_le (Nat.mod_lt _ (by decide)) (by first | assumption | decide) | exact off_le (by assumption) (by decide) | exact off_le (List.mem_range.mp (by assumption)) (by decide) | exact all_off (by assumption) (by decide) | (unfold upFld; split <;> decide)) | exact in_pg (pg_28 _) (by decide))
    | with_reducible apply keeps_setFld_in 28 (by decide) (by first | exact in_pg2 (pg_28 _) (by first | decide | assumption | exact off_le (Nat.mod_lt _ (by decide)) (by first | assumption | decide) | exact off_le (by assumption) (by decide) | exact off_le (List.mem_range.mp (by assumption)) (by decide) | exact all_off (by assumption) (by decide) | (unfold upFld; split <;> decide)) | exact in_pg (pg_28 _) (by decide))
    | with_reducible apply keeps_inc_in 28 (by decide) (by first | exact in_pg2 (pg_28 _) (by first | decide | assumption | exact off_le (Nat.mod_lt _ (by decide)) (by first | assumption | decide) | exact off_le (by assumption) (by decide) | exact off_le (List.mem_range.mp (by assumption)) (by decide) | exact all_off (by assumption) (by decide) | (unfold upFld; split <;> decide)) | exact in_pg (pg_28 _) (by decide))
    | with_reducible apply Keeps.via (kept_setFlow ..) (by decide)
    | with_reducible apply keeps_when_on
    | with_reducible apply Keeps.via (kept_ingCond ..) (by decide)
    | with_reducible apply Keeps.via (kept_flowEvent ..) (by decide)
    | with_reducible apply keeps_each_on
    | with_reducible apply Keeps.via (kept_emit ..) (by decide)
    | with_reducible apply keeps_ite
    | (intro _)
    | split)

theorem kept_selectFlows (s : State) (t : Nat) : Keeps 0x838810008000 s (State.selectFlows s t) := by
  unfold State.selectFlows
  try dsimp only
  repeat' (first
    | with_reducible exact Keeps.refl _
    | with_reducible apply keeps_each_on
    | with_reducible apply Keeps.via (kept_selectFlow ..) (by decide)
    | with_reducible apply keeps_ite
    | (intro _)
    | split)

theorem kept_reflow (s : State) (old : Sparse Word) (f : Nat) : Keeps 0x83881000b000 s (State.reflow s old f) := by
  unfold State.reflow
  try dsimp only
  repeat' (first
    | with_reducible exact Keeps.refl _
    | with_reducible apply keeps_setFld_in 28 (by decide) (by first | exact in_pg2 (pg_28 _) (by first | decide | assumption | exact off_le (Nat.mod_lt _ (by decide)) (by first | assumption | decide) | exact off_le (by assumption) (by decide) | exact off_le (List.mem_range.mp (by assumption)) (by decide) | exact all_off (by assumption) (by decide) | (unfold upFld; split <;> decide)) | exact in_pg (pg_28 _) (by decide))
    | with_reducible apply Keeps.via (kept_setFlow ..) (by decide)
    | with_reducible apply Keeps.via (kept_restartTracker ..) (by decide)
    | with_reducible apply keeps_each_on
    | with_reducible apply keeps_when_on
    | with_reducible apply Keeps.via (kept_loseFlow ..) (by decide)
    | with_reducible apply keeps_ite
    | (intro _)
    | split)

theorem kept_applyIngest (s : State) (old : Sparse Word) : Keeps 0x183981002f000 s (State.applyIngest s old) := by
  unfold State.applyIngest
  try dsimp only
  repeat' (first
    | with_reducible exact Keeps.refl _
    | with_reducible apply keeps_each_on
    | with_reducible apply Keeps.via (kept_reflow ..) (by decide)
    | with_reducible apply Keeps.via (kept_joinPorts ..) (by decide)
    | with_reducible apply Keeps.via (kept_readdress ..) (by decide)
    | with_reducible apply keeps_ite
    | (intro _)
    | split)

end Sys2Proof.Machine
end

