-- ==== Sys2Proof/Laws/KeptCompose.lean ====
section
/-!
SUPPORT. What the operations of Compose.lean keep.
-/
namespace Sys2Proof.Machine

theorem kept_setView (s : State) (v : Nat) (r : ViewRt) : Keeps 0x2000000000000 s (State.setView s v r) := by
  unfold State.setView
  try dsimp only
  repeat' (first
    | with_reducible exact Keeps.refl _
    | with_reducible apply keeps_ite
    | (intro _)
    | split
    | with_reducible apply keeps_with_views (by decide))

theorem kept_showLayer (s : State) (k : Nat) : Keeps 0x2000000050000 s (State.showLayer s k) := by
  unfold State.showLayer
  try dsimp only
  repeat' (first
    | with_reducible exact Keeps.refl _
    | with_reducible apply keeps_setFld_in 18 (by decide) (by first | exact in_pg2 (pg_18 _) (by first | decide | assumption | exact off_le (Nat.mod_lt _ (by decide)) (by first | assumption | decide) | exact off_le (by assumption) (by decide) | exact off_le (List.mem_range.mp (by assumption)) (by decide) | exact all_off (by assumption) (by decide) | (unfold upFld; split <;> decide)) | exact in_pg (pg_18 _) (by decide))
    | with_reducible apply keeps_setCond_in 18 (by decide) (by first | exact in_pg2 (pg_18 _) (by first | decide | assumption | exact off_le (Nat.mod_lt _ (by decide)) (by first | assumption | decide) | exact off_le (by assumption) (by decide) | exact off_le (List.mem_range.mp (by assumption)) (by decide) | exact all_off (by assumption) (by decide) | (unfold upFld; split <;> decide)) | exact in_pg (pg_18 _) (by decide))
    | with_reducible apply Keeps.via (kept_setView ..) (by decide)
    | with_reducible apply Keeps.via (kept_lyrAlert ..) (by decide)
    | with_reducible apply keeps_ite
    | (intro _)
    | split)

theorem kept_showLayers (s : State) : Keeps 0x2000000050000 s (State.showLayers s) := by
  unfold State.showLayers
  try dsimp only
  repeat' (first
    | with_reducible exact Keeps.refl _
    | with_reducible apply keeps_each_on
    | with_reducible apply Keeps.via (kept_showLayer ..) (by decide)
    | with_reducible apply keeps_ite
    | (intro _)
    | split)

theorem kept_judgeView (s : State) (n v : Nat) : Keeps 0x2000000020000 s (State.judgeView s n v) := by
  unfold State.judgeView
  try dsimp only
  repeat' (first
    | with_reducible exact Keeps.refl _
    | with_reducible apply keeps_setFld_in 17 (by decide) (by first | exact in_pg2 (pg_17 _) (by first | decide | assumption | exact off_le (Nat.mod_lt _ (by decide)) (by first | assumption | decide) | exact off_le (by assumption) (by decide) | exact off_le (List.mem_range.mp (by assumption)) (by decide) | exact all_off (by assumption) (by decide) | (unfold upFld; split <;> decide)) | exact in_pg (pg_17 _) (by decide))
    | with_reducible apply keeps_setCond_in 17 (by decide) (by first | exact in_pg2 (pg_17 _) (by first | decide | assumption | exact off_le (Nat.mod_lt _ (by decide)) (by first | assumption | decide) | exact off_le (by assumption) (by decide) | exact off_le (List.mem_range.mp (by assumption)) (by decide) | exact all_off (by assumption) (by decide) | (unfold upFld; split <;> decide)) | exact in_pg (pg_17 _) (by decide))
    | with_reducible apply keeps_inc_in 17 (by decide) (by first | exact in_pg2 (pg_17 _) (by first | decide | assumption | exact off_le (Nat.mod_lt _ (by decide)) (by first | assumption | decide) | exact off_le (by assumption) (by decide) | exact off_le (List.mem_range.mp (by assumption)) (by decide) | exact all_off (by assumption) (by decide) | (unfold upFld; split <;> decide)) | exact in_pg (pg_17 _) (by decide))
    | with_reducible apply Keeps.via (kept_setView ..) (by decide)
    | with_reducible apply keeps_when_on
    | with_reducible apply keeps_ite
    | (intro _)
    | split)

theorem kept_writeRow (s : State) (v b j : Nat) : Keeps 0x8200000000 s (State.writeRow s v b j) := by
  unfold State.writeRow
  try dsimp only
  repeat' (first
    | with_reducible exact Keeps.refl _
    | with_reducible apply keeps_each_on
    | with_reducible apply Keeps.via (kept_poke ..) (by decide)
    | with_reducible apply keeps_ite
    | (intro _)
    | split)

theorem kept_wbEvent (s : State) (v kind cycle buf launch done : Nat) : Keeps 0x38800000000 s (State.wbEvent s v kind cycle buf launch done) := by
  unfold State.wbEvent
  try dsimp only
  repeat' (first
    | with_reducible exact Keeps.refl _
    | with_reducible apply keeps_refPush_on (by decide)
    | exact Nat.le_refl 4
    | assumption
    | with_reducible apply keeps_ite
    | (intro _)
    | split)

theorem kept_startPreview (s : State) (v : Nat) : Keeps 0x2000000000000 s (State.startPreview s v) := by
  unfold State.startPreview
  try dsimp only
  repeat' (first
    | with_reducible exact Keeps.refl _
    | with_reducible apply Keeps.via (kept_setView ..) (by decide)
    | with_reducible apply keeps_ite
    | (intro _)
    | split)

theorem kept_writeback (s : State) (n t v : Nat) : Keeps 0x2038a00020000 s (State.writeback s n t v) := by
  unfold State.writeback
  try dsimp only
  repeat' (first
    | with_reducible exact Keeps.refl _
    | with_reducible apply keeps_inc_in 17 (by decide) (by first | exact in_pg2 (pg_17 _) (by first | decide | assumption | exact off_le (Nat.mod_lt _ (by decide)) (by first | assumption | decide) | exact off_le (by assumption) (by decide) | exact off_le (List.mem_range.mp (by assumption)) (by decide) | exact all_off (by assumption) (by decide) | (unfold upFld; split <;> decide)) | exact in_pg (pg_17 _) (by decide))
    | with_reducible apply keeps_setCond_in 17 (by decide) (by first | exact in_pg2 (pg_17 _) (by first | decide | assumption | exact off_le (Nat.mod_lt _ (by decide)) (by first | assumption | decide) | exact off_le (by assumption) (by decide) | exact off_le (List.mem_range.mp (by assumption)) (by decide) | exact all_off (by assumption) (by decide) | (unfold upFld; split <;> decide)) | exact in_pg (pg_17 _) (by decide))
    | with_reducible apply Keeps.via (kept_wbEvent ..) (by decide)
    | with_reducible apply Keeps.via (kept_startPreview ..) (by decide)
    | with_reducible apply keeps_each_on
    | with_reducible apply Keeps.via (kept_writeRow ..) (by decide)
    | with_reducible apply Keeps.via (kept_setView ..) (by decide)
    | with_reducible apply keeps_ite
    | (intro _)
    | split)

theorem kept_execWritebackComplete (view : ViewNo) (s : State) (t : State) (h : execWritebackComplete view s = .next t) : Keeps 0x80002003038800020000 s t := by
  unfold execWritebackComplete at h
  cases h
  try dsimp only
  repeat' (first
    | with_reducible exact Keeps.refl _
    | with_reducible apply keeps_setFld_in 17 (by decide) (by first | exact in_pg2 (pg_17 _) (by first | decide | assumption | exact off_le (Nat.mod_lt _ (by decide)) (by first | assumption | decide) | exact off_le (by assumption) (by decide) | exact off_le (List.mem_range.mp (by assumption)) (by decide) | exact all_off (by assumption) (by decide) | (unfold upFld; split <;> decide)) | exact in_pg (pg_17 _) (by decide))
    | with_reducible apply keeps_inc_in 17 (by decide) (by first | exact in_pg2 (pg_17 _) (by first | decide | assumption | exact off_le (Nat.mod_lt _ (by decide)) (by first | assumption | decide) | exact off_le (by assumption) (by decide) | exact off_le (List.mem_range.mp (by assumption)) (by decide) | exact all_off (by assumption) (by decide) | (unfold upFld; split <;> decide)) | exact in_pg (pg_17 _) (by decide))
    | with_reducible apply keeps_setCond_in 17 (by decide) (by first | exact in_pg2 (pg_17 _) (by first | decide | assumption | exact off_le (Nat.mod_lt _ (by decide)) (by first | assumption | decide) | exact off_le (by assumption) (by decide) | exact off_le (List.mem_range.mp (by assumption)) (by decide) | exact all_off (by assumption) (by decide) | (unfold upFld; split <;> decide)) | exact in_pg (pg_17 _) (by decide))
    | with_reducible apply Keeps.via (kept_setView ..) (by decide)
    | with_reducible apply Keeps.via (kept_wbEvent ..) (by decide)
    | with_reducible apply Keeps.via (kept_startPreview ..) (by decide)
    | with_reducible apply Keeps.via (kept_settle ..) (by decide)
    | with_reducible apply keeps_ite
    | (intro _)
    | split)

theorem kept_sendPreview (s : State) (v q dst : Nat) (o : Tx) : Keeps 0x1000800024000 s (State.sendPreview s v q dst o) := by
  unfold State.sendPreview
  try dsimp only
  repeat' (first
    | with_reducible exact Keeps.refl _
    | with_reducible apply Keeps.via (kept_dropPreview ..) (by decide)
    | with_reducible apply Keeps.via (kept_sendVia ..) (by decide)
    | with_reducible apply keeps_ite
    | (intro _)
    | split)

theorem kept_execPreviewPacket (view : ViewNo) (s : State) (t : State) (h : execPreviewPacket view s = .next t) : Keeps 0x80002003038800024000 s t := by
  unfold execPreviewPacket at h
  cases h
  try dsimp only
  repeat' (first
    | with_reducible exact Keeps.refl _
    | with_reducible apply Keeps.via (kept_setView ..) (by decide)
    | with_reducible apply Keeps.via (kept_sendPreview ..) (by decide)
    | with_reducible apply Keeps.via (kept_settle ..) (by decide)
    | with_reducible apply keeps_ite
    | (intro _)
    | split)

end Sys2Proof.Machine
end

