-- ==== Sys2Proof/Laws/KeptCorrect.lean ====
section
/-!
SUPPORT. What the operations of Correct.lean keep.
-/
namespace Sys2Proof.Machine

theorem kept_respGo (s : State) (countM1 first : Nat) : Keeps 0x10000000000100000 s (State.respGo s countM1 first) := by
  unfold State.respGo
  try dsimp only
  repeat' (first
    | with_reducible exact Keeps.refl _
    | with_reducible apply keeps_setFld_in 20 (by decide) (by unfold inSpan; first | decide | (split <;> decide) | ((first | unfold driveFld | unfold errFld); split <;> decide))
    | with_reducible apply keeps_ite
    | (intro _)
    | split
    | with_reducible apply keeps_with_respLoad (by decide))

theorem kept_respCopy (s : State) (bank first n src : Nat) : Keeps 0x8000000000000000 s (State.respCopy s bank first n src) := by
  unfold State.respCopy
  try dsimp only
  repeat' (first
    | with_reducible exact Keeps.refl _
    | with_reducible apply keeps_each_on
    | with_reducible apply keeps_ite
    | (intro _)
    | split
    | with_reducible apply keeps_with_resp (by decide))

theorem kept_execResponseLoadDone (s : State) (t : State) (h : execResponseLoadDone s = .next t) : Keeps 0x18000000000100000 s t := by
  unfold execResponseLoadDone at h
  cases h
  try dsimp only
  repeat' (first
    | with_reducible exact Keeps.refl _
    | with_reducible apply keeps_setFld_in 20 (by decide) (by unfold inSpan; first | decide | (split <;> decide) | ((first | unfold driveFld | unfold errFld); split <;> decide))
    | with_reducible apply Keeps.via (kept_respCopy ..) (by decide)
    | with_reducible apply keeps_ite
    | (intro _)
    | split
    | with_reducible apply keeps_with_respLoad (by decide))

theorem kept_sendPart (s : State) (t : Tile) (p : Part) (cyc v : Nat) : Keeps 0x2000800500000 s (State.sendPart s t p cyc v) := by
  unfold State.sendPart
  try dsimp only
  repeat' (first
    | with_reducible exact Keeps.refl _
    | with_reducible apply keeps_inc_in 20 (by decide) (by unfold inSpan; first | decide | (split <;> decide) | ((first | unfold driveFld | unfold errFld); split <;> decide))
    | with_reducible apply Keeps.via (kept_setView ..) (by decide)
    | with_reducible apply Keeps.via (kept_sendBoth ..) (by decide)
    | with_reducible apply keeps_ite
    | (intro _)
    | split)

theorem kept_sendTile (s : State) (views : List Nat) (cyc : Nat) (t : Tile) : Keeps 0x2000800500000 s (State.sendTile s views cyc t) := by
  unfold State.sendTile
  try dsimp only
  repeat' (first
    | with_reducible exact Keeps.refl _
    | with_reducible apply keeps_each_on
    | with_reducible apply Keeps.via (kept_sendPart ..) (by decide)
    | with_reducible apply keeps_ite
    | (intro _)
    | split)

theorem kept_correctCycle (s : State) (views : List Nat) (cyc : Nat) : Keeps 0x2000800500000 s (State.correctCycle s views cyc) := by
  unfold State.correctCycle
  try dsimp only
  repeat' (first
    | with_reducible exact Keeps.refl _
    | with_reducible apply keeps_each_on
    | with_reducible apply Keeps.via (kept_setView ..) (by decide)
    | with_reducible apply Keeps.via (kept_sendTile ..) (by decide)
    | with_reducible apply keeps_ite
    | (intro _)
    | split)

theorem kept_estimate (s : State) (c : Nat) : Keeps 0x20000000000100000 s (State.estimate s c) := by
  unfold State.estimate
  try dsimp only
  repeat' (first
    | with_reducible exact Keeps.refl _
    | with_reducible apply keeps_setFld_in 20 (by decide) (by unfold inSpan; first | decide | (split <;> decide) | ((first | unfold driveFld | unfold errFld); split <;> decide))
    | with_reducible apply keeps_ite
    | (intro _)
    | split
    | with_reducible apply keeps_with_cap (by decide))

theorem kept_latchCap (s : State) (c : Nat) : Keeps 0x60000000000100000 s (State.latchCap s c) := by
  unfold State.latchCap
  try dsimp only
  repeat' (first
    | with_reducible exact Keeps.refl _
    | with_reducible apply keeps_setFld_in 20 (by decide) (by unfold inSpan; first | decide | (split <;> decide) | ((first | unfold driveFld | unfold errFld); split <;> decide))
    | with_reducible apply keeps_ite
    | (intro _)
    | split
    | with_reducible apply keeps_with_cap_corrTouched (by decide))

end Sys2Proof.Machine
end

