-- ==== Sys2Proof/Laws/KeptPlayout.lean ====
section
/-!
SUPPORT. What the operations of Playout.lean keep.
-/
namespace Sys2Proof.Machine

theorem kept_setPlay (s : State) (p : Playout) : Keeps 0x80000000000000000 s (State.setPlay s p) := by
  unfold State.setPlay
  try dsimp only
  repeat' (first
    | with_reducible exact Keeps.refl _
    | with_reducible apply keeps_ite
    | (intro _)
    | split
    | with_reducible apply keeps_with_play (by decide))

theorem kept_seatsRecord (s : State) (kind w1 : Nat) : Keeps 0x38800000000 s (State.seatsRecord s kind w1) := by
  unfold State.seatsRecord
  try dsimp only
  repeat' (first
    | with_reducible exact Keeps.refl _
    | with_reducible apply keeps_allSeatsEntry_on (by decide)
    | exact Nat.le_refl 4
    | assumption
    | with_reducible apply keeps_ite
    | (intro _)
    | split)

theorem kept_playoutAdmitted (s : State) (code : Nat) : Keeps 0x80000038800000080 s (State.playoutAdmitted s code) := by
  unfold State.playoutAdmitted
  try dsimp only
  repeat' (first
    | with_reducible exact Keeps.refl _
    | with_reducible apply keeps_setFld_in 7 (by decide) (by unfold inSpan; first | decide | (split <;> decide) | ((first | unfold driveFld | unfold errFld); split <;> decide))
    | with_reducible apply keeps_inc_in 7 (by decide) (by unfold inSpan; first | decide | (split <;> decide) | ((first | unfold driveFld | unfold errFld); split <;> decide))
    | with_reducible apply Keeps.via (kept_setPlay ..) (by decide)
    | with_reducible apply Keeps.via (kept_seatsRecord ..) (by decide)
    | with_reducible apply keeps_ite
    | (intro _)
    | split)

theorem kept_playoutStop (s : State) : Keeps 0x80000038800000000 s (State.playoutStop s) := by
  unfold State.playoutStop
  try dsimp only
  repeat' (first
    | with_reducible exact Keeps.refl _
    | with_reducible apply Keeps.via (kept_setPlay ..) (by decide)
    | with_reducible apply Keeps.via (kept_seatsRecord ..) (by decide)
    | with_reducible apply keeps_ite
    | (intro _)
    | split)

theorem kept_playoutWithdraw (s : State) : Keeps 0x80000400000000000 s (State.playoutWithdraw s) := by
  unfold State.playoutWithdraw
  try dsimp only
  repeat' (first
    | with_reducible exact Keeps.refl _
    | with_reducible apply Keeps.via (kept_setPlay ..) (by decide)
    | with_reducible apply Keeps.via (kept_setCyc ..) (by decide)
    | with_reducible apply keeps_ite
    | (intro _)
    | split)

theorem kept_playoutCycle (s : State) (n : Nat) (first : Bool) : Keeps 0x80000000000000000 s (State.playoutCycle s n first) := by
  unfold State.playoutCycle
  try dsimp only
  repeat' (first
    | with_reducible exact Keeps.refl _
    | with_reducible apply Keeps.via (kept_setPlay ..) (by decide)
    | with_reducible apply keeps_ite
    | (intro _)
    | split)

theorem kept_copyDone (s : State) (track frame : Nat) : Keeps 0x838a10000000 s (State.copyDone s track frame) := by
  unfold State.copyDone
  try dsimp only
  repeat' (first
    | with_reducible exact Keeps.refl _
    | with_reducible apply Keeps.via (kept_poke ..) (by decide)
    | with_reducible apply Keeps.via (kept_setFlow ..) (by decide)
    | with_reducible apply Keeps.via (kept_completeFrame ..) (by decide)
    | with_reducible apply keeps_ite
    | (intro _)
    | split)

theorem kept_execPlayoutCopyDone (track : Fin 8) (s : State) (t : State) (h : execPlayoutCopyDone track s = .next t) : Keeps 0x80082001838a10000000 s t := by
  unfold execPlayoutCopyDone at h
  cases h
  try dsimp only
  repeat' (first
    | with_reducible exact Keeps.refl _
    | with_reducible apply Keeps.via (kept_setPlay ..) (by decide)
    | with_reducible apply Keeps.via (kept_copyDone ..) (by decide)
    | with_reducible apply Keeps.via (kept_settle ..) (by decide)
    | with_reducible apply keeps_ite
    | (intro _)
    | split)

end Sys2Proof.Machine
end

