-- ==== Sys2Proof/Laws/KeptCommit.lean ====
section
/-!
SUPPORT. What the operations of Commit.lean keep.
-/
namespace Sys2Proof.Machine

theorem allPages_in {p : Nat} (h : p ∈ allPages) : ∃ i, i < 28 ∧ pgIn i p 0x1000 := by
  unfold allPages at h
  simp only [List.mem_flatten, List.mem_map] at h
  obtain ⟨l, ⟨e, he, rfl⟩, hp⟩ := h
  obtain ⟨k, hk, rfl⟩ := List.mem_map.mp hp
  have hk := List.mem_range.mp hk
  have hw : ∀ e ∈ pageMap, ∃ i < 28, spanLo i ≤ e.1 ∧ e.1 + e.2.1 * 0x1000 ≤ spanHi i := by decide
  obtain ⟨i, hi, h1, h2⟩ := hw e he
  exact ⟨i, hi, by omega, by omega, by omega⟩

theorem commitPages_all {s : State} {cm : Commit} {p : Nat} (h : p ∈ s.commitPages cm) : p ∈ allPages := by
  unfold State.commitPages at h
  split at h
  · exact (List.mem_filter.mp h).1
  · exact h

theorem endPages_all {s : State} {cm : Commit} {p : Nat} (h : p ∈ if cm.origin = 0 then s.commitPages cm else []) :
    p ∈ allPages := by
  split at h
  · exact commitPages_all h
  · cases h

theorem page_bit {m i : Nat} (hm : 0xfffffff &&& m = 0xfffffff) (hi : i < 28) : m.testBit i = true := by
  have h := congrArg (fun x => x.testBit i) hm
  have h28 : ∀ i < 28, Nat.testBit 0xfffffff i = true := by decide
  simp only [Nat.testBit_and, h28 i hi, Bool.true_and] at h
  exact h

theorem keeps_setReg_pages {m : Nat} {r s : State} {p o : Nat} {v : Word} (hm : 0xfffffff &&& m = 0xfffffff)
    (hp : p ∈ allPages) (ho : o < 0x1000) (h : Keeps m r s) : Keeps m r (s.setReg (p + o) v) := by
  obtain ⟨i, hi, hg⟩ := allPages_in hp
  exact keeps_setReg_in i (page_bit hm hi) (in_pg hg ho) h

theorem keeps_setFld_pages {m : Nat} {r s : State} {p : Nat} {f : Fld} {v j : Nat} (hm : 0xfffffff &&& m = 0xfffffff)
    (hp : p ∈ allPages) (ho : f.off + j * f.stride < 0x1000) (h : Keeps m r s) : Keeps m r (s.setFld p f v j) := by
  obtain ⟨i, hi, hg⟩ := allPages_in hp
  exact keeps_setFld_in i (page_bit hm hi) (in_pg2 hg ho) h

theorem kept_markLate (s : State) (cm : Commit) : Keeps 0x10fffffff s (State.markLate s cm) := by
  unfold State.markLate
  try dsimp only
  repeat' (first
    | with_reducible exact Keeps.refl _
    | with_reducible apply keeps_setFld_pages (by decide) (by first | exact commitPages_all (by assumption) | exact endPages_all (by assumption)) (by decide)
    | with_reducible apply keeps_setFld_ge 32 (by decide) (by decide) (by with_unfolding_all exact ge_32 _ _)
    | with_reducible apply keeps_inc_in 16 (by decide) (by unfold inSpan; first | decide | (split <;> decide) | ((first | unfold driveFld | unfold errFld); split <;> decide))
    | with_reducible apply keeps_setCond_in 16 (by decide) (by unfold inSpan; first | decide | (split <;> decide) | ((first | unfold driveFld | unfold errFld); split <;> decide))
    | with_reducible apply keeps_each_mem
    | with_reducible apply keeps_when_on
    | with_reducible apply keeps_ite
    | (intro _)
    | split)

theorem kept_commitGo (s : State) (seat page : Nat) : Keeps 0x8000200143890fffffff s (State.commitGo s seat page) := by
  unfold State.commitGo
  try dsimp only
  repeat' (first
    | with_reducible exact Keeps.refl _
    | with_reducible apply keeps_setFld_pages (by decide) (by first | exact commitPages_all (by assumption) | exact endPages_all (by assumption)) (by decide)
    | with_reducible apply keeps_setFld_ge 32 (by decide) (by decide) (by with_unfolding_all exact ge_32 _ _)
    | with_reducible apply keeps_each_mem
    | with_reducible apply keeps_when_on
    | with_reducible apply Keeps.via (kept_markLate ..) (by decide)
    | with_reducible apply Keeps.via (kept_setCyc ..) (by decide)
    | with_reducible apply Keeps.via (kept_settle ..) (by decide)
    | with_reducible apply keeps_ite
    | (intro _)
    | split)

theorem kept_endGo (s : State) (cm : Commit) : Keeps 0x10fffffff s (State.endGo s cm) := by
  unfold State.endGo
  try dsimp only
  repeat' (first
    | with_reducible exact Keeps.refl _
    | with_reducible apply keeps_setFld_pages (by decide) (by first | exact commitPages_all (by assumption) | exact endPages_all (by assumption)) (by decide)
    | with_reducible apply keeps_setFld_ge 32 (by decide) (by decide) (by with_unfolding_all exact ge_32 _ _)
    | with_reducible apply keeps_each_mem
    | with_reducible apply keeps_when_on
    | with_reducible apply keeps_ite
    | (intro _)
    | split)

theorem kept_cancelGo (s : State) (seat group : Nat) : Keeps 0x40010fffffff s (State.cancelGo s seat group) := by
  unfold State.cancelGo
  try dsimp only
  repeat' (first
    | with_reducible exact Keeps.refl _
    | with_reducible apply Keeps.via (kept_setCyc ..) (by decide)
    | with_reducible apply Keeps.via (kept_endGo ..) (by decide)
    | with_reducible apply keeps_ite
    | (intro _)
    | split)

theorem kept_queueAll (s : State) (origin : Nat) (words : Sparse Word) : Keeps 0x400000000000 s (State.queueAll s origin words) := by
  unfold State.queueAll
  try dsimp only
  repeat' (first
    | with_reducible exact Keeps.refl _
    | with_reducible apply Keeps.via (kept_setCyc ..) (by decide)
    | with_reducible apply keeps_ite
    | (intro _)
    | split)

theorem kept_queueInitial (s : State) : Keeps 0x600000000000 s (State.queueInitial s) := by
  unfold State.queueInitial
  try dsimp only
  repeat' (first
    | with_reducible exact Keeps.refl _
    | with_reducible apply Keeps.via (kept_queueAll ..) (by decide)
    | with_reducible apply keeps_ite
    | (intro _)
    | split
    | with_reducible apply keeps_with_pow (by decide))

theorem kept_admObjects (s : State) (pages : List Nat) (f : Option Fail) : Keeps 0x88000 s (State.admObjects s pages f) := by
  unfold State.admObjects
  try dsimp only
  repeat' (first
    | with_reducible exact Keeps.refl _
    | with_reducible apply keeps_setFld_in 15 (by decide) (by unfold inSpan; first | decide | (split <;> decide) | ((first | unfold driveFld | unfold errFld); split <;> decide))
    | with_reducible apply keeps_setFld_in 19 (by decide) (by unfold inSpan; first | decide | (split <;> decide) | ((first | unfold driveFld | unfold errFld); split <;> decide))
    | with_reducible apply keeps_when_on
    | with_reducible apply keeps_ite
    | (intro _)
    | split)

theorem kept_admTotals (s : State) (cm : Commit) (code : Nat) : Keeps 0x10000 s (State.admTotals s cm code) := by
  unfold State.admTotals
  try dsimp only
  repeat' (first
    | with_reducible exact Keeps.refl _
    | with_reducible apply keeps_setFld_in 16 (by decide) (by unfold inSpan; first | decide | (split <;> decide) | ((first | unfold driveFld | unfold errFld); split <;> decide))
    | with_reducible apply keeps_inc_in 16 (by decide) (by unfold inSpan; first | decide | (split <;> decide) | ((first | unfold driveFld | unfold errFld); split <;> decide))
    | with_reducible apply keeps_ite
    | (intro _)
    | split)

theorem kept_publish (s : State) (cm : Commit) (f : Option Fail) : Keeps 0x8000003890fffffff s (State.publish s cm f) := by
  unfold State.publish
  try dsimp only
  repeat' (first
    | with_reducible exact Keeps.refl _
    | with_reducible apply keeps_setReg_pages (by decide) (by first | exact commitPages_all (by assumption) | exact endPages_all (by assumption)) (by decide)
    | with_reducible apply keeps_setFld_ge 32 (by decide) (by decide) (by with_unfolding_all exact ge_32 _ _)
    | with_reducible apply keeps_setCond_in 16 (by decide) (by unfold inSpan; first | decide | (split <;> decide) | ((first | unfold driveFld | unfold errFld); split <;> decide))
    | with_reducible apply keeps_each_mem
    | with_reducible apply Keeps.via (kept_admObjects ..) (by decide)
    | with_reducible apply Keeps.via (kept_admTotals ..) (by decide)
    | with_reducible apply keeps_when_on
    | with_reducible apply Keeps.via (kept_endGo ..) (by decide)
    | with_reducible apply Keeps.via (kept_playoutAdmitted ..) (by decide)
    | with_reducible apply keeps_ite
    | (intro _)
    | split)

theorem kept_schedSend (s : State) (old : Sparse Word) : Keeps 0x800000000400800400000 s (State.schedSend s old) := by
  unfold State.schedSend
  try dsimp only
  repeat' (first
    | with_reducible exact Keeps.refl _
    | with_reducible apply Keeps.via (kept_setCyc ..) (by decide)
    | with_reducible apply keeps_each_on
    | with_reducible apply Keeps.via (kept_askSched ..) (by decide)
    | with_reducible apply Keeps.via (kept_flushBroadcasts ..) (by decide)
    | with_reducible apply keeps_ite
    | (intro _)
    | split)

theorem kept_freshRefs (s : State) (cm : Commit) : Keeps 0x40000000000 s (State.freshRefs s cm) := by
  unfold State.freshRefs
  try dsimp only
  repeat' (first
    | with_reducible exact Keeps.refl _
    | with_reducible apply keeps_ite
    | (intro _)
    | split
    | with_reducible apply keeps_with_stale (by decide))

theorem kept_admitOne (s : State) (cm : Commit) : Keeps 0x80008000047890fffffff s (State.admitOne s cm) := by
  unfold State.admitOne
  try dsimp only
  repeat' (first
    | with_reducible exact Keeps.refl _
    | with_reducible apply Keeps.via (kept_setCyc ..) (by decide)
    | with_reducible apply Keeps.via (kept_freshRefs ..) (by decide)
    | with_reducible apply Keeps.via (kept_publish ..) (by decide)
    | with_reducible apply Keeps.via (kept_schedSend ..) (by decide)
    | with_reducible apply keeps_ite
    | (intro _)
    | split)

theorem kept_overtaken (s : State) (lo land : Nat) : Keeps 0x40010fffffff s (State.overtaken s lo land) := by
  unfold State.overtaken
  try dsimp only
  repeat' (first
    | with_reducible exact Keeps.refl _
    | with_reducible apply Keeps.via (kept_setCyc ..) (by decide)
    | with_reducible apply keeps_each_on
    | with_reducible apply Keeps.via (kept_markLate ..) (by decide)
    | with_reducible apply keeps_ite
    | (intro _)
    | split)

theorem kept_beginBridge (s : State) (plan : (Nat × Nat) × Nat) (sameGrid : Bool) : Keeps 0x40010fffffff s (State.beginBridge s plan sameGrid) := by
  unfold State.beginBridge
  try dsimp only
  repeat' (first
    | with_reducible exact Keeps.refl _
    | with_reducible apply keeps_inc_in 16 (by decide) (by unfold inSpan; first | decide | (split <;> decide) | ((first | unfold driveFld | unfold errFld); split <;> decide))
    | with_reducible apply keeps_setCond_in 16 (by decide) (by unfold inSpan; first | decide | (split <;> decide) | ((first | unfold driveFld | unfold errFld); split <;> decide))
    | with_reducible apply Keeps.via (kept_setCyc ..) (by decide)
    | with_reducible apply Keeps.via (kept_overtaken ..) (by decide)
    | with_reducible apply keeps_ite
    | (intro _)
    | split)

theorem kept_retime (s : State) (gridWas : Grid) (guardWas : Nat) : Keeps 0x40010fffffff s (State.retime s gridWas guardWas) := by
  unfold State.retime
  try dsimp only
  repeat' (first
    | with_reducible exact Keeps.refl _
    | with_reducible apply Keeps.via (kept_setCyc ..) (by decide)
    | with_reducible apply keeps_when_on
    | with_reducible apply Keeps.via (kept_beginBridge ..) (by decide)
    | with_reducible apply keeps_ite
    | (intro _)
    | split)

theorem kept_closeWindow (s : State) : Keeps 0x88008200147890fffffff s (State.closeWindow s) := by
  unfold State.closeWindow
  try dsimp only
  repeat' (first
    | with_reducible exact Keeps.refl _
    | with_reducible apply Keeps.via (kept_setCyc ..) (by decide)
    | with_reducible apply Keeps.via (kept_stepAtWindow ..) (by decide)
    | with_reducible apply keeps_each_on
    | with_reducible apply Keeps.via (kept_admitOne ..) (by decide)
    | with_reducible apply keeps_when_on
    | with_reducible apply Keeps.via (kept_retime ..) (by decide)
    | with_reducible apply Keeps.via (kept_settle ..) (by decide)
    | with_reducible apply keeps_ite
    | (intro _)
    | split)

theorem kept_execCommitWindow (s : State) (t : State) (h : execCommitWindow s = .next t) : Keeps 0x88008200147890fffffff s t := by
  unfold execCommitWindow at h
  cases h
  try dsimp only
  repeat' (first
    | with_reducible exact Keeps.refl _
    | with_reducible apply Keeps.via (kept_closeWindow ..) (by decide)
    | with_reducible apply keeps_ite
    | (intro _)
    | split)

end Sys2Proof.Machine
end

