-- ==== Sys2Proof/Laws/KeptCycle.lean ====
section
/-!
SUPPORT. What the operations of Cycle.lean keep.
-/
namespace Sys2Proof.Machine

theorem kept_cyclePackets (s : State) (n launch held sent : Nat) : Keeps 0x800000040438820400000 s (State.cyclePackets s n launch held sent) := by
  unfold State.cyclePackets
  try dsimp only
  repeat' (first
    | with_reducible exact Keeps.refl _
    | with_reducible apply keeps_each_mem
    | with_reducible apply Keeps.via (kept_setLink ..) (by decide)
    | with_reducible apply keeps_when_on
    | with_reducible apply Keeps.via (kept_askSched ..) (by decide)
    | with_reducible apply Keeps.via (kept_number _ _ _ (by first | assumption | decide | exact Fin.isLt _ | exact bitsOf_lt64 _ _ | omega | exact List.mem_range.mp (by assumption) | exact presentPos_lt (by assumption) | exact startRecord_len .. | exact presetTrims_len .. | exact take7_len .. | exact take6_len .. | exact ethStart_len .. | exact all_off (by assumption) (by decide))) (by decide)
    | with_reducible apply Keeps.via (kept_flushBroadcasts ..) (by decide)
    | with_reducible apply Keeps.via (kept_sendBoth ..) (by decide)
    | with_reducible apply Keeps.via (kept_setCyc ..) (by decide)
    | with_reducible apply Keeps.via (kept_grantTile ..) (by decide)
    | with_reducible apply keeps_ite
    | (intro _)
    | split)

theorem kept_viewLatency (s : State) (n v : Nat) : Keeps 0x30000 s (State.viewLatency s n v) := by
  unfold State.viewLatency
  try dsimp only
  repeat' (first
    | with_reducible exact Keeps.refl _
    | with_reducible apply keeps_setPair_in 17 (by decide) (by first | exact in_pg2 (pg_17 _) (by first | decide | assumption | exact off_le (Nat.mod_lt _ (by decide)) (by first | assumption | decide) | exact off_le (by assumption) (by decide) | exact off_le (List.mem_range.mp (by assumption)) (by decide) | exact all_off (by assumption) (by decide) | (unfold upFld; split <;> decide)) | exact in_pg (pg_17 _) (by decide)) (by first | exact in_pg2 (pg_17 _) (by first | decide | assumption | exact off_le (Nat.mod_lt _ (by decide)) (by first | assumption | decide) | exact off_le (by assumption) (by decide) | exact off_le (List.mem_range.mp (by assumption)) (by decide) | exact all_off (by assumption) (by decide) | (unfold upFld; split <;> decide)) | exact in_pg (pg_17 _) (by decide))
    | with_reducible apply keeps_setFld_in 17 (by decide) (by first | exact in_pg2 (pg_17 _) (by first | decide | assumption | exact off_le (Nat.mod_lt _ (by decide)) (by first | assumption | decide) | exact off_le (by assumption) (by decide) | exact off_le (List.mem_range.mp (by assumption)) (by decide) | exact all_off (by assumption) (by decide) | (unfold upFld; split <;> decide)) | exact in_pg (pg_17 _) (by decide))
    | with_reducible apply keeps_setCond_in 16 (by decide) (by unfold inSpan; first | decide | (split <;> decide) | ((first | unfold driveFld | unfold errFld); split <;> decide))
    | with_reducible apply keeps_when_on
    | with_reducible apply keeps_ite
    | (intro _)
    | split)

theorem kept_freshWriteback (s : State) (old : Sparse Word) (v : Nat) : Keeps 0x2000000020000 s (State.freshWriteback s old v) := by
  unfold State.freshWriteback
  try dsimp only
  repeat' (first
    | with_reducible exact Keeps.refl _
    | with_reducible apply keeps_setReg_in 17 (by decide) (by first | exact in_pg2 (pg_17 _) (by first | decide | assumption | exact off_le (Nat.mod_lt _ (by decide)) (by first | assumption | decide) | exact off_le (by assumption) (by decide) | exact off_le (List.mem_range.mp (by assumption)) (by decide) | exact all_off (by assumption) (by decide) | (unfold upFld; split <;> decide)) | exact in_pg (pg_17 _) (by decide))
    | with_reducible apply Keeps.via (kept_setView ..) (by decide)
    | with_reducible apply keeps_ite
    | (intro _)
    | split)

theorem kept_touchViews (s : State) (old : Sparse Word) : Keeps 0x40002000000000000 s (State.touchViews s old) := by
  unfold State.touchViews
  try dsimp only
  repeat' (first
    | with_reducible exact Keeps.refl _
    | with_reducible apply keeps_each_on
    | with_reducible apply keeps_when_on
    | with_reducible apply Keeps.via (kept_setView ..) (by decide)
    | with_reducible apply keeps_ite
    | (intro _)
    | split
    | with_reducible apply keeps_with_corrTouched (by decide))

theorem kept_replaceTiles (s : State) (old : Sparse Word) : Keeps 0x800000000000820400000 s (State.replaceTiles s old) := by
  unfold State.replaceTiles
  try dsimp only
  repeat' (first
    | with_reducible exact Keeps.refl _
    | with_reducible apply keeps_each_mem
    | with_reducible apply keeps_when_on
    | with_reducible apply Keeps.via (kept_assign _ _ _ (by first | assumption | decide | exact Fin.isLt _ | exact bitsOf_lt64 _ _ | omega | exact List.mem_range.mp (by assumption) | exact presentPos_lt (by assumption) | exact startRecord_len .. | exact presetTrims_len .. | exact take7_len .. | exact take6_len .. | exact ethStart_len .. | exact all_off (by assumption) (by decide))) (by decide)
    | with_reducible apply Keeps.via (kept_judgeBuffer ..) (by decide)
    | with_reducible apply keeps_ite
    | (intro _)
    | split)

theorem kept_touchLamps (s : State) (was : List (Nat × Nat)) : Keeps 0x40000000000000000 s (State.touchLamps s was) := by
  unfold State.touchLamps
  try dsimp only
  repeat' (first
    | with_reducible exact Keeps.refl _
    | with_reducible apply keeps_ite
    | (intro _)
    | split
    | with_reducible apply keeps_with_corrTouched (by decide))

theorem kept_askRate (s : State) (old : Sparse Word) : Keeps 0x10000000000000000000 s (State.askRate s old) := by
  unfold State.askRate
  try dsimp only
  repeat' (first
    | with_reducible exact Keeps.refl _
    | with_reducible apply keeps_ite
    | (intro _)
    | split
    | with_reducible apply keeps_with_rateWait (by decide))

theorem kept_applyTables (s : State) (old : Sparse Word) (n : Nat) : Keeps 0x10040080000000100008 s (State.applyTables s old n) := by
  unfold State.applyTables
  try dsimp only
  repeat' (first
    | with_reducible exact Keeps.refl _
    | with_reducible apply keeps_setPair_in 20 (by decide) (by unfold inSpan; decide) (by unfold inSpan; decide)
    | with_reducible apply keeps_setFld_in 20 (by decide) (by unfold inSpan; first | decide | (split <;> decide) | ((first | unfold driveFld | unfold errFld); split <;> decide))
    | with_reducible apply keeps_when_on
    | with_reducible apply Keeps.via (kept_scanStarts ..) (by decide)
    | with_reducible apply Keeps.via (kept_touchLamps ..) (by decide)
    | with_reducible apply Keeps.via (kept_askRate ..) (by decide)
    | with_reducible apply keeps_ite
    | (intro _)
    | split)

theorem kept_applied (s : State) (old : Sparse Word) (acc : List Commit) (n : Nat) : Keeps 0xc160400cf839930d3f028 s (State.applied s old acc n) := by
  unfold State.applied
  try dsimp only
  repeat' (first
    | with_reducible exact Keeps.refl _
    | with_reducible apply keeps_setFld_ge 32 (by decide) (by decide) (by with_unfolding_all exact ge_32 _ _)
    | with_reducible apply keeps_setFld_in 16 (by decide) (by unfold inSpan; first | decide | (split <;> decide) | ((first | unfold driveFld | unfold errFld); split <;> decide))
    | with_reducible apply keeps_each_on
    | with_reducible apply keeps_when_on
    | with_reducible apply Keeps.via (kept_viewLatency ..) (by decide)
    | with_reducible apply Keeps.via (kept_freshWriteback ..) (by decide)
    | with_reducible apply Keeps.via (kept_touchViews ..) (by decide)
    | with_reducible apply Keeps.via (kept_applyIngest ..) (by decide)
    | with_reducible apply Keeps.via (kept_applyTables ..) (by decide)
    | with_reducible apply Keeps.via (kept_syncCommit ..) (by decide)
    | with_reducible apply Keeps.via (kept_syncRest ..) (by decide)
    | with_reducible apply Keeps.via (kept_replaceTiles ..) (by decide)
    | with_reducible apply keeps_ite
    | (intro _)
    | split)

theorem kept_beginCycle (s : State) (acc : List Commit) : Keeps 0x800080000401000010000 s (State.beginCycle s acc) := by
  unfold State.beginCycle
  try dsimp only
  repeat' (first
    | with_reducible exact Keeps.refl _
    | with_reducible apply keeps_setPair_in 16 (by decide) (by unfold inSpan; decide) (by unfold inSpan; decide)
    | with_reducible apply Keeps.via (kept_setCyc ..) (by decide)
    | with_reducible apply Keeps.via (kept_quietCycle ..) (by decide)
    | with_reducible apply Keeps.via (kept_playoutCycle ..) (by decide)
    | with_reducible apply keeps_ite
    | (intro _)
    | split
    | with_reducible apply keeps_with_force (by decide))

theorem kept_composeCycle (s : State) (n t start : Nat) : Keeps 0x8000400c2c38a31578000 s (State.composeCycle s n t start) := by
  unfold State.composeCycle
  try dsimp only
  repeat' (first
    | with_reducible exact Keeps.refl _
    | with_reducible apply Keeps.via (kept_rateAtCompose ..) (by decide)
    | with_reducible apply Keeps.via (kept_selectFlows ..) (by decide)
    | with_reducible apply Keeps.via (kept_showLayers ..) (by decide)
    | with_reducible apply Keeps.via (kept_cyclePackets ..) (by decide)
    | with_reducible apply Keeps.via (kept_diagDispatch ..) (by decide)
    | with_reducible apply keeps_each_on
    | with_reducible apply Keeps.via (kept_judgeView ..) (by decide)
    | with_reducible apply keeps_when_on
    | with_reducible apply Keeps.via (kept_correctCycle ..) (by decide)
    | with_reducible apply Keeps.via (kept_writeback ..) (by decide)
    | with_reducible apply keeps_ite
    | (intro _)
    | split
    | with_reducible apply keeps_with_corrTouched (by decide))

theorem kept_composeStart (s : State) : Keeps 0xc960e22cfc39b71d7f028 s (State.composeStart s) := by
  unfold State.composeStart
  try dsimp only
  repeat' (first
    | with_reducible exact Keeps.refl _
    | with_reducible apply Keeps.via (kept_beginCycle ..) (by decide)
    | with_reducible apply keeps_when_on
    | with_reducible apply Keeps.via (kept_applied ..) (by decide)
    | with_reducible apply Keeps.via (kept_latchZones ..) (by decide)
    | with_reducible apply Keeps.via (kept_latchGains ..) (by decide)
    | with_reducible apply Keeps.via (kept_latchCap ..) (by decide)
    | with_reducible apply Keeps.via (kept_retrimEdges ..) (by decide)
    | with_reducible apply Keeps.via (kept_composeCycle ..) (by decide)
    | with_reducible apply Keeps.via (kept_settle ..) (by decide)
    | with_reducible apply keeps_ite
    | (intro _)
    | split)

theorem kept_execComposeStart (s : State) (t : State) (h : execComposeStart s = .next t) : Keeps 0xc960e22cfc39b71d7f028 s t := by
  unfold execComposeStart at h
  cases h
  try dsimp only
  repeat' (first
    | with_reducible exact Keeps.refl _
    | with_reducible apply Keeps.via (kept_composeStart ..) (by decide)
    | with_reducible apply keeps_ite
    | (intro _)
    | split)

theorem kept_execBridgeCycle (s : State) (t : State) (h : execBridgeCycle s = .next t) : Keeps 0x8000002c0438820410000 s t := by
  unfold execBridgeCycle at h
  cases h
  try dsimp only
  repeat' (first
    | with_reducible exact Keeps.refl _
    | with_reducible apply keeps_setPair_in 16 (by decide) (by unfold inSpan; decide) (by unfold inSpan; decide)
    | with_reducible apply Keeps.via (kept_setCyc ..) (by decide)
    | with_reducible apply Keeps.via (kept_quietCycle ..) (by decide)
    | with_reducible apply Keeps.via (kept_retrimEdges ..) (by decide)
    | with_reducible apply keeps_when_on
    | with_reducible apply Keeps.via (kept_cyclePackets ..) (by decide)
    | with_reducible apply Keeps.via (kept_diagDispatch ..) (by decide)
    | with_reducible apply keeps_ite
    | (intro _)
    | split)

theorem kept_execPowerCapUpdate (s : State) (t : State) (h : execPowerCapUpdate s = .next t) : Keeps 0x20000000000100000 s t := by
  unfold execPowerCapUpdate at h
  cases h
  try dsimp only
  repeat' (first
    | with_reducible exact Keeps.refl _
    | with_reducible apply Keeps.via (kept_estimate ..) (by decide)
    | with_reducible apply keeps_ite
    | (intro _)
    | split)

end Sys2Proof.Machine
end

