-- ==== Sys2Proof/Laws/KeptFlash.lean ====
section
/-!
SUPPORT. What the operations of Flash.lean keep.
-/
namespace Sys2Proof.Machine

theorem kept_cutStep (s : State) (f : FlashStep) : Keeps 0x100000000400000000 s (State.cutStep s f) := by
  unfold State.cutStep
  try dsimp only
  repeat' (first
    | with_reducible exact Keeps.refl _
    | with_reducible apply keeps_foldl_on
    | with_reducible apply keeps_fold_pair
    | with_reducible apply keeps_ite
    | (intro _)
    | split
    | with_reducible apply keeps_with_flashMem (by decide)
    | with_reducible apply keeps_with_flashMem_free (by decide))

theorem kept_cutFlash (s : State) : Keeps 0x300000000400000000 s (State.cutFlash s) := by
  unfold State.cutFlash
  try dsimp only
  repeat' (first
    | with_reducible exact Keeps.refl _
    | with_reducible apply Keeps.via (kept_cutStep ..) (by decide)
    | with_reducible apply keeps_ite
    | (intro _)
    | split
    | with_reducible apply keeps_with_flashOp (by decide))

theorem kept_flashStart (s : State) (o : FlashOp) : Keeps 0x200000000800000000 s (State.flashStart s o) := by
  unfold State.flashStart
  try dsimp only
  repeat' (first
    | with_reducible exact Keeps.refl _
    | with_reducible apply Keeps.via (kept_emit ..) (by decide)
    | with_reducible apply keeps_ite
    | (intro _)
    | split
    | with_reducible apply keeps_with_flashOp (by decide))

theorem kept_flashBegin (s : State) (op k len : Nat) (steps : List FlashStep) : Keeps 0x200000000800000020 s (State.flashBegin s op k len steps) := by
  unfold State.flashBegin
  try dsimp only
  repeat' (first
    | with_reducible exact Keeps.refl _
    | with_reducible apply keeps_setFld_in 5 (by decide) (by unfold inSpan; first | decide | (split <;> decide) | ((first | unfold driveFld | unfold errFld); split <;> decide))
    | with_reducible apply Keeps.via (kept_flashStart ..) (by decide)
    | with_reducible apply keeps_ite
    | (intro _)
    | split)

theorem kept_flashErr (s : State) (e : Nat) : Keeps 0x20 s (State.flashErr s e) := by
  unfold State.flashErr
  try dsimp only
  repeat' (first
    | with_reducible exact Keeps.refl _
    | with_reducible apply keeps_setFld_in 5 (by decide) (by unfold inSpan; first | decide | (split <;> decide) | ((first | unfold driveFld | unfold errFld); split <;> decide))
    | with_reducible apply keeps_ite
    | (intro _)
    | split)

theorem kept_flashEnd (s : State) (o : FlashOp) : Keeps 0x200000000000000020 s (State.flashEnd s o) := by
  unfold State.flashEnd
  try dsimp only
  repeat' (first
    | with_reducible exact Keeps.refl _
    | with_reducible apply keeps_setFld_in 5 (by decide) (by unfold inSpan; first | decide | (split <;> decide) | ((first | unfold driveFld | unfold errFld); split <;> decide))
    | with_reducible apply keeps_setCond_in 5 (by decide) (by unfold inSpan; first | decide | (split <;> decide) | ((first | unfold driveFld | unfold errFld); split <;> decide))
    | with_reducible apply keeps_when_on
    | with_reducible apply keeps_ite
    | (intro _)
    | split
    | with_reducible apply keeps_with_flashOp (by decide))

theorem kept_flashStep (s : State) : Keeps 0x300000000800000020 s (State.flashStep s) := by
  unfold State.flashStep
  try dsimp only
  repeat' (first
    | with_reducible exact Keeps.refl _
    | with_reducible apply keeps_inc_in 5 (by decide) (by unfold inSpan; first | decide | (split <;> decide) | ((first | unfold driveFld | unfold errFld); split <;> decide))
    | with_reducible apply Keeps.via (kept_flashEnd ..) (by decide)
    | with_reducible apply Keeps.via (kept_flashStart ..) (by decide)
    | with_reducible apply keeps_ite
    | (intro _)
    | split
    | with_reducible apply keeps_with_flashMem (by decide))

theorem kept_flashFail (s : State) : Keeps 0x300000000400000020 s (State.flashFail s) := by
  unfold State.flashFail
  try dsimp only
  repeat' (first
    | with_reducible exact Keeps.refl _
    | with_reducible apply keeps_foldl_on
    | with_reducible apply keeps_fold_pair
    | with_reducible apply keeps_setFld_in 5 (by decide) (by unfold inSpan; first | decide | (split <;> decide) | ((first | unfold driveFld | unfold errFld); split <;> decide))
    | with_reducible apply keeps_setCond_in 5 (by decide) (by unfold inSpan; first | decide | (split <;> decide) | ((first | unfold driveFld | unfold errFld); split <;> decide))
    | with_reducible apply Keeps.via (kept_cutStep ..) (by decide)
    | with_reducible apply Keeps.via (kept_flashErr ..) (by decide)
    | with_reducible apply keeps_ite
    | (intro _)
    | split
    | with_reducible apply keeps_with_flashOp (by decide)
    | with_reducible apply keeps_with_flashMem_free (by decide))

theorem kept_flashCopy (s : State) (op k : Nat) : Keeps 0x200000000800000020 s (State.flashCopy s op k) := by
  unfold State.flashCopy
  try dsimp only
  repeat' (first
    | with_reducible exact Keeps.refl _
    | with_reducible apply Keeps.via (kept_flashErr ..) (by decide)
    | with_reducible apply Keeps.via (kept_flashBegin ..) (by decide)
    | with_reducible apply keeps_ite
    | (intro _)
    | split)

theorem kept_flashApply (s : State) : Keeps 0x200000000800000020 s (State.flashApply s) := by
  unfold State.flashApply
  try dsimp only
  repeat' (first
    | with_reducible exact Keeps.refl _
    | with_reducible apply Keeps.via (kept_flashErr ..) (by decide)
    | with_reducible apply Keeps.via (kept_flashBegin ..) (by decide)
    | with_reducible apply keeps_ite
    | (intro _)
    | split)

theorem kept_flashFull (s : State) (slot : Nat) : Keeps 0x200000000800000020 s (State.flashFull s slot) := by
  unfold State.flashFull
  try dsimp only
  repeat' (first
    | with_reducible exact Keeps.refl _
    | with_reducible apply Keeps.via (kept_flashErr ..) (by decide)
    | with_reducible apply Keeps.via (kept_flashCopy ..) (by decide)
    | with_reducible apply keeps_ite
    | (intro _)
    | split)

theorem kept_flashMark (s : State) (op flag : Nat) : Keeps 0x200000000800000020 s (State.flashMark s op flag) := by
  unfold State.flashMark
  try dsimp only
  repeat' (first
    | with_reducible exact Keeps.refl _
    | with_reducible apply Keeps.via (kept_flashBegin ..) (by decide)
    | with_reducible apply Keeps.via (kept_flashErr ..) (by decide)
    | with_reducible apply keeps_ite
    | (intro _)
    | split)

theorem kept_updCmd (s : State) (w : Nat) : Keeps 0x200000000800000020 s (State.updCmd s w) := by
  unfold State.updCmd
  try dsimp only
  repeat' (first
    | with_reducible exact Keeps.refl _
    | with_reducible apply Keeps.via (kept_flashErr ..) (by decide)
    | with_reducible apply Keeps.via (kept_flashCopy ..) (by decide)
    | with_reducible apply Keeps.via (kept_flashApply ..) (by decide)
    | with_reducible apply Keeps.via (kept_flashFull ..) (by decide)
    | with_reducible apply Keeps.via (kept_flashMark ..) (by decide)
    | with_reducible apply keeps_ite
    | (intro _)
    | split)

theorem kept_execFlashStepDone (s : State) (t : State) (h : execFlashStepDone s = .next t) : Keeps 0x80302001038800000020 s t := by
  unfold execFlashStepDone at h
  cases h
  try dsimp only
  repeat' (first
    | with_reducible exact Keeps.refl _
    | with_reducible apply Keeps.via (kept_flashStep ..) (by decide)
    | with_reducible apply Keeps.via (kept_settle ..) (by decide)
    | with_reducible apply keeps_ite
    | (intro _)
    | split)

theorem kept_execFlashStepTimeout (s : State) (t : State) (h : execFlashStepTimeout s = .next t) : Keeps 0x80302001038c00000020 s t := by
  unfold execFlashStepTimeout at h
  cases h
  try dsimp only
  repeat' (first
    | with_reducible exact Keeps.refl _
    | with_reducible apply Keeps.via (kept_flashFail ..) (by decide)
    | with_reducible apply Keeps.via (kept_settle ..) (by decide)
    | with_reducible apply keeps_ite
    | (intro _)
    | split)

end Sys2Proof.Machine
end

