-- ==== Sys2Proof/Laws/KeptStore.lean ====
section
/-!
SUPPORT. What the operations of Store.lean keep.
-/
namespace Sys2Proof.Machine

theorem kept_setDrive (s : State) (d : Nat) (x : Drive) : Keeps 0x400000000000000000 s (State.setDrive s d x) := by
  unfold State.setDrive
  try dsimp only
  repeat' (first
    | with_reducible exact Keeps.refl _
    | with_reducible apply keeps_ite
    | (intro _)
    | split
    | with_reducible apply keeps_with_drives (by decide))

theorem kept_setDriveState (s : State) (d v : Nat) : Keeps 0x8000000 s (State.setDriveState s d v) := by
  unfold State.setDriveState
  try dsimp only
  repeat' (first
    | with_reducible exact Keeps.refl _
    | with_reducible apply keeps_setFld_in 27 (by decide) (by unfold inSpan; first | decide | (split <;> decide) | ((first | unfold driveFld | unfold errFld); split <;> decide))
    | with_reducible apply keeps_setCond_in 27 (by decide) (by unfold inSpan; first | decide | (split <;> decide) | ((first | unfold driveFld | unfold errFld); split <;> decide))
    | with_reducible apply keeps_ite
    | (intro _)
    | split)

theorem kept_putDrives (s : State) (ds : List Nat) (a : Nat) (bs : List Byte) : Keeps 0x400000000000000000 s (State.putDrives s ds a bs) := by
  unfold State.putDrives
  try dsimp only
  repeat' (first
    | with_reducible exact Keeps.refl _
    | with_reducible apply keeps_each_on
    | with_reducible apply Keeps.via (kept_setDrive ..) (by decide)
    | with_reducible apply keeps_ite
    | (intro _)
    | split)

theorem kept_rpReset (s : State) (high : Bool) : Keeps 0x800000000 s (State.rpReset s high) := by
  unfold State.rpReset
  try dsimp only
  repeat' (first
    | with_reducible exact Keeps.refl _
    | with_reducible apply Keeps.via (kept_emit ..) (by decide)
    | with_reducible apply keeps_ite
    | (intro _)
    | split)

theorem kept_refreshStore (s : State) : Keeps 0x8000000 s (State.refreshStore s) := by
  unfold State.refreshStore
  try dsimp only
  repeat' (first
    | with_reducible exact Keeps.refl _
    | with_reducible apply keeps_foldl_on
    | with_reducible apply keeps_fold_pair
    | with_reducible apply keeps_setFld_in 27 (by decide) (by unfold inSpan; first | decide | (split <;> decide) | ((first | unfold driveFld | unfold errFld); split <;> decide))
    | with_reducible apply keeps_ite
    | (intro _)
    | split)

theorem kept_joinStore (s : State) (d : Nat) : Keeps 0x8000000 s (State.joinStore s d) := by
  unfold State.joinStore
  try dsimp only
  repeat' (first
    | with_reducible exact Keeps.refl _
    | with_reducible apply Keeps.via (kept_setDriveState ..) (by decide)
    | with_reducible apply Keeps.via (kept_refreshStore ..) (by decide)
    | with_reducible apply keeps_ite
    | (intro _)
    | split)

theorem kept_queueWrite (s : State) : Keeps 0x8600000000 s (State.queueWrite s) := by
  unfold State.queueWrite
  try dsimp only
  repeat' (first
    | with_reducible exact Keeps.refl _
    | with_reducible apply keeps_ite
    | (intro _)
    | split
    | with_reducible apply keeps_with_free_mem (by decide))

theorem kept_queueRings (s : State) (d : Nat) : Keeps 0x20200000000 s (State.queueRings s d) := by
  unfold State.queueRings
  try dsimp only
  repeat' (first
    | with_reducible exact Keeps.refl _
    | with_reducible apply keeps_each_on
    | with_reducible apply keeps_setRing_geo (by decide) (by exact ⟨rfl, rfl, rfl⟩)
    | with_reducible apply Keeps.via (kept_setRing ..) (by decide)
    | with_reducible apply keeps_ite
    | (intro _)
    | split)

theorem kept_submit (s : State) (d op : Nat) : Keeps 0x28e00000000 s (State.submit s d op) := by
  unfold State.submit
  try dsimp only
  repeat' (first
    | with_reducible exact Keeps.refl _
    | with_reducible apply keeps_setRing_geo (by decide) (by exact ⟨rfl, rfl, rfl⟩)
    | with_reducible apply Keeps.via (kept_setRing ..) (by decide)
    | with_reducible apply Keeps.via (kept_queueWrite ..) (by decide)
    | with_reducible apply Keeps.via (kept_emit ..) (by decide)
    | with_reducible apply keeps_ite
    | (intro _)
    | split)

theorem kept_completed (s : State) (d op : Nat) : Keeps 0x28600000000 s (State.completed s d op) := by
  unfold State.completed
  try dsimp only
  repeat' (first
    | with_reducible exact Keeps.refl _
    | with_reducible apply keeps_setRing_geo (by decide) (by exact ⟨rfl, rfl, rfl⟩)
    | with_reducible apply Keeps.via (kept_setRing ..) (by decide)
    | with_reducible apply Keeps.via (kept_queueWrite ..) (by decide)
    | with_reducible apply keeps_ite
    | (intro _)
    | split)

theorem kept_setStoreOp (s : State) (o : Option StoreOp) : Keeps 0x800000000008000000 s (State.setStoreOp s o) := by
  unfold State.setStoreOp
  try dsimp only
  repeat' (first
    | with_reducible exact Keeps.refl _
    | with_reducible apply keeps_setFld_in 27 (by decide) (by unfold inSpan; first | decide | (split <;> decide) | ((first | unfold driveFld | unfold errFld); split <;> decide))
    | with_reducible apply keeps_ite
    | (intro _)
    | split
    | with_reducible apply keeps_with_storeOp (by decide))

theorem kept_checkOp (s : State) : Keeps 0x800000000008000000 s (State.checkOp s) := by
  unfold State.checkOp
  try dsimp only
  repeat' (first
    | with_reducible exact Keeps.refl _
    | with_reducible apply Keeps.via (kept_setStoreOp ..) (by decide)
    | with_reducible apply keeps_ite
    | (intro _)
    | split)

theorem kept_move (s : State) (o : StoreOp) (n : Nat) : Keeps 0xc00000008208000000 s (State.move s o n) := by
  unfold State.move
  try dsimp only
  repeat' (first
    | with_reducible exact Keeps.refl _
    | with_reducible apply keeps_setPair_in 27 (by decide) (by unfold inSpan; decide) (by unfold inSpan; decide)
    | with_reducible apply Keeps.via (kept_poke ..) (by decide)
    | with_reducible apply Keeps.via (kept_putDrives ..) (by decide)
    | with_reducible apply Keeps.via (kept_setStoreOp ..) (by decide)
    | with_reducible apply keeps_ite
    | (intro _)
    | split)

theorem kept_issue (s : State) (o : StoreOp) : Keeps 0x28e00000000 s (State.issue s o) := by
  unfold State.issue
  try dsimp only
  repeat' (first
    | with_reducible exact Keeps.refl _
    | with_reducible apply keeps_each_on
    | with_reducible apply Keeps.via (kept_submit ..) (by decide)
    | with_reducible apply keeps_ite
    | (intro _)
    | split)

theorem kept_startOp (s : State) (o : StoreOp) : Keeps 0x800000028e08000000 s (State.startOp s o) := by
  unfold State.startOp
  try dsimp only
  repeat' (first
    | with_reducible exact Keeps.refl _
    | with_reducible apply keeps_setPair_in 27 (by decide) (by unfold inSpan; decide) (by unfold inSpan; decide)
    | with_reducible apply Keeps.via (kept_setStoreOp ..) (by decide)
    | with_reducible apply Keeps.via (kept_issue ..) (by decide)
    | with_reducible apply keeps_ite
    | (intro _)
    | split)

theorem kept_engineRead (s : State) (purpose e : Nat) : Keeps 0x1800000028e08000000 s (State.engineRead s purpose e) := by
  unfold State.engineRead
  try dsimp only
  repeat' (first
    | with_reducible exact Keeps.refl _
    | with_reducible apply Keeps.via (kept_startOp ..) (by decide)
    | with_reducible apply keeps_ite
    | (intro _)
    | split
    | with_reducible apply keeps_with_storeWait (by decide))

theorem kept_nextOp (s : State) : Keeps 0x1800000028e08000000 s (State.nextOp s) := by
  unfold State.nextOp
  try dsimp only
  repeat' (first
    | with_reducible exact Keeps.refl _
    | with_reducible apply Keeps.via (kept_setStoreOp ..) (by decide)
    | with_reducible apply Keeps.via (kept_startOp ..) (by decide)
    | with_reducible apply keeps_ite
    | (intro _)
    | split
    | with_reducible apply keeps_with_storeWait (by decide))

theorem kept_opFails (s : State) (e : Nat) : Keeps 0x8000000 s (State.opFails s e) := by
  unfold State.opFails
  try dsimp only
  repeat' (first
    | with_reducible exact Keeps.refl _
    | with_reducible apply keeps_setFld_in 27 (by decide) (by unfold inSpan; first | decide | (split <;> decide) | ((first | unfold driveFld | unfold errFld); split <;> decide))
    | with_reducible apply keeps_setCond_in 27 (by decide) (by unfold inSpan; first | decide | (split <;> decide) | ((first | unfold driveFld | unfold errFld); split <;> decide))
    | with_reducible apply keeps_ite
    | (intro _)
    | split)

theorem kept_nvmeCmd (s : State) (seat w : Nat) : Keeps 0x800000028e08000000 s (State.nvmeCmd s seat w) := by
  unfold State.nvmeCmd
  try dsimp only
  repeat' (first
    | with_reducible exact Keeps.refl _
    | with_reducible apply keeps_setFld_in 27 (by decide) (by unfold inSpan; first | decide | (split <;> decide) | ((first | unfold driveFld | unfold errFld); split <;> decide))
    | with_reducible apply Keeps.via (kept_startOp ..) (by decide)
    | with_reducible apply keeps_ite
    | (intro _)
    | split)

theorem kept_endRead (s : State) (o : StoreOp) : Keeps 0xc00000008208000000 s (State.endRead s o).1 := by
  unfold State.endRead
  try dsimp only
  repeat' (first
    | with_reducible exact Keeps.refl _
    | with_reducible apply keeps_setFld_in 27 (by decide) (by unfold inSpan; first | decide | (split <;> decide) | ((first | unfold driveFld | unfold errFld); split <;> decide))
    | with_reducible apply Keeps.via (kept_move ..) (by decide)
    | with_reducible apply keeps_ite
    | (intro _)
    | split)

theorem kept_runAll (s : State) (ops : List Nat) : Keeps 0x28e00000000 s (State.runAll s ops) := by
  unfold State.runAll
  try dsimp only
  repeat' (first
    | with_reducible exact Keeps.refl _
    | with_reducible apply keeps_each_on
    | with_reducible apply Keeps.via (kept_submit ..) (by decide)
    | with_reducible apply Keeps.via (kept_completed ..) (by decide)
    | with_reducible apply keeps_ite
    | (intro _)
    | split)

theorem kept_writeDir (s : State) (e : Nat) (entry : List Byte) : Keeps 0x400000028e08000000 s (State.writeDir s e entry) := by
  unfold State.writeDir
  try dsimp only
  repeat' (first
    | with_reducible exact Keeps.refl _
    | with_reducible apply Keeps.via (kept_putDrives ..) (by decide)
    | with_reducible apply Keeps.via (kept_refreshStore ..) (by decide)
    | with_reducible apply Keeps.via (kept_runAll ..) (by decide)
    | with_reducible apply keeps_ite
    | (intro _)
    | split)

theorem kept_endWrite (s : State) (o : StoreOp) : Keeps 0xc00000028e08000000 s (State.endWrite s o) := by
  unfold State.endWrite
  try dsimp only
  repeat' (first
    | with_reducible exact Keeps.refl _
    | with_reducible apply keeps_setFld_in 27 (by decide) (by unfold inSpan; first | decide | (split <;> decide) | ((first | unfold driveFld | unfold errFld); split <;> decide))
    | with_reducible apply Keeps.via (kept_move ..) (by decide)
    | with_reducible apply Keeps.via (kept_writeDir ..) (by decide)
    | with_reducible apply keeps_ite
    | (intro _)
    | split)

theorem kept_endFormat (s : State) : Keeps 0x400000000008000000 s (State.endFormat s) := by
  unfold State.endFormat
  try dsimp only
  repeat' (first
    | with_reducible exact Keeps.refl _
    | with_reducible apply keeps_foldl_on
    | with_reducible apply keeps_fold_pair
    | with_reducible apply Keeps.via (kept_putDrives ..) (by decide)
    | with_reducible apply Keeps.via (kept_refreshStore ..) (by decide)
    | with_reducible apply keeps_ite
    | (intro _)
    | split)

theorem kept_endResync (s : State) : Keeps 0x400000000008000000 s (State.endResync s) := by
  unfold State.endResync
  try dsimp only
  repeat' (first
    | with_reducible exact Keeps.refl _
    | with_reducible apply keeps_each_on
    | with_reducible apply Keeps.via (kept_putDrives ..) (by decide)
    | with_reducible apply Keeps.via (kept_setDriveState ..) (by decide)
    | with_reducible apply Keeps.via (kept_refreshStore ..) (by decide)
    | with_reducible apply keeps_ite
    | (intro _)
    | split)

theorem kept_endOp (s : State) (o : StoreOp) : Keeps 0x1c00000028e08000000 s (State.endOp s o) := by
  unfold State.endOp
  try dsimp only
  repeat' (first
    | with_reducible exact Keeps.refl _
    | with_reducible apply keeps_setCond_in 27 (by decide) (by unfold inSpan; first | decide | (split <;> decide) | ((first | unfold driveFld | unfold errFld); split <;> decide))
    | with_reducible apply Keeps.via (kept_opFails ..) (by decide)
    | with_reducible apply Keeps.via (kept_nextOp ..) (by decide)
    | with_reducible apply Keeps.via (kept_endRead ..) (by decide)
    | with_reducible apply Keeps.via (kept_endWrite ..) (by decide)
    | with_reducible apply Keeps.via (kept_writeDir ..) (by decide)
    | with_reducible apply Keeps.via (kept_endFormat ..) (by decide)
    | with_reducible apply Keeps.via (kept_endResync ..) (by decide)
    | with_reducible apply keeps_ite
    | (intro _)
    | split)

theorem kept_execStoreOpDone (s : State) (t : State) (h : execStoreOpDone s = .next t) : Keeps 0x81c02001038e08000000 s t := by
  unfold execStoreOpDone at h
  cases h
  try dsimp only
  repeat' (first
    | with_reducible exact Keeps.refl _
    | with_reducible apply Keeps.via (kept_endOp ..) (by decide)
    | with_reducible apply Keeps.via (kept_settle ..) (by decide)
    | with_reducible apply keeps_ite
    | (intro _)
    | split)

theorem kept_endLoad (s : State) (o : StoreOp) (driveOk : Bool) : Keeps 0x1c00000028e08000000 s (State.endLoad s o driveOk).1 := by
  unfold State.endLoad
  try dsimp only
  repeat' (first
    | with_reducible exact Keeps.refl _
    | with_reducible apply keeps_setCond_in 27 (by decide) (by unfold inSpan; first | decide | (split <;> decide) | ((first | unfold driveFld | unfold errFld); split <;> decide))
    | with_reducible apply Keeps.via (kept_opFails ..) (by decide)
    | with_reducible apply Keeps.via (kept_nextOp ..) (by decide)
    | with_reducible apply Keeps.via (kept_endRead ..) (by decide)
    | with_reducible apply keeps_ite
    | (intro _)
    | split)

theorem kept_rpStat (s : State) (d up speed width : Nat) : Keeps 0x4000000 s (State.rpStat s d up speed width) := by
  unfold State.rpStat
  try dsimp only
  repeat' (first
    | with_reducible exact Keeps.refl _
    | with_reducible apply keeps_setFld_in 26 (by decide) (by unfold inSpan; first | decide | (split <;> decide) | ((first | unfold driveFld | unfold errFld); split <;> decide))
    | with_reducible apply keeps_setCond_in 26 (by decide) (by unfold inSpan; first | decide | (split <;> decide) | ((first | unfold driveFld | unfold errFld); split <;> decide))
    | with_reducible apply keeps_ite
    | (intro _)
    | split)

theorem kept_rereads (s : State) : Keeps 0x28e00000000 s (State.rereads s) := by
  unfold State.rereads
  try dsimp only
  repeat' (first
    | with_reducible exact Keeps.refl _
    | with_reducible apply Keeps.via (kept_issue ..) (by decide)
    | with_reducible apply keeps_ite
    | (intro _)
    | split)

theorem kept_dropDrive (s : State) (d v : Nat) : Keeps 0x800000028e08000000 s (State.dropDrive s d v) := by
  unfold State.dropDrive
  try dsimp only
  repeat' (first
    | with_reducible exact Keeps.refl _
    | with_reducible apply Keeps.via (kept_setDriveState ..) (by decide)
    | with_reducible apply Keeps.via (kept_refreshStore ..) (by decide)
    | with_reducible apply Keeps.via (kept_checkOp ..) (by decide)
    | with_reducible apply keeps_when_on
    | with_reducible apply Keeps.via (kept_rereads ..) (by decide)
    | with_reducible apply keeps_ite
    | (intro _)
    | split)

theorem kept_execDriveLinkUp (d : Fin 2) (speed : Fin 6) (width : Fin 5) (s : State) (t : State) (h : execDriveLinkUp d speed width s = .next t) : Keeps 0x80402001038e0c000000 s t := by
  unfold execDriveLinkUp at h
  cases h
  try dsimp only
  repeat' (first
    | with_reducible exact Keeps.refl _
    | with_reducible apply Keeps.via (kept_rpStat ..) (by decide)
    | with_reducible apply Keeps.via (kept_setDrive ..) (by decide)
    | with_reducible apply Keeps.via (kept_setDriveState ..) (by decide)
    | with_reducible apply Keeps.via (kept_queueRings ..) (by decide)
    | with_reducible apply Keeps.via (kept_submit ..) (by decide)
    | with_reducible apply Keeps.via (kept_settle ..) (by decide)
    | with_reducible apply keeps_ite
    | (intro _)
    | split)

theorem kept_driveDown (s : State) (d : Nat) : Keeps 0xc00000028e0c000000 s (State.driveDown s d) := by
  unfold State.driveDown
  try dsimp only
  repeat' (first
    | with_reducible exact Keeps.refl _
    | with_reducible apply Keeps.via (kept_rpStat ..) (by decide)
    | with_reducible apply Keeps.via (kept_setDrive ..) (by decide)
    | with_reducible apply keeps_each_on
    | with_reducible apply keeps_setRing_geo (by decide) (by exact ⟨rfl, rfl, rfl⟩)
    | with_reducible apply Keeps.via (kept_setRing ..) (by decide)
    | with_reducible apply Keeps.via (kept_dropDrive ..) (by decide)
    | with_reducible apply keeps_ite
    | (intro _)
    | split)

theorem kept_execDriveLinkDown (d : Fin 2) (s : State) (t : State) (h : execDriveLinkDown d s = .next t) : Keeps 0x80c02001038e0c000000 s t := by
  unfold execDriveLinkDown at h
  cases h
  try dsimp only
  repeat' (first
    | with_reducible exact Keeps.refl _
    | with_reducible apply Keeps.via (kept_driveDown ..) (by decide)
    | with_reducible apply Keeps.via (kept_settle ..) (by decide)
    | with_reducible apply keeps_ite
    | (intro _)
    | split)

theorem kept_queueClear (s : State) (d : Nat) : Keeps 0x20000000000 s (State.queueClear s d) := by
  unfold State.queueClear
  try dsimp only
  repeat' (first
    | with_reducible exact Keeps.refl _
    | with_reducible apply keeps_each_on
    | with_reducible apply keeps_setRing_geo (by decide) (by exact ⟨rfl, rfl, rfl⟩)
    | with_reducible apply keeps_ite
    | (intro _)
    | split)

theorem kept_commandFails (s : State) (d : Nat) : Keeps 0xc00000028e08000000 s (State.commandFails s d) := by
  unfold State.commandFails
  try dsimp only
  repeat' (first
    | with_reducible exact Keeps.refl _
    | with_reducible apply keeps_inc_in 27 (by decide) (by unfold inSpan; first | decide | (split <;> decide) | ((first | unfold driveFld | unfold errFld); split <;> decide))
    | with_reducible apply Keeps.via (kept_dropDrive ..) (by decide)
    | with_reducible apply Keeps.via (kept_setDrive ..) (by decide)
    | with_reducible apply Keeps.via (kept_queueClear ..) (by decide)
    | with_reducible apply Keeps.via (kept_emit ..) (by decide)
    | with_reducible apply Keeps.via (kept_submit ..) (by decide)
    | with_reducible apply keeps_ite
    | (intro _)
    | split)

theorem kept_initStep (s : State) (d : Nat) (r : NvmeReply) : Keeps 0xc00000028e08000000 s (State.initStep s d r) := by
  unfold State.initStep
  try dsimp only
  repeat' (first
    | with_reducible exact Keeps.refl _
    | with_reducible apply Keeps.via (kept_dropDrive ..) (by decide)
    | with_reducible apply Keeps.via (kept_setDrive ..) (by decide)
    | with_reducible apply Keeps.via (kept_joinStore ..) (by decide)
    | with_reducible apply Keeps.via (kept_submit ..) (by decide)
    | with_reducible apply keeps_ite
    | (intro _)
    | split)

theorem kept_transferStep (s : State) (d : Nat) : Keeps 0xc00000028e08000000 s (State.transferStep s d) := by
  unfold State.transferStep
  try dsimp only
  repeat' (first
    | with_reducible exact Keeps.refl _
    | with_reducible apply Keeps.via (kept_setDrive ..) (by decide)
    | with_reducible apply Keeps.via (kept_move ..) (by decide)
    | with_reducible apply Keeps.via (kept_issue ..) (by decide)
    | with_reducible apply keeps_ite
    | (intro _)
    | split)

theorem kept_rpJudge (s : State) (qs : List (Nat × Nat)) : Keeps 0x804000000 s (State.rpJudge s qs) := by
  unfold State.rpJudge
  try dsimp only
  repeat' (first
    | with_reducible exact Keeps.refl _
    | with_reducible apply keeps_inc_in 26 (by decide) (by unfold inSpan; first | decide | (split <;> decide) | ((first | unfold driveFld | unfold errFld); split <;> decide))
    | with_reducible apply keeps_each_on
    | with_reducible apply Keeps.via (kept_emit ..) (by decide)
    | with_reducible apply keeps_ite
    | (intro _)
    | split)

theorem kept_execNvmeCompletion (d : Fin 2) (r : NvmeReply) (s : State) (t : State) (h : execNvmeCompletion d r s = .next t) : Keeps 0x80c02001038e0c000000 s t := by
  unfold execNvmeCompletion at h
  cases h
  try dsimp only
  repeat' (first
    | with_reducible exact Keeps.refl _
    | with_reducible apply Keeps.via (kept_rpJudge ..) (by decide)
    | with_reducible apply Keeps.via (kept_completed ..) (by decide)
    | with_reducible apply Keeps.via (kept_commandFails ..) (by decide)
    | with_reducible apply Keeps.via (kept_initStep ..) (by decide)
    | with_reducible apply Keeps.via (kept_transferStep ..) (by decide)
    | with_reducible apply Keeps.via (kept_settle ..) (by decide)
    | with_reducible apply keeps_ite
    | (intro _)
    | split)

theorem kept_execNvmeCmdTimeout (d : Fin 2) (s : State) (t : State) (h : execNvmeCmdTimeout d s = .next t) : Keeps 0x80c02001038e08000000 s t := by
  unfold execNvmeCmdTimeout at h
  cases h
  try dsimp only
  repeat' (first
    | with_reducible exact Keeps.refl _
    | with_reducible apply Keeps.via (kept_commandFails ..) (by decide)
    | with_reducible apply Keeps.via (kept_settle ..) (by decide)
    | with_reducible apply keeps_ite
    | (intro _)
    | split)

theorem kept_execNvmeResetTimeout (d : Fin 2) (s : State) (t : State) (h : execNvmeResetTimeout d s = .next t) : Keeps 0x80802001038e08000000 s t := by
  unfold execNvmeResetTimeout at h
  cases h
  try dsimp only
  repeat' (first
    | with_reducible exact Keeps.refl _
    | with_reducible apply keeps_inc_in 27 (by decide) (by unfold inSpan; first | decide | (split <;> decide) | ((first | unfold driveFld | unfold errFld); split <;> decide))
    | with_reducible apply Keeps.via (kept_dropDrive ..) (by decide)
    | with_reducible apply Keeps.via (kept_settle ..) (by decide)
    | with_reducible apply keeps_ite
    | (intro _)
    | split)

theorem kept_jobGo (s : State) (extent : Nat) : Keeps 0x3800000028e08000020 s (State.jobGo s extent) := by
  unfold State.jobGo
  try dsimp only
  repeat' (first
    | with_reducible exact Keeps.refl _
    | with_reducible apply keeps_setFld_in 5 (by decide) (by unfold inSpan; first | decide | (split <;> decide) | ((first | unfold driveFld | unfold errFld); split <;> decide))
    | with_reducible apply Keeps.via (kept_setJob ..) (by decide)
    | with_reducible apply Keeps.via (kept_engineRead ..) (by decide)
    | with_reducible apply keeps_ite
    | (intro _)
    | split)

theorem kept_jobStop (s : State) : Keeps 0x7800040000800400020 s (State.jobStop s) := by
  unfold State.jobStop
  try dsimp only
  repeat' (first
    | with_reducible exact Keeps.refl _
    | with_reducible apply Keeps.via (kept_jobHalt ..) (by decide)
    | with_reducible apply keeps_ite
    | (intro _)
    | split
    | with_reducible apply keeps_with_storeOp_storeWait (by decide))

theorem kept_jobCtl (s : State) (w : Nat) : Keeps 0x7800040028e08400020 s (State.jobCtl s w) := by
  unfold State.jobCtl
  try dsimp only
  repeat' (first
    | with_reducible exact Keeps.refl _
    | with_reducible apply keeps_when_on
    | with_reducible apply Keeps.via (kept_jobStop ..) (by decide)
    | with_reducible apply Keeps.via (kept_jobGo ..) (by decide)
    | with_reducible apply keeps_ite
    | (intro _)
    | split)

theorem kept_execTileJobLoadDone (driveOk : Bool) (s : State) (t : State) (h : execTileJobLoadDone driveOk s = .next t) : Keeps 0x87c02041038e08400020 s t := by
  unfold execTileJobLoadDone at h
  cases h
  try dsimp only
  repeat' (first
    | with_reducible exact Keeps.refl _
    | with_reducible apply Keeps.via (kept_endLoad ..) (by decide)
    | with_reducible apply Keeps.via (kept_settle ..) (by decide)
    | with_reducible apply Keeps.via (kept_jobVisit ..) (by decide)
    | with_reducible apply Keeps.via (kept_jobHalt ..) (by decide)
    | with_reducible apply keeps_ite
    | (intro _)
    | split)

end Sys2Proof.Machine
end

