-- ==== Sys2Proof/Laws/KeptPower.lean ====
section
/-!
SUPPORT. What the operations of Power.lean keep.
-/
namespace Sys2Proof.Machine

theorem kept_setPow (s : State) (p : Power) : Keeps 0x200000000000 s (State.setPow s p) := by
  unfold State.setPow
  try dsimp only
  repeat' (first
    | with_reducible exact Keeps.refl _
    | with_reducible apply keeps_ite
    | (intro _)
    | split
    | with_reducible apply keeps_with_pow (by decide))

theorem rising_retRegs (r : Sparse Word) : rising none (retRegs r) = true := by
  suffices h : ∀ m : Sparse Word, rising none m = true →
      rising none (r.foldl (fun m e => ins (resetWord e.1) e.1 (retWord e.1 e.2) m) m) = true from h [] rfl
  induction r with
  | nil => exact fun m h => h
  | cons e t ih => exact fun m h => ih _ (rising_ins _ _ _ _ h)

theorem regs_any {m : Nat} {s t : State} (hm : 0x1ffffffff &&& m = 0x1ffffffff) :
    ∀ i, m.testBit i = false → regSame m i s t := by
  intro i hi a ha
  have h := congrArg (fun x => x.testBit i) hm
  simp only [Nat.testBit_and, hi, Bool.and_false] at h
  have hlt : i < 33 := ha.1
  have : ∀ i < 33, Nat.testBit 0x1ffffffff i = true := by decide
  rw [this i hlt] at h
  cases h

theorem kept_mainReset (s : State) : Keeps 0x3dfffffffffe7fffffffff s s.mainReset := by
  have h := kept_cutFlash s
  exact
  { kept := ⟨h.kept.1, h.kept.2.1, fun _ => rising_retRegs _⟩, regs := regs_any (by decide)
    store := fun x => absurd x (by decide)
    free := fun x => absurd x (by decide), out := fun x => absurd x (by decide), force := fun x => absurd x (by decide),
    latch := fun x => absurd x (by decide), lowHalf := fun x => absurd x (by decide),
    mem := fun x => h.mem (by decide), hostMem := fun x => h.hostMem (by decide),
    rings := fun x => absurd x (by decide), stale := fun x => absurd x (by decide),
    commands := fun x => absurd x (by decide), clk := fun x => absurd x (by decide),
    pow := fun x => absurd x (by decide), cyc := fun x => absurd x (by decide),
    flows := fun x => absurd x (by decide), ports := fun x => absurd x (by decide),
    views := fun x => absurd x (by decide), feeds := fun x => absurd x (by decide),
    lanes := fun x => absurd x (by decide), busy := fun x => absurd x (by decide),
    chans := fun x => absurd x (by decide), credits := fun x => absurd x (by decide),
    house := fun x => absurd x (by decide), ptp := fun x => absurd x (by decide),
    touts := fun x => absurd x (by decide), tcaps := fun x => absurd x (by decide),
    ppsHigh := fun x => absurd x (by decide), servos := fun x => absurd x (by decide),
    evt := fun x => absurd x (by decide), dgs := fun x => absurd x (by decide),
    resp := fun x => absurd x (by decide), respLoad := fun x => absurd x (by decide),
    cap := fun x => absurd x (by decide), corrTouched := fun x => absurd x (by decide),
    play := fun x => absurd x (by decide), flashMem := fun x => absurd x (by decide),
    flashOp := fun x => absurd x (by decide), drives := fun x => absurd x (by decide),
    storeOp := fun x => absurd x (by decide), storeWait := fun x => absurd x (by decide),
    job := fun x => absurd x (by decide), aborts := fun x => absurd x (by decide),
    panic := fun x => absurd x (by decide), rateWait := fun x => absurd x (by decide),
    powerReq := fun x => absurd x (by decide), image := fun x => absurd x (by decide),
    bar4 := fun x => absurd x (by decide), cfgSpace := fun x => absurd x (by decide),
    tap := fun x => h.tap (by decide),
    lines := fun x => absurd x (by decide), linkRt := fun x => absurd x (by decide),
    rateTo := fun x => absurd x (by decide), bar2Held := fun x => absurd x (by decide) }

theorem kept_loseGddr (s : State) : Keeps 0x8600000000 s (State.loseGddr s) := by
  unfold State.loseGddr
  try dsimp only
  repeat' (first
    | with_reducible exact Keeps.refl _
    | with_reducible apply keeps_ite
    | (intro _)
    | split
    | with_reducible apply keeps_with_free_mem (by decide))

theorem kept_resetFor (s : State) (cause : Nat) : Keeps 0x3dfffffffffeffffffffff s (State.resetFor s cause) := by
  unfold State.resetFor
  try dsimp only
  repeat' (first
    | with_reducible exact Keeps.refl _
    | with_reducible apply keeps_setFld_in 0 (by decide) (by unfold inSpan; first | decide | (split <;> decide) | ((first | unfold driveFld | unfold errFld); split <;> decide))
    | with_reducible apply keeps_setFld_in 1 (by decide) (by unfold inSpan; first | decide | (split <;> decide) | ((first | unfold driveFld | unfold errFld); split <;> decide))
    | with_reducible apply Keeps.via (kept_mainReset ..) (by decide)
    | with_reducible apply Keeps.via (kept_loseGddr ..) (by decide)
    | with_reducible apply keeps_ite
    | (intro _)
    | split)

theorem kept_releaseTrip (s : State) : Keeps 0x200000000000 s (State.releaseTrip s) := by
  unfold State.releaseTrip
  try dsimp only
  repeat' (first
    | with_reducible exact Keeps.refl _
    | with_reducible apply Keeps.via (kept_setPow ..) (by decide)
    | with_reducible apply keeps_ite
    | (intro _)
    | split)

theorem kept_execRailValid (rail : Fin 9) (s : State) (t : State) (h : execRailValid rail s = .next t) : Keeps 0x200000000000 s t := by
  unfold execRailValid at h
  cases h
  try dsimp only
  repeat' (first
    | with_reducible exact Keeps.refl _
    | with_reducible apply Keeps.via (kept_setPow ..) (by decide)
    | with_reducible apply Keeps.via (kept_rails ..) (by decide)
    | with_reducible apply keeps_ite
    | (intro _)
    | split)

theorem kept_execRailFail (rail : Fin 8) (s : State) (t : State) (h : execRailFail rail s = .next t) : Keeps 0x3dfffffffffeffffffffff s t := by
  unfold execRailFail at h
  cases h
  try dsimp only
  repeat' (first
    | with_reducible exact Keeps.refl _
    | with_reducible apply keeps_setFld_in 0 (by decide) (by unfold inSpan; first | decide | (split <;> decide) | ((first | unfold driveFld | unfold errFld); split <;> decide))
    | with_reducible apply Keeps.via (kept_setPow ..) (by decide)
    | with_reducible apply Keeps.via (kept_rails ..) (by decide)
    | with_reducible apply Keeps.via (kept_releaseTrip ..) (by decide)
    | with_reducible apply Keeps.via (kept_resetFor ..) (by decide)
    | with_reducible apply keeps_ite
    | (intro _)
    | split)

theorem kept_execVddEmberFail (s t : State) (h : execVddEmberFail s = .next t) : Keeps 0x3dfffffffffeffffffffff s t := by
  unfold execVddEmberFail at h
  cases h
  have h : Keeps 0x3dfffffffffeffffffffff s (s.releaseTrip.mainReset).loseGddr :=
    Keeps.via (kept_loseGddr ..) (by decide) (Keeps.via (kept_mainReset ..) (by decide) ((kept_releaseTrip ..).mono (by decide)))
  exact
  { kept := ⟨h.kept.1, h.kept.2.1, fun _ => rfl⟩, regs := regs_any (by decide)
    store := fun x => absurd x (by decide)
    free := fun x => absurd x (by decide), out := fun x => absurd x (by decide),
    force := fun x => absurd x (by decide), latch := fun x => absurd x (by decide),
    lowHalf := fun x => absurd x (by decide), mem := fun x => absurd x (by decide),
    hostMem := fun x => h.hostMem (by decide), rings := fun x => absurd x (by decide),
    stale := fun x => absurd x (by decide), commands := fun x => absurd x (by decide),
    clk := fun x => absurd x (by decide), pow := fun x => absurd x (by decide),
    cyc := fun x => absurd x (by decide), flows := fun x => absurd x (by decide),
    ports := fun x => absurd x (by decide), views := fun x => absurd x (by decide),
    feeds := fun x => absurd x (by decide), lanes := fun x => absurd x (by decide),
    busy := fun x => absurd x (by decide), chans := fun x => absurd x (by decide),
    credits := fun x => absurd x (by decide), house := fun x => absurd x (by decide),
    ptp := fun x => absurd x (by decide), touts := fun x => absurd x (by decide),
    tcaps := fun x => absurd x (by decide), ppsHigh := fun x => absurd x (by decide),
    servos := fun x => absurd x (by decide), evt := fun x => absurd x (by decide),
    dgs := fun x => absurd x (by decide), resp := fun x => absurd x (by decide),
    respLoad := fun x => absurd x (by decide), cap := fun x => absurd x (by decide),
    corrTouched := fun x => absurd x (by decide), play := fun x => absurd x (by decide),
    flashMem := fun x => absurd x (by decide), flashOp := fun x => absurd x (by decide),
    drives := fun x => absurd x (by decide), storeOp := fun x => absurd x (by decide),
    storeWait := fun x => absurd x (by decide), job := fun x => absurd x (by decide),
    aborts := fun x => absurd x (by decide), panic := fun x => absurd x (by decide),
    rateWait := fun x => absurd x (by decide), powerReq := fun x => absurd x (by decide),
    image := fun x => absurd x (by decide), bar4 := fun x => absurd x (by decide),
    cfgSpace := fun x => absurd x (by decide), tap := fun x => h.tap (by decide),
    lines := fun x => absurd x (by decide), linkRt := fun x => absurd x (by decide),
    rateTo := fun x => absurd x (by decide), bar2Held := fun x => absurd x (by decide) }

theorem kept_execPorNLow (ns : Nat) (s : State) (t : State) (h : execPorNLow ns s = .next t) : Keeps 0x3dfffffffffeffffffffff s t := by
  unfold execPorNLow at h
  cases h
  try dsimp only
  repeat' (first
    | with_reducible exact Keeps.refl _
    | with_reducible apply Keeps.via (kept_releaseTrip ..) (by decide)
    | with_reducible apply Keeps.via (kept_resetFor ..) (by decide)
    | with_reducible apply keeps_ite
    | (intro _)
    | split)

theorem kept_restart (s : State) (w : Nat) : Keeps 0x3dfffffffffeffffffffff s (State.restart s w) := by
  unfold State.restart
  try dsimp only
  repeat' (first
    | with_reducible exact Keeps.refl _
    | with_reducible apply Keeps.via (kept_resetFor ..) (by decide)
    | with_reducible apply keeps_ite
    | (intro _)
    | split)

theorem kept_execShutdownReset (s : State) (t : State) (h : execShutdownReset s = .next t) : Keeps 0x3dfffffffffeffffffffff s t := by
  unfold execShutdownReset at h
  cases h
  try dsimp only
  repeat' (first
    | with_reducible exact Keeps.refl _
    | with_reducible apply keeps_setFld_in 2 (by decide) (by unfold inSpan; first | decide | (split <;> decide) | ((first | unfold driveFld | unfold errFld); split <;> decide))
    | with_reducible apply keeps_setS_in 2 (by decide) (by unfold inSpan; first | decide | (split <;> decide) | ((first | unfold driveFld | unfold errFld); split <;> decide))
    | with_reducible apply Keeps.via (kept_setPow ..) (by decide)
    | with_reducible apply Keeps.via (kept_resetFor ..) (by decide)
    | with_reducible apply keeps_ite
    | (intro _)
    | split)

theorem kept_execThermalResetRelease (s : State) (t : State) (h : execThermalResetRelease s = .next t) : Keeps 0x200000000000 s t := by
  unfold execThermalResetRelease at h
  cases h
  try dsimp only
  repeat' (first
    | with_reducible exact Keeps.refl _
    | with_reducible apply Keeps.via (kept_setPow ..) (by decide)
    | with_reducible apply keeps_ite
    | (intro _)
    | split)

theorem kept_start (s : State) : Keeps 0x300800000001 s (State.start s) := by
  unfold State.start
  try dsimp only
  repeat' (first
    | with_reducible exact Keeps.refl _
    | with_reducible apply keeps_setFld_in 0 (by decide) (by unfold inSpan; first | decide | (split <;> decide) | ((first | unfold driveFld | unfold errFld); split <;> decide))
    | with_reducible apply Keeps.via (kept_emit ..) (by decide)
    | with_reducible apply Keeps.via (kept_rpReset ..) (by decide)
    | with_reducible apply keeps_ite
    | (intro _)
    | split
    | with_reducible apply keeps_with_clk_pow (by decide))

theorem kept_execPowerUpStart (s : State) (t : State) (h : execPowerUpStart s = .next t) : Keeps 0x300800000001 s t := by
  unfold execPowerUpStart at h
  cases h
  try dsimp only
  repeat' (first
    | with_reducible exact Keeps.refl _
    | with_reducible apply Keeps.via (kept_start ..) (by decide)
    | with_reducible apply keeps_ite
    | (intro _)
    | split)

theorem kept_refEnter (s : State) (r : RefClk) : Keeps 0x240600004c008a05c14021 s (State.refEnter s r) := by
  unfold State.refEnter
  try dsimp only
  repeat' (first
    | with_reducible exact Keeps.refl _
    | with_reducible apply keeps_setReg_in 0 (by decide) (by unfold inSpan; first | decide | (split <;> decide) | ((first | unfold driveFld | unfold errFld); split <;> decide))
    | with_reducible apply keeps_setCond_in 0 (by decide) (by unfold inSpan; first | decide | (split <;> decide) | ((first | unfold driveFld | unfold errFld); split <;> decide))
    | with_reducible apply Keeps.via (kept_refLost ..) (by decide)
    | with_reducible apply Keeps.via (kept_memFail ..) (by decide)
    | with_reducible apply keeps_ite
    | (intro _)
    | split)

theorem kept_execRefFaultEnter (r : RefClk) (s : State) (t : State) (h : execRefFaultEnter r s = .next t) : Keeps 0x3dffffffffffffffffffff s t := by
  unfold execRefFaultEnter at h
  cases h
  try dsimp only
  repeat' (first
    | with_reducible exact Keeps.refl _
    | with_reducible apply Keeps.via (kept_setPow ..) (by decide)
    | with_reducible apply Keeps.via (kept_resetFor ..) (by decide)
    | with_reducible apply Keeps.via (kept_refEnter ..) (by decide)
    | with_reducible apply Keeps.via (kept_settle ..) (by decide)
    | with_reducible apply keeps_ite
    | (intro _)
    | split)

theorem kept_execRefFaultLeave (r : RefClk) (s : State) (t : State) (h : execRefFaultLeave r s = .next t) : Keeps 0x80002005238800800001 s t := by
  unfold execRefFaultLeave at h
  cases h
  try dsimp only
  repeat' (first
    | with_reducible exact Keeps.refl _
    | with_reducible apply keeps_setReg_in 0 (by decide) (by unfold inSpan; first | decide | (split <;> decide) | ((first | unfold driveFld | unfold errFld); split <;> decide))
    | with_reducible apply Keeps.via (kept_setPow ..) (by decide)
    | with_reducible apply Keeps.via (kept_refBack ..) (by decide)
    | with_reducible apply Keeps.via (kept_settle ..) (by decide)
    | with_reducible apply keeps_ite
    | (intro _)
    | split)

theorem kept_execXtalStop (s : State) (t : State) (h : execXtalStop s = .next t) : Keeps 0x80002001238800000001 s t := by
  unfold execXtalStop at h
  cases h
  try dsimp only
  repeat' (first
    | with_reducible exact Keeps.refl _
    | with_reducible apply kept_raise_in 0 (by decide) (by decide) (by unfold inSpan; decide)
    | with_reducible apply Keeps.via (kept_setPow ..) (by decide)
    | with_reducible apply keeps_ite
    | (intro _)
    | split)

theorem kept_execXtalRunStart (s : State) (t : State) (h : execXtalRunStart s = .next t) : Keeps 0x200000000000 s t := by
  unfold execXtalRunStart at h
  cases h
  try dsimp only
  repeat' (first
    | with_reducible exact Keeps.refl _
    | with_reducible apply Keeps.via (kept_setPow ..) (by decide)
    | with_reducible apply keeps_ite
    | (intro _)
    | split)

theorem kept_execEmberTick (s : State) (t : State) (h : execEmberTick s = .next t) : Keeps 0x100000000000 s t := by
  unfold execEmberTick at h
  cases h
  try dsimp only
  repeat' (first
    | with_reducible exact Keeps.refl _
    | with_reducible apply keeps_ite
    | (intro _)
    | split
    | with_reducible apply keeps_with_clk (by decide))

theorem lifeBand_lt (m : Int) : lifeBand m < 5 := by
  unfold lifeBand
  repeat' split
  all_goals decide

theorem kept_execLifeHourTick (mean : Int) (s : State) (t : State) (h : execLifeHourTick mean s = .next t) : Keeps 0x1 s t := by
  unfold execLifeHourTick at h
  cases h
  try dsimp only
  repeat' (first
    | with_reducible exact Keeps.refl _
    | with_reducible apply keeps_inc_ix 0 5 (by decide) (by decide) (by decide) (by first | assumption | omega | exact Fin.isLt _ | exact List.mem_range.mp (by assumption) | exact lifeBand_lt _ | exact zip_lt (by assumption)) (by decide)
    | with_reducible apply keeps_inc_in 0 (by decide) (by unfold inSpan; first | decide | (split <;> decide) | ((first | unfold driveFld | unfold errFld); split <;> decide))
    | with_reducible apply keeps_ite
    | (intro _)
    | split)

end Sys2Proof.Machine
end

