-- ==== Sys2Proof/Laws/KeptSeats.lean ====
section
/-!
SUPPORT. What the operations of Seats.lean keep.
-/
namespace Sys2Proof.Machine

theorem kept_setLevels (s : State) (seat w : Nat) : Keeps 0x100 s (State.setLevels s seat w) := by
  unfold State.setLevels
  try dsimp only
  repeat' (first
    | with_reducible exact Keeps.refl _
    | with_reducible apply keeps_setFld_in 8 (by decide) (by first | exact in_pg2 (pg_8 _) (by first | decide | assumption | exact off_le (Nat.mod_lt _ (by decide)) (by first | assumption | decide) | exact off_le (by assumption) (by decide) | exact off_le (List.mem_range.mp (by assumption)) (by decide) | exact all_off (by assumption) (by decide) | (unfold upFld; split <;> decide)) | exact in_pg (pg_8 _) (by decide))
    | with_reducible apply keeps_ite
    | (intro _)
    | split)

theorem kept_levelErr (s : State) (seat : Nat) : Keeps 0x100 s (State.levelErr s seat) := by
  unfold State.levelErr
  try dsimp only
  repeat' (first
    | with_reducible exact Keeps.refl _
    | with_reducible apply keeps_inc_in 8 (by decide) (by first | exact in_pg2 (pg_8 _) (by first | decide | assumption | exact off_le (Nat.mod_lt _ (by decide)) (by first | assumption | decide) | exact off_le (by assumption) (by decide) | exact off_le (List.mem_range.mp (by assumption)) (by decide) | exact all_off (by assumption) (by decide) | (unfold upFld; split <;> decide)) | exact in_pg (pg_8 _) (by decide))
    | with_reducible apply keeps_ite
    | (intro _)
    | split)

theorem kept_enterLevel (s : State) (seat level : Nat) : Keeps 0x80000001038800024100 s (State.enterLevel s seat level) := by
  unfold State.enterLevel
  try dsimp only
  repeat' (first
    | with_reducible exact Keeps.refl _
    | with_reducible apply Keeps.via (kept_setLevels ..) (by decide)
    | with_reducible apply Keeps.via (kept_clearNote ..) (by decide)
    | with_reducible apply Keeps.via (kept_compareNote ..) (by decide)
    | with_reducible apply Keeps.via (kept_levelErr ..) (by decide)
    | with_reducible apply keeps_ite
    | (intro _)
    | split)

theorem kept_exitLevel (s : State) (seat : Nat) : Keeps 0x80000001038800024100 s (State.exitLevel s seat) := by
  unfold State.exitLevel
  try dsimp only
  repeat' (first
    | with_reducible exact Keeps.refl _
    | with_reducible apply Keeps.via (kept_levelErr ..) (by decide)
    | with_reducible apply Keeps.via (kept_setLevels ..) (by decide)
    | with_reducible apply Keeps.via (kept_compareNote ..) (by decide)
    | with_reducible apply keeps_ite
    | (intro _)
    | split)

theorem kept_enterWrite (s : State) (seat w : Nat) : Keeps 0x80000001038800024100 s (State.enterWrite s seat w) := by
  unfold State.enterWrite
  try dsimp only
  repeat' (first
    | with_reducible exact Keeps.refl _
    | with_reducible apply Keeps.via (kept_enterLevel ..) (by decide)
    | with_reducible apply keeps_ite
    | (intro _)
    | split)

theorem kept_exitWrite (s : State) (seat w : Nat) : Keeps 0x80000001038800024100 s (State.exitWrite s seat w) := by
  unfold State.exitWrite
  try dsimp only
  repeat' (first
    | with_reducible exact Keeps.refl _
    | with_reducible apply Keeps.via (kept_exitLevel ..) (by decide)
    | with_reducible apply keeps_ite
    | (intro _)
    | split)

theorem kept_execNotifyResend (seat : SeatNo) (s : State) (t : State) (h : execNotifyResend seat s = .next t) : Keeps 0x80002001038800024000 s t := by
  unfold execNotifyResend at h
  cases h
  try dsimp only
  repeat' (first
    | with_reducible exact Keeps.refl _
    | with_reducible apply Keeps.via (kept_eventDatagram ..) (by decide)
    | with_reducible apply Keeps.via (kept_settle ..) (by decide)
    | with_reducible apply keeps_ite
    | (intro _)
    | split)

theorem kept_tryPlayout (s : State) : Keeps 0x1880000028e08000000 s (State.tryPlayout s) := by
  unfold State.tryPlayout
  try dsimp only
  repeat' (first
    | with_reducible exact Keeps.refl _
    | with_reducible apply Keeps.via (kept_setPlay ..) (by decide)
    | with_reducible apply Keeps.via (kept_engineRead ..) (by decide)
    | with_reducible apply keeps_ite
    | (intro _)
    | split)

theorem kept_loseSeat (s : State) (seat : Nat) : Keeps 0x81882001038e08000180 s (State.loseSeat s seat) := by
  unfold State.loseSeat
  try dsimp only
  repeat' (first
    | with_reducible exact Keeps.refl _
    | with_reducible apply keeps_inc_in 8 (by decide) (by first | exact in_pg2 (pg_8 _) (by first | decide | assumption | exact off_le (Nat.mod_lt _ (by decide)) (by first | assumption | decide) | exact off_le (by assumption) (by decide) | exact off_le (List.mem_range.mp (by assumption)) (by decide) | exact all_off (by assumption) (by decide) | (unfold upFld; split <;> decide)) | exact in_pg (pg_8 _) (by decide))
    | with_reducible apply keeps_setCond_in 7 (by decide) (by unfold inSpan; first | decide | (split <;> decide) | ((first | unfold driveFld | unfold errFld); split <;> decide))
    | with_reducible apply Keeps.via (kept_setEvt ..) (by decide)
    | with_reducible apply Keeps.via (kept_setLevels ..) (by decide)
    | with_reducible apply Keeps.via (kept_clearNote ..) (by decide)
    | with_reducible apply Keeps.via (kept_settle ..) (by decide)
    | with_reducible apply Keeps.via (kept_tryPlayout ..) (by decide)
    | with_reducible apply keeps_ite
    | (intro _)
    | split)

theorem kept_epDown (s : State) : Keeps 0x4000000 s (State.epDown s) := by
  unfold State.epDown
  try dsimp only
  repeat' (first
    | with_reducible exact Keeps.refl _
    | with_reducible apply keeps_setFld_in 26 (by decide) (by unfold inSpan; first | decide | (split <;> decide) | ((first | unfold driveFld | unfold errFld); split <;> decide))
    | with_reducible apply keeps_setCond_in 26 (by decide) (by unfold inSpan; first | decide | (split <;> decide) | ((first | unfold driveFld | unfold errFld); split <;> decide))
    | with_reducible apply keeps_ite
    | (intro _)
    | split)

theorem kept_execSeatLost (seat : SeatNo) (linkDown : Bool) (s : State) (t : State) (h : execSeatLost seat linkDown s = .next t) : Keeps 0x81882001038e0c000180 s t := by
  unfold execSeatLost at h
  cases h
  try dsimp only
  repeat' (first
    | with_reducible exact Keeps.refl _
    | with_reducible apply Keeps.via (kept_epDown ..) (by decide)
    | with_reducible apply Keeps.via (kept_loseSeat ..) (by decide)
    | with_reducible apply Keeps.via (kept_settle ..) (by decide)
    | with_reducible apply keeps_ite
    | (intro _)
    | split)

theorem kept_aliveWrite (s : State) (seat : Nat) : Keeps 0x82000400000000080 s (State.aliveWrite s seat) := by
  unfold State.aliveWrite
  try dsimp only
  repeat' (first
    | with_reducible exact Keeps.refl _
    | with_reducible apply keeps_setCond_in 7 (by decide) (by unfold inSpan; first | decide | (split <;> decide) | ((first | unfold driveFld | unfold errFld); split <;> decide))
    | with_reducible apply Keeps.via (kept_setEvt ..) (by decide)
    | with_reducible apply Keeps.via (kept_playoutWithdraw ..) (by decide)
    | with_reducible apply keeps_ite
    | (intro _)
    | split)

theorem kept_execPcieEpLinkUp (speed : Fin 6) (width : Fin 9) (s : State) (t : State) (h : execPcieEpLinkUp speed width s = .next t) : Keeps 0x200004000000 s t := by
  unfold execPcieEpLinkUp at h
  cases h
  try dsimp only
  repeat' (first
    | with_reducible exact Keeps.refl _
    | with_reducible apply keeps_setFld_in 26 (by decide) (by unfold inSpan; first | decide | (split <;> decide) | ((first | unfold driveFld | unfold errFld); split <;> decide))
    | with_reducible apply Keeps.via (kept_setPow ..) (by decide)
    | with_reducible apply keeps_ite
    | (intro _)
    | split)

end Sys2Proof.Machine
end

