-- ==== Sys2Proof/Laws/KeptSleep.lean ====
section
/-!
SUPPORT. What the operations of Sleep.lean keep.
-/
namespace Sys2Proof.Machine

theorem kept_setPstate (s : State) (v : Nat) : Keeps 0x2 s (State.setPstate s v) := by
  unfold State.setPstate
  try dsimp only
  repeat' (first
    | with_reducible exact Keeps.refl _
    | with_reducible apply keeps_setFld_in 1 (by decide) (by unfold inSpan; first | decide | (split <;> decide) | ((first | unfold driveFld | unfold errFld); split <;> decide))
    | with_reducible apply keeps_ite
    | (intro _)
    | split)

theorem kept_beginReturn (s : State) (cause : Nat) : Keeps 0x2 s (State.beginReturn s cause) := by
  unfold State.beginReturn
  try dsimp only
  repeat' (first
    | with_reducible exact Keeps.refl _
    | with_reducible apply keeps_setFld_in 1 (by decide) (by unfold inSpan; first | decide | (split <;> decide) | ((first | unfold driveFld | unfold errFld); split <;> decide))
    | with_reducible apply Keeps.via (kept_setPstate ..) (by decide)
    | with_reducible apply keeps_ite
    | (intro _)
    | split)

theorem kept_refused (s : State) (r : Nat) : Keeps 0x2 s (State.refused s r) := by
  unfold State.refused
  try dsimp only
  repeat' (first
    | with_reducible exact Keeps.refl _
    | with_reducible apply keeps_setFld_in 1 (by decide) (by unfold inSpan; first | decide | (split <;> decide) | ((first | unfold driveFld | unfold errFld); split <;> decide))
    | with_reducible apply keeps_ite
    | (intro _)
    | split)

theorem kept_pwrCmd (s : State) (w : Nat) (wakeNLow : Bool) : Keeps 0x20000000000000000002 s (State.pwrCmd s w wakeNLow) := by
  unfold State.pwrCmd
  try dsimp only
  repeat' (first
    | with_reducible exact Keeps.refl _
    | with_reducible apply Keeps.via (kept_setPstate ..) (by decide)
    | with_reducible apply Keeps.via (kept_refused ..) (by decide)
    | with_reducible apply Keeps.via (kept_beginReturn ..) (by decide)
    | with_reducible apply keeps_ite
    | (intro _)
    | split
    | with_reducible apply keeps_with_powerReq (by decide))

theorem kept_drivesOff (s : State) : Keeps 0xc00000028e0c000000 s (State.drivesOff s) := by
  unfold State.drivesOff
  try dsimp only
  repeat' (first
    | with_reducible exact Keeps.refl _
    | with_reducible apply Keeps.via (kept_driveDown ..) (by decide)
    | with_reducible apply keeps_ite
    | (intro _)
    | split)

theorem kept_powerRecord (s : State) (state cause : Nat) : Keeps 0x38800000000 s (State.powerRecord s state cause) := by
  unfold State.powerRecord
  try dsimp only
  repeat' (first
    | with_reducible exact Keeps.refl _
    | with_reducible apply Keeps.via (kept_seatsRecord ..) (by decide)
    | with_reducible apply keeps_ite
    | (intro _)
    | split)

theorem kept_execStandbyEnter (s : State) (t : State) (h : execStandbyEnter s = .next t) : Keeps 0x4a6c0226d038e0fc14022 s t := by
  unfold execStandbyEnter at h
  cases h
  try dsimp only
  repeat' (first
    | with_reducible exact Keeps.refl _
    | with_reducible apply keeps_setFld_in 24 (by decide) (by unfold inSpan; first | decide | (split <;> decide) | ((first | unfold driveFld | unfold errFld); split <;> decide))
    | with_reducible apply keeps_inc_in 1 (by decide) (by unfold inSpan; first | decide | (split <;> decide) | ((first | unfold driveFld | unfold errFld); split <;> decide))
    | with_reducible apply Keeps.via (kept_lanesOff ..) (by decide)
    | with_reducible apply Keeps.via (kept_dropEdges ..) (by decide)
    | with_reducible apply Keeps.via (kept_powerRecord ..) (by decide)
    | with_reducible apply Keeps.via (kept_drivesOff ..) (by decide)
    | with_reducible apply Keeps.via (kept_rpReset ..) (by decide)
    | with_reducible apply keeps_when_on
    | with_reducible apply Keeps.via (kept_refreshAll ..) (by decide)
    | with_reducible apply Keeps.via (kept_setPstate ..) (by decide)
    | with_reducible apply Keeps.via (kept_settle ..) (by decide)
    | with_reducible apply keeps_ite
    | (intro _)
    | split
    | with_reducible apply keeps_with_powerReq (by decide))

theorem kept_execStandbyReturnDone (us : Word) (memOk : Bool) (fail : BitVec 32) (trims : List ChanTrim) (s : State) (t : State) (h : execStandbyReturnDone us memOk fail trims s = .next t) : Keeps 0x348788207d438e0fc14023 s t := by
  unfold execStandbyReturnDone at h
  cases h
  try dsimp only
  repeat' (first
    | with_reducible exact Keeps.refl _
    | with_reducible apply keeps_setFld_in 24 (by decide) (by unfold inSpan; first | decide | (split <;> decide) | ((first | unfold driveFld | unfold errFld); split <;> decide))
    | with_reducible apply keeps_setFld_in 1 (by decide) (by unfold inSpan; first | decide | (split <;> decide) | ((first | unfold driveFld | unfold errFld); split <;> decide))
    | with_reducible apply keeps_when_on
    | with_reducible apply Keeps.via (kept_loseTop ..) (by decide)
    | with_reducible apply Keeps.via (kept_trainingEnds ..) (by decide)
    | with_reducible apply Keeps.via (kept_rpReset ..) (by decide)
    | with_reducible apply Keeps.via (kept_setCyc ..) (by decide)
    | with_reducible apply Keeps.via (kept_setPstate ..) (by decide)
    | with_reducible apply Keeps.via (kept_syncFeeds ..) (by decide)
    | with_reducible apply Keeps.via (kept_powerRecord ..) (by decide)
    | with_reducible apply Keeps.via (kept_settle ..) (by decide)
    | with_reducible apply Keeps.via (kept_tryPlayout ..) (by decide)
    | with_reducible apply keeps_ite
    | (intro _)
    | split)

theorem kept_restoreReg (s : State) (e : Nat × Word) : Keeps 0x1ffffffff s (State.restoreReg s e) := by
  unfold State.restoreReg
  try dsimp only
  repeat' (first
    | with_reducible exact Keeps.refl _
    | with_reducible apply keeps_setReg_ge 0 (by decide) (by decide) (Nat.zero_le _)
    | with_reducible apply keeps_ite
    | (intro _)
    | split)

theorem kept_restoreImage (s : State) (i : Image) : Keeps 0x80000613ffffffff s (State.restoreImage s i) := by
  unfold State.restoreImage
  try dsimp only
  repeat' (first
    | with_reducible exact Keeps.refl _
    | with_reducible apply keeps_each_on
    | with_reducible apply Keeps.via (kept_restoreReg ..) (by decide)
    | with_reducible apply keeps_ite
    | (intro _)
    | split
    | with_reducible apply keeps_with_force_resp_rings_stale (by decide))

theorem kept_keepTrims (s o : State) : Keeps 0x1ffffffff s (State.keepTrims s o) := by
  unfold State.keepTrims
  try dsimp only
  repeat' (first
    | with_reducible exact Keeps.refl _
    | with_reducible apply keeps_setReg_ge 0 (by decide) (by decide) (Nat.zero_le _)
    | with_reducible apply keeps_each_on
    | with_reducible apply keeps_ite
    | (intro _)
    | split)

theorem kept_execSleepEnter (s : State) (t : State) (h : execSleepEnter s = .next t) : Keeps 0x3dfffffffffeffffffffff s t := by
  unfold execSleepEnter at h
  cases h
  try dsimp only
  repeat' (first
    | with_reducible exact Keeps.refl _
    | with_reducible apply keeps_foldl_on
    | with_reducible apply keeps_fold_pair
    | with_reducible apply keeps_inc_in 1 (by decide) (by unfold inSpan; first | decide | (split <;> decide) | ((first | unfold driveFld | unfold errFld); split <;> decide))
    | with_reducible apply keeps_setFld_in 1 (by decide) (by unfold inSpan; first | decide | (split <;> decide) | ((first | unfold driveFld | unfold errFld); split <;> decide))
    | with_reducible apply Keeps.via (kept_mainReset ..) (by decide)
    | with_reducible apply Keeps.via (kept_keepTrims ..) (by decide)
    | with_reducible apply Keeps.via (kept_setPow ..) (by decide)
    | with_reducible apply keeps_ite
    | (intro _)
    | split
    | with_reducible apply keeps_with_free_image_lanes_mem (by decide))

theorem kept_wake (s : State) (cause : Nat) : Keeps 0x300800000003 s (State.wake s cause) := by
  unfold State.wake
  try dsimp only
  repeat' (first
    | with_reducible exact Keeps.refl _
    | with_reducible apply keeps_setFld_in 1 (by decide) (by unfold inSpan; first | decide | (split <;> decide) | ((first | unfold driveFld | unfold errFld); split <;> decide))
    | with_reducible apply Keeps.via (kept_start ..) (by decide)
    | with_reducible apply Keeps.via (kept_setPow ..) (by decide)
    | with_reducible apply keeps_ite
    | (intro _)
    | split)

theorem kept_wakeBy (s : State) (cause : Nat) : Keeps 0x300800000003 s (State.wakeBy s cause) := by
  unfold State.wakeBy
  try dsimp only
  repeat' (first
    | with_reducible exact Keeps.refl _
    | with_reducible apply Keeps.via (kept_wake ..) (by decide)
    | with_reducible apply Keeps.via (kept_beginReturn ..) (by decide)
    | with_reducible apply keeps_ite
    | (intro _)
    | split)

theorem kept_execWakeNEvent (ns : Nat) (s : State) (t : State) (h : execWakeNEvent ns s = .next t) : Keeps 0x300800000003 s t := by
  unfold execWakeNEvent at h
  cases h
  try dsimp only
  repeat' (first
    | with_reducible exact Keeps.refl _
    | with_reducible apply Keeps.via (kept_wakeBy ..) (by decide)
    | with_reducible apply keeps_ite
    | (intro _)
    | split)

theorem kept_execAlarmExpire (s : State) (t : State) (h : execAlarmExpire s = .next t) : Keeps 0x300800000003 s t := by
  unfold execAlarmExpire at h
  cases h
  try dsimp only
  repeat' (first
    | with_reducible exact Keeps.refl _
    | with_reducible apply Keeps.via (kept_wakeBy ..) (by decide)
    | with_reducible apply keeps_ite
    | (intro _)
    | split)

end Sys2Proof.Machine
end

