-- ==== Sys2Proof/Laws/KeptAccess.lean ====
section
/-!
SUPPORT. What the operations of Access.lean keep.
-/
namespace Sys2Proof.Machine

theorem kept_setLatch (s : State) (seat a v : Nat) : Keeps 0x2000000000 s (State.setLatch s seat a v) := by
  unfold State.setLatch
  try dsimp only
  repeat' (first
    | with_reducible exact Keeps.refl _
    | with_reducible apply keeps_ite
    | (intro _)
    | split
    | with_reducible apply keeps_with_latch (by decide))

theorem locate_span {a : Nat} {l : Loc} (h : locate a = some l) (hr : l.blk ≠ .rstate) : inSpan l.blk.idx a := by
  unfold locate pageMap at h
  repeat' (first
    | (split at h; focus (cases h; refine ⟨?_, by assumption⟩; show _ < 33; simp only [Blk.idx]; decide))
    | (split at h; focus (cases h; exact absurd rfl hr))
    | unfold findPage at h
    | cases h)

theorem kept_afterRead (s : State) (seat : Nat) (l : Loc) (a : Nat) (h : locate a = some l) :
    Keeps 0x400002002100400 s (s.afterRead seat l a) := by
  unfold State.afterRead
  split
  · exact Keeps.refl _
  split
  · exact (kept_setLatch ..).mono (by decide)
  split
  · exact Keeps.via (kept_setLatch ..) (by decide) (Keeps.via (kept_setLatch ..) (by decide)
      (Keeps.via (kept_setLatch ..) (by decide) ((kept_setLatch ..).mono (by decide))))
  split
  · exact (kept_tcapPop _ _ _ (by omega)).mono (by decide)
  split
  · next hc =>
    have hs := locate_span h (by rw [hc.1]; decide)
    rw [hc.1] at hs
    exact keeps_setReg_in 20 (by decide) hs (Keeps.refl _)
  split
  · exact keeps_setFld_in 25 (by decide) (in_pg2 (pg_25 _) (by decide)) (Keeps.refl _)
  · exact Keeps.refl _

theorem kept_hostRead (s : State) (seat addr : Nat) : Keeps 0x400002002100400 s (s.hostRead seat addr).1 := by
  unfold State.hostRead
  dsimp only
  split
  · exact Keeps.refl _
  split
  · exact Keeps.refl _
  · next h => exact (kept_afterRead _ _ _ _ h).mono (by decide)

theorem kept_storeReg (s : State) (seat : Nat) (l : Loc) (a v : Nat) : Keeps 0x1ffffffff s (State.storeReg s seat l a v) := by
  unfold State.storeReg
  try dsimp only
  repeat' (first
    | with_reducible exact Keeps.refl _
    | with_reducible apply keeps_setReg_ge 0 (by decide) (by decide) (Nat.zero_le _)
    | with_reducible apply keeps_ite
    | (intro _)
    | split)

theorem kept_doPlain (s : State) (seat : Nat) (l : Loc) (v : Nat) : Keeps 0x3dffffffffffffffffffff s (State.doPlain s seat l v) := by
  unfold State.doPlain
  try dsimp only
  repeat' (first
    | with_reducible exact Keeps.refl _
    | with_reducible apply keeps_setReg_in 25 (by decide) (by first | exact in_pg2 (pg_25 _) (by first | decide | assumption | exact off_le (Nat.mod_lt _ (by decide)) (by first | assumption | decide) | exact off_le (by assumption) (by decide) | exact off_le (List.mem_range.mp (by assumption)) (by decide) | exact all_off (by assumption) (by decide) | (unfold upFld; split <;> decide)) | exact in_pg (pg_25 _) (by decide))
    | with_reducible apply Keeps.via (kept_restart ..) (by decide)
    | with_reducible apply Keeps.via (kept_pwrCmd ..) (by decide)
    | with_reducible apply Keeps.via (kept_retrainMem ..) (by decide)
    | with_reducible apply Keeps.via (kept_ethClear ..) (by decide)
    | with_reducible apply Keeps.via (kept_ingPush ..) (by decide)
    | with_reducible apply Keeps.via (kept_flowClear ..) (by decide)
    | with_reducible apply Keeps.via (kept_wlClear ..) (by decide)
    | with_reducible apply Keeps.via (kept_respGo ..) (by decide)
    | with_reducible apply Keeps.via (kept_ringOp ..) (by decide)
    | with_reducible apply keeps_when_on
    | with_reducible apply Keeps.via (kept_grantTile ..) (by decide)
    | with_reducible apply Keeps.via (kept_playoutStop ..) (by decide)
    | with_reducible apply Keeps.via (kept_updCmd ..) (by decide)
    | with_reducible apply Keeps.via (kept_jobCtl ..) (by decide)
    | with_reducible apply Keeps.via (kept_nvmeCmd ..) (by decide)
    | with_reducible apply Keeps.via (kept_lyrAlert ..) (by decide)
    | with_reducible apply keeps_ite
    | (intro _)
    | split)

theorem kept_doHk (s : State) (off v : Nat) : Keeps 0x40080008200000008 s (State.doHk s off v) := by
  unfold State.doHk
  try dsimp only
  repeat' (first
    | with_reducible exact Keeps.refl _
    | with_reducible apply Keeps.via (kept_scanStarts ..) (by decide)
    | with_reducible apply Keeps.via (kept_setHouse ..) (by decide)
    | with_reducible apply Keeps.via (kept_lampCmd ..) (by decide)
    | with_reducible apply keeps_ite
    | (intro _)
    | split)

theorem kept_doCmp (s : State) (seat off v : Nat) : Keeps 0x40010fffffff s (State.doCmp s seat off v) := by
  unfold State.doCmp
  try dsimp only
  repeat' (first
    | with_reducible exact Keeps.refl _
    | with_reducible apply Keeps.via (kept_cancelGo ..) (by decide)
    | with_reducible apply keeps_ite
    | (intro _)
    | split)

theorem kept_doEvtp (s : State) (k off v : Nat) : Keeps 0x80082001438800024180 s (State.doEvtp s k off v) := by
  unfold State.doEvtp
  try dsimp only
  repeat' (first
    | with_reducible exact Keeps.refl _
    | with_reducible apply Keeps.via (kept_enterWrite ..) (by decide)
    | with_reducible apply Keeps.via (kept_exitWrite ..) (by decide)
    | with_reducible apply Keeps.via (kept_aliveWrite ..) (by decide)
    | with_reducible apply keeps_ite
    | (intro _)
    | split)

theorem kept_doTout (s : State) (k v : Nat) (hb0 : k < 16) : Keeps 0x80002201038800000400 s (State.doTout s k v) := by
  unfold State.doTout
  try dsimp only
  repeat' (first
    | with_reducible exact Keeps.refl _
    | with_reducible apply Keeps.via (kept_freePol ..) (by decide)
    | with_reducible apply keeps_when_on
    | with_reducible apply Keeps.via (kept_toutArm _ _ (by first | assumption | decide | exact Fin.isLt _ | exact bitsOf_lt64 _ _ | omega | exact List.mem_range.mp (by assumption) | exact presentPos_lt (by assumption) | exact startRecord_len .. | exact presetTrims_len .. | exact take7_len .. | exact take6_len .. | exact ethStart_len .. | exact all_off (by assumption) (by decide))) (by decide)
    | with_reducible apply Keeps.via (kept_toutDisarm ..) (by decide)
    | with_reducible apply Keeps.via (kept_driveTout ..) (by decide)
    | with_reducible apply keeps_ite
    | (intro _)
    | split)

theorem kept_doRate (s : State) (low : Option Word) (v : Nat) : Keeps 0x100000000000 s (State.doRate s low v) := by
  unfold State.doRate
  try dsimp only
  repeat' (first
    | with_reducible exact Keeps.refl _
    | with_reducible apply Keeps.via (kept_setRate ..) (by decide)
    | with_reducible apply keeps_ite
    | (intro _)
    | split)

theorem kept_doTime (s : State) (off : Nat) (was : Word) (v : Nat) : Keeps 0x80003b01438800001400 s (State.doTime s off was v) := by
  unfold State.doTime
  try dsimp only
  repeat' (first
    | with_reducible exact Keeps.refl _
    | with_reducible apply Keeps.via (kept_syncSrcChanged ..) (by decide)
    | with_reducible apply Keeps.via (kept_judgePps ..) (by decide)
    | with_reducible apply Keeps.via (kept_hearMasters ..) (by decide)
    | with_reducible apply Keeps.via (kept_settle ..) (by decide)
    | with_reducible apply Keeps.via (kept_stepCtl ..) (by decide)
    | with_reducible apply Keeps.via (kept_doTout _ _ _ (by first | assumption | decide | exact Fin.isLt _ | exact bitsOf_lt64 _ _ | omega | exact List.mem_range.mp (by assumption) | exact presentPos_lt (by assumption) | exact startRecord_len .. | exact presetTrims_len .. | exact take7_len .. | exact take6_len .. | exact ethStart_len .. | exact all_off (by assumption) (by decide))) (by decide)
    | split
    | (intro _))

theorem kept_doSva (s : State) (n off : Nat) (was : Word) (v : Nat) : Keeps 0x80003001038800003000 s (State.doSva s n off was v) := by
  unfold State.doSva
  try dsimp only
  repeat' (first
    | with_reducible exact Keeps.refl _
    | with_reducible apply Keeps.via (kept_servoCmd ..) (by decide)
    | with_reducible apply Keeps.via (kept_saReset ..) (by decide)
    | with_reducible apply keeps_ite
    | (intro _)
    | split)

theorem kept_doSvb (s : State) (n off v : Nat) : Keeps 0x80003001038800003000 s (State.doSvb s n off v) := by
  unfold State.doSvb
  try dsimp only
  repeat' (first
    | with_reducible exact Keeps.refl _
    | with_reducible apply Keeps.via (kept_servoCmd ..) (by decide)
    | with_reducible apply keeps_ite
    | (intro _)
    | split)

theorem kept_doSer (s : State) (n off : Nat) (was : Word) (v : Nat) : Keeps 0x48600204d038800c14020 s (State.doSer s n off was v) := by
  unfold State.doSer
  try dsimp only
  repeat' (first
    | with_reducible exact Keeps.refl _
    | with_reducible apply keeps_when_on
    | with_reducible apply Keeps.via (kept_retrainLane ..) (by decide)
    | with_reducible apply Keeps.via (kept_hostRegather ..) (by decide)
    | with_reducible apply Keeps.via (kept_testWritten ..) (by decide)
    | with_reducible apply keeps_ite
    | (intro _)
    | split)

theorem kept_doAction (s : State) (seat : Nat) (l : Loc) (a : Nat) (was : Word) (v : Nat) : Keeps 0x3dffffffffffffffffffff s (State.doAction s seat l a was v) := by
  unfold State.doAction
  try dsimp only
  repeat' (first
    | with_reducible exact Keeps.refl _
    | with_reducible apply Keeps.via (kept_commitGo ..) (by decide)
    | with_reducible apply Keeps.via (kept_doHk ..) (by decide)
    | with_reducible apply Keeps.via (kept_doCmp ..) (by decide)
    | with_reducible apply Keeps.via (kept_doEvtp ..) (by decide)
    | with_reducible apply Keeps.via (kept_doTime ..) (by decide)
    | with_reducible apply Keeps.via (kept_doSva ..) (by decide)
    | with_reducible apply Keeps.via (kept_doSvb ..) (by decide)
    | with_reducible apply Keeps.via (kept_doSer ..) (by decide)
    | with_reducible apply Keeps.via (kept_doPlain ..) (by decide)
    | with_reducible apply keeps_ite
    | (intro _)
    | split)

theorem kept_takeWrite (s : State) (seat : Nat) (l : Loc) (a v : Nat) : Keeps 0x3dffffffffffffffffffff s (State.takeWrite s seat l a v) := by
  unfold State.takeWrite
  try dsimp only
  repeat' (first
    | with_reducible exact Keeps.refl _
    | with_reducible apply Keeps.via (kept_storeReg ..) (by decide)
    | with_reducible apply Keeps.via (kept_doAction ..) (by decide)
    | with_reducible apply keeps_ite
    | (intro _)
    | split)

theorem kept_setHalf (s : State) (who a : Nat) (v : Option Word) : Keeps 0x4000000000 s (State.setHalf s who a v) := by
  unfold State.setHalf
  try dsimp only
  repeat' (first
    | with_reducible exact Keeps.refl _
    | with_reducible apply keeps_ite
    | (intro _)
    | split
    | with_reducible apply keeps_with_lowHalf (by decide))

theorem kept_pairWrite (s : State) (seat : Nat) (l : Loc) (a v : Nat) : Keeps 0x3dffffffffffffffffffff s (State.pairWrite s seat l a v) := by
  unfold State.pairWrite
  try dsimp only
  repeat' (first
    | with_reducible exact Keeps.refl _
    | with_reducible apply Keeps.via (kept_setHalf ..) (by decide)
    | with_reducible apply Keeps.via (kept_doRate ..) (by decide)
    | with_reducible apply Keeps.via (kept_takeWrite ..) (by decide)
    | with_reducible apply keeps_ite
    | (intro _)
    | split)

theorem kept_feedCrc (s : State) (n be v : Nat) : Keeps 0x10 s (State.feedCrc s n be v) := by
  unfold State.feedCrc
  try dsimp only
  repeat' (first
    | with_reducible exact Keeps.refl _
    | with_reducible apply keeps_foldl_on
    | with_reducible apply keeps_fold_pair
    | with_reducible apply keeps_setFld_in 4 (by decide) (by first | exact in_pg2 (pg_4 _) (by first | decide | assumption | exact off_le (Nat.mod_lt _ (by decide)) (by first | assumption | decide) | exact off_le (by assumption) (by decide) | exact off_le (List.mem_range.mp (by assumption)) (by decide) | exact all_off (by assumption) (by decide) | (unfold upFld; split <;> decide)) | exact in_pg (pg_4 _) (by decide))
    | with_reducible apply keeps_inc_in 4 (by decide) (by first | exact in_pg2 (pg_4 _) (by first | decide | assumption | exact off_le (Nat.mod_lt _ (by decide)) (by first | assumption | decide) | exact off_le (by assumption) (by decide) | exact off_le (List.mem_range.mp (by assumption)) (by decide) | exact all_off (by assumption) (by decide) | (unfold upFld; split <;> decide)) | exact in_pg (pg_4 _) (by decide))
    | with_reducible apply keeps_ite
    | (intro _)
    | split)

theorem kept_ringStateWrite (s : State) (seat : Nat) (l : Loc) (a v : Nat) : Keeps 0x400389ffffffff s (State.ringStateWrite s seat l a v) := by
  unfold State.ringStateWrite
  try dsimp only
  repeat' (first
    | with_reducible exact Keeps.refl _
    | with_reducible apply Keeps.via (kept_writeIndex ..) (by decide)
    | with_reducible apply keeps_when_on
    | with_reducible apply Keeps.via (kept_grantTile ..) (by decide)
    | with_reducible apply Keeps.via (kept_foreign ..) (by decide)
    | with_reducible apply keeps_ite
    | (intro _)
    | split)

theorem kept_placeWrite (s : State) (seat : Nat) (l : Loc) (a be v : Nat) : Keeps 0x3dffffffffffffffffffff s (State.placeWrite s seat l a be v) := by
  unfold State.placeWrite
  try dsimp only
  repeat' (first
    | with_reducible exact Keeps.refl _
    | with_reducible apply Keeps.via (kept_ringStateWrite ..) (by decide)
    | with_reducible apply Keeps.via (kept_foreign ..) (by decide)
    | with_reducible apply keeps_when_on
    | with_reducible apply Keeps.via (kept_ingPush ..) (by decide)
    | with_reducible apply Keeps.via (kept_feedCrc ..) (by decide)
    | with_reducible apply Keeps.via (kept_pairWrite ..) (by decide)
    | with_reducible apply keeps_ite
    | (intro _)
    | split)

theorem kept_hostWrite (s : State) (seat addr be v : Nat) : Keeps 0x3dffffffffffffffffffff s (State.hostWrite s seat addr be v) := by
  unfold State.hostWrite
  try dsimp only
  repeat' (first
    | with_reducible exact Keeps.refl _
    | with_reducible apply Keeps.via (kept_placeWrite ..) (by decide)
    | with_reducible apply Keeps.via (kept_settle ..) (by decide)
    | with_reducible apply keeps_ite
    | (intro _)
    | split)

theorem kept_cfgWrite (s : State) (addr v : Nat) : Keeps 0x3dffffffffffffffffffff s (State.cfgWrite s addr v) := by
  unfold State.cfgWrite
  try dsimp only
  repeat' (first
    | with_reducible exact Keeps.refl _
    | with_reducible apply Keeps.via (kept_ringStateWrite ..) (by decide)
    | with_reducible apply Keeps.via (kept_feedCrc ..) (by decide)
    | with_reducible apply Keeps.via (kept_pairWrite ..) (by decide)
    | with_reducible apply keeps_ite
    | (intro _)
    | split)

theorem kept_setBoot (s : State) (a : Nat) (v : Word) : Keeps 0x1ffffffff s (State.setBoot s a v) := by
  unfold State.setBoot
  try dsimp only
  repeat' (first
    | with_reducible exact Keeps.refl _
    | with_reducible apply keeps_setReg_ge 0 (by decide) (by decide) (Nat.zero_le _)
    | with_reducible apply keeps_ite
    | (intro _)
    | split)

theorem kept_protWrite (s : State) (addr v : Nat) : Keeps 0x41ffffffff s (State.protWrite s addr v) := by
  unfold State.protWrite
  try dsimp only
  repeat' (first
    | with_reducible exact Keeps.refl _
    | with_reducible apply Keeps.via (kept_setHalf ..) (by decide)
    | with_reducible apply Keeps.via (kept_setBoot ..) (by decide)
    | with_reducible apply keeps_ite
    | (intro _)
    | split)

end Sys2Proof.Machine
end

