-- ==== Sys2Proof/Laws/KeptReach.lean ====
section
/-!
SUPPORT. What the operations of Reach.lean keep.
-/
namespace Sys2Proof.Machine

theorem kept_writeAll (s : State) (a : Nat) (l : List DWord) : Keeps 0x3dffffffffffffffffffff s (s.writeAll a l) := by
  induction l generalizing s a with
  | nil => exact Keeps.refl _
  | cons d t ih =>
    unfold State.writeAll
    apply Keeps.via (ih _ _) (by decide)
    split
    · exact Keeps.refl _
    · exact (kept_hostWrite ..).mono (by decide)

theorem kept_readAll (s : State) (a : Nat) (l : List DWord) : Keeps 0x400002002100400 s (s.readAll a l).1 := by
  induction l generalizing s a with
  | nil => exact Keeps.refl _
  | cons d t ih =>
    unfold State.readAll
    dsimp only
    apply Keeps.via (ih _ _) (by decide)
    split
    · exact Keeps.refl _
    · exact (kept_hostRead ..).mono (by decide)

theorem kept_bar0 (s : State) (write : Bool) (a : Nat) (dws : List DWord) : Keeps 0x3dffffffffffffffffffff s (State.bar0 s write a dws) := by
  unfold State.bar0
  try dsimp only
  repeat' (first
    | with_reducible exact Keeps.refl _
    | with_reducible apply keeps_inc_in 26 (by decide) (by unfold inSpan; first | decide | (split <;> decide) | ((first | unfold driveFld | unfold errFld); split <;> decide))
    | with_reducible apply Keeps.via (kept_emit ..) (by decide)
    | with_reducible apply Keeps.via (kept_writeAll ..) (by decide)
    | with_reducible apply Keeps.via (kept_readAll ..) (by decide)
    | with_reducible apply keeps_ite
    | (intro _)
    | split)

theorem kept_execBar0Request (write : Bool) (addr : BitVec 24) (dws : List DWord) (s : State) (t : State) (h : execBar0Request write addr dws s = .next t) : Keeps 0x3dffffffffffffffffffff s t := by
  unfold execBar0Request at h
  cases h
  try dsimp only
  repeat' (first
    | with_reducible exact Keeps.refl _
    | with_reducible apply Keeps.via (kept_bar0 ..) (by decide)
    | with_reducible apply keeps_ite
    | (intro _)
    | split)

theorem kept_execBar2Access (write : Bool) (addr : BitVec 36) (bytes : List Byte) (len : Nat) (s : State) (t : State) (h : execBar2Access write addr bytes len s = .next t) : Keeps 0x2000000000008a04000000 s t := by
  unfold execBar2Access at h
  cases h
  try dsimp only
  repeat' (first
    | with_reducible exact Keeps.refl _
    | with_reducible apply Keeps.via (kept_bar2Take ..) (by decide)
    | with_reducible apply keeps_ite
    | (intro _)
    | split)

theorem kept_bar4Write (s : State) (a : Nat) (v : Word) : Keeps 0x80000000000800000000 s (State.bar4Write s a v) := by
  unfold State.bar4Write
  try dsimp only
  repeat' (first
    | with_reducible exact Keeps.refl _
    | with_reducible apply Keeps.via (kept_setBar4 ..) (by decide)
    | with_reducible apply Keeps.via (kept_setPba ..) (by decide)
    | with_reducible apply Keeps.via (kept_emit ..) (by decide)
    | with_reducible apply keeps_ite
    | (intro _)
    | split)

theorem kept_execBar4Access (write : Bool) (addr : BitVec 16) (value : Word) (s : State) (t : State) (h : execBar4Access write addr value s = .next t) : Keeps 0x80000000000800000000 s t := by
  unfold execBar4Access at h
  cases h
  try dsimp only
  repeat' (first
    | with_reducible exact Keeps.refl _
    | with_reducible apply Keeps.via (kept_bar4Write ..) (by decide)
    | with_reducible apply Keeps.via (kept_emit ..) (by decide)
    | with_reducible apply keeps_ite
    | (intro _)
    | split)

theorem kept_setCfgWord (s : State) (reg : Nat) (be : Nat) (v : Word) : Keeps 0x100000000000000000000 s (State.setCfgWord s reg be v) := by
  unfold State.setCfgWord
  try dsimp only
  repeat' (first
    | with_reducible exact Keeps.refl _
    | with_reducible apply keeps_ite
    | (intro _)
    | split
    | with_reducible apply keeps_with_cfgSpace (by decide))

theorem kept_execConfigRequest (write : Bool) (reg : BitVec 10) (be : BitVec 4) (value : Word) (s : State) (t : State) (h : execConfigRequest write reg be value s = .next t) : Keeps 0x100000000000800000000 s t := by
  unfold execConfigRequest at h
  cases h
  try dsimp only
  repeat' (first
    | with_reducible exact Keeps.refl _
    | with_reducible apply Keeps.via (kept_emit ..) (by decide)
    | with_reducible apply Keeps.via (kept_setCfgWord ..) (by decide)
    | with_reducible apply keeps_ite
    | (intro _)
    | split)

theorem kept_dgPushOp (s : State) (seat w : Nat) (data : List Nat) : Keeps 0x38800000000 s (State.dgPushOp s seat w data).1 := by
  unfold State.dgPushOp
  dsimp only
  repeat' (first
    | with_reducible exact Keeps.refl _
    | with_reducible exact keeps_setRing_geo (by decide) ⟨rfl, rfl, rfl⟩ (Keeps.refl _)
    | with_reducible apply keeps_ite
    | split)
  refine (kept_ringWrite _ _ _ (fun b hb => ?_)).mono (by decide)
  simp only [slotBytes, List.mem_map] at hb
  obtain ⟨k, _, rfl⟩ := hb
  exact Nat.le_trans (Nat.le_of_eq (quadBytes_length ..)) (by rw [List.length_take]; omega)

theorem kept_dgPullOp (s : State) (seat w : Nat) : Keeps 0x40038800400000 s (State.dgPullOp s seat w).1 := by
  unfold State.dgPullOp
  try dsimp only
  repeat' (first
    | with_reducible exact Keeps.refl _
    | with_reducible apply keeps_setRing_geo (by decide) (by exact ⟨rfl, rfl, rfl⟩)
    | with_reducible apply keeps_when_on
    | with_reducible apply Keeps.via (kept_grantTile ..) (by decide)
    | with_reducible apply keeps_ite
    | (intro _)
    | split)

theorem kept_dgOp (s : State) (seat : Nat) (o : Nat × List Nat) : Keeps 0x3dffffffffffffffffffff s (State.dgOp s seat o).1 := by
  unfold State.dgOp
  try dsimp only
  repeat' (first
    | with_reducible exact Keeps.refl _
    | with_reducible apply Keeps.via (kept_hostRead ..) (by decide)
    | with_reducible apply Keeps.via (kept_hostWrite ..) (by decide)
    | with_reducible apply Keeps.via (kept_dgPushOp ..) (by decide)
    | with_reducible apply Keeps.via (kept_dgPullOp ..) (by decide)
    | with_reducible apply keeps_ite
    | (intro _)
    | split)

theorem kept_dgAll (s : State) (seat : Nat) (l : List (Nat × List Nat)) : Keeps 0x3dffffffffffffffffffff s (s.dgAll seat l).1 := by
  induction l generalizing s with
  | nil => exact Keeps.refl _
  | cons o t ih =>
    unfold State.dgAll
    dsimp only
    split
    · exact (kept_dgOp ..).mono (by decide)
    · exact Keeps.via (ih _) (by decide) ((kept_dgOp ..).mono (by decide))

theorem kept_dgSend (s : State) (port seat : Nat) (d : DgPath) (bs : List Byte) : Keeps 0x800024000 s (State.dgSend s port seat d bs) := by
  unfold State.dgSend
  try dsimp only
  repeat' (first
    | with_reducible exact Keeps.refl _
    | with_reducible apply Keeps.via (kept_txFrame ..) (by decide)
    | with_reducible apply keeps_ite
    | (intro _)
    | split)

theorem kept_dgExecute (s : State) (port : Nat) (d : DgPath) (h : DgHeader) (ops : List (Nat × List Nat)) : Keeps 0x3dffffffffffffffffffff s (State.dgExecute s port d h ops) := by
  unfold State.dgExecute
  try dsimp only
  repeat' (first
    | with_reducible exact Keeps.refl _
    | with_reducible apply keeps_setFld_in 6 (by decide) (by first | exact in_pg2 (pg_6 _) (by first | decide | assumption | exact off_le (Nat.mod_lt _ (by decide)) (by first | assumption | decide) | exact off_le (by assumption) (by decide) | exact off_le (List.mem_range.mp (by assumption)) (by decide) | exact all_off (by assumption) (by decide) | (unfold upFld; split <;> decide)) | exact in_pg (pg_6 _) (by decide))
    | with_reducible apply Keeps.via (kept_dgAll ..) (by decide)
    | with_reducible apply Keeps.via (kept_dgSend ..) (by decide)
    | with_reducible apply keeps_ite
    | (intro _)
    | split
    | with_reducible apply keeps_with_dgs (by decide))

theorem kept_control (s : State) (port : Nat) (v6 : Bool) (ip udp : Nat) (mac : BitVec 48) (bs : List Byte) : Keeps 0x3dffffffffffffffffffff s (State.control s port v6 ip udp mac bs) := by
  unfold State.control
  try dsimp only
  repeat' (first
    | with_reducible exact Keeps.refl _
    | with_reducible apply keeps_inc_in 6 (by decide) (by first | exact in_pg2 (pg_6 _) (by first | decide | assumption | exact off_le (Nat.mod_lt _ (by decide)) (by first | assumption | decide) | exact off_le (by assumption) (by decide) | exact off_le (List.mem_range.mp (by assumption)) (by decide) | exact all_off (by assumption) (by decide) | (unfold upFld; split <;> decide)) | exact in_pg (pg_6 _) (by decide))
    | with_reducible apply keeps_setFld_in 6 (by decide) (by first | exact in_pg2 (pg_6 _) (by first | decide | assumption | exact off_le (Nat.mod_lt _ (by decide)) (by first | assumption | decide) | exact off_le (by assumption) (by decide) | exact off_le (List.mem_range.mp (by assumption)) (by decide) | exact all_off (by assumption) (by decide) | (unfold upFld; split <;> decide)) | exact in_pg (pg_6 _) (by decide))
    | with_reducible apply Keeps.via (kept_dgSend ..) (by decide)
    | with_reducible apply Keeps.via (kept_dgExecute ..) (by decide)
    | with_reducible apply Keeps.via (kept_settle ..) (by decide)
    | with_reducible apply keeps_ite
    | (intro _)
    | split)

theorem kept_execControlDatagram (port : PortNo) (v6 : Bool) (srcIp : BitVec 128) (srcUdp : BitVec 16) (srcMac : BitVec 48) (payload : List Byte) (s : State) (t : State) (h : execControlDatagram port v6 srcIp srcUdp srcMac payload s = .next t) : Keeps 0x3dffffffffffffffffffff s t := by
  unfold execControlDatagram at h
  cases h
  try dsimp only
  repeat' (first
    | with_reducible exact Keeps.refl _
    | with_reducible apply Keeps.via (kept_control ..) (by decide)
    | with_reducible apply keeps_ite
    | (intro _)
    | split)

theorem kept_execTestPortClock (trstN tms tdi : Bool) (cells : List TestCell) (s : State) (t : State) (h : execTestPortClock trstN tms tdi cells s = .next t) : Keeps 0x200000000000800000000 s t := by
  unfold execTestPortClock at h
  cases h
  try dsimp only
  repeat' (first
    | with_reducible exact Keeps.refl _
    | with_reducible apply keeps_ite
    | (intro _)
    | split
    | with_reducible apply keeps_with_out_tap (by decide))

end Sys2Proof.Machine
end

