-- ==== Sys2Proof/Laws/KeptBoot.lean ====
section
/-!
SUPPORT. What the operations of Boot.lean keep.
-/
namespace Sys2Proof.Machine

theorem kept_setPhase (s : State) (p : Nat) : Keeps 0x1 s (State.setPhase s p) := by
  unfold State.setPhase
  try dsimp only
  repeat' (first
    | with_reducible exact Keeps.refl _
    | with_reducible apply keeps_setFld_in 0 (by decide) (by unfold inSpan; first | decide | (split <;> decide) | ((first | unfold driveFld | unfold errFld); split <;> decide))
    | with_reducible apply keeps_ite
    | (intro _)
    | split)

theorem kept_markFlag (s : State) (e : Nat × Nat) : Keeps 0x100000000800000000 s (State.markFlag s e) := by
  unfold State.markFlag
  try dsimp only
  repeat' (first
    | with_reducible exact Keeps.refl _
    | with_reducible apply Keeps.via (kept_emit ..) (by decide)
    | with_reducible apply keeps_ite
    | (intro _)
    | split
    | with_reducible apply keeps_with_flashMem (by decide))

theorem kept_takeChoice (s : State) (l : List Nat) (c : Choice) : Keeps 0x100000000800000021 s (s.takeChoice l c) := by
  unfold State.takeChoice
  obtain ⟨slot, err, marks⟩ := c
  have fl : ∀ (s : State) (F : Fld) (v : Nat), inSpan 5 (pUpd + F.off + 0 * F.stride) → Keeps 0x100000000800000021 s (s.setFld pUpd F v) :=
    fun s F v hf => keeps_setFld_in 5 (by decide) hf (Keeps.refl _)
  have h : ∀ (b d : Bool) (e f : Nat), Keeps 0x100000000800000021 s ((((s.each marks State.markFlag).when b (·.bootErr e)).when d
      (·.setCond pUpd 2)).setFld pUpd F.UPD_STAT_FALLBACK f) := fun b d e f =>
    (keeps_when_on (fun _ => keeps_setCond_in 5 (by decide) (by unfold inSpan; decide) (Keeps.refl _))
      (keeps_when_on (fun _ => (kept_bootErr ..).mono (by decide))
        (keeps_each_on (fun _ _ => (kept_markFlag ..).mono (by decide)) (Keeps.refl _)))).trans (fl _ _ _ (by unfold inSpan; decide))
  cases slot
  · exact keeps_setFld_in 0 (by decide) (by unfold inSpan; decide) (keeps_setFld_in 5 (by decide) (by unfold inSpan; decide)
      (h _ _ _ _))
  · exact keeps_setFld_in 0 (by decide) (by unfold inSpan; decide) (keeps_setFld_in 5 (by decide) (by unfold inSpan; decide)
      (h _ _ _ _))

theorem kept_slotChoice (s : State) : Keeps 0x100000000800000021 s (State.slotChoice s) := by
  unfold State.slotChoice
  try dsimp only
  repeat' (first
    | with_reducible exact Keeps.refl _
    | with_reducible apply Keeps.via (kept_takeChoice ..) (by decide)
    | with_reducible apply keeps_ite
    | (intro _)
    | split)

theorem kept_noRecord (s : State) (e : Nat) : Keeps 0x1 s (State.noRecord s e) := by
  unfold State.noRecord
  try dsimp only
  repeat' (first
    | with_reducible exact Keeps.refl _
    | with_reducible apply keeps_setFld_in 0 (by decide) (by unfold inSpan; first | decide | (split <;> decide) | ((first | unfold driveFld | unfold errFld); split <;> decide))
    | with_reducible apply Keeps.via (kept_bootErr ..) (by decide)
    | with_reducible apply keeps_ite
    | (intro _)
    | split)

theorem kept_execSlotChoice (flashAnswers sfdpOk : Bool) (s : State) (t : State) (h : execSlotChoice flashAnswers sfdpOk s = .next t) : Keeps 0x100000000800000021 s t := by
  unfold execSlotChoice at h
  cases h
  try dsimp only
  repeat' (first
    | with_reducible exact Keeps.refl _
    | with_reducible apply Keeps.via (kept_setPhase ..) (by decide)
    | with_reducible apply Keeps.via (kept_noRecord ..) (by decide)
    | with_reducible apply Keeps.via (kept_slotChoice ..) (by decide)
    | with_reducible apply keeps_ite
    | (intro _)
    | split)

theorem kept_applyEntry (s : State) (e : Nat) : Keeps 0x3dffffffffffffffffffff s (State.applyEntry s e) := by
  unfold State.applyEntry
  try dsimp only
  repeat' (first
    | with_reducible exact Keeps.refl _
    | with_reducible apply Keeps.via (kept_cfgWrite ..) (by decide)
    | with_reducible apply Keeps.via (kept_protWrite ..) (by decide)
    | with_reducible apply Keeps.via (kept_setPow ..) (by decide)
    | with_reducible apply keeps_ite
    | (intro _)
    | split)

theorem kept_bootRate (s : State) : Keeps 0x1000000000 s (State.bootRate s) := by
  unfold State.bootRate
  try dsimp only
  repeat' (first
    | with_reducible exact Keeps.refl _
    | with_reducible apply keeps_ite
    | (intro _)
    | split
    | with_reducible apply keeps_with_force (by decide))

theorem kept_applyRecord (s : State) (k : Nat) : Keeps 0x3dffffffffffffffffffff s (State.applyRecord s k) := by
  unfold State.applyRecord
  try dsimp only
  repeat' (first
    | with_reducible exact Keeps.refl _
    | with_reducible apply keeps_setFld_in 0 (by decide) (by unfold inSpan; first | decide | (split <;> decide) | ((first | unfold driveFld | unfold errFld); split <;> decide))
    | with_reducible apply keeps_each_on
    | with_reducible apply Keeps.via (kept_applyEntry ..) (by decide)
    | with_reducible apply keeps_when_on
    | with_reducible apply keeps_ite
    | (intro _)
    | split)

theorem kept_execApplyBootEntries (s : State) (t : State) (h : execApplyBootEntries s = .next t) : Keeps 0x3dffffffffffffffffffff s t := by
  unfold execApplyBootEntries at h
  cases h
  try dsimp only
  repeat' (first
    | with_reducible exact Keeps.refl _
    | with_reducible apply Keeps.via (kept_applyRecord ..) (by decide)
    | with_reducible apply Keeps.via (kept_bootRate ..) (by decide)
    | with_reducible apply Keeps.via (kept_trainingStarts ..) (by decide)
    | with_reducible apply Keeps.via (kept_syncFeeds ..) (by decide)
    | with_reducible apply Keeps.via (kept_setPhase ..) (by decide)
    | with_reducible apply keeps_ite
    | (intro _)
    | split)

theorem kept_nextLoad (s : State) : Keeps 0x1800000028e08000001 s (State.nextLoad s) := by
  unfold State.nextLoad
  try dsimp only
  repeat' (first
    | with_reducible exact Keeps.refl _
    | with_reducible apply keeps_setFld_in 0 (by decide) (by unfold inSpan; first | decide | (split <;> decide) | ((first | unfold driveFld | unfold errFld); split <;> decide))
    | with_reducible apply Keeps.via (kept_engineRead ..) (by decide)
    | with_reducible apply keeps_ite
    | (intro _)
    | split)

theorem kept_tryInitial (s : State) : Keeps 0x600000000000 s (State.tryInitial s) := by
  unfold State.tryInitial
  try dsimp only
  repeat' (first
    | with_reducible exact Keeps.refl _
    | with_reducible apply Keeps.via (kept_queueInitial ..) (by decide)
    | with_reducible apply keeps_ite
    | (intro _)
    | split)

theorem kept_execGddr6TrainingDone (us : Word) (fail : BitVec 32) (trims : List ChanTrim) (s : State) (t : State) (h : execGddr6TrainingDone us fail trims s = .next t) : Keeps 0x3001800030028e0f000001 s t := by
  unfold execGddr6TrainingDone at h
  cases h
  try dsimp only
  repeat' (first
    | with_reducible exact Keeps.refl _
    | with_reducible apply keeps_setFld_in 0 (by decide) (by unfold inSpan; first | decide | (split <;> decide) | ((first | unfold driveFld | unfold errFld); split <;> decide))
    | with_reducible apply Keeps.via (kept_trainingEnds ..) (by decide)
    | with_reducible apply Keeps.via (kept_setPhase ..) (by decide)
    | with_reducible apply Keeps.via (kept_nextLoad ..) (by decide)
    | with_reducible apply keeps_ite
    | (intro _)
    | split)

theorem kept_loadDone (s : State) : Keeps 0x81802001638e08000001 s (State.loadDone s) := by
  unfold State.loadDone
  try dsimp only
  repeat' (first
    | with_reducible exact Keeps.refl _
    | with_reducible apply keeps_setFld_in 0 (by decide) (by unfold inSpan; first | decide | (split <;> decide) | ((first | unfold driveFld | unfold errFld); split <;> decide))
    | with_reducible apply Keeps.via (kept_setPow ..) (by decide)
    | with_reducible apply Keeps.via (kept_tryInitial ..) (by decide)
    | with_reducible apply Keeps.via (kept_settle ..) (by decide)
    | with_reducible apply Keeps.via (kept_nextLoad ..) (by decide)
    | with_reducible apply keeps_ite
    | (intro _)
    | split)

theorem kept_execStoreLoadDone (driveOk : Bool) (s : State) (t : State) (h : execStoreLoadDone driveOk s = .next t) : Keeps 0x81c02001638e08000001 s t := by
  unfold execStoreLoadDone at h
  cases h
  try dsimp only
  repeat' (first
    | with_reducible exact Keeps.refl _
    | with_reducible apply keeps_setCond_in 0 (by decide) (by unfold inSpan; first | decide | (split <;> decide) | ((first | unfold driveFld | unfold errFld); split <;> decide))
    | with_reducible apply Keeps.via (kept_endLoad ..) (by decide)
    | with_reducible apply Keeps.via (kept_bootErr ..) (by decide)
    | with_reducible apply Keeps.via (kept_setPow ..) (by decide)
    | with_reducible apply Keeps.via (kept_loadDone ..) (by decide)
    | with_reducible apply keeps_ite
    | (intro _)
    | split)

theorem kept_becomeReady (s : State) : Keeps 0x200400800010001 s (State.becomeReady s) := by
  unfold State.becomeReady
  try dsimp only
  repeat' (first
    | with_reducible exact Keeps.refl _
    | with_reducible apply keeps_setFld_in 0 (by decide) (by unfold inSpan; first | decide | (split <;> decide) | ((first | unfold driveFld | unfold errFld); split <;> decide))
    | with_reducible apply keeps_setCond_in 0 (by decide) (by unfold inSpan; first | decide | (split <;> decide) | ((first | unfold driveFld | unfold errFld); split <;> decide))
    | with_reducible apply keeps_setFld_in 16 (by decide) (by unfold inSpan; first | decide | (split <;> decide) | ((first | unfold driveFld | unfold errFld); split <;> decide))
    | with_reducible apply Keeps.via (kept_setPhase ..) (by decide)
    | with_reducible apply Keeps.via (kept_emit ..) (by decide)
    | with_reducible apply keeps_when_on
    | with_reducible apply Keeps.via (kept_setCyc ..) (by decide)
    | with_reducible apply keeps_each_on
    | with_reducible apply Keeps.via (kept_freePol ..) (by decide)
    | with_reducible apply Keeps.via (kept_driveTout ..) (by decide)
    | with_reducible apply keeps_ite
    | (intro _)
    | split)

theorem kept_execReadyRise (s : State) (t : State) (h : execReadyRise s = .next t) : Keeps 0x80002201638800010001 s t := by
  unfold execReadyRise at h
  cases h
  try dsimp only
  repeat' (first
    | with_reducible exact Keeps.refl _
    | with_reducible apply Keeps.via (kept_becomeReady ..) (by decide)
    | with_reducible apply Keeps.via (kept_tryInitial ..) (by decide)
    | with_reducible apply Keeps.via (kept_settle ..) (by decide)
    | with_reducible apply keeps_ite
    | (intro _)
    | split)

theorem kept_wakeWith (s : State) (i : Image) (us : Nat) : Keeps 0x4c600a24d679fffffffff s (State.wakeWith s i us) := by
  unfold State.wakeWith
  try dsimp only
  repeat' (first
    | with_reducible exact Keeps.refl _
    | with_reducible apply keeps_setFld_in 1 (by decide) (by unfold inSpan; first | decide | (split <;> decide) | ((first | unfold driveFld | unfold errFld); split <;> decide))
    | with_reducible apply keeps_setFld_in 24 (by decide) (by unfold inSpan; first | decide | (split <;> decide) | ((first | unfold driveFld | unfold errFld); split <;> decide))
    | with_reducible apply Keeps.via (kept_restoreImage ..) (by decide)
    | with_reducible apply Keeps.via (kept_loseTop ..) (by decide)
    | with_reducible apply Keeps.via (kept_setPow ..) (by decide)
    | with_reducible apply Keeps.via (kept_syncFeeds ..) (by decide)
    | with_reducible apply Keeps.via (kept_setPstate ..) (by decide)
    | with_reducible apply Keeps.via (kept_becomeReady ..) (by decide)
    | with_reducible apply Keeps.via (kept_powerRecord ..) (by decide)
    | with_reducible apply Keeps.via (kept_settle ..) (by decide)
    | with_reducible apply keeps_ite
    | (intro _)
    | split
    | with_reducible apply keeps_with_image (by decide))

theorem kept_wakeWithout (s : State) : Keeps 0x40000000208600000003 s (State.wakeWithout s) := by
  unfold State.wakeWithout
  try dsimp only
  repeat' (first
    | with_reducible exact Keeps.refl _
    | with_reducible apply keeps_setFld_in 1 (by decide) (by unfold inSpan; first | decide | (split <;> decide) | ((first | unfold driveFld | unfold errFld); split <;> decide))
    | with_reducible apply Keeps.via (kept_loseGddr ..) (by decide)
    | with_reducible apply Keeps.via (kept_setPow ..) (by decide)
    | with_reducible apply Keeps.via (kept_setPhase ..) (by decide)
    | with_reducible apply keeps_ite
    | (intro _)
    | split
    | with_reducible apply keeps_with_image (by decide))

theorem kept_execSleepWakeReady (memOk imageOk : Bool) (us : Word) (s : State) (t : State) (h : execSleepWakeReady memOk imageOk us s = .next t) : Keeps 0x4c600a24d679fffffffff s t := by
  unfold execSleepWakeReady at h
  cases h
  try dsimp only
  repeat' (first
    | with_reducible exact Keeps.refl _
    | with_reducible apply Keeps.via (kept_wakeWith ..) (by decide)
    | with_reducible apply Keeps.via (kept_wakeWithout ..) (by decide)
    | with_reducible apply keeps_ite
    | (intro _)
    | split)

theorem kept_loopEntry (s : State) (e : Nat) : Keeps 0x3dffffffffffffffffffff s (State.loopEntry s e) := by
  unfold State.loopEntry
  try dsimp only
  repeat' (first
    | with_reducible exact Keeps.refl _
    | with_reducible apply Keeps.via (kept_cfgWrite ..) (by decide)
    | with_reducible apply keeps_ite
    | (intro _)
    | split)

theorem kept_loopStart (s : State) (a : Nat) : Keeps 0x3dffffffffffffffffffff s (State.loopStart s a) := by
  unfold State.loopStart
  try dsimp only
  repeat' (first
    | with_reducible exact Keeps.refl _
    | with_reducible apply keeps_each_on
    | with_reducible apply Keeps.via (kept_loopEntry ..) (by decide)
    | with_reducible apply Keeps.via (kept_setPlay ..) (by decide)
    | with_reducible apply Keeps.via (kept_queueAll ..) (by decide)
    | with_reducible apply keeps_ite
    | (intro _)
    | split)

theorem kept_execPlayoutLoadDone (driveOk : Bool) (s : State) (t : State) (h : execPlayoutLoadDone driveOk s = .next t) : Keeps 0x3dffffffffffffffffffff s t := by
  unfold execPlayoutLoadDone at h
  cases h
  try dsimp only
  repeat' (first
    | with_reducible exact Keeps.refl _
    | with_reducible apply Keeps.via (kept_endLoad ..) (by decide)
    | with_reducible apply Keeps.via (kept_setPlay ..) (by decide)
    | with_reducible apply Keeps.via (kept_tryPlayout ..) (by decide)
    | with_reducible apply Keeps.via (kept_settle ..) (by decide)
    | with_reducible apply Keeps.via (kept_loopStart ..) (by decide)
    | with_reducible apply Keeps.via (kept_playoutAdmitted ..) (by decide)
    | with_reducible apply keeps_ite
    | (intro _)
    | split)

end Sys2Proof.Machine
end

