-- ==== Sys2Proof/Laws/KeptFrames.lean ====
section
/-!
SUPPORT. What the operations of Frames.lean keep.
-/
namespace Sys2Proof.Machine

theorem kept_unmatched (s : State) (p : Nat) : Keeps 0x4000 s (State.unmatched s p) := by
  unfold State.unmatched
  try dsimp only
  repeat' (first
    | with_reducible exact Keeps.refl _
    | with_reducible apply keeps_inc_in 14 (by decide) (by first | exact in_pg2 (pg_14 _) (by first | decide | assumption | exact off_le (Nat.mod_lt _ (by decide)) (by first | assumption | decide) | exact off_le (by assumption) (by decide) | exact off_le (List.mem_range.mp (by assumption)) (by decide) | exact all_off (by assumption) (by decide) | (unfold upFld; split <;> decide)) | exact in_pg (pg_14 _) (by decide))
    | with_reducible apply keeps_ite
    | (intro _)
    | split)

theorem kept_arp (s : State) (p : Nat) (sha : BitVec 48) (spa tpa : Word) (request : Bool) : Keeps 0x1000800024000 s (State.arp s p sha spa tpa request) := by
  unfold State.arp
  try dsimp only
  repeat' (first
    | with_reducible exact Keeps.refl _
    | with_reducible apply keeps_setFld_in 14 (by decide) (by first | exact in_pg2 (pg_14 _) (by first | decide | assumption | exact off_le (Nat.mod_lt _ (by decide)) (by first | assumption | decide) | exact off_le (by assumption) (by decide) | exact off_le (List.mem_range.mp (by assumption)) (by decide) | exact all_off (by assumption) (by decide) | (unfold upFld; split <;> decide)) | exact in_pg (pg_14 _) (by decide))
    | with_reducible apply keeps_setCond_in 14 (by decide) (by first | exact in_pg2 (pg_14 _) (by first | decide | assumption | exact off_le (Nat.mod_lt _ (by decide)) (by first | assumption | decide) | exact off_le (by assumption) (by decide) | exact off_le (List.mem_range.mp (by assumption)) (by decide) | exact all_off (by assumption) (by decide) | (unfold upFld; split <;> decide)) | exact in_pg (pg_14 _) (by decide))
    | with_reducible apply keeps_when_on
    | with_reducible apply Keeps.via (kept_learn ..) (by decide)
    | with_reducible apply Keeps.via (kept_txFrame ..) (by decide)
    | with_reducible apply keeps_ite
    | (intro _)
    | split)

theorem kept_query (s : State) (p : Nat) (v6 : Bool) (g : BitVec 128) : Keeps 0x1000000000000 s (State.query s p v6 g) := by
  unfold State.query
  try dsimp only
  repeat' (first
    | with_reducible exact Keeps.refl _
    | with_reducible apply Keeps.via (kept_setPort ..) (by decide)
    | with_reducible apply keeps_ite
    | (intro _)
    | split)

theorem kept_udpRx (s : State) (p : Nat) (mac : BitVec 48) (h : IpRx) (u : UdpRx) (bs : List Byte) : Keeps 0x3dffffffffffffffffffff s (State.udpRx s p mac h u bs) := by
  unfold State.udpRx
  try dsimp only
  repeat' (first
    | with_reducible exact Keeps.refl _
    | with_reducible apply Keeps.via (kept_control ..) (by decide)
    | with_reducible apply Keeps.via (kept_flowPacket ..) (by decide)
    | with_reducible apply Keeps.via (kept_unmatched ..) (by decide)
    | with_reducible apply keeps_ite
    | (intro _)
    | split)

theorem kept_ipRx (s : State) (p : Nat) (f : EthFrame) (h : IpRx) (b : IpBody) : Keeps 0x3dffffffffffffffffffff s (State.ipRx s p f h b) := by
  unfold State.ipRx
  try dsimp only
  repeat' (first
    | with_reducible exact Keeps.refl _
    | with_reducible apply Keeps.via (kept_unmatched ..) (by decide)
    | with_reducible apply Keeps.via (kept_learn ..) (by decide)
    | with_reducible apply keeps_when_on
    | with_reducible apply Keeps.via (kept_txFrame ..) (by decide)
    | with_reducible apply Keeps.via (kept_query ..) (by decide)
    | with_reducible apply Keeps.via (kept_ptpForward ..) (by decide)
    | with_reducible apply Keeps.via (kept_udpRx ..) (by decide)
    | with_reducible apply keeps_ite
    | (intro _)
    | split)

theorem kept_consume (s : State) (p : Nat) (f : EthFrame) : Keeps 0x3dffffffffffffffffffff s (State.consume s p f) := by
  unfold State.consume
  try dsimp only
  repeat' (first
    | with_reducible exact Keeps.refl _
    | with_reducible apply Keeps.via (kept_arp ..) (by decide)
    | with_reducible apply Keeps.via (kept_ptpForward ..) (by decide)
    | with_reducible apply Keeps.via (kept_ipRx ..) (by decide)
    | with_reducible apply Keeps.via (kept_unmatched ..) (by decide)
    | with_reducible apply keeps_ite
    | (intro _)
    | split)

theorem kept_frameRx (s : State) (p : Nat) (f : EthFrame) : Keeps 0x3dffffffffffffffffffff s (State.frameRx s p f) := by
  unfold State.frameRx
  try dsimp only
  repeat' (first
    | with_reducible exact Keeps.refl _
    | with_reducible apply keeps_inc_in 14 (by decide) (by first | exact in_pg2 (pg_14 _) (by first | decide | assumption | exact off_le (Nat.mod_lt _ (by decide)) (by first | assumption | decide) | exact off_le (by assumption) (by decide) | exact off_le (List.mem_range.mp (by assumption)) (by decide) | exact all_off (by assumption) (by decide) | (unfold upFld; split <;> decide)) | exact in_pg (pg_14 _) (by decide))
    | with_reducible apply Keeps.via (kept_unmatched ..) (by decide)
    | with_reducible apply Keeps.via (kept_consume ..) (by decide)
    | with_reducible apply Keeps.via (kept_settle ..) (by decide)
    | with_reducible apply keeps_ite
    | (intro _)
    | split)

theorem kept_execEthFrameRx (port : PortNo) (frame : EthFrame) (s : State) (t : State) (h : execEthFrameRx port frame s = .next t) : Keeps 0x3dffffffffffffffffffff s t := by
  unfold execEthFrameRx at h
  cases h
  try dsimp only
  repeat' (first
    | with_reducible exact Keeps.refl _
    | with_reducible apply Keeps.via (kept_frameRx ..) (by decide)
    | with_reducible apply keeps_ite
    | (intro _)
    | split)

end Sys2Proof.Machine
end

