-- ==== Sys2Proof/Laws/KeptCommands.lean ====
section
/-!
SUPPORT. What the operations of Commands.lean keep.
-/
namespace Sys2Proof.Machine

theorem kept_readOut (s : State) (seat addr : Nat) : Keeps 0x8000240103a802100400 s (State.readOut s seat addr) := by
  unfold State.readOut
  try dsimp only
  repeat' (first
    | with_reducible exact Keeps.refl _
    | with_reducible apply Keeps.via (kept_hostRead ..) (by decide)
    | with_reducible apply Keeps.via (kept_emit ..) (by decide)
    | with_reducible apply Keeps.via (kept_settle ..) (by decide)
    | with_reducible apply keeps_ite
    | (intro _)
    | split)

theorem kept_servoWrite (s : State) (seat : Nat) (classA : Bool) (k v : Nat) : Keeps 0x3dffffffffffffffffffff s (State.servoWrite s seat classA k v) := by
  unfold State.servoWrite
  try dsimp only
  repeat' (first
    | with_reducible exact Keeps.refl _
    | with_reducible apply Keeps.via (kept_hostWrite ..) (by decide)
    | with_reducible apply keeps_ite
    | (intro _)
    | split)

theorem kept_pwrWrite (s : State) (seat op : Nat) (wakeNLow : Bool) : Keeps 0xa00020010389ffffffff s (State.pwrWrite s seat op wakeNLow) := by
  unfold State.pwrWrite
  try dsimp only
  repeat' (first
    | with_reducible exact Keeps.refl _
    | with_reducible apply Keeps.via (kept_pwrCmd ..) (by decide)
    | with_reducible apply Keeps.via (kept_settle ..) (by decide)
    | with_reducible apply Keeps.via (kept_foreign ..) (by decide)
    | with_reducible apply keeps_ite
    | (intro _)
    | split)

theorem kept_nvmeWrite (s : State) (seat op : Nat) (extent : Byte) (more : Nat) : Keeps 0x3dffffffffffffffffffff s (State.nvmeWrite s seat op extent more) := by
  unfold State.nvmeWrite
  try dsimp only
  repeat' (first
    | with_reducible exact Keeps.refl _
    | with_reducible apply Keeps.via (kept_hostWrite ..) (by decide)
    | with_reducible apply keeps_ite
    | (intro _)
    | split)

theorem kept_execRestart (seat : SeatNo) (s : State) (t : State) (h : execRestart seat s = .next t) : Keeps 0x3dffffffffffffffffffff s t := by
  unfold execRestart at h
  cases h
  try dsimp only
  repeat' (first
    | with_reducible exact Keeps.refl _
    | with_reducible apply Keeps.via (kept_hostWrite ..) (by decide)
    | with_reducible apply keeps_ite
    | (intro _)
    | split)

theorem kept_execRegisterWrite (seat : SeatNo) (addr : BitVec 24) (be : BitVec 4) (value : Word) (s : State) (t : State) (h : execRegisterWrite seat addr be value s = .next t) : Keeps 0x3dffffffffffffffffffff s t := by
  unfold execRegisterWrite at h
  cases h
  try dsimp only
  repeat' (first
    | with_reducible exact Keeps.refl _
    | with_reducible apply Keeps.via (kept_hostWrite ..) (by decide)
    | with_reducible apply keeps_ite
    | (intro _)
    | split)

theorem kept_execPairReadLo (seat : SeatNo) (addr : BitVec 24) (s : State) (t : State) (h : execPairReadLo seat addr s = .next t) : Keeps 0x8000240103a802100400 s t := by
  unfold execPairReadLo at h
  cases h
  try dsimp only
  repeat' (first
    | with_reducible exact Keeps.refl _
    | with_reducible apply Keeps.via (kept_readOut ..) (by decide)
    | with_reducible apply keeps_ite
    | (intro _)
    | split)

theorem kept_execPairWriteHi (seat : SeatNo) (addr : BitVec 24) (value : Word) (s : State) (t : State) (h : execPairWriteHi seat addr value s = .next t) : Keeps 0x3dffffffffffffffffffff s t := by
  unfold execPairWriteHi at h
  cases h
  try dsimp only
  repeat' (first
    | with_reducible exact Keeps.refl _
    | with_reducible apply Keeps.via (kept_hostWrite ..) (by decide)
    | with_reducible apply keeps_ite
    | (intro _)
    | split)

theorem kept_execTimeNowRead (seat : SeatNo) (s : State) (t : State) (h : execTimeNowRead seat s = .next t) : Keeps 0x8000240103a802100400 s t := by
  unfold execTimeNowRead at h
  cases h
  try dsimp only
  repeat' (first
    | with_reducible exact Keeps.refl _
    | with_reducible apply Keeps.via (kept_readOut ..) (by decide)
    | with_reducible apply keeps_ite
    | (intro _)
    | split)

theorem kept_execSatCntRead (seat : SeatNo) (s : State) (t : State) (h : execSatCntRead seat s = .next t) : Keeps 0x8000240103a802100400 s t := by
  unfold execSatCntRead at h
  cases h
  try dsimp only
  repeat' (first
    | with_reducible exact Keeps.refl _
    | with_reducible apply Keeps.via (kept_readOut ..) (by decide)
    | with_reducible apply keeps_ite
    | (intro _)
    | split)

theorem kept_execHeldMaxRead (seat : SeatNo) (ch : ChanNo) (s : State) (t : State) (h : execHeldMaxRead seat ch s = .next t) : Keeps 0x8000240103a802100400 s t := by
  unfold execHeldMaxRead at h
  cases h
  try dsimp only
  repeat' (first
    | with_reducible exact Keeps.refl _
    | with_reducible apply Keeps.via (kept_readOut ..) (by decide)
    | with_reducible apply keeps_ite
    | (intro _)
    | split)

theorem kept_execRingAllocate (seat : SeatNo) (s : State) (t : State) (h : execRingAllocate seat s = .next t) : Keeps 0x3dffffffffffffffffffff s t := by
  unfold execRingAllocate at h
  cases h
  try dsimp only
  repeat' (first
    | with_reducible exact Keeps.refl _
    | with_reducible apply Keeps.via (kept_hostWrite ..) (by decide)
    | with_reducible apply keeps_ite
    | (intro _)
    | split)

theorem kept_execRingConfigure (seat : SeatNo) (ring : RingNo) (s : State) (t : State) (h : execRingConfigure seat ring s = .next t) : Keeps 0x3dffffffffffffffffffff s t := by
  unfold execRingConfigure at h
  cases h
  try dsimp only
  repeat' (first
    | with_reducible exact Keeps.refl _
    | with_reducible apply Keeps.via (kept_hostWrite ..) (by decide)
    | with_reducible apply keeps_ite
    | (intro _)
    | split)

theorem kept_execRingRelease (seat : SeatNo) (ring : RingNo) (s : State) (t : State) (h : execRingRelease seat ring s = .next t) : Keeps 0x3dffffffffffffffffffff s t := by
  unfold execRingRelease at h
  cases h
  try dsimp only
  repeat' (first
    | with_reducible exact Keeps.refl _
    | with_reducible apply Keeps.via (kept_hostWrite ..) (by decide)
    | with_reducible apply keeps_ite
    | (intro _)
    | split)

theorem kept_execRingResetIndices (seat : SeatNo) (ring : RingNo) (s : State) (t : State) (h : execRingResetIndices seat ring s = .next t) : Keeps 0x3dffffffffffffffffffff s t := by
  unfold execRingResetIndices at h
  cases h
  try dsimp only
  repeat' (first
    | with_reducible exact Keeps.refl _
    | with_reducible apply Keeps.via (kept_hostWrite ..) (by decide)
    | with_reducible apply keeps_ite
    | (intro _)
    | split)

theorem kept_execRingIndexWrite (seat : SeatNo) (ring : RingNo) (cons : Bool) (value : Word) (s : State) (t : State) (h : execRingIndexWrite seat ring cons value s = .next t) : Keeps 0x3dffffffffffffffffffff s t := by
  unfold execRingIndexWrite at h
  cases h
  try dsimp only
  repeat' (first
    | with_reducible exact Keeps.refl _
    | with_reducible apply Keeps.via (kept_hostWrite ..) (by decide)
    | with_reducible apply keeps_ite
    | (intro _)
    | split)

theorem kept_execEthClear (seat : SeatNo) (port : PortNo) (s : State) (t : State) (h : execEthClear seat port s = .next t) : Keeps 0x3dffffffffffffffffffff s t := by
  unfold execEthClear at h
  cases h
  try dsimp only
  repeat' (first
    | with_reducible exact Keeps.refl _
    | with_reducible apply Keeps.via (kept_hostWrite ..) (by decide)
    | with_reducible apply keeps_ite
    | (intro _)
    | split)

theorem kept_execFlowClear (seat : SeatNo) (flow : FlowNo) (s : State) (t : State) (h : execFlowClear seat flow s = .next t) : Keeps 0x3dffffffffffffffffffff s t := by
  unfold execFlowClear at h
  cases h
  try dsimp only
  repeat' (first
    | with_reducible exact Keeps.refl _
    | with_reducible apply Keeps.via (kept_hostWrite ..) (by decide)
    | with_reducible apply keeps_ite
    | (intro _)
    | split)

theorem kept_execIngPush (seat : SeatNo) (flow : FlowNo) (s : State) (t : State) (h : execIngPush seat flow s = .next t) : Keeps 0x3dffffffffffffffffffff s t := by
  unfold execIngPush at h
  cases h
  try dsimp only
  repeat' (first
    | with_reducible exact Keeps.refl _
    | with_reducible apply Keeps.via (kept_hostWrite ..) (by decide)
    | with_reducible apply keeps_ite
    | (intro _)
    | split)

theorem kept_execCommitGo (seat : SeatNo) (page : BitVec 12) (s : State) (t : State) (h : execCommitGo seat page s = .next t) : Keeps 0x3dffffffffffffffffffff s t := by
  unfold execCommitGo at h
  cases h
  try dsimp only
  repeat' (first
    | with_reducible exact Keeps.refl _
    | with_reducible apply Keeps.via (kept_hostWrite ..) (by decide)
    | with_reducible apply keeps_ite
    | (intro _)
    | split)

theorem kept_execCommitCancel (seat : SeatNo) (group : Byte) (s : State) (t : State) (h : execCommitCancel seat group s = .next t) : Keeps 0x3dffffffffffffffffffff s t := by
  unfold execCommitCancel at h
  cases h
  try dsimp only
  repeat' (first
    | with_reducible exact Keeps.refl _
    | with_reducible apply Keeps.via (kept_hostWrite ..) (by decide)
    | with_reducible apply keeps_ite
    | (intro _)
    | split)

theorem kept_execLyrAlertClear (seat : SeatNo) (m : Fin 8) (value : Word) (s : State) (t : State) (h : execLyrAlertClear seat m value s = .next t) : Keeps 0x3dffffffffffffffffffff s t := by
  unfold execLyrAlertClear at h
  cases h
  try dsimp only
  repeat' (first
    | with_reducible exact Keeps.refl _
    | with_reducible apply Keeps.via (kept_hostWrite ..) (by decide)
    | with_reducible apply keeps_ite
    | (intro _)
    | split)

theorem kept_execResponseLoad (seat : SeatNo) (countM1 first : Byte) (s : State) (t : State) (h : execResponseLoad seat countM1 first s = .next t) : Keeps 0x3dffffffffffffffffffff s t := by
  unfold execResponseLoad at h
  cases h
  try dsimp only
  repeat' (first
    | with_reducible exact Keeps.refl _
    | with_reducible apply Keeps.via (kept_hostWrite ..) (by decide)
    | with_reducible apply keeps_ite
    | (intro _)
    | split)

theorem kept_execMapProbe (seat : SeatNo) (x y : BitVec 16) (s : State) (t : State) (h : execMapProbe seat x y s = .next t) : Keeps 0x3dffffffffffffffffffff s t := by
  unfold execMapProbe at h
  cases h
  try dsimp only
  repeat' (first
    | with_reducible exact Keeps.refl _
    | with_reducible apply Keeps.via (kept_hostWrite ..) (by decide)
    | with_reducible apply keeps_ite
    | (intro _)
    | split)

theorem kept_execRegather (seat : SeatNo) (lane : LaneNo) (s : State) (t : State) (h : execRegather seat lane s = .next t) : Keeps 0x3dffffffffffffffffffff s t := by
  unfold execRegather at h
  cases h
  try dsimp only
  repeat' (first
    | with_reducible exact Keeps.refl _
    | with_reducible apply Keeps.via (kept_hostWrite ..) (by decide)
    | with_reducible apply keeps_ite
    | (intro _)
    | split)

theorem kept_execRetrain (seat : SeatNo) (lane : LaneNo) (s : State) (t : State) (h : execRetrain seat lane s = .next t) : Keeps 0x3dffffffffffffffffffff s t := by
  unfold execRetrain at h
  cases h
  try dsimp only
  repeat' (first
    | with_reducible exact Keeps.refl _
    | with_reducible apply Keeps.via (kept_hostWrite ..) (by decide)
    | with_reducible apply keeps_ite
    | (intro _)
    | split)

theorem kept_execTestEnable (seat : SeatNo) (lane : LaneNo) (value : Word) (s : State) (t : State) (h : execTestEnable seat lane value s = .next t) : Keeps 0x3dffffffffffffffffffff s t := by
  unfold execTestEnable at h
  cases h
  try dsimp only
  repeat' (first
    | with_reducible exact Keeps.refl _
    | with_reducible apply Keeps.via (kept_hostWrite ..) (by decide)
    | with_reducible apply keeps_ite
    | (intro _)
    | split)

theorem kept_execStepAuthorise (seat : SeatNo) (s : State) (t : State) (h : execStepAuthorise seat s = .next t) : Keeps 0x3dffffffffffffffffffff s t := by
  unfold execStepAuthorise at h
  cases h
  try dsimp only
  repeat' (first
    | with_reducible exact Keeps.refl _
    | with_reducible apply Keeps.via (kept_hostWrite ..) (by decide)
    | with_reducible apply keeps_ite
    | (intro _)
    | split)

theorem kept_execStepApplyValue (seat : SeatNo) (s : State) (t : State) (h : execStepApplyValue seat s = .next t) : Keeps 0x3dffffffffffffffffffff s t := by
  unfold execStepApplyValue at h
  cases h
  try dsimp only
  repeat' (first
    | with_reducible exact Keeps.refl _
    | with_reducible apply Keeps.via (kept_hostWrite ..) (by decide)
    | with_reducible apply keeps_ite
    | (intro _)
    | split)

theorem kept_execStepWithdraw (seat : SeatNo) (s : State) (t : State) (h : execStepWithdraw seat s = .next t) : Keeps 0x3dffffffffffffffffffff s t := by
  unfold execStepWithdraw at h
  cases h
  try dsimp only
  repeat' (first
    | with_reducible exact Keeps.refl _
    | with_reducible apply Keeps.via (kept_hostWrite ..) (by decide)
    | with_reducible apply keeps_ite
    | (intro _)
    | split)

theorem kept_execSyncSrcChange (seat : SeatNo) (value : Word) (s : State) (t : State) (h : execSyncSrcChange seat value s = .next t) : Keeps 0x3dffffffffffffffffffff s t := by
  unfold execSyncSrcChange at h
  cases h
  try dsimp only
  repeat' (first
    | with_reducible exact Keeps.refl _
    | with_reducible apply Keeps.via (kept_hostWrite ..) (by decide)
    | with_reducible apply keeps_ite
    | (intro _)
    | split)

theorem kept_execToutArm (seat : SeatNo) (k : Fin 16) (value : Word) (s : State) (t : State) (h : execToutArm seat k value s = .next t) : Keeps 0x3dffffffffffffffffffff s t := by
  unfold execToutArm at h
  cases h
  try dsimp only
  repeat' (first
    | with_reducible exact Keeps.refl _
    | with_reducible apply Keeps.via (kept_hostWrite ..) (by decide)
    | with_reducible apply keeps_ite
    | (intro _)
    | split)

theorem kept_execToutDisarm (seat : SeatNo) (k : Fin 16) (s : State) (t : State) (h : execToutDisarm seat k s = .next t) : Keeps 0x3dffffffffffffffffffff s t := by
  unfold execToutDisarm at h
  cases h
  try dsimp only
  repeat' (first
    | with_reducible exact Keeps.refl _
    | with_reducible apply Keeps.via (kept_hostWrite ..) (by decide)
    | with_reducible apply keeps_ite
    | (intro _)
    | split)

theorem kept_execTcapPop (seat : SeatNo) (k : Fin 4) (s : State) (t : State) (h : execTcapPop seat k s = .next t) : Keeps 0x8000240103a802100400 s t := by
  unfold execTcapPop at h
  cases h
  try dsimp only
  repeat' (first
    | with_reducible exact Keeps.refl _
    | with_reducible apply Keeps.via (kept_readOut ..) (by decide)
    | with_reducible apply keeps_ite
    | (intro _)
    | split)

theorem kept_execServoApply (seat : SeatNo) (classA : Bool) (slot : Fin 64) (s : State) (t : State) (h : execServoApply seat classA slot s = .next t) : Keeps 0x3dffffffffffffffffffff s t := by
  unfold execServoApply at h
  cases h
  try dsimp only
  repeat' (first
    | with_reducible exact Keeps.refl _
    | with_reducible apply Keeps.via (kept_servoWrite ..) (by decide)
    | with_reducible apply keeps_ite
    | (intro _)
    | split)

theorem kept_execServoReset (seat : SeatNo) (classA : Bool) (slot : Fin 64) (s : State) (t : State) (h : execServoReset seat classA slot s = .next t) : Keeps 0x3dffffffffffffffffffff s t := by
  unfold execServoReset at h
  cases h
  try dsimp only
  repeat' (first
    | with_reducible exact Keeps.refl _
    | with_reducible apply Keeps.via (kept_servoWrite ..) (by decide)
    | with_reducible apply keeps_ite
    | (intro _)
    | split)

theorem kept_execServoRelease (seat : SeatNo) (classA : Bool) (slot : Fin 64) (s : State) (t : State) (h : execServoRelease seat classA slot s = .next t) : Keeps 0x3dffffffffffffffffffff s t := by
  unfold execServoRelease at h
  cases h
  try dsimp only
  repeat' (first
    | with_reducible exact Keeps.refl _
    | with_reducible apply Keeps.via (kept_servoWrite ..) (by decide)
    | with_reducible apply keeps_ite
    | (intro _)
    | split)

theorem kept_execMemRetrain (seat : SeatNo) (s : State) (t : State) (h : execMemRetrain seat s = .next t) : Keeps 0x3dffffffffffffffffffff s t := by
  unfold execMemRetrain at h
  cases h
  try dsimp only
  repeat' (first
    | with_reducible exact Keeps.refl _
    | with_reducible apply Keeps.via (kept_hostWrite ..) (by decide)
    | with_reducible apply keeps_ite
    | (intro _)
    | split)

theorem kept_execRescan (seat : SeatNo) (s : State) (t : State) (h : execRescan seat s = .next t) : Keeps 0x3dffffffffffffffffffff s t := by
  unfold execRescan at h
  cases h
  try dsimp only
  repeat' (first
    | with_reducible exact Keeps.refl _
    | with_reducible apply Keeps.via (kept_hostWrite ..) (by decide)
    | with_reducible apply keeps_ite
    | (intro _)
    | split)

theorem kept_execUnblank (seat : SeatNo) (zone : ZoneNo) (s : State) (t : State) (h : execUnblank seat zone s = .next t) : Keeps 0x3dffffffffffffffffffff s t := by
  unfold execUnblank at h
  cases h
  try dsimp only
  repeat' (first
    | with_reducible exact Keeps.refl _
    | with_reducible apply Keeps.via (kept_hostWrite ..) (by decide)
    | with_reducible apply keeps_ite
    | (intro _)
    | split)

theorem kept_execLampStateRead (seat : SeatNo) (pixel : BitVec 16) (s : State) (t : State) (h : execLampStateRead seat pixel s = .next t) : Keeps 0x3dffffffffffffffffffff s t := by
  unfold execLampStateRead at h
  cases h
  try dsimp only
  repeat' (first
    | with_reducible exact Keeps.refl _
    | with_reducible apply Keeps.via (kept_hostWrite ..) (by decide)
    | with_reducible apply keeps_ite
    | (intro _)
    | split)

theorem kept_execLampStateWrite (seat : SeatNo) (pixel : BitVec 16) (state : BitVec 2) (s : State) (t : State) (h : execLampStateWrite seat pixel state s = .next t) : Keeps 0x3dffffffffffffffffffff s t := by
  unfold execLampStateWrite at h
  cases h
  try dsimp only
  repeat' (first
    | with_reducible exact Keeps.refl _
    | with_reducible apply Keeps.via (kept_hostWrite ..) (by decide)
    | with_reducible apply keeps_ite
    | (intro _)
    | split)

theorem kept_execEvtpEnter (seat : SeatNo) (level : Fin 16) (s : State) (t : State) (h : execEvtpEnter seat level s = .next t) : Keeps 0x3dffffffffffffffffffff s t := by
  unfold execEvtpEnter at h
  cases h
  try dsimp only
  repeat' (first
    | with_reducible exact Keeps.refl _
    | with_reducible apply Keeps.via (kept_hostWrite ..) (by decide)
    | with_reducible apply keeps_ite
    | (intro _)
    | split)

theorem kept_execEvtpExit (seat : SeatNo) (s : State) (t : State) (h : execEvtpExit seat s = .next t) : Keeps 0x3dffffffffffffffffffff s t := by
  unfold execEvtpExit at h
  cases h
  try dsimp only
  repeat' (first
    | with_reducible exact Keeps.refl _
    | with_reducible apply Keeps.via (kept_hostWrite ..) (by decide)
    | with_reducible apply keeps_ite
    | (intro _)
    | split)

theorem kept_execEvtpAlive (seat : SeatNo) (value : Word) (s : State) (t : State) (h : execEvtpAlive seat value s = .next t) : Keeps 0x3dffffffffffffffffffff s t := by
  unfold execEvtpAlive at h
  cases h
  try dsimp only
  repeat' (first
    | with_reducible exact Keeps.refl _
    | with_reducible apply Keeps.via (kept_hostWrite ..) (by decide)
    | with_reducible apply keeps_ite
    | (intro _)
    | split)

theorem kept_execPlayoutStop (seat : SeatNo) (s : State) (t : State) (h : execPlayoutStop seat s = .next t) : Keeps 0x3dffffffffffffffffffff s t := by
  unfold execPlayoutStop at h
  cases h
  try dsimp only
  repeat' (first
    | with_reducible exact Keeps.refl _
    | with_reducible apply Keeps.via (kept_hostWrite ..) (by decide)
    | with_reducible apply keeps_ite
    | (intro _)
    | split)

theorem kept_execStandbyRequest (seat : SeatNo) (s : State) (t : State) (h : execStandbyRequest seat s = .next t) : Keeps 0xa00020010389ffffffff s t := by
  unfold execStandbyRequest at h
  cases h
  try dsimp only
  repeat' (first
    | with_reducible exact Keeps.refl _
    | with_reducible apply Keeps.via (kept_pwrWrite ..) (by decide)
    | with_reducible apply keeps_ite
    | (intro _)
    | split)

theorem kept_execSleepRequest (seat : SeatNo) (wakeNLow : Bool) (s : State) (t : State) (h : execSleepRequest seat wakeNLow s = .next t) : Keeps 0xa00020010389ffffffff s t := by
  unfold execSleepRequest at h
  cases h
  try dsimp only
  repeat' (first
    | with_reducible exact Keeps.refl _
    | with_reducible apply Keeps.via (kept_pwrWrite ..) (by decide)
    | with_reducible apply keeps_ite
    | (intro _)
    | split)

theorem kept_execActiveRequest (seat : SeatNo) (s : State) (t : State) (h : execActiveRequest seat s = .next t) : Keeps 0xa00020010389ffffffff s t := by
  unfold execActiveRequest at h
  cases h
  try dsimp only
  repeat' (first
    | with_reducible exact Keeps.refl _
    | with_reducible apply Keeps.via (kept_pwrWrite ..) (by decide)
    | with_reducible apply keeps_ite
    | (intro _)
    | split)

theorem kept_execStage (seat : SeatNo) (s : State) (t : State) (h : execStage seat s = .next t) : Keeps 0x3dffffffffffffffffffff s t := by
  unfold execStage at h
  cases h
  try dsimp only
  repeat' (first
    | with_reducible exact Keeps.refl _
    | with_reducible apply Keeps.via (kept_hostWrite ..) (by decide)
    | with_reducible apply keeps_ite
    | (intro _)
    | split)

theorem kept_execApply (seat : SeatNo) (s : State) (t : State) (h : execApply seat s = .next t) : Keeps 0x3dffffffffffffffffffff s t := by
  unfold execApply at h
  cases h
  try dsimp only
  repeat' (first
    | with_reducible exact Keeps.refl _
    | with_reducible apply Keeps.via (kept_hostWrite ..) (by decide)
    | with_reducible apply keeps_ite
    | (intro _)
    | split)

theorem kept_execFull (seat : SeatNo) (slot : Fin 4) (s : State) (t : State) (h : execFull seat slot s = .next t) : Keeps 0x3dffffffffffffffffffff s t := by
  unfold execFull at h
  cases h
  try dsimp only
  repeat' (first
    | with_reducible exact Keeps.refl _
    | with_reducible apply Keeps.via (kept_hostWrite ..) (by decide)
    | with_reducible apply keeps_ite
    | (intro _)
    | split)

theorem kept_execConfirm (seat : SeatNo) (s : State) (t : State) (h : execConfirm seat s = .next t) : Keeps 0x3dffffffffffffffffffff s t := by
  unfold execConfirm at h
  cases h
  try dsimp only
  repeat' (first
    | with_reducible exact Keeps.refl _
    | with_reducible apply Keeps.via (kept_hostWrite ..) (by decide)
    | with_reducible apply keeps_ite
    | (intro _)
    | split)

theorem kept_execReject (seat : SeatNo) (s : State) (t : State) (h : execReject seat s = .next t) : Keeps 0x3dffffffffffffffffffff s t := by
  unfold execReject at h
  cases h
  try dsimp only
  repeat' (first
    | with_reducible exact Keeps.refl _
    | with_reducible apply Keeps.via (kept_hostWrite ..) (by decide)
    | with_reducible apply keeps_ite
    | (intro _)
    | split)

theorem kept_execRead (seat : SeatNo) (extent : Byte) (useDest : Bool) (s : State) (t : State) (h : execRead seat extent useDest s = .next t) : Keeps 0x3dffffffffffffffffffff s t := by
  unfold execRead at h
  cases h
  try dsimp only
  repeat' (first
    | with_reducible exact Keeps.refl _
    | with_reducible apply Keeps.via (kept_nvmeWrite ..) (by decide)
    | with_reducible apply keeps_ite
    | (intro _)
    | split)

theorem kept_execWrite (seat : SeatNo) (extent : Byte) (s : State) (t : State) (h : execWrite seat extent s = .next t) : Keeps 0x3dffffffffffffffffffff s t := by
  unfold execWrite at h
  cases h
  try dsimp only
  repeat' (first
    | with_reducible exact Keeps.refl _
    | with_reducible apply Keeps.via (kept_nvmeWrite ..) (by decide)
    | with_reducible apply keeps_ite
    | (intro _)
    | split)

theorem kept_execDelete (seat : SeatNo) (extent : Byte) (s : State) (t : State) (h : execDelete seat extent s = .next t) : Keeps 0x3dffffffffffffffffffff s t := by
  unfold execDelete at h
  cases h
  try dsimp only
  repeat' (first
    | with_reducible exact Keeps.refl _
    | with_reducible apply Keeps.via (kept_nvmeWrite ..) (by decide)
    | with_reducible apply keeps_ite
    | (intro _)
    | split)

theorem kept_execFormat (seat : SeatNo) (s : State) (t : State) (h : execFormat seat s = .next t) : Keeps 0x3dffffffffffffffffffff s t := by
  unfold execFormat at h
  cases h
  try dsimp only
  repeat' (first
    | with_reducible exact Keeps.refl _
    | with_reducible apply Keeps.via (kept_nvmeWrite ..) (by decide)
    | with_reducible apply keeps_ite
    | (intro _)
    | split)

theorem kept_execResync (seat : SeatNo) (s : State) (t : State) (h : execResync seat s = .next t) : Keeps 0x3dffffffffffffffffffff s t := by
  unfold execResync at h
  cases h
  try dsimp only
  repeat' (first
    | with_reducible exact Keeps.refl _
    | with_reducible apply Keeps.via (kept_nvmeWrite ..) (by decide)
    | with_reducible apply keeps_ite
    | (intro _)
    | split)

theorem kept_execTileJobGo (seat : SeatNo) (extent : Byte) (s : State) (t : State) (h : execTileJobGo seat extent s = .next t) : Keeps 0x3dffffffffffffffffffff s t := by
  unfold execTileJobGo at h
  cases h
  try dsimp only
  repeat' (first
    | with_reducible exact Keeps.refl _
    | with_reducible apply Keeps.via (kept_hostWrite ..) (by decide)
    | with_reducible apply keeps_ite
    | (intro _)
    | split)

theorem kept_execTileJobStop (seat : SeatNo) (s : State) (t : State) (h : execTileJobStop seat s = .next t) : Keeps 0x3dffffffffffffffffffff s t := by
  unfold execTileJobStop at h
  cases h
  try dsimp only
  repeat' (first
    | with_reducible exact Keeps.refl _
    | with_reducible apply Keeps.via (kept_hostWrite ..) (by decide)
    | with_reducible apply keeps_ite
    | (intro _)
    | split)

theorem kept_execCrcDataWrite (seat : SeatNo) (unit : Fin 4) (be : BitVec 4) (value : Word) (s : State) (t : State) (h : execCrcDataWrite seat unit be value s = .next t) : Keeps 0x3dffffffffffffffffffff s t := by
  unfold execCrcDataWrite at h
  cases h
  try dsimp only
  repeat' (first
    | with_reducible exact Keeps.refl _
    | with_reducible apply Keeps.via (kept_hostWrite ..) (by decide)
    | with_reducible apply keeps_ite
    | (intro _)
    | split)

end Sys2Proof.Machine
end

