-- ==== Sys2Proof/Laws/Places.lean ====
section
/-!
SUPPORT. Where the registers of each block lie.
-/
namespace Sys2Proof.Machine

theorem findPage_skip {a : Nat} (l m : List (Nat × Nat × Blk × Nat)) (h : ∀ e ∈ l, e.1 + e.2.1 * 0x1000 ≤ a) :
    findPage a (l ++ m) = findPage a m := by
  induction l with
  | nil => rfl
  | cons e t ih =>
    have he := h e (List.mem_cons_self ..)
    obtain ⟨b, n, k, t'⟩ := e
    rw [List.cons_append, findPage, if_neg (by simp only at he; omega)]
    exact ih (fun x hx => h x (List.mem_cons_of_mem _ hx))

/-- The place of an address in page entry `i` of the map. -/
theorem locate_page {a : Nat} (i : Nat) {b n t : Nat} {k : Blk} (hi : pageMap[i]? = some (b, n, k, t)) (hw : b + n * 0x1000 ≤ 0x800000)
    (hs : ∀ e ∈ pageMap.take i, e.1 + e.2.1 * 0x1000 ≤ b) (hb : b ≤ a) (ha : a < b + n * 0x1000) :
    locate a = some ⟨k, (a - b) / 0x1000, (a - b) % 0x1000, t⟩ := by
  unfold locate
  rw [if_neg (by omega), if_neg (by omega), if_neg (by omega), if_neg (by omega), ← List.take_append_drop i pageMap,
    findPage_skip _ _ (fun e he => Nat.le_trans (hs e he) hb)]
  obtain ⟨h, hi⟩ := List.getElem?_eq_some_iff.mp hi
  rw [List.drop_eq_getElem_cons h, hi]
  rw [findPage, if_pos ⟨hb, ha⟩]

theorem locate_sys {o : Nat} (ho : o < 0x1000) : locate (pSys + o) = some ⟨.sys, 0, o, 1⟩ := by
  unfold pSys
  rw [locate_page 0 rfl (by decide) (by decide) (by omega) (by omega)]
  exact congrArg some (Loc.mk.injEq .. ▸ ⟨rfl, by omega, by omega, rfl⟩)
theorem locate_ember {o : Nat} (ho : o < 0x1000) : locate (pEmber + o) = some ⟨.ember, 0, o, 2⟩ := by
  unfold pEmber
  rw [locate_page 1 rfl (by decide) (by decide) (by omega) (by omega)]
  exact congrArg some (Loc.mk.injEq .. ▸ ⟨rfl, by omega, by omega, rfl⟩)
theorem locate_therm {o : Nat} (ho : o < 0x1000) : locate (pTherm + o) = some ⟨.therm, 0, o, 3⟩ := by
  unfold pTherm
  rw [locate_page 2 rfl (by decide) (by decide) (by omega) (by omega)]
  exact congrArg some (Loc.mk.injEq .. ▸ ⟨rfl, by omega, by omega, rfl⟩)
theorem locate_hk {o : Nat} (ho : o < 0x1000) : locate (pHk + o) = some ⟨.hk, 0, o, 4⟩ := by
  unfold pHk
  rw [locate_page 3 rfl (by decide) (by decide) (by omega) (by omega)]
  exact congrArg some (Loc.mk.injEq .. ▸ ⟨rfl, by omega, by omega, rfl⟩)
theorem locate_crc {k o : Nat} (hk : k < 4) (ho : o < 0x1000) : locate (pCrc k + o) = some ⟨.crc, k, o, 5⟩ := by
  unfold pCrc
  rw [locate_page 4 rfl (by decide) (by decide) (by omega) (by omega)]
  exact congrArg some (Loc.mk.injEq .. ▸ ⟨rfl, by omega, by omega, rfl⟩)
theorem locate_upd {o : Nat} (ho : o < 0x1000) : locate (pUpd + o) = some ⟨.upd, 0, o, 6⟩ := by
  unfold pUpd
  rw [locate_page 5 rfl (by decide) (by decide) (by omega) (by omega)]
  exact congrArg some (Loc.mk.injEq .. ▸ ⟨rfl, by omega, by omega, rfl⟩)
theorem locate_seat {k o : Nat} (hk : k < 16) (ho : o < 0x1000) : locate (pSeat k + o) = some ⟨.seat, k, o, 7⟩ := by
  unfold pSeat
  rw [locate_page 6 rfl (by decide) (by decide) (by omega) (by omega)]
  exact congrArg some (Loc.mk.injEq .. ▸ ⟨rfl, by omega, by omega, rfl⟩)
theorem locate_evt {o : Nat} (ho : o < 0x1000) : locate (pEvt + o) = some ⟨.evt, 0, o, 8⟩ := by
  unfold pEvt
  rw [locate_page 7 rfl (by decide) (by decide) (by omega) (by omega)]
  exact congrArg some (Loc.mk.injEq .. ▸ ⟨rfl, by omega, by omega, rfl⟩)
theorem locate_evtp {k o : Nat} (hk : k < 16) (ho : o < 0x1000) : locate (pEvtp k + o) = some ⟨.evtp, k, o, 9⟩ := by
  unfold pEvtp
  rw [locate_page 8 rfl (by decide) (by decide) (by omega) (by omega)]
  exact congrArg some (Loc.mk.injEq .. ▸ ⟨rfl, by omega, by omega, rfl⟩)
theorem locate_ring {o : Nat} (ho : o < 0x1000) : locate (pRing + o) = some ⟨.ring, 0, o, 10⟩ := by
  unfold pRing
  rw [locate_page 9 rfl (by decide) (by decide) (by omega) (by omega)]
  exact congrArg some (Loc.mk.injEq .. ▸ ⟨rfl, by omega, by omega, rfl⟩)
theorem locate_time {o : Nat} (ho : o < 0x1000) : locate (pTime + o) = some ⟨.time, 0, o, 11⟩ := by
  unfold pTime
  rw [locate_page 10 rfl (by decide) (by decide) (by omega) (by omega)]
  exact congrArg some (Loc.mk.injEq .. ▸ ⟨rfl, by omega, by omega, rfl⟩)
theorem locate_servo {o : Nat} (ho : o < 0x1000) : locate (pServo + o) = some ⟨.servo, 0, o, 12⟩ := by
  unfold pServo
  rw [locate_page 11 rfl (by decide) (by decide) (by omega) (by omega)]
  exact congrArg some (Loc.mk.injEq .. ▸ ⟨rfl, by omega, by omega, rfl⟩)
theorem locate_sva {k o : Nat} (hk : k < 8) (ho : o < 0x1000) : locate (pSvl k + o) = some ⟨.sva, k, o, 13⟩ := by
  unfold pSvl
  rw [locate_page 12 rfl (by decide) (by decide) (by omega) (by omega)]
  exact congrArg some (Loc.mk.injEq .. ▸ ⟨rfl, by omega, by omega, rfl⟩)
theorem locate_svb {k o : Nat} (hk : k < 4) (ho : o < 0x1000) : locate (pSvl (8 + k) + o) = some ⟨.svb, k, o, 13⟩ := by
  unfold pSvl
  rw [locate_page 13 rfl (by decide) (by decide) (by omega) (by omega)]
  exact congrArg some (Loc.mk.injEq .. ▸ ⟨rfl, by omega, by omega, rfl⟩)
theorem locate_eth {k o : Nat} (hk : k < 8) (ho : o < 0x1000) : locate (pEth k + o) = some ⟨.eth, k, o, 14⟩ := by
  unfold pEth
  rw [locate_page 14 rfl (by decide) (by decide) (by omega) (by omega)]
  exact congrArg some (Loc.mk.injEq .. ▸ ⟨rfl, by omega, by omega, rfl⟩)
theorem locate_ing {o : Nat} (ho : o < 0x1000) : locate (pIng + o) = some ⟨.ing, 0, o, 15⟩ := by
  unfold pIng
  rw [locate_page 15 rfl (by decide) (by decide) (by omega) (by omega)]
  exact congrArg some (Loc.mk.injEq .. ▸ ⟨rfl, by omega, by omega, rfl⟩)
theorem locate_cmp {o : Nat} (ho : o < 0x1000) : locate (pCmp + o) = some ⟨.cmp, 0, o, 16⟩ := by
  unfold pCmp
  rw [locate_page 16 rfl (by decide) (by decide) (by omega) (by omega)]
  exact congrArg some (Loc.mk.injEq .. ▸ ⟨rfl, by omega, by omega, rfl⟩)
theorem locate_view {k o : Nat} (hk : k < 8) (ho : o < 0x1000) : locate (pView k + o) = some ⟨.view, k, o, 17⟩ := by
  unfold pView
  rw [locate_page 17 rfl (by decide) (by decide) (by omega) (by omega)]
  exact congrArg some (Loc.mk.injEq .. ▸ ⟨rfl, by omega, by omega, rfl⟩)
theorem locate_lyr {k o : Nat} (hk : k < 256) (ho : o < 0x1000) : locate (pLyr k + o) = some ⟨.lyr, k, o, 18⟩ := by
  unfold pLyr
  rw [locate_page 18 rfl (by decide) (by decide) (by omega) (by omega)]
  exact congrArg some (Loc.mk.injEq .. ▸ ⟨rfl, by omega, by omega, rfl⟩)
theorem locate_map {o : Nat} (ho : o < 0x1000) : locate (pMap + o) = some ⟨.map, 0, o, 19⟩ := by
  unfold pMap
  rw [locate_page 19 rfl (by decide) (by decide) (by omega) (by omega)]
  exact congrArg some (Loc.mk.injEq .. ▸ ⟨rfl, by omega, by omega, rfl⟩)
theorem locate_cor {o : Nat} (ho : o < 0x1000) : locate (pCor + o) = some ⟨.cor, 0, o, 20⟩ := by
  unfold pCor
  rw [locate_page 20 rfl (by decide) (by decide) (by omega) (by omega)]
  exact congrArg some (Loc.mk.injEq .. ▸ ⟨rfl, by omega, by omega, rfl⟩)
theorem locate_zone {o : Nat} (ho : o < 0x1000) : locate (pZone + o) = some ⟨.zone, 0, o, 21⟩ := by
  unfold pZone
  rw [locate_page 21 rfl (by decide) (by decide) (by omega) (by omega)]
  exact congrArg some (Loc.mk.injEq .. ▸ ⟨rfl, by omega, by omega, rfl⟩)
theorem locate_wl {k o : Nat} (hk : k < 512) (ho : o < 0x1000) : locate (pWl k + o) = some ⟨.wl, k, o, 22⟩ := by
  unfold pWl
  rw [locate_page 22 rfl (by decide) (by decide) (by omega) (by omega)]
  exact congrArg some (Loc.mk.injEq .. ▸ ⟨rfl, by omega, by omega, rfl⟩)
theorem locate_ser {k o : Nat} (hk : k < 64) (ho : o < 0x1000) : locate (pSer k + o) = some ⟨.ser, k, o, 23⟩ := by
  unfold pSer
  rw [locate_page 23 rfl (by decide) (by decide) (by omega) (by omega)]
  exact congrArg some (Loc.mk.injEq .. ▸ ⟨rfl, by omega, by omega, rfl⟩)
theorem locate_mem {o : Nat} (ho : o < 0x1000) : locate (pMem + o) = some ⟨.mem, 0, o, 24⟩ := by
  unfold pMem
  rw [locate_page 24 rfl (by decide) (by decide) (by omega) (by omega)]
  exact congrArg some (Loc.mk.injEq .. ▸ ⟨rfl, by omega, by omega, rfl⟩)
theorem locate_memch {k o : Nat} (hk : k < 32) (ho : o < 0x1000) : locate (pMc k + o) = some ⟨.memch, k, o, 25⟩ := by
  unfold pMc
  rw [locate_page 25 rfl (by decide) (by decide) (by omega) (by omega)]
  exact congrArg some (Loc.mk.injEq .. ▸ ⟨rfl, by omega, by omega, rfl⟩)
theorem locate_pcie {o : Nat} (ho : o < 0x1000) : locate (pPcie + o) = some ⟨.pcie, 0, o, 26⟩ := by
  unfold pPcie
  rw [locate_page 26 rfl (by decide) (by decide) (by omega) (by omega)]
  exact congrArg some (Loc.mk.injEq .. ▸ ⟨rfl, by omega, by omega, rfl⟩)
theorem locate_nvme {o : Nat} (ho : o < 0x1000) : locate (pNvme + o) = some ⟨.nvme, 0, o, 27⟩ := by
  unfold pNvme
  rw [locate_page 27 rfl (by decide) (by decide) (by omega) (by omega)]
  exact congrArg some (Loc.mk.injEq .. ▸ ⟨rfl, by omega, by omega, rfl⟩)
theorem locate_flow {k o : Nat} (hk : k < 64) (ho : o < 1024) : locate (pFlow k + o) = some ⟨.flow, k, o, 0⟩ := by
  unfold locate pFlow
  rw [if_neg (by omega), if_pos (by omega)]
  exact congrArg some (Loc.mk.injEq .. ▸ ⟨rfl, by omega, by omega, rfl⟩)
theorem locate_tile {k o : Nat} (hk : k < 4096) (ho : o < 64) : locate (pTile k + o) = some ⟨.tile, k, o, 0⟩ := by
  unfold locate pTile
  rw [if_neg (by omega), if_neg (by omega), if_pos (by omega)]
  exact congrArg some (Loc.mk.injEq .. ▸ ⟨rfl, by omega, by omega, rfl⟩)
theorem locate_zn {k o : Nat} (hk : k < 256) (ho : o < 64) : locate (pZn k + o) = some ⟨.zn, k, o, 0⟩ := by
  unfold locate pZn
  rw [if_neg (by omega), if_neg (by omega), if_neg (by omega), if_pos (by omega)]
  exact congrArg some (Loc.mk.injEq .. ▸ ⟨rfl, by omega, by omega, rfl⟩)
theorem locate_rstate {n o : Nat} (hn : n < 16384) (ho : o < 32) : locate (0x800000 + 32 * n + o) = some ⟨.rstate, n, o, 0⟩ := by
  unfold locate
  rw [if_pos (by omega)]
  exact congrArg some (Loc.mk.injEq .. ▸ ⟨rfl, by omega, by omega, rfl⟩)

end Sys2Proof.Machine
end

