-- ==== Sys2Proof/Laws/Access.lean ====
section
/-!
SUPPORT. Accesses by seats opened: where a write is stored, what it does then, and what it keeps.
-/
namespace Sys2Proof.Machine

/-! ### The rows of a register at a place -/

/-- The rows of the register at an offset of a block. -/
def blkRows (b : Blk) (off : Nat) : List Row := ((if isWindow b then [] else rows_hdr) ++ rowsOf b).filter (·.covers off)

/-- The bits of the fields that `p` chooses. -/
def rowsMask (p : Row → Bool) (l : List Row) : Nat := ((l.filter p).map (fun r => (2 ^ r.f.w - 1) * 2 ^ r.f.lo)).sum

theorem regRows_at {a : Nat} {l : Loc} (h : locate a = some l) : regRows a = blkRows l.blk l.off := by
  unfold regRows
  rw [h]
  rfl

theorem locate_lt {a : Nat} {l : Loc} (h : locate a = some l) : a < 0x1000000 := by
  by_cases hr : l.blk = .rstate
  · unfold locate pageMap at h
    by_cases hw : 0x800000 ≤ a ∧ a < 0x880000
    · omega
    · rw [if_neg hw] at h
      exfalso
      repeat' (first
        | (split at h; focus (cases h; cases hr; done))
        | unfold findPage at h
        | (cases h; done))
  · have hs := (locate_span h hr).2.2
    have hb : l.blk.idx < 31 := by cases l.blk <;> decide
    have : ∀ i < 31, spanHi i < 0x1000000 := by decide
    have := this _ hb
    omega

theorem maskWhere_at {a : Nat} {l : Loc} {p : Row → Bool} (h : locate a = some l) :
    maskWhere p a = rowsMask p (blkRows l.blk l.off) := by
  have ha := locate_lt h
  unfold maskWhere rowsMask
  rw [if_neg (by unfold isCoef; simp only [decide_eq_true_eq]; omega), Nat.mod_eq_of_lt (by omega), regRows_at h]

/-! ### Opening an access -/

theorem hostWrite_at {s : State} {seat a be v : Nat} {l : Loc} (hs : s.serves seat = true) (ha : a % 4 = 0)
    (hl : locate a = some l) : s.hostWrite seat a be v = (s.placeWrite seat l a be v).settle := by
  unfold State.hostWrite
  simp only [ha, Nat.sub_zero, hs, hl]
  rfl

theorem hostRead_at {s : State} {seat a : Nat} {l : Loc} (hs : s.serves seat = true) (ha : a % 4 = 0)
    (hl : locate a = some l) :
    s.hostRead seat a = (s.afterRead seat l a, BitVec.ofNat 32 (s.readValue seat l a)) := by
  unfold State.hostRead
  simp only [ha, Nat.sub_zero, hs, hl]
  rfl

theorem readOut_at {s : State} {seat a : Nat} {l : Loc} (hs : s.serves seat = true) (ha : a % 4 = 0)
    (hl : locate a = some l) :
    s.readOut seat a =
      ((s.afterRead seat l a).emit (.readData seat (BitVec.ofNat 32 (s.readValue seat l a)))).settle := by
  unfold State.readOut
  rw [if_neg (by rw [hs]; decide), hostRead_at hs ha hl]

/-- The fields of the register at an offset of a block that only the boot record sets (R22). -/
def bootBits (b : Blk) (off : Nat) : Nat := rowsMask (fun r => r.acc = .rwb) (blkRows b off)

/-- The places where a whole word by a seat is stored and acts, with what stands outside left out: mute event
registers, the ring-state window, CRC_DATA, pairs that wait for their _HI, registers only the boot record sets. -/
def plainAt (b : Blk) (off : Nat) : Bool :=
  !(noEvents b && (off == 0x010 || off == 0x014 || off == 0x018)) && b != .rstate && !(b == .crc && off == 0x110) &&
    !(blkRows b off).isEmpty &&
    !(rowsMask (fun r => r.acc = .rwb) (blkRows b off) != 0 &&
      rowsMask (fun r => r.acc ≠ .rwb && r.acc ≠ .ro) (blkRows b off) == 0) &&
    pairAt b off != some true && !(decide (4 ≤ off) && pairAt b (off - 4) == some true)

/-- A whole word written at a page of others: a foreign write; to ING_PUSH also an error of the push (R170). -/
def State.foreignWord (s : State) (seat : Nat) (l : Loc) (a v : Nat) : State :=
  (s.foreign seat a (BitVec.ofNat 32 v) (l.page a)).when (l.blk == .ing && l.off == 0x100 && seat != 0) (·.ingPush seat (bitsOf v 0 6))

theorem placeWrite_plain {s : State} {seat a v : Nat} {l : Loc} (hl : locate a = some l) (hp : plainAt l.blk l.off = true) :
    s.placeWrite seat l a 15 v =
      if s.mayWrite seat l a then
        (s.when (s.bootTouched a v) (fun s => s.foreign seat a (BitVec.ofNat 32 v) (l.page a))).takeWrite seat l a v
      else s.foreignWord seat l a v := by
  unfold plainAt at hp
  simp only [Bool.and_eq_true, Bool.not_eq_true', bne_iff_ne, ne_eq] at hp
  obtain ⟨⟨⟨⟨⟨⟨hm, hr⟩, hd⟩, hrow⟩, hb⟩, hlo⟩, hhi⟩ := hp
  have hb : bootOnly a = false := by
    unfold bootOnly accMask
    rw [maskWhere_at hl, maskWhere_at hl]
    exact hb
  have hm : l.mute = false := hm
  have hlo : l.heldLo = false := beq_eq_false_iff_ne.mpr hlo
  have hhi : l.heldHi = false := hhi
  have h1 : ¬ (((15 : Nat) ≠ 15 ∧ (l.blk == .crc && l.off == 0x110) = false) ∨ l.mute = true) := by
    rw [hm]
    rintro (⟨h, _⟩ | h)
    · exact h rfl
    · cases h
  have h2 : regRows a ≠ [] := by
    rw [regRows_at hl]
    exact List.isEmpty_eq_false_iff.mp hrow
  have h3 : ∀ s : State, s.pairWrite seat l a v = s.takeWrite seat l a v := by
    intro s
    unfold State.pairWrite
    rw [if_neg (by rw [hlo]; exact Bool.false_ne_true), if_neg (by rw [hhi]; exact Bool.false_ne_true)]
  unfold State.placeWrite State.foreignWord
  simp only
  rw [if_neg h1, if_neg hr, if_neg h2, hb, Bool.false_or]
  by_cases hw : s.mayWrite seat l a = true
  · rw [hw, if_neg (by decide), if_neg (by rw [hd]; exact Bool.false_ne_true), if_pos rfl, h3]
  · have hw := Bool.eq_false_iff.mpr hw
    rw [hw, if_pos (by decide), if_neg (by decide)]

theorem bootTouched_none {s : State} {a v : Nat} {l : Loc} (hl : locate a = some l) (h : bootBits l.blk l.off = 0) :
    s.bootTouched a v = false := by
  unfold State.bootTouched bootMask accMask
  rw [maskWhere_at hl]
  unfold bootBits at h
  rw [h]
  simp

/-- A whole word that a seat writes where it may. -/
theorem hostWrite_own {s : State} {seat a v : Nat} {l : Loc} (hs : s.serves seat = true) (ha : a % 4 = 0)
    (hl : locate a = some l) (hp : plainAt l.blk l.off = true) (hn : bootBits l.blk l.off = 0)
    (hw : s.mayWrite seat l a = true) (hr : s.reservedWrite l v = false) :
    s.hostWrite seat a 15 v =
      ((s.storeReg seat l a v).doAction seat l a (s.reg (s.keyOf seat l a)) v).settle := by
  rw [hostWrite_at hs ha hl, placeWrite_plain hl hp, if_pos hw, bootTouched_none hl hn]
  show (s.takeWrite seat l a v).settle = _
  unfold State.takeWrite
  rw [if_neg (by rw [hr]; decide)]

/-- A whole word that a seat writes at a page of others. -/
theorem hostWrite_foreign {s : State} {seat a v : Nat} {l : Loc} (hs : s.serves seat = true) (ha : a % 4 = 0)
    (hl : locate a = some l) (hp : plainAt l.blk l.off = true) (hw : s.mayWrite seat l a = false) :
    s.hostWrite seat a 15 v = (s.foreignWord seat l a v).settle := by
  rw [hostWrite_at hs ha hl, placeWrite_plain hl hp, if_neg (by rw [hw]; decide)]

theorem mayWrite_owner {s : State} {seat a : Nat} {l : Loc} (h : s.owns seat (l.page a) = true) :
    s.mayWrite seat l a = true := by
  unfold State.mayWrite
  rw [h, Bool.or_true, Bool.true_or]

/-! ### What an access keeps -/

theorem page_span {i a : Nat} (h : inSpan i a) (hi : i < 31) : pgIn i (a - a % 0x1000) 0x1000 := by
  have hb : ∀ i < 31, spanLo i % 0x1000 = 0 ∧ spanHi i % 0x1000 = 0 := by decide
  have := hb i hi
  have h1 := h.2.1
  have h2 := h.2.2
  exact ⟨h.1, by omega, by omega⟩

theorem keeps_foreign {m : Nat} {s : State} {seat addr page i : Nat} {value : Word}
    (hs : 0x80002001038800000000 &&& m = 0x80002001038800000000) (h6 : m.testBit 6 = true) (hi : m.testBit i = true) (hg : pgIn i page 0x1000) :
    Keeps m s (s.foreign seat addr value page) := by
  have fld : ∀ (s : State) (f : Fld) (v : Nat), f.off < 0x1000 → f.stride = 0 → Keeps m s (s.setFld page f v) := fun s f v ho hz =>
    keeps_setFld_in i hi (in_pg2 hg (by rw [hz]; omega)) (Keeps.refl _)
  have sfld : ∀ (s : State) (k : Nat) (f : Fld) (v : Nat), f.off < 0x1000 → f.stride = 0 → Keeps m s (s.setFld (pSeat k) f v) :=
    fun s k f v ho hz => keeps_setFld_in 6 h6 (in_pg2 (pg_6 k) (by rw [hz]; omega)) (Keeps.refl _)
  unfold State.foreign
  dsimp only
  refine keeps_each_on (fun s k => ?_) ?_
  · split
    · exact Keeps.via (kept_eventEntry _ _ _ (Nat.le_refl _)) (by rw [show (0x38800000000 : Nat) = 0x38800000000 &&& 0x80002001038800000000 by decide, Nat.and_assoc, hs])
        (((sfld _ _ F.SEAT_FOREIGN_IN_IN_CNT _ (by decide) rfl).trans (sfld _ _ F.SEAT_FOREIGN_LAST_ADDR _ (by decide) rfl)).trans
          (sfld _ _ F.SEAT_FOREIGN_LAST_WRITER _ (by decide) rfl))
    · exact Keeps.refl _
  · exact (((fld _ F.HDR_FOREIGN_FOREIGN_CNT _ (by decide) rfl).trans (sfld _ _ F.SEAT_FOREIGN_OUT_OUT_CNT _ (by decide) rfl)).trans
      (fld _ F.HDR_FOREIGN_LAST_OFFSET _ (by decide) rfl)).trans (fld _ F.HDR_FOREIGN_LAST_SEAT _ (by decide) rfl)

theorem keeps_storeReg {m : Nat} {s : State} {seat a v : Nat} {l : Loc} (hl : locate a = some l) (hr : l.blk ≠ .rstate)
    (hm : m.testBit l.blk.idx = true) (hc : l.coef = false) (hq : l.seatCopy = false ∨ m.testBit 32 = true) :
    Keeps m s (s.storeReg seat l a v) := by
  unfold State.storeReg
  split
  · dsimp only
    unfold State.keyOf
    rw [if_neg (by rw [hc]; exact Bool.false_ne_true)]
    split
    · next h =>
      rcases hq with hq | hq
      · rw [hq] at h; cases h
      · exact keeps_setReg_ge 32 (by decide) (by
          apply Nat.eq_of_testBit_eq
          intro j
          rw [Nat.testBit_and]
          by_cases hj : j = 32
          · subst hj; rw [hq]; decide
          · have : Nat.testBit (2 ^ 33 - 2 ^ 32) j = false := by
              rw [show (2 ^ 33 - 2 ^ 32 : Nat) = 2 ^ 32 by decide]
              exact Nat.testBit_two_pow_of_ne (Ne.symm hj)
            rw [this, Bool.false_and]) (ge_32 _ _) (Keeps.refl _)
    · exact keeps_setReg_in _ hm (locate_span hl hr) (Keeps.refl _)
  · exact Keeps.refl _

/-- A seat's write of a whole word, by what its action keeps. -/
theorem keeps_hostWrite {m : Nat} {s : State} {seat a v i : Nat} {l : Loc} (ha : a % 4 = 0) (hl : locate a = some l)
    (hp : plainAt l.blk l.off = true) (hs : 0x80002001038800000000 &&& m = 0x80002001038800000000) (h6 : m.testBit 6 = true)
    (hm : m.testBit l.blk.idx = true) (hi : m.testBit i = true) (hg : pgIn i (l.page a) 0x1000)
    (hc : l.coef = false) (hq : l.seatCopy = false ∨ m.testBit 32 = true)
    (hact : ∀ s was, Keeps m s (s.doAction seat l a was v)) : Keeps m s (s.hostWrite seat a 15 v) := by
  by_cases hsv : s.serves seat = true
  · have hr : l.blk ≠ .rstate := by
      unfold plainAt at hp
      simp only [Bool.and_eq_true, bne_iff_ne, ne_eq] at hp
      exact hp.1.1.1.1.1.2
    have hf : Keeps m s (s.foreign seat a (BitVec.ofNat 32 v) (l.page a)) := keeps_foreign hs h6 hi hg
    rw [hostWrite_at hsv ha hl, placeWrite_plain hl hp]
    refine Keeps.via (kept_settle _) (by rw [show (0x80002001038800000000 : Nat) = 0x80002001038800000000 &&& 0x80002001038800000000 by decide, Nat.and_assoc, hs]) ?_
    split
    · have hb : ∀ b : Bool, Keeps m s (s.when b (fun s => s.foreign seat a (BitVec.ofNat 32 v) (l.page a))) := by
        intro b
        cases b
        · exact Keeps.refl _
        · exact hf
      refine (hb (s.bootTouched a v)).trans ?_
      unfold State.takeWrite
      split
      · exact Keeps.refl _
      · exact (keeps_storeReg hl hr hm hc hq).trans (hact _ _)
    · unfold State.foreignWord
      cases hg' : (l.blk == .ing && l.off == 0x100 && seat != 0)
      · exact hf
      · refine hf.trans ?_
        simp only [Bool.and_eq_true, beq_iff_eq] at hg'
        have h := hact (s.foreign seat a (BitVec.ofNat 32 v) (l.page a)) 0
        unfold State.doAction at h
        rw [if_neg (by rw [hg'.1.2]; intro x; exact absurd x.2 (by decide)), hg'.1.1] at h
        unfold State.doPlain at h
        rw [hg'.1.1, hg'.1.2] at h
        exact h
  · unfold State.hostWrite
    dsimp only
    rw [if_pos (Bool.eq_false_iff.mpr hsv)]
    exact Keeps.refl _

/-- The same, when the page that governs the register is its own. -/
theorem keeps_hostWrite_page {m : Nat} {s : State} {seat a v : Nat} {l : Loc} (ha : a % 4 = 0) (hl : locate a = some l)
    (hp : plainAt l.blk l.off = true) (hw : isWindow l.blk = false) (hs : 0x80002001038800000000 &&& m = 0x80002001038800000000)
    (h6 : m.testBit 6 = true) (hm : m.testBit l.blk.idx = true) (hc : l.coef = false)
    (hq : l.seatCopy = false ∨ m.testBit 32 = true) (hact : ∀ s was, Keeps m s (s.doAction seat l a was v)) :
    Keeps m s (s.hostWrite seat a 15 v) := by
  have hr : l.blk ≠ .rstate := by
    intro h
    rw [h] at hw
    cases hw
  have hpage : l.page a = a - a % 0x1000 := by
    unfold Loc.page
    cases hb : l.blk <;> first | rfl | (rw [hb] at hw; cases hw)
  refine keeps_hostWrite ha hl hp hs h6 hm hm ?_ hc hq hact
  rw [hpage]
  exact page_span (locate_span hl hr) (by cases l.blk <;> decide)

end Sys2Proof.Machine
end

