-- ==== Sys2Proof/Laws/Settle.lean ====
section
/-!
SUPPORT. What event delivery at the end of a command leaves as it was: every register but those of
`deliveryReg`, and every component but the few that delivery writes.
-/
namespace Sys2Proof.Machine

/-! ### Addresses of no delivery register -/

theorem deliveryReg_low {a : Nat} (h : a < 0x20000) : deliveryReg a = false := by
  unfold deliveryReg
  simp only [Bool.or_eq_false_iff, Bool.and_eq_false_iff, beq_eq_false_iff_ne, decide_eq_false_iff_not, ne_eq]
  omega

theorem deliveryReg_gap {a : Nat} (h : 0x31000 ≤ a) (h' : a < 0x50000) : deliveryReg a = false := by
  unfold deliveryReg
  simp only [Bool.or_eq_false_iff, Bool.and_eq_false_iff, beq_eq_false_iff_ne, decide_eq_false_iff_not, ne_eq]
  omega

theorem deliveryReg_high {a : Nat} (h : 0x58000 ≤ a) : deliveryReg a = false := by
  unfold deliveryReg
  simp only [Bool.or_eq_false_iff, Bool.and_eq_false_iff, beq_eq_false_iff_ne, decide_eq_false_iff_not, ne_eq]
  omega

/-- In pages, by the offset. -/
theorem deliveryReg_off {a : Nat} (h : a % 0x1000 ≠ 0x10 ∧ a % 0x1000 ≠ 0x110 ∧ a % 0x1000 ≠ 0x114 ∧ a % 0x1000 ≠ 0x154 ∧
    a % 0x1000 ≠ 0x158 ∧ a % 0x1000 ≠ 0x15C) : deliveryReg a = false := by
  unfold deliveryReg
  simp only [Bool.or_eq_false_iff, Bool.and_eq_false_iff, beq_eq_false_iff_ne, decide_eq_false_iff_not, ne_eq]
  omega

/-! ### Registers after delivery -/

theorem reg_settle (s : State) {a : Nat} (h : deliveryReg a = false) : s.settle.reg a = s.reg a :=
  (delivers_settle s).regs a h

theorem fld_settle (s : State) {p : Nat} {f : Fld} {i : Nat} (h : deliveryReg (faddr p f i) = false) :
    s.settle.fld p f i = s.fld p f i := by
  unfold faddr at h
  unfold State.fld
  rw [reg_settle s h]

@[simp] theorem ready_settle (s : State) : s.settle.ready = s.ready := by
  unfold State.ready
  rw [fld_settle s (by decide)]

@[simp] theorem memOff_settle (s : State) : s.settle.memOff = s.memOff := by
  unfold State.memOff
  rw [fld_settle s (by decide)]

@[simp] theorem pstate_settle (s : State) : s.settle.pstate = s.pstate := by
  unfold State.pstate
  rw [fld_settle s (by decide)]

/-! ### Components after delivery -/

@[simp] theorem State.settle_pending (s : State) : s.settle.pending = s.pending := (delivers_settle s).rest.1
@[simp] theorem State.settle_free (s : State) : s.settle.free = s.free := (delivers_settle s).rest.2.1
@[simp] theorem State.settle_force (s : State) : s.settle.force = s.force := (delivers_settle s).rest.2.2.1
@[simp] theorem State.settle_latch (s : State) : s.settle.latch = s.latch := (delivers_settle s).rest.2.2.2.1
@[simp] theorem State.settle_lowHalf (s : State) : s.settle.lowHalf = s.lowHalf := (delivers_settle s).rest.2.2.2.2.1
@[simp] theorem State.settle_stale (s : State) : s.settle.stale = s.stale := (delivers_settle s).rest.2.2.2.2.2.1
@[simp] theorem State.settle_commands (s : State) : s.settle.commands = s.commands := (delivers_settle s).rest.2.2.2.2.2.2.1
@[simp] theorem State.settle_clk (s : State) : s.settle.clk = s.clk := (delivers_settle s).rest.2.2.2.2.2.2.2.1
@[simp] theorem State.settle_pow (s : State) : s.settle.pow = s.pow := (delivers_settle s).rest.2.2.2.2.2.2.2.2.1
@[simp] theorem State.settle_cyc (s : State) : s.settle.cyc = s.cyc := (delivers_settle s).rest.2.2.2.2.2.2.2.2.2.1
@[simp] theorem State.settle_flows (s : State) : s.settle.flows = s.flows := (delivers_settle s).rest.2.2.2.2.2.2.2.2.2.2.1
@[simp] theorem State.settle_views (s : State) : s.settle.views = s.views := (delivers_settle s).rest.2.2.2.2.2.2.2.2.2.2.2.1
@[simp] theorem State.settle_feeds (s : State) : s.settle.feeds = s.feeds := (delivers_settle s).rest.2.2.2.2.2.2.2.2.2.2.2.2.1
@[simp] theorem State.settle_lanes (s : State) : s.settle.lanes = s.lanes := (delivers_settle s).rest.2.2.2.2.2.2.2.2.2.2.2.2.2.1
@[simp] theorem State.settle_busy (s : State) : s.settle.busy = s.busy := (delivers_settle s).rest.2.2.2.2.2.2.2.2.2.2.2.2.2.2.1
@[simp] theorem State.settle_chans (s : State) : s.settle.chans = s.chans := (delivers_settle s).rest.2.2.2.2.2.2.2.2.2.2.2.2.2.2.2.1
@[simp] theorem State.settle_credits (s : State) : s.settle.credits = s.credits := (delivers_settle s).rest.2.2.2.2.2.2.2.2.2.2.2.2.2.2.2.2.1
@[simp] theorem State.settle_house (s : State) : s.settle.house = s.house := (delivers_settle s).rest.2.2.2.2.2.2.2.2.2.2.2.2.2.2.2.2.2.1
@[simp] theorem State.settle_ptp (s : State) : s.settle.ptp = s.ptp := (delivers_settle s).rest.2.2.2.2.2.2.2.2.2.2.2.2.2.2.2.2.2.2.1
@[simp] theorem State.settle_touts (s : State) : s.settle.touts = s.touts := (delivers_settle s).rest.2.2.2.2.2.2.2.2.2.2.2.2.2.2.2.2.2.2.2.1
@[simp] theorem State.settle_tcaps (s : State) : s.settle.tcaps = s.tcaps := (delivers_settle s).rest.2.2.2.2.2.2.2.2.2.2.2.2.2.2.2.2.2.2.2.2.1
@[simp] theorem State.settle_ppsHigh (s : State) : s.settle.ppsHigh = s.ppsHigh := (delivers_settle s).rest.2.2.2.2.2.2.2.2.2.2.2.2.2.2.2.2.2.2.2.2.2.1
@[simp] theorem State.settle_servos (s : State) : s.settle.servos = s.servos := (delivers_settle s).rest.2.2.2.2.2.2.2.2.2.2.2.2.2.2.2.2.2.2.2.2.2.2.1
@[simp] theorem State.settle_dgs (s : State) : s.settle.dgs = s.dgs := (delivers_settle s).rest.2.2.2.2.2.2.2.2.2.2.2.2.2.2.2.2.2.2.2.2.2.2.2.1
@[simp] theorem State.settle_resp (s : State) : s.settle.resp = s.resp := (delivers_settle s).rest.2.2.2.2.2.2.2.2.2.2.2.2.2.2.2.2.2.2.2.2.2.2.2.2.1
@[simp] theorem State.settle_respLoad (s : State) : s.settle.respLoad = s.respLoad := (delivers_settle s).rest.2.2.2.2.2.2.2.2.2.2.2.2.2.2.2.2.2.2.2.2.2.2.2.2.2.1
@[simp] theorem State.settle_cap (s : State) : s.settle.cap = s.cap := (delivers_settle s).rest.2.2.2.2.2.2.2.2.2.2.2.2.2.2.2.2.2.2.2.2.2.2.2.2.2.2.1
@[simp] theorem State.settle_corrTouched (s : State) : s.settle.corrTouched = s.corrTouched := (delivers_settle s).rest.2.2.2.2.2.2.2.2.2.2.2.2.2.2.2.2.2.2.2.2.2.2.2.2.2.2.2.1
@[simp] theorem State.settle_play (s : State) : s.settle.play = s.play := (delivers_settle s).rest.2.2.2.2.2.2.2.2.2.2.2.2.2.2.2.2.2.2.2.2.2.2.2.2.2.2.2.2.1
@[simp] theorem State.settle_flashMem (s : State) : s.settle.flashMem = s.flashMem := (delivers_settle s).rest.2.2.2.2.2.2.2.2.2.2.2.2.2.2.2.2.2.2.2.2.2.2.2.2.2.2.2.2.2.1
@[simp] theorem State.settle_flashOp (s : State) : s.settle.flashOp = s.flashOp := (delivers_settle s).rest.2.2.2.2.2.2.2.2.2.2.2.2.2.2.2.2.2.2.2.2.2.2.2.2.2.2.2.2.2.2.1
@[simp] theorem State.settle_drives (s : State) : s.settle.drives = s.drives := (delivers_settle s).rest.2.2.2.2.2.2.2.2.2.2.2.2.2.2.2.2.2.2.2.2.2.2.2.2.2.2.2.2.2.2.2.1
@[simp] theorem State.settle_storeOp (s : State) : s.settle.storeOp = s.storeOp := (delivers_settle s).rest.2.2.2.2.2.2.2.2.2.2.2.2.2.2.2.2.2.2.2.2.2.2.2.2.2.2.2.2.2.2.2.2.1
@[simp] theorem State.settle_storeWait (s : State) : s.settle.storeWait = s.storeWait := (delivers_settle s).rest.2.2.2.2.2.2.2.2.2.2.2.2.2.2.2.2.2.2.2.2.2.2.2.2.2.2.2.2.2.2.2.2.2.1
@[simp] theorem State.settle_job (s : State) : s.settle.job = s.job := (delivers_settle s).rest.2.2.2.2.2.2.2.2.2.2.2.2.2.2.2.2.2.2.2.2.2.2.2.2.2.2.2.2.2.2.2.2.2.2.1
@[simp] theorem State.settle_aborts (s : State) : s.settle.aborts = s.aborts := (delivers_settle s).rest.2.2.2.2.2.2.2.2.2.2.2.2.2.2.2.2.2.2.2.2.2.2.2.2.2.2.2.2.2.2.2.2.2.2.2.1
@[simp] theorem State.settle_panic (s : State) : s.settle.panic = s.panic := (delivers_settle s).rest.2.2.2.2.2.2.2.2.2.2.2.2.2.2.2.2.2.2.2.2.2.2.2.2.2.2.2.2.2.2.2.2.2.2.2.2.1
@[simp] theorem State.settle_rateWait (s : State) : s.settle.rateWait = s.rateWait := (delivers_settle s).rest.2.2.2.2.2.2.2.2.2.2.2.2.2.2.2.2.2.2.2.2.2.2.2.2.2.2.2.2.2.2.2.2.2.2.2.2.2.1
@[simp] theorem State.settle_powerReq (s : State) : s.settle.powerReq = s.powerReq := (delivers_settle s).rest.2.2.2.2.2.2.2.2.2.2.2.2.2.2.2.2.2.2.2.2.2.2.2.2.2.2.2.2.2.2.2.2.2.2.2.2.2.2.1
@[simp] theorem State.settle_image (s : State) : s.settle.image = s.image := (delivers_settle s).rest.2.2.2.2.2.2.2.2.2.2.2.2.2.2.2.2.2.2.2.2.2.2.2.2.2.2.2.2.2.2.2.2.2.2.2.2.2.2.2.1
@[simp] theorem State.settle_cfgSpace (s : State) : s.settle.cfgSpace = s.cfgSpace := (delivers_settle s).rest.2.2.2.2.2.2.2.2.2.2.2.2.2.2.2.2.2.2.2.2.2.2.2.2.2.2.2.2.2.2.2.2.2.2.2.2.2.2.2.2.1
@[simp] theorem State.settle_tap (s : State) : s.settle.tap = s.tap := (delivers_settle s).rest.2.2.2.2.2.2.2.2.2.2.2.2.2.2.2.2.2.2.2.2.2.2.2.2.2.2.2.2.2.2.2.2.2.2.2.2.2.2.2.2.2.1
@[simp] theorem State.settle_lines (s : State) : s.settle.lines = s.lines := (delivers_settle s).rest.2.2.2.2.2.2.2.2.2.2.2.2.2.2.2.2.2.2.2.2.2.2.2.2.2.2.2.2.2.2.2.2.2.2.2.2.2.2.2.2.2.2.1
@[simp] theorem State.settle_linkRt (s : State) : s.settle.linkRt = s.linkRt := (delivers_settle s).rest.2.2.2.2.2.2.2.2.2.2.2.2.2.2.2.2.2.2.2.2.2.2.2.2.2.2.2.2.2.2.2.2.2.2.2.2.2.2.2.2.2.2.2.1
@[simp] theorem State.settle_rateTo (s : State) : s.settle.rateTo = s.rateTo := (delivers_settle s).rest.2.2.2.2.2.2.2.2.2.2.2.2.2.2.2.2.2.2.2.2.2.2.2.2.2.2.2.2.2.2.2.2.2.2.2.2.2.2.2.2.2.2.2.2.1
@[simp] theorem State.settle_bar2Held (s : State) : s.settle.bar2Held = s.bar2Held := (delivers_settle s).rest.2.2.2.2.2.2.2.2.2.2.2.2.2.2.2.2.2.2.2.2.2.2.2.2.2.2.2.2.2.2.2.2.2.2.2.2.2.2.2.2.2.2.2.2.2

@[simp] theorem State.settle_ff (s : State) (p : Nat) (f : Fld) (i : Nat) : s.settle.ff p f i = s.ff p f i := by
  unfold State.ff
  rw [State.settle_force]
@[simp] theorem State.settle_now (s : State) : s.settle.now = s.now := by
  unfold State.now
  rw [State.settle_clk]
@[simp] theorem active_settle (s : State) : s.settle.active = s.active := by
  unfold State.active
  rw [ready_settle, pstate_settle, State.settle_pow]
theorem lost_settle (s : State) : s.settle.mem.lost = s.mem.lost := (delivers_settle s).openBytes

end Sys2Proof.Machine
end

