-- ==== Sys2Proof/Laws/Claims.lean ====
section
/-!
SUPPORT. Fields, conditions and frames of registers through the operations that a command is made of.
-/
namespace Sys2Proof.Machine

theorem fld_setReg_ne (s : State) {p a : Nat} {f : Fld} {i : Nat} (v : Word) (h : faddr p f i ≠ a) :
    (s.setReg a v).fld p f i = s.fld p f i := by
  unfold faddr at h
  unfold State.fld
  rw [reg_setReg_ne s v h]
theorem fld_setFld_beside (s : State) (p : Nat) (f g : Fld) (v i : Nat) (ho : g.off + i * g.stride = f.off + i * f.stride)
    (hf : f.lo + f.w ≤ 32) (ha : g.lo + g.w ≤ f.lo ∨ f.lo + f.w ≤ g.lo) : (s.setFld p f v i).fld p g i = s.fld p g i :=
  fld_setFld_apart s v (by unfold faddr; omega) hf ha
theorem fld_setCond_ne (s : State) {p q k : Nat} {f : Fld} {i : Nat} (h : faddr p f i ≠ q + 0x10) :
    (s.setCond q k).fld p f i = s.fld p f i := fld_setReg_ne s _ h
theorem fld_inc_ne (s : State) {p q : Nat} {f g : Fld} {i j n : Nat} (h : faddr q g j ≠ faddr p f i) :
    (s.inc p f i n).fld q g j = s.fld q g j := fld_setFld_ne s _ h
theorem fld_inc_apart (s : State) {p q : Nat} {f g : Fld} {i j n : Nat} (h : faddr q g j = faddr p f i)
    (hf : f.lo + f.w ≤ 32) (ha : g.lo + g.w ≤ f.lo ∨ f.lo + f.w ≤ g.lo) :
    (s.inc p f i n).fld q g j = s.fld q g j := fld_setFld_apart s _ h hf ha
theorem reg_setCond (s : State) {p k a : Nat} (h : a ≠ p + 0x10) : (s.setCond p k).reg a = s.reg a := reg_setReg_ne s _ h
theorem cond_setCond (s : State) (p k : Nat) (hk : k < 32) : (s.setCond p k).cond p k := by
  unfold State.cond State.setCond bit
  rw [reg_setReg_same]
  have := setBits_lt (s.reg (p+0x10)).toNat k 1 1 32 (s.reg (p+0x10)).isLt (by omega)
  rw [BitVec.toNat_ofNat, Nat.mod_eq_of_lt this]
  have h := bitsOf_setBits_same (s.reg (p+0x10)).toNat k 1 1
  unfold bitsOf at h
  rw [Nat.testBit_eq_decide_div_mod_eq, decide_eq_true_eq, ← Nat.shiftRight_eq_div_pow]
  exact h
theorem cond_congr {s t : State} {p k : Nat} (h : t.reg (p + 0x10) = s.reg (p + 0x10)) : t.cond p k ↔ s.cond p k := by
  unfold State.cond; rw [h]
theorem cond_settle (s : State) {p k : Nat} (h : deliveryReg (p + 0x10) = false) : s.settle.cond p k ↔ s.cond p k :=
  cond_congr (reg_settle s h)
theorem fld_lt (s : State) (p : Nat) (f : Fld) (i : Nat) : s.fld p f i < 2 ^ f.w := bitsOf_lt _ _ _

theorem OnlyRegs.refl {l} (s : State) : OnlyRegs l s s := fun _ _ _ => rfl
theorem OnlyRegs.setReg {l} {s t : State} {a : Nat} {v : Word} (ha : a ∈ l) (h : OnlyRegs l s t) : OnlyRegs l s (t.setReg a v) := by
  intro b hb hd
  rw [reg_setReg_ne _ _ (by rintro rfl; exact hb ha)]
  exact h b hb hd
theorem OnlyRegs.setFld {l} {s t : State} {p v i : Nat} {f : Fld} (ha : faddr p f i ∈ l) (h : OnlyRegs l s t) : OnlyRegs l s (t.setFld p f v i) :=
  OnlyRegs.setReg ha h
theorem OnlyRegs.inc {l} {s t : State} {p n i : Nat} {f : Fld} (ha : faddr p f i ∈ l) (h : OnlyRegs l s t) : OnlyRegs l s (t.inc p f i n) :=
  OnlyRegs.setReg ha h
theorem OnlyRegs.setCond {l} {s t : State} {p k : Nat} (ha : p + 0x10 ∈ l) (h : OnlyRegs l s t) : OnlyRegs l s (t.setCond p k) :=
  OnlyRegs.setReg ha h
theorem OnlyRegs.settle {l} {s t : State} (h : OnlyRegs l s t) : OnlyRegs l s t.settle := by
  intro b hb hd
  rw [reg_settle _ hd]
  exact h b hb hd
theorem OnlyRegs.congr {l} {s t u : State} (e : u.regs = t.regs) (h : OnlyRegs l s t) : OnlyRegs l s u := by
  intro b hb hd
  rw [← h b hb hd]; unfold State.reg; rw [e]
theorem OnlyRegs.trans {l} {s t u : State} (h : OnlyRegs l s t) (k : OnlyRegs l t u) : OnlyRegs l s u :=
  fun b hb hd => (k b hb hd).trans (h b hb hd)

/-! ### Operations that leave every register -/

theorem OnlyRegs.emit {lst : List Nat} {s₀ s₁ : State} {o : Out} (hx : OnlyRegs lst s₀ s₁) :
    OnlyRegs lst s₀ (s₁.emit o) :=
  hx.congr (State.emit_regs ..)
theorem OnlyRegs.poke {lst : List Nat} {s₀ s₁ : State} {a : Nat} {b : List Byte} (hx : OnlyRegs lst s₀ s₁) :
    OnlyRegs lst s₀ (s₁.poke a b) :=
  hx.congr (State.poke_regs ..)
theorem OnlyRegs.setRing {lst : List Nat} {s₀ s₁ : State} {n : Nat} {r : Ring} (hx : OnlyRegs lst s₀ s₁) :
    OnlyRegs lst s₀ (s₁.setRing n r) :=
  hx.congr (State.setRing_regs ..)
theorem OnlyRegs.setRate {lst : List Nat} {s₀ s₁ : State} {r : Int} (hx : OnlyRegs lst s₀ s₁) :
    OnlyRegs lst s₀ (s₁.setRate r) :=
  hx.congr (State.setRate_regs ..)
theorem OnlyRegs.setBar4 {lst : List Nat} {s₀ s₁ : State} {a : Nat} {w : Word} (hx : OnlyRegs lst s₀ s₁) :
    OnlyRegs lst s₀ (s₁.setBar4 a w) :=
  hx.congr (State.setBar4_regs ..)
theorem OnlyRegs.setPort {lst : List Nat} {s₀ s₁ : State} {p : Nat} {r : PortRt} (hx : OnlyRegs lst s₀ s₁) :
    OnlyRegs lst s₀ (s₁.setPort p r) :=
  hx.congr (State.setPort_regs ..)
theorem OnlyRegs.setEvt {lst : List Nat} {s₀ s₁ : State} {e : Events} (hx : OnlyRegs lst s₀ s₁) :
    OnlyRegs lst s₀ (s₁.setEvt e) :=
  hx.congr (State.setEvt_regs ..)
theorem OnlyRegs.dropCommand {lst : List Nat} {s₀ s₁ : State} {n : Nat} (hx : OnlyRegs lst s₀ s₁) :
    OnlyRegs lst s₀ (s₁.dropCommand n) :=
  hx.congr (State.dropCommand_regs ..)
theorem OnlyRegs.setServo {lst : List Nat} {s₀ s₁ : State} {n : Nat} {x : Servo} (hx : OnlyRegs lst s₀ s₁) :
    OnlyRegs lst s₀ (s₁.setServo n x) :=
  hx.congr (State.setServo_regs ..)
theorem OnlyRegs.setCyc {lst : List Nat} {s₀ s₁ : State} {c : Cycles} (hx : OnlyRegs lst s₀ s₁) :
    OnlyRegs lst s₀ (s₁.setCyc c) :=
  hx.congr (State.setCyc_regs ..)
theorem OnlyRegs.setPtp {lst : List Nat} {s₀ s₁ : State} {p : Ptp} (hx : OnlyRegs lst s₀ s₁) :
    OnlyRegs lst s₀ (s₁.setPtp p) :=
  hx.congr (State.setPtp_regs ..)
theorem OnlyRegs.setTout {lst : List Nat} {s₀ s₁ : State} {k : Nat} {t : Tout} (hx : OnlyRegs lst s₀ s₁) :
    OnlyRegs lst s₀ (s₁.setTout k t) :=
  hx.congr (State.setTout_regs ..)
theorem OnlyRegs.setTcap {lst : List Nat} {s₀ s₁ : State} {k : Nat} {t : Tcap} (hx : OnlyRegs lst s₀ s₁) :
    OnlyRegs lst s₀ (s₁.setTcap k t) :=
  hx.congr (State.setTcap_regs ..)
theorem OnlyRegs.setCredit {lst : List Nat} {s₀ s₁ : State} {t : Nat} {c : Credit} (hx : OnlyRegs lst s₀ s₁) :
    OnlyRegs lst s₀ (s₁.setCredit t c) :=
  hx.congr (State.setCredit_regs ..)
theorem OnlyRegs.setHouse {lst : List Nat} {s₀ s₁ : State} {h : House} (hx : OnlyRegs lst s₀ s₁) :
    OnlyRegs lst s₀ (s₁.setHouse h) :=
  hx.congr (State.setHouse_regs ..)
theorem OnlyRegs.setTele {lst : List Nat} {s₀ s₁ : State} {t : Nat} {r : TileRt} (hx : OnlyRegs lst s₀ s₁) :
    OnlyRegs lst s₀ (s₁.setTele t r) :=
  hx.congr (State.setTele_regs ..)
theorem OnlyRegs.setJob {lst : List Nat} {s₀ s₁ : State} {j : Option TileJob} (hx : OnlyRegs lst s₀ s₁) :
    OnlyRegs lst s₀ (s₁.setJob j) :=
  hx.congr (State.setJob_regs ..)
theorem OnlyRegs.setFlow {lst : List Nat} {s₀ s₁ : State} {f : Nat} {r : FlowRt} (hx : OnlyRegs lst s₀ s₁) :
    OnlyRegs lst s₀ (s₁.setFlow f r) :=
  hx.congr (State.setFlow_regs ..)
theorem OnlyRegs.setView {lst : List Nat} {s₀ s₁ : State} {v : Nat} {r : ViewRt} (hx : OnlyRegs lst s₀ s₁) :
    OnlyRegs lst s₀ (s₁.setView v r) :=
  hx.congr (State.setView_regs ..)
theorem OnlyRegs.setPlay {lst : List Nat} {s₀ s₁ : State} {p : Playout} (hx : OnlyRegs lst s₀ s₁) :
    OnlyRegs lst s₀ (s₁.setPlay p) :=
  hx.congr (State.setPlay_regs ..)
theorem OnlyRegs.setPow {lst : List Nat} {s₀ s₁ : State} {p : Power} (hx : OnlyRegs lst s₀ s₁) :
    OnlyRegs lst s₀ (s₁.setPow p) :=
  hx.congr (State.setPow_regs ..)
theorem OnlyRegs.setDrive {lst : List Nat} {s₀ s₁ : State} {d : Nat} {x : Drive} (hx : OnlyRegs lst s₀ s₁) :
    OnlyRegs lst s₀ (s₁.setDrive d x) :=
  hx.congr (State.setDrive_regs ..)
theorem OnlyRegs.setLatch {lst : List Nat} {s₀ s₁ : State} {seat a v : Nat} (hx : OnlyRegs lst s₀ s₁) :
    OnlyRegs lst s₀ (s₁.setLatch seat a v) :=
  hx.congr (State.setLatch_regs ..)
theorem OnlyRegs.setHalf {lst : List Nat} {s₀ s₁ : State} {who a : Nat} {v : Option Word} (hx : OnlyRegs lst s₀ s₁) :
    OnlyRegs lst s₀ (s₁.setHalf who a v) :=
  hx.congr (State.setHalf_regs ..)

end Sys2Proof.Machine
end

