-- ==== Sys2Proof/Laws/Directory.lean ====
section
/-!
SUPPORT. Bytes of drives, little-endian words, CRC-32C, and what a directory that `makeDir` makes reads as.
-/
namespace Sys2Proof.Machine

/-! ### Bytes of a drive -/

/-- A byte after bytes from an address on have been written. -/
theorem look_written (bs : List Byte) (m : Sparse Byte) (a k j : Nat) :
    look 0 ((bs.zipIdx k).foldl (fun m b => ins 0 (a + b.2) b.1 m) m) j =
      if h : a + k ≤ j ∧ j < a + k + bs.length then bs[j - (a + k)] else look 0 m j := by
  induction bs generalizing m k with
  | nil => simp <;> omega
  | cons x t ih =>
    rw [List.zipIdx_cons, List.foldl_cons, ih]
    by_cases h1 : a + (k + 1) ≤ j ∧ j < a + (k + 1) + t.length
    · have h2 : a + k ≤ j ∧ j < a + k + (x :: t).length := by simp only [List.length_cons]; omega
      rw [dif_pos h1, dif_pos h2]
      have e : j - (a + k) = (j - (a + (k + 1))) + 1 := by omega
      simp only [e, List.getElem_cons_succ]
    · rw [dif_neg h1]
      by_cases h3 : j = a + k
      · subst h3
        rw [look_ins_same, dif_pos (by simp)]
        simp
      · rw [look_ins_ne _ _ _ _ h3, dif_neg (by simp only [List.length_cons]; omega)]

/-- Bytes written are read back. -/
theorem Drive.bytes_put (x : Drive) (a : Nat) (bs : List Byte) : (x.put a bs).bytes a bs.length = bs := by
  unfold Drive.bytes Drive.put
  refine List.ext_getElem (by simp) (fun i h1 h2 => ?_)
  simp only [List.getElem_map, List.getElem_range]
  rw [look_written, dif_pos (by omega)]
  simp

/-- Bytes elsewhere stay. -/
theorem Drive.bytes_put_apart (x : Drive) (a b n : Nat) (bs : List Byte) (h : b + n ≤ a ∨ a + bs.length ≤ b) :
    (x.put a bs).bytes b n = x.bytes b n := by
  unfold Drive.bytes Drive.put
  refine List.ext_getElem (by simp) (fun i h1 h2 => ?_)
  simp only [List.length_map, List.length_range] at h1
  simp only [List.getElem_map, List.getElem_range]
  rw [look_written, dif_neg (by omega)]

/-! ### Words and CRC -/

/-- A number below 256^n is its n bytes. -/
theorem leNat_leBytes (n v : Nat) (h : v < 256 ^ n) : leNat (leBytes n v) = v := by
  unfold leBytes
  induction n generalizing v with
  | zero => simp [leNat]; omega
  | succ n ih =>
    rw [List.range_succ_eq_map, List.map_cons, List.map_map]
    show (BitVec.ofNat 8 (v >>> (8 * 0))).toNat + 256 * leNat _ = v
    have e : (List.range n).map ((fun i => BitVec.ofNat 8 (v >>> (8 * i))) ∘ Nat.succ) =
        (List.range n).map (fun i => BitVec.ofNat 8 ((v / 256) >>> (8 * i))) := by
      refine List.map_congr_left (fun i _ => ?_)
      show BitVec.ofNat 8 (v >>> (8 * (i + 1))) = _
      rw [Nat.mul_add, Nat.mul_one, Nat.add_comm (8 * i) 8, Nat.shiftRight_add, Nat.shiftRight_eq_div_pow v 8]
    rw [e, ih (v / 256) (by rw [Nat.pow_succ] at h; omega)]
    simp only [Nat.mul_zero, Nat.shiftRight_zero, BitVec.toNat_ofNat]
    omega

@[simp] theorem length_leBytes (n v : Nat) : (leBytes n v).length = n := by simp [leBytes]

theorem crcBit_lt {v : Nat} (h : v < 2 ^ 32) : crcBit 0x82F63B78 v < 2 ^ 32 := by
  unfold crcBit
  split
  · exact Nat.xor_lt_two_pow (by omega) (by decide)
  · omega

theorem iter_crcBit_lt (n : Nat) {v : Nat} (h : v < 2 ^ 32) : iter (crcBit 0x82F63B78) n v < 2 ^ 32 := by
  induction n generalizing v with
  | zero => exact h
  | succ n ih => exact ih (crcBit_lt h)

/-- A CRC-32C has 32 bits. -/
theorem crc32c_lt (bs : List Byte) : crc32c bs < 2 ^ 32 := by
  have h : ∀ (l : List Byte) (v : Nat), v < 2 ^ 32 → l.foldl (fun v b => crcByte 0x82F63B78 v b.toNat) v < 2 ^ 32 := by
    intro l
    induction l with
    | nil => exact fun v h => h
    | cons b t ih =>
      intro v hv
      refine ih _ (iter_crcBit_lt 8 (Nat.xor_lt_two_pow hv ?_))
      have := b.isLt
      omega
  exact Nat.xor_lt_two_pow (h bs _ (by decide)) (by decide)

/-! ### Directories -/

/-- The header of a directory before its last word. -/
def dirHead (gen units : Nat) : List Byte :=
  (([0x5A57534400010000, gen * 2 ^ 32, units * 2 ^ 32, 0, 0, 0, 0] : List Nat).map (leBytes 8)).flatten

theorem length_dirHead (gen units : Nat) : (dirHead gen units).length = 56 := by simp [dirHead]

theorem makeDir_eq (gen units : Nat) (es : List Byte) :
    makeDir gen units es = dirHead gen units ++ (leBytes 8 (crc32c (dirHead gen units ++ es)) ++ es) := by
  unfold makeDir dirHead
  simp only [List.append_assoc]

theorem length_makeDir (gen units : Nat) (es : List Byte) : (makeDir gen units es).length = 64 + es.length := by
  rw [makeDir_eq, List.length_append, length_dirHead, List.length_append, length_leBytes]
  omega

/-- What follows the header. -/
theorem drop_makeDir (gen units : Nat) (es : List Byte) : (makeDir gen units es).drop 64 = es := by
  rw [makeDir_eq, ← List.append_assoc]
  exact List.drop_left' (by rw [List.length_append, length_dirHead, length_leBytes])

/-- An entry of a directory. -/
theorem dirEntry_makeDir (gen units e : Nat) (es : List Byte) :
    dirEntry (makeDir gen units es) e = (es.drop (64 * e)).take 64 := by
  unfold dirEntry
  rw [show 64 * (e + 1) = 64 + 64 * e from by omega, ← List.drop_drop, drop_makeDir]

/-- A directory that the engine makes is valid (R547). -/
theorem dirValid_makeDir (gen units : Nat) (es : List Byte) : dirValid (makeDir gen units es) = true := by
  have h0 : entryWord (makeDir gen units es) 0 = 0x5A57534400010000 := by
    unfold entryWord
    rw [makeDir_eq, Nat.mul_zero, List.drop_zero,
      List.take_append_of_le_length (by rw [length_dirHead]; omega)]
    show leNat ((dirHead gen units).take 8) = _
    have e : (dirHead gen units).take 8 = leBytes 8 0x5A57534400010000 := by
      unfold dirHead
      rw [List.map_cons, List.flatten_cons]
      exact List.take_left' (length_leBytes 8 _)
    rw [e]
    decide +kernel
  have h7 : entryWord (makeDir gen units es) 7 = crc32c (dirHead gen units ++ es) := by
    unfold entryWord
    rw [makeDir_eq, List.drop_left' (length_dirHead gen units), List.take_left' (length_leBytes 8 _)]
    exact leNat_leBytes 8 _ (Nat.lt_of_lt_of_le (crc32c_lt _) (by decide))
  have ht : (makeDir gen units es).take 56 = dirHead gen units := by
    rw [makeDir_eq]
    exact List.take_left' (length_dirHead gen units)
  unfold dirValid
  rw [h0, h7, ht, drop_makeDir]
  have hc : bitsOf (crc32c (dirHead gen units ++ es)) 0 32 = crc32c (dirHead gen units ++ es) := by
    unfold bitsOf
    rw [Nat.shiftRight_zero, Nat.mod_eq_of_lt (crc32c_lt _)]
  rw [hc]
  show (true && (crc32c (dirHead gen units ++ es) == crc32c (dirHead gen units ++ es))) = true
  rw [Bool.true_and]
  exact beq_self_eq_true _

/-- Erased bytes hold no valid directory. -/
theorem dirValid_zeros (n : Nat) : dirValid (List.replicate n 0) = false := by
  have h : entryWord (List.replicate n 0) 0 = 0 := by
    unfold entryWord
    rw [Nat.mul_zero, List.drop_zero, List.take_replicate]
    generalize min 8 n = k
    induction k with
    | zero => rfl
    | succ k ih => rw [List.replicate_succ]; show (0 : Byte).toNat + 256 * leNat _ = 0; rw [ih]; rfl
  unfold dirValid
  rw [h]
  rfl

/-- A drive with a directory as its first copy and nothing else: that copy is in force. -/
theorem inForce_put (x : Drive) (b : List Byte) (h : x.cells = []) (hb : dirValid b = true) (hn : b.length = dirBytes) :
    (x.put 0 b).inForce = some 0 ∧ (x.put 0 b).copy 0 = b := by
  have h0 : (x.put 0 b).copy 0 = b := by
    unfold Drive.copy
    rw [Nat.zero_mul, ← hn]
    exact x.bytes_put 0 b
  have h1 : (x.put 0 b).copy 1 = List.replicate dirBytes 0 := by
    unfold Drive.copy
    rw [Drive.bytes_put_apart _ _ _ _ _ (Or.inr (by rw [hn]; decide))]
    unfold Drive.bytes
    rw [h]
    exact List.ext_getElem (by simp) (fun i _ _ => by simp [look])
  refine ⟨?_, h0⟩
  unfold Drive.inForce
  rw [h0, h1, hb, dirValid_zeros]
  rfl

/-- The directory in force is that of the lower-numbered READY drive. -/
theorem directory_of (s : State) (d : Nat) (ds : List Nat) (hr : s.readers = d :: ds) :
    s.directory = ((s.drive d).inForce).map (fun i => (i, (s.drive d).copy i)) := by
  unfold State.directory
  rw [hr]

/-- Its copy in force, when that drive has one. -/
theorem directory_eq (s : State) (d : Nat) (ds : List Nat) (x : Drive) (i : Nat) (b : List Byte) (hr : s.readers = d :: ds)
    (hd : s.drive d = x) (hi : x.inForce = some i) (hb : x.copy i = b) : s.directory = some (i, b) := by
  rw [directory_of s d ds hr, hd, hi, Option.map_some, hb]

/-- An extent is free when its entry has TYPE 0. -/
theorem extent_of (s : State) (i e : Nat) (b : List Byte) (h : s.directory = some (i, b)) :
    s.extent e = if entType (dirEntry b e) = 0 then none else some (dirEntry b e) := by
  unfold State.extent
  rw [h]

end Sys2Proof.Machine
end

