-- ==== Sys2Proof/Laws/KeptWrites.lean ====
section
/-!
SUPPORT. What the commands that write one register keep.
-/
namespace Sys2Proof.Machine

theorem keep_execRestart (seat : SeatNo) (s t : State) (h : execRestart seat s = .next t) :
    Keeps 0x3dffffffffffffffffffff s t := by
  unfold execRestart at h
  cases h
  refine keeps_hostWrite_page (by decide) (locate_sys (o := 0x008) (by decide)) (by show plainAt .sys 0x008 = true; decide) rfl (by decide) (by decide) (by show Nat.testBit _ 0 = true; decide) rfl (.inl rfl) (fun s was => ?_)
  unfold State.doAction
  dsimp only
  rw [if_neg (by decide)]
  unfold State.doPlain
  try dsimp only
  repeat' (first
    | rw [if_pos (by decide)]
    | rw [if_neg (by decide)]
    | rw [if_neg (fun h => absurd h.1 (by decide))]
    | with_reducible exact Keeps.refl _
    | with_reducible apply keeps_when_on
    | with_reducible apply Keeps.via (kept_settle ..) (by decide)
    | with_reducible apply Keeps.via (kept_restart ..) (by decide))

theorem keep_execRingAllocate (seat : SeatNo) (s t : State) (h : execRingAllocate seat s = .next t) :
    Keeps 0x800020410f8b00400240 s t := by
  unfold execRingAllocate at h
  cases h
  refine keeps_hostWrite_page (by decide) (locate_ring (o := 0x100) (by decide)) (by show plainAt .ring 0x100 = true; decide) rfl (by decide) (by decide) (by show Nat.testBit _ 9 = true; decide) rfl (.inr (by decide)) (fun s was => ?_)
  unfold State.doAction
  dsimp only
  rw [if_neg (by decide)]
  unfold State.doPlain
  try dsimp only
  repeat' (first
    | rw [if_pos (by decide)]
    | rw [if_neg (by decide)]
    | rw [if_neg (fun h => absurd h.1 (by decide))]
    | with_reducible exact Keeps.refl _
    | with_reducible apply keeps_when_on
    | with_reducible apply Keeps.via (kept_settle ..) (by decide)
    | with_reducible apply Keeps.via (kept_ringOp ..) (by decide)
    | with_reducible apply Keeps.via (kept_grantTile ..) (by decide)
    | with_reducible apply keeps_ite
    | (intro _))

theorem keep_execRingConfigure (seat : SeatNo) (ring : RingNo) (s t : State) (h : execRingConfigure seat ring s = .next t) :
    Keeps 0x800020410f8b00400240 s t := by
  unfold execRingConfigure at h
  cases h
  refine keeps_hostWrite_page (by decide) (locate_ring (o := 0x100) (by decide)) (by show plainAt .ring 0x100 = true; decide) rfl (by decide) (by decide) (by show Nat.testBit _ 9 = true; decide) rfl (.inr (by decide)) (fun s was => ?_)
  unfold State.doAction
  dsimp only
  rw [if_neg (by decide)]
  unfold State.doPlain
  try dsimp only
  repeat' (first
    | rw [if_pos (by decide)]
    | rw [if_neg (by decide)]
    | rw [if_neg (fun h => absurd h.1 (by decide))]
    | with_reducible exact Keeps.refl _
    | with_reducible apply keeps_when_on
    | with_reducible apply Keeps.via (kept_settle ..) (by decide)
    | with_reducible apply Keeps.via (kept_ringOp ..) (by decide)
    | with_reducible apply Keeps.via (kept_grantTile ..) (by decide)
    | with_reducible apply keeps_ite
    | (intro _))

theorem keep_execRingRelease (seat : SeatNo) (ring : RingNo) (s t : State) (h : execRingRelease seat ring s = .next t) :
    Keeps 0x800020410f8b00400240 s t := by
  unfold execRingRelease at h
  cases h
  refine keeps_hostWrite_page (by decide) (locate_ring (o := 0x100) (by decide)) (by show plainAt .ring 0x100 = true; decide) rfl (by decide) (by decide) (by show Nat.testBit _ 9 = true; decide) rfl (.inr (by decide)) (fun s was => ?_)
  unfold State.doAction
  dsimp only
  rw [if_neg (by decide)]
  unfold State.doPlain
  try dsimp only
  repeat' (first
    | rw [if_pos (by decide)]
    | rw [if_neg (by decide)]
    | rw [if_neg (fun h => absurd h.1 (by decide))]
    | with_reducible exact Keeps.refl _
    | with_reducible apply keeps_when_on
    | with_reducible apply Keeps.via (kept_settle ..) (by decide)
    | with_reducible apply Keeps.via (kept_ringOp ..) (by decide)
    | with_reducible apply Keeps.via (kept_grantTile ..) (by decide)
    | with_reducible apply keeps_ite
    | (intro _))

theorem keep_execRingResetIndices (seat : SeatNo) (ring : RingNo) (s t : State) (h : execRingResetIndices seat ring s = .next t) :
    Keeps 0x800020410f8b00400240 s t := by
  unfold execRingResetIndices at h
  cases h
  refine keeps_hostWrite_page (by decide) (locate_ring (o := 0x100) (by decide)) (by show plainAt .ring 0x100 = true; decide) rfl (by decide) (by decide) (by show Nat.testBit _ 9 = true; decide) rfl (.inr (by decide)) (fun s was => ?_)
  unfold State.doAction
  dsimp only
  rw [if_neg (by decide)]
  unfold State.doPlain
  try dsimp only
  repeat' (first
    | rw [if_pos (by decide)]
    | rw [if_neg (by decide)]
    | rw [if_neg (fun h => absurd h.1 (by decide))]
    | with_reducible exact Keeps.refl _
    | with_reducible apply keeps_when_on
    | with_reducible apply Keeps.via (kept_settle ..) (by decide)
    | with_reducible apply Keeps.via (kept_ringOp ..) (by decide)
    | with_reducible apply Keeps.via (kept_grantTile ..) (by decide)
    | with_reducible apply keeps_ite
    | (intro _))

theorem keep_execEthClear (seat : SeatNo) (port : PortNo) (s t : State) (h : execEthClear seat port s = .next t) :
    Keeps 0x80002001038800004040 s t := by
  unfold execEthClear at h
  cases h
  refine keeps_hostWrite_page (by unfold pEth; omega) (locate_eth (k := port.val) (o := 0x160) port.isLt (by decide)) (by show plainAt .eth 0x160 = true; decide) rfl (by decide) (by decide) (by show Nat.testBit _ 14 = true; decide) rfl (.inl rfl) (fun s was => ?_)
  unfold State.doAction
  dsimp only
  rw [if_neg (by decide)]
  unfold State.doPlain
  try dsimp only
  repeat' (first
    | rw [if_pos (by decide)]
    | rw [if_neg (by decide)]
    | rw [if_neg (fun h => absurd h.1 (by decide))]
    | with_reducible exact Keeps.refl _
    | with_reducible apply keeps_when_on
    | with_reducible apply Keeps.via (kept_settle ..) (by decide)
    | with_reducible apply Keeps.via (kept_ethClear ..) (by decide))

theorem keep_execFlowClear (seat : SeatNo) (flow : FlowNo) (s t : State) (h : execFlowClear seat flow s = .next t) :
    Keeps 0x80002001838810008040 s t := by
  unfold execFlowClear at h
  cases h
  refine keeps_hostWrite (i := 15) (by unfold pFlow; omega) (locate_flow (k := flow.val) (o := 0x3FC) flow.isLt (by decide)) (by show plainAt .flow 0x3FC = true; decide) (by decide) (by decide) (by show Nat.testBit _ 28 = true; decide)
    (by decide) (by show pgIn 15 pIng 0x1000; unfold pgIn; decide) rfl (.inl rfl) (fun s was => ?_)
  unfold State.doAction
  dsimp only
  rw [if_neg (by decide)]
  unfold State.doPlain
  try dsimp only
  repeat' (first
    | rw [if_pos (by decide)]
    | rw [if_neg (by decide)]
    | rw [if_neg (fun h => absurd h.1 (by decide))]
    | with_reducible exact Keeps.refl _
    | with_reducible apply keeps_when_on
    | with_reducible apply Keeps.via (kept_settle ..) (by decide)
    | with_reducible apply Keeps.via (kept_flowClear ..) (by decide))

theorem keep_execIngPush (seat : SeatNo) (flow : FlowNo) (s t : State) (h : execIngPush seat flow s = .next t) :
    Keeps 0x80002001838800008040 s t := by
  unfold execIngPush at h
  cases h
  refine keeps_hostWrite_page (by decide) (locate_ing (o := 0x100) (by decide)) (by show plainAt .ing 0x100 = true; decide) rfl (by decide) (by decide) (by show Nat.testBit _ 15 = true; decide) rfl (.inl rfl) (fun s was => ?_)
  unfold State.doAction
  dsimp only
  rw [if_neg (by decide)]
  unfold State.doPlain
  try dsimp only
  repeat' (first
    | rw [if_pos (by decide)]
    | rw [if_neg (by decide)]
    | rw [if_neg (fun h => absurd h.1 (by decide))]
    | with_reducible exact Keeps.refl _
    | with_reducible apply keeps_when_on
    | with_reducible apply Keeps.via (kept_settle ..) (by decide)
    | with_reducible apply Keeps.via (kept_ingPush ..) (by decide))

theorem keep_execCommitCancel (seat : SeatNo) (group : Byte) (s t : State) (h : execCommitCancel seat group s = .next t) :
    Keeps 0x8000200143890fffffff s t := by
  unfold execCommitCancel at h
  cases h
  refine keeps_hostWrite_page (by decide) (locate_cmp (o := 0x518) (by decide)) (by show plainAt .cmp 0x518 = true; decide) rfl (by decide) (by decide) (by show Nat.testBit _ 16 = true; decide) rfl (.inr (by decide)) (fun s was => ?_)
  unfold State.doAction
  dsimp only
  rw [if_neg (by decide)]
  unfold State.doCmp
  try dsimp only
  repeat' (first
    | rw [if_pos (by decide)]
    | rw [if_neg (by decide)]
    | rw [if_neg (fun h => absurd h.1 (by decide))]
    | with_reducible exact Keeps.refl _
    | with_reducible apply keeps_when_on
    | with_reducible apply Keeps.via (kept_settle ..) (by decide)
    | with_reducible apply Keeps.via (kept_cancelGo ..) (by decide)
    | with_reducible apply keeps_ite)

theorem keep_execResponseLoad (seat : SeatNo) (countM1 first : Byte) (s t : State) (h : execResponseLoad seat countM1 first s = .next t) :
    Keeps 0x80012001038800100040 s t := by
  unfold execResponseLoad at h
  cases h
  refine keeps_hostWrite_page (by decide) (locate_cor (o := 0x118) (by decide)) (by show plainAt .cor 0x118 = true; decide) rfl (by decide) (by decide) (by show Nat.testBit _ 20 = true; decide) rfl (.inl rfl) (fun s was => ?_)
  unfold State.doAction
  dsimp only
  rw [if_neg (by decide)]
  unfold State.doPlain
  try dsimp only
  repeat' (first
    | rw [if_pos (by decide)]
    | rw [if_neg (by decide)]
    | rw [if_neg (fun h => absurd h.1 (by decide))]
    | with_reducible exact Keeps.refl _
    | with_reducible apply keeps_when_on
    | with_reducible apply Keeps.via (kept_settle ..) (by decide)
    | with_reducible apply Keeps.via (kept_respGo ..) (by decide)
    | with_reducible apply keeps_ite)

theorem keep_execMapProbe (seat : SeatNo) (x y : BitVec 16) (s t : State) (h : execMapProbe seat x y s = .next t) :
    Keeps 0x80002001038800080040 s t := by
  unfold execMapProbe at h
  cases h
  refine keeps_hostWrite_page (by decide) (locate_map (o := 0x110) (by decide)) (by show plainAt .map 0x110 = true; decide) rfl (by decide) (by decide) (by show Nat.testBit _ 19 = true; decide) rfl (.inl rfl) (fun s was => ?_)
  unfold State.doAction
  dsimp only
  rw [if_neg (by decide)]
  unfold State.doPlain
  try dsimp only
  repeat' (first
    | rw [if_pos (by decide)]
    | rw [if_neg (by decide)]
    | rw [if_neg (fun h => absurd h.1 (by decide))]
    | with_reducible exact Keeps.refl _)

theorem keep_execStepAuthorise (seat : SeatNo) (s t : State) (h : execStepAuthorise seat s = .next t) :
    Keeps 0x80002001438800000440 s t := by
  unfold execStepAuthorise at h
  cases h
  refine keeps_hostWrite_page (by decide) (locate_time (o := 0x150) (by decide)) (by show plainAt .time 0x150 = true; decide) rfl (by decide) (by decide) (by show Nat.testBit _ 10 = true; decide) rfl (.inl rfl) (fun s was => ?_)
  unfold State.doAction
  dsimp only
  rw [if_neg (by decide)]
  unfold State.doTime
  try dsimp only
  repeat' (first
    | rw [if_pos (by decide)]
    | rw [if_neg (by decide)]
    | rw [if_neg (fun h => absurd h.1 (by decide))]
    | with_reducible exact Keeps.refl _
    | with_reducible apply keeps_when_on
    | with_reducible apply Keeps.via (kept_settle ..) (by decide)
    | with_reducible apply Keeps.via (kept_stepCtl ..) (by decide))

theorem keep_execStepApplyValue (seat : SeatNo) (s t : State) (h : execStepApplyValue seat s = .next t) :
    Keeps 0x80002001438800000440 s t := by
  unfold execStepApplyValue at h
  cases h
  refine keeps_hostWrite_page (by decide) (locate_time (o := 0x150) (by decide)) (by show plainAt .time 0x150 = true; decide) rfl (by decide) (by decide) (by show Nat.testBit _ 10 = true; decide) rfl (.inl rfl) (fun s was => ?_)
  unfold State.doAction
  dsimp only
  rw [if_neg (by decide)]
  unfold State.doTime
  try dsimp only
  repeat' (first
    | rw [if_pos (by decide)]
    | rw [if_neg (by decide)]
    | rw [if_neg (fun h => absurd h.1 (by decide))]
    | with_reducible exact Keeps.refl _
    | with_reducible apply keeps_when_on
    | with_reducible apply Keeps.via (kept_settle ..) (by decide)
    | with_reducible apply Keeps.via (kept_stepCtl ..) (by decide))

theorem keep_execStepWithdraw (seat : SeatNo) (s t : State) (h : execStepWithdraw seat s = .next t) :
    Keeps 0x80002001438800000440 s t := by
  unfold execStepWithdraw at h
  cases h
  refine keeps_hostWrite_page (by decide) (locate_time (o := 0x150) (by decide)) (by show plainAt .time 0x150 = true; decide) rfl (by decide) (by decide) (by show Nat.testBit _ 10 = true; decide) rfl (.inl rfl) (fun s was => ?_)
  unfold State.doAction
  dsimp only
  rw [if_neg (by decide)]
  unfold State.doTime
  try dsimp only
  repeat' (first
    | rw [if_pos (by decide)]
    | rw [if_neg (by decide)]
    | rw [if_neg (fun h => absurd h.1 (by decide))]
    | with_reducible exact Keeps.refl _
    | with_reducible apply keeps_when_on
    | with_reducible apply Keeps.via (kept_settle ..) (by decide)
    | with_reducible apply Keeps.via (kept_stepCtl ..) (by decide))

theorem keep_execSyncSrcChange (seat : SeatNo) (value : Word) (s t : State) (h : execSyncSrcChange seat value s = .next t) :
    Keeps 0x80003b01438800001440 s t := by
  unfold execSyncSrcChange at h
  cases h
  refine keeps_hostWrite_page (by decide) (locate_time (o := 0x100) (by decide)) (by show plainAt .time 0x100 = true; decide) rfl (by decide) (by decide) (by show Nat.testBit _ 10 = true; decide) rfl (.inl rfl) (fun s was => ?_)
  unfold State.doAction
  dsimp only
  rw [if_neg (by decide)]
  unfold State.doTime
  try dsimp only
  repeat' (first
    | rw [if_pos (by decide)]
    | rw [if_neg (by decide)]
    | rw [if_neg (fun h => absurd h.1 (by decide))]
    | with_reducible exact Keeps.refl _
    | with_reducible apply keeps_when_on
    | with_reducible apply Keeps.via (kept_settle ..) (by decide)
    | with_reducible apply Keeps.via (kept_hearMasters ..) (by decide)
    | with_reducible apply Keeps.via (kept_judgePps ..) (by decide)
    | with_reducible apply Keeps.via (kept_hearMasters ..) (by decide)
    | with_reducible apply Keeps.via (kept_judgePps ..) (by decide)
    | with_reducible apply Keeps.via (kept_syncSrcChanged ..) (by decide))

theorem keep_execMemRetrain (seat : SeatNo) (s t : State) (h : execMemRetrain seat s = .next t) :
    Keeps 0x80002031038803000040 s t := by
  unfold execMemRetrain at h
  cases h
  refine keeps_hostWrite_page (by decide) (locate_mem (o := 0x008) (by decide)) (by show plainAt .mem 0x008 = true; decide) rfl (by decide) (by decide) (by show Nat.testBit _ 24 = true; decide) rfl (.inl rfl) (fun s was => ?_)
  unfold State.doAction
  dsimp only
  rw [if_neg (by decide)]
  unfold State.doPlain
  try dsimp only
  repeat' (first
    | rw [if_pos (by decide)]
    | rw [if_neg (by decide)]
    | rw [if_neg (fun h => absurd h.1 (by decide))]
    | with_reducible exact Keeps.refl _
    | with_reducible apply keeps_when_on
    | with_reducible apply Keeps.via (kept_settle ..) (by decide)
    | with_reducible apply Keeps.via (kept_retrainMem ..) (by decide))

theorem keep_execRescan (seat : SeatNo) (s t : State) (h : execRescan seat s = .next t) :
    Keeps 0x80042081038800000048 s t := by
  unfold execRescan at h
  cases h
  refine keeps_hostWrite_page (by decide) (locate_hk (o := 0x008) (by decide)) (by show plainAt .hk 0x008 = true; decide) rfl (by decide) (by decide) (by show Nat.testBit _ 3 = true; decide) rfl (.inl rfl) (fun s was => ?_)
  unfold State.doAction
  dsimp only
  rw [if_neg (by decide)]
  unfold State.doHk
  try dsimp only
  repeat' (first
    | rw [if_pos (by decide)]
    | rw [if_neg (by decide)]
    | rw [if_neg (fun h => absurd h.1 (by decide))]
    | with_reducible exact Keeps.refl _
    | with_reducible apply keeps_when_on
    | with_reducible apply Keeps.via (kept_settle ..) (by decide)
    | with_reducible apply Keeps.via (kept_scanStarts ..) (by decide))

theorem keep_execUnblank (seat : SeatNo) (zone : ZoneNo) (s t : State) (h : execUnblank seat zone s = .next t) :
    Keeps 0x80002081038800000048 s t := by
  unfold execUnblank at h
  cases h
  refine keeps_hostWrite_page (by decide) (locate_hk (o := 0x110) (by decide)) (by show plainAt .hk 0x110 = true; decide) rfl (by decide) (by decide) (by show Nat.testBit _ 3 = true; decide) rfl (.inl rfl) (fun s was => ?_)
  unfold State.doAction
  dsimp only
  rw [if_neg (by decide)]
  unfold State.doHk
  try dsimp only
  repeat' (first
    | rw [if_pos (by decide)]
    | rw [if_neg (by decide)]
    | rw [if_neg (fun h => absurd h.1 (by decide))]
    | with_reducible exact Keeps.refl _
    | with_reducible apply keeps_when_on
    | with_reducible apply Keeps.via (kept_settle ..) (by decide)
    | with_reducible apply Keeps.via (kept_setHouse ..) (by decide)
    | with_reducible apply keeps_ite)

theorem keep_execLampStateRead (seat : SeatNo) (pixel : BitVec 16) (s t : State) (h : execLampStateRead seat pixel s = .next t) :
    Keeps 0x80042081038a00000048 s t := by
  unfold execLampStateRead at h
  cases h
  refine keeps_hostWrite_page (by decide) (locate_hk (o := 0x118) (by decide)) (by show plainAt .hk 0x118 = true; decide) rfl (by decide) (by decide) (by show Nat.testBit _ 3 = true; decide) rfl (.inl rfl) (fun s was => ?_)
  unfold State.doAction
  dsimp only
  rw [if_neg (by decide)]
  unfold State.doHk
  try dsimp only
  repeat' (first
    | rw [if_pos (by decide)]
    | rw [if_neg (by decide)]
    | rw [if_neg (fun h => absurd h.1 (by decide))]
    | with_reducible exact Keeps.refl _
    | with_reducible apply keeps_when_on
    | with_reducible apply Keeps.via (kept_settle ..) (by decide)
    | with_reducible apply Keeps.via (kept_lampCmd ..) (by decide))

theorem keep_execLampStateWrite (seat : SeatNo) (pixel : BitVec 16) (state : BitVec 2) (s t : State) (h : execLampStateWrite seat pixel state s = .next t) :
    Keeps 0x80042081038a00000048 s t := by
  unfold execLampStateWrite at h
  cases h
  refine keeps_hostWrite_page (by decide) (locate_hk (o := 0x118) (by decide)) (by show plainAt .hk 0x118 = true; decide) rfl (by decide) (by decide) (by show Nat.testBit _ 3 = true; decide) rfl (.inl rfl) (fun s was => ?_)
  unfold State.doAction
  dsimp only
  rw [if_neg (by decide)]
  unfold State.doHk
  try dsimp only
  repeat' (first
    | rw [if_pos (by decide)]
    | rw [if_neg (by decide)]
    | rw [if_neg (fun h => absurd h.1 (by decide))]
    | with_reducible exact Keeps.refl _
    | with_reducible apply keeps_when_on
    | with_reducible apply Keeps.via (kept_settle ..) (by decide)
    | with_reducible apply Keeps.via (kept_lampCmd ..) (by decide))

theorem keep_execEvtpEnter (seat : SeatNo) (level : Fin 16) (s t : State) (h : execEvtpEnter seat level s = .next t) :
    Keeps 0x80002001038800024140 s t := by
  unfold execEvtpEnter at h
  cases h
  refine keeps_hostWrite_page (by unfold pEvtp; omega) (locate_evtp (k := seat.val) (o := 0x108) seat.isLt (by decide)) (by show plainAt .evtp 0x108 = true; decide) rfl (by decide) (by decide) (by show Nat.testBit _ 8 = true; decide) rfl (.inl rfl) (fun s was => ?_)
  unfold State.doAction
  dsimp only
  rw [if_neg (by decide)]
  unfold State.doEvtp
  try dsimp only
  repeat' (first
    | rw [if_pos (by decide)]
    | rw [if_neg (by decide)]
    | rw [if_neg (fun h => absurd h.1 (by decide))]
    | with_reducible exact Keeps.refl _
    | with_reducible apply keeps_when_on
    | with_reducible apply Keeps.via (kept_settle ..) (by decide)
    | with_reducible apply Keeps.via (kept_enterWrite ..) (by decide))

theorem keep_execEvtpExit (seat : SeatNo) (s t : State) (h : execEvtpExit seat s = .next t) :
    Keeps 0x80002001038800024140 s t := by
  unfold execEvtpExit at h
  cases h
  refine keeps_hostWrite_page (by unfold pEvtp; omega) (locate_evtp (k := seat.val) (o := 0x10C) seat.isLt (by decide)) (by show plainAt .evtp 0x10C = true; decide) rfl (by decide) (by decide) (by show Nat.testBit _ 8 = true; decide) rfl (.inl rfl) (fun s was => ?_)
  unfold State.doAction
  dsimp only
  rw [if_neg (by decide)]
  unfold State.doEvtp
  try dsimp only
  repeat' (first
    | rw [if_pos (by decide)]
    | rw [if_neg (by decide)]
    | rw [if_neg (fun h => absurd h.1 (by decide))]
    | with_reducible exact Keeps.refl _
    | with_reducible apply keeps_when_on
    | with_reducible apply Keeps.via (kept_settle ..) (by decide)
    | with_reducible apply Keeps.via (kept_exitWrite ..) (by decide))

theorem keep_execEvtpAlive (seat : SeatNo) (value : Word) (s t : State) (h : execEvtpAlive seat value s = .next t) :
    Keeps 0x800820014388000001c0 s t := by
  unfold execEvtpAlive at h
  cases h
  refine keeps_hostWrite_page (by unfold pEvtp; omega) (locate_evtp (k := seat.val) (o := 0x124) seat.isLt (by decide)) (by show plainAt .evtp 0x124 = true; decide) rfl (by decide) (by decide) (by show Nat.testBit _ 8 = true; decide) rfl (.inl rfl) (fun s was => ?_)
  unfold State.doAction
  dsimp only
  rw [if_neg (by decide)]
  unfold State.doEvtp
  try dsimp only
  repeat' (first
    | rw [if_pos (by decide)]
    | rw [if_neg (by decide)]
    | rw [if_neg (fun h => absurd h.1 (by decide))]
    | with_reducible exact Keeps.refl _
    | with_reducible apply keeps_when_on
    | with_reducible apply Keeps.via (kept_settle ..) (by decide)
    | with_reducible apply Keeps.via (kept_aliveWrite ..) (by decide))

theorem keep_execPlayoutStop (seat : SeatNo) (s t : State) (h : execPlayoutStop seat s = .next t) :
    Keeps 0x800820010388000000c0 s t := by
  unfold execPlayoutStop at h
  cases h
  refine keeps_hostWrite_page (by decide) (locate_evt (o := 0x144) (by decide)) (by show plainAt .evt 0x144 = true; decide) rfl (by decide) (by decide) (by show Nat.testBit _ 7 = true; decide) rfl (.inl rfl) (fun s was => ?_)
  unfold State.doAction
  dsimp only
  rw [if_neg (by decide)]
  unfold State.doPlain
  try dsimp only
  repeat' (first
    | rw [if_pos (by decide)]
    | rw [if_neg (by decide)]
    | rw [if_neg (fun h => absurd h.1 (by decide))]
    | with_reducible exact Keeps.refl _
    | with_reducible apply keeps_when_on
    | with_reducible apply Keeps.via (kept_settle ..) (by decide)
    | with_reducible apply Keeps.via (kept_playoutStop ..) (by decide))

theorem keep_execStage (seat : SeatNo) (s t : State) (h : execStage seat s = .next t) :
    Keeps 0x80202001038800000060 s t := by
  unfold execStage at h
  cases h
  refine keeps_hostWrite_page (by decide) (locate_upd (o := 0x10C) (by decide)) (by show plainAt .upd 0x10C = true; decide) rfl (by decide) (by decide) (by show Nat.testBit _ 5 = true; decide) rfl (.inl rfl) (fun s was => ?_)
  unfold State.doAction
  dsimp only
  rw [if_neg (by decide)]
  unfold State.doPlain
  try dsimp only
  repeat' (first
    | rw [if_pos (by decide)]
    | rw [if_neg (by decide)]
    | rw [if_neg (fun h => absurd h.1 (by decide))]
    | with_reducible exact Keeps.refl _
    | with_reducible apply keeps_when_on
    | with_reducible apply Keeps.via (kept_settle ..) (by decide)
    | with_reducible apply Keeps.via (kept_updCmd ..) (by decide))

theorem keep_execApply (seat : SeatNo) (s t : State) (h : execApply seat s = .next t) :
    Keeps 0x80202001038800000060 s t := by
  unfold execApply at h
  cases h
  refine keeps_hostWrite_page (by decide) (locate_upd (o := 0x10C) (by decide)) (by show plainAt .upd 0x10C = true; decide) rfl (by decide) (by decide) (by show Nat.testBit _ 5 = true; decide) rfl (.inl rfl) (fun s was => ?_)
  unfold State.doAction
  dsimp only
  rw [if_neg (by decide)]
  unfold State.doPlain
  try dsimp only
  repeat' (first
    | rw [if_pos (by decide)]
    | rw [if_neg (by decide)]
    | rw [if_neg (fun h => absurd h.1 (by decide))]
    | with_reducible exact Keeps.refl _
    | with_reducible apply keeps_when_on
    | with_reducible apply Keeps.via (kept_settle ..) (by decide)
    | with_reducible apply Keeps.via (kept_updCmd ..) (by decide))

theorem keep_execFull (seat : SeatNo) (slot : Fin 4) (s t : State) (h : execFull seat slot s = .next t) :
    Keeps 0x80202001038800000060 s t := by
  unfold execFull at h
  cases h
  refine keeps_hostWrite_page (by decide) (locate_upd (o := 0x10C) (by decide)) (by show plainAt .upd 0x10C = true; decide) rfl (by decide) (by decide) (by show Nat.testBit _ 5 = true; decide) rfl (.inl rfl) (fun s was => ?_)
  unfold State.doAction
  dsimp only
  rw [if_neg (by decide)]
  unfold State.doPlain
  try dsimp only
  repeat' (first
    | rw [if_pos (by decide)]
    | rw [if_neg (by decide)]
    | rw [if_neg (fun h => absurd h.1 (by decide))]
    | with_reducible exact Keeps.refl _
    | with_reducible apply keeps_when_on
    | with_reducible apply Keeps.via (kept_settle ..) (by decide)
    | with_reducible apply Keeps.via (kept_updCmd ..) (by decide))

theorem keep_execConfirm (seat : SeatNo) (s t : State) (h : execConfirm seat s = .next t) :
    Keeps 0x80202001038800000060 s t := by
  unfold execConfirm at h
  cases h
  refine keeps_hostWrite_page (by decide) (locate_upd (o := 0x10C) (by decide)) (by show plainAt .upd 0x10C = true; decide) rfl (by decide) (by decide) (by show Nat.testBit _ 5 = true; decide) rfl (.inl rfl) (fun s was => ?_)
  unfold State.doAction
  dsimp only
  rw [if_neg (by decide)]
  unfold State.doPlain
  try dsimp only
  repeat' (first
    | rw [if_pos (by decide)]
    | rw [if_neg (by decide)]
    | rw [if_neg (fun h => absurd h.1 (by decide))]
    | with_reducible exact Keeps.refl _
    | with_reducible apply keeps_when_on
    | with_reducible apply Keeps.via (kept_settle ..) (by decide)
    | with_reducible apply Keeps.via (kept_updCmd ..) (by decide))

theorem keep_execReject (seat : SeatNo) (s t : State) (h : execReject seat s = .next t) :
    Keeps 0x80202001038800000060 s t := by
  unfold execReject at h
  cases h
  refine keeps_hostWrite_page (by decide) (locate_upd (o := 0x10C) (by decide)) (by show plainAt .upd 0x10C = true; decide) rfl (by decide) (by decide) (by show Nat.testBit _ 5 = true; decide) rfl (.inl rfl) (fun s was => ?_)
  unfold State.doAction
  dsimp only
  rw [if_neg (by decide)]
  unfold State.doPlain
  try dsimp only
  repeat' (first
    | rw [if_pos (by decide)]
    | rw [if_neg (by decide)]
    | rw [if_neg (fun h => absurd h.1 (by decide))]
    | with_reducible exact Keeps.refl _
    | with_reducible apply keeps_when_on
    | with_reducible apply Keeps.via (kept_settle ..) (by decide)
    | with_reducible apply Keeps.via (kept_updCmd ..) (by decide))

theorem keep_execRead (seat : SeatNo) (extent : Byte) (useDest : Bool) (s t : State) (h : execRead seat extent useDest s = .next t) :
    Keeps 0x80802001038e08000040 s t := by
  unfold execRead at h
  cases h
  unfold State.nvmeWrite
  refine keeps_hostWrite_page (by decide) (locate_nvme (o := 0x118) (by decide)) (by show plainAt .nvme 0x118 = true; decide) rfl (by decide) (by decide) (by show Nat.testBit _ 27 = true; decide) rfl (.inl rfl) (fun s was => ?_)
  unfold State.doAction
  dsimp only
  rw [if_neg (by decide)]
  unfold State.doPlain
  try dsimp only
  repeat' (first
    | rw [if_pos (by decide)]
    | rw [if_neg (by decide)]
    | rw [if_neg (fun h => absurd h.1 (by decide))]
    | with_reducible exact Keeps.refl _
    | with_reducible apply keeps_when_on
    | with_reducible apply Keeps.via (kept_settle ..) (by decide)
    | with_reducible apply Keeps.via (kept_nvmeCmd ..) (by decide))

theorem keep_execWrite (seat : SeatNo) (extent : Byte) (s t : State) (h : execWrite seat extent s = .next t) :
    Keeps 0x80802001038e08000040 s t := by
  unfold execWrite at h
  cases h
  unfold State.nvmeWrite
  refine keeps_hostWrite_page (by decide) (locate_nvme (o := 0x118) (by decide)) (by show plainAt .nvme 0x118 = true; decide) rfl (by decide) (by decide) (by show Nat.testBit _ 27 = true; decide) rfl (.inl rfl) (fun s was => ?_)
  unfold State.doAction
  dsimp only
  rw [if_neg (by decide)]
  unfold State.doPlain
  try dsimp only
  repeat' (first
    | rw [if_pos (by decide)]
    | rw [if_neg (by decide)]
    | rw [if_neg (fun h => absurd h.1 (by decide))]
    | with_reducible exact Keeps.refl _
    | with_reducible apply keeps_when_on
    | with_reducible apply Keeps.via (kept_settle ..) (by decide)
    | with_reducible apply Keeps.via (kept_nvmeCmd ..) (by decide))

theorem keep_execDelete (seat : SeatNo) (extent : Byte) (s t : State) (h : execDelete seat extent s = .next t) :
    Keeps 0x80802001038e08000040 s t := by
  unfold execDelete at h
  cases h
  unfold State.nvmeWrite
  refine keeps_hostWrite_page (by decide) (locate_nvme (o := 0x118) (by decide)) (by show plainAt .nvme 0x118 = true; decide) rfl (by decide) (by decide) (by show Nat.testBit _ 27 = true; decide) rfl (.inl rfl) (fun s was => ?_)
  unfold State.doAction
  dsimp only
  rw [if_neg (by decide)]
  unfold State.doPlain
  try dsimp only
  repeat' (first
    | rw [if_pos (by decide)]
    | rw [if_neg (by decide)]
    | rw [if_neg (fun h => absurd h.1 (by decide))]
    | with_reducible exact Keeps.refl _
    | with_reducible apply keeps_when_on
    | with_reducible apply Keeps.via (kept_settle ..) (by decide)
    | with_reducible apply Keeps.via (kept_nvmeCmd ..) (by decide))

theorem keep_execFormat (seat : SeatNo) (s t : State) (h : execFormat seat s = .next t) :
    Keeps 0x80802001038e08000040 s t := by
  unfold execFormat at h
  cases h
  unfold State.nvmeWrite
  refine keeps_hostWrite_page (by decide) (locate_nvme (o := 0x118) (by decide)) (by show plainAt .nvme 0x118 = true; decide) rfl (by decide) (by decide) (by show Nat.testBit _ 27 = true; decide) rfl (.inl rfl) (fun s was => ?_)
  unfold State.doAction
  dsimp only
  rw [if_neg (by decide)]
  unfold State.doPlain
  try dsimp only
  repeat' (first
    | rw [if_pos (by decide)]
    | rw [if_neg (by decide)]
    | rw [if_neg (fun h => absurd h.1 (by decide))]
    | with_reducible exact Keeps.refl _
    | with_reducible apply keeps_when_on
    | with_reducible apply Keeps.via (kept_settle ..) (by decide)
    | with_reducible apply Keeps.via (kept_nvmeCmd ..) (by decide))

theorem keep_execResync (seat : SeatNo) (s t : State) (h : execResync seat s = .next t) :
    Keeps 0x80802001038e08000040 s t := by
  unfold execResync at h
  cases h
  unfold State.nvmeWrite
  refine keeps_hostWrite_page (by decide) (locate_nvme (o := 0x118) (by decide)) (by show plainAt .nvme 0x118 = true; decide) rfl (by decide) (by decide) (by show Nat.testBit _ 27 = true; decide) rfl (.inl rfl) (fun s was => ?_)
  unfold State.doAction
  dsimp only
  rw [if_neg (by decide)]
  unfold State.doPlain
  try dsimp only
  repeat' (first
    | rw [if_pos (by decide)]
    | rw [if_neg (by decide)]
    | rw [if_neg (fun h => absurd h.1 (by decide))]
    | with_reducible exact Keeps.refl _
    | with_reducible apply keeps_when_on
    | with_reducible apply Keeps.via (kept_settle ..) (by decide)
    | with_reducible apply Keeps.via (kept_nvmeCmd ..) (by decide))

theorem keep_execTileJobGo (seat : SeatNo) (extent : Byte) (s t : State) (h : execTileJobGo seat extent s = .next t) :
    Keeps 0x87802041038e08400060 s t := by
  unfold execTileJobGo at h
  cases h
  refine keeps_hostWrite_page (by decide) (locate_upd (o := 0x120) (by decide)) (by show plainAt .upd 0x120 = true; decide) rfl (by decide) (by decide) (by show Nat.testBit _ 5 = true; decide) rfl (.inl rfl) (fun s was => ?_)
  unfold State.doAction
  dsimp only
  rw [if_neg (by decide)]
  unfold State.doPlain
  try dsimp only
  repeat' (first
    | rw [if_pos (by decide)]
    | rw [if_neg (by decide)]
    | rw [if_neg (fun h => absurd h.1 (by decide))]
    | with_reducible exact Keeps.refl _
    | with_reducible apply keeps_when_on
    | with_reducible apply Keeps.via (kept_settle ..) (by decide)
    | with_reducible apply Keeps.via (kept_jobCtl ..) (by decide))

theorem keep_execTileJobStop (seat : SeatNo) (s t : State) (h : execTileJobStop seat s = .next t) :
    Keeps 0x87802041038e08400060 s t := by
  unfold execTileJobStop at h
  cases h
  refine keeps_hostWrite_page (by decide) (locate_upd (o := 0x120) (by decide)) (by show plainAt .upd 0x120 = true; decide) rfl (by decide) (by decide) (by show Nat.testBit _ 5 = true; decide) rfl (.inl rfl) (fun s was => ?_)
  unfold State.doAction
  dsimp only
  rw [if_neg (by decide)]
  unfold State.doPlain
  try dsimp only
  repeat' (first
    | rw [if_pos (by decide)]
    | rw [if_neg (by decide)]
    | rw [if_neg (fun h => absurd h.1 (by decide))]
    | with_reducible exact Keeps.refl _
    | with_reducible apply keeps_when_on
    | with_reducible apply Keeps.via (kept_settle ..) (by decide)
    | with_reducible apply Keeps.via (kept_jobCtl ..) (by decide))

theorem keep_execRegather (seat : SeatNo) (lane : LaneNo) (s t : State) (h : execRegather seat lane s = .next t) :
    Keeps 0x48600204d038800c14060 s t := by
  unfold execRegather at h
  cases h
  have hk : lane.val / 8 < 64 := by have := lane.isLt; omega
  have hj := Nat.mod_lt lane.val (show 0 < 8 by decide)
  unfold lnAddr
  rw [show pSer (lane.val / 8) + 0x200 + 0x80 * (lane.val % 8) + 0x08 = pSer (lane.val / 8) + (0x200 + 0x80 * (lane.val % 8) + 0x08) by omega]
  generalize lane.val % 8 = j at hj
  refine keeps_hostWrite_page (by unfold pSer; omega) (locate_ser hk (by omega))
    (by show plainAt .ser (0x200 + 0x80 * j + 0x08) = true; revert j; decide) rfl (by decide) (by decide) (by show Nat.testBit _ 23 = true; decide) rfl
    (.inl rfl) (fun s was => ?_)
  unfold State.doAction
  dsimp only
  rw [if_neg (fun h => absurd h.2 (by omega))]
  unfold State.doSer
  dsimp only
  rw [if_neg (by omega), show (0x200 + 0x80 * j + 0x08 - 0x200) % 0x80 = 0x08 by omega]
  repeat' (first
    | rw [if_pos rfl]
    | rw [if_neg (by decide)]
    | with_reducible exact Keeps.refl _
    | with_reducible apply keeps_when_on
    | with_reducible apply Keeps.via (kept_retrainLane ..) (by decide)
    | with_reducible apply Keeps.via (kept_hostRegather ..) (by decide)
    | with_reducible apply keeps_ite
    | (intro _))

theorem keep_execRetrain (seat : SeatNo) (lane : LaneNo) (s t : State) (h : execRetrain seat lane s = .next t) :
    Keeps 0x48600204d038800c14060 s t := by
  unfold execRetrain at h
  cases h
  have hk : lane.val / 8 < 64 := by have := lane.isLt; omega
  have hj := Nat.mod_lt lane.val (show 0 < 8 by decide)
  unfold lnAddr
  rw [show pSer (lane.val / 8) + 0x200 + 0x80 * (lane.val % 8) + 0x08 = pSer (lane.val / 8) + (0x200 + 0x80 * (lane.val % 8) + 0x08) by omega]
  generalize lane.val % 8 = j at hj
  refine keeps_hostWrite_page (by unfold pSer; omega) (locate_ser hk (by omega))
    (by show plainAt .ser (0x200 + 0x80 * j + 0x08) = true; revert j; decide) rfl (by decide) (by decide) (by show Nat.testBit _ 23 = true; decide) rfl
    (.inl rfl) (fun s was => ?_)
  unfold State.doAction
  dsimp only
  rw [if_neg (fun h => absurd h.2 (by omega))]
  unfold State.doSer
  dsimp only
  rw [if_neg (by omega), show (0x200 + 0x80 * j + 0x08 - 0x200) % 0x80 = 0x08 by omega]
  repeat' (first
    | rw [if_pos rfl]
    | rw [if_neg (by decide)]
    | with_reducible exact Keeps.refl _
    | with_reducible apply keeps_when_on
    | with_reducible apply Keeps.via (kept_retrainLane ..) (by decide)
    | with_reducible apply Keeps.via (kept_hostRegather ..) (by decide)
    | with_reducible apply keeps_ite
    | (intro _))

theorem keep_execTestEnable (seat : SeatNo) (lane : LaneNo) (value : Word) (s t : State) (h : execTestEnable seat lane value s = .next t) :
    Keeps 0x80002009038800800040 s t := by
  unfold execTestEnable at h
  cases h
  have hk : lane.val / 8 < 64 := by have := lane.isLt; omega
  have hj := Nat.mod_lt lane.val (show 0 < 8 by decide)
  unfold lnAddr
  rw [show pSer (lane.val / 8) + 0x200 + 0x80 * (lane.val % 8) + 0x54 = pSer (lane.val / 8) + (0x200 + 0x80 * (lane.val % 8) + 0x54) by omega]
  generalize lane.val % 8 = j at hj
  refine keeps_hostWrite_page (by unfold pSer; omega) (locate_ser hk (by omega))
    (by show plainAt .ser (0x200 + 0x80 * j + 0x54) = true; revert j; decide) rfl (by decide) (by decide) (by show Nat.testBit _ 23 = true; decide) rfl
    (.inl rfl) (fun s was => ?_)
  unfold State.doAction
  dsimp only
  rw [if_neg (fun h => absurd h.2 (by omega))]
  unfold State.doSer
  dsimp only
  rw [if_neg (by omega), show (0x200 + 0x80 * j + 0x54 - 0x200) % 0x80 = 0x54 by omega]
  repeat' (first
    | rw [if_pos rfl]
    | rw [if_neg (by decide)]
    | with_reducible exact Keeps.refl _
    | with_reducible apply keeps_when_on
    | with_reducible apply Keeps.via (kept_testWritten ..) (by decide))

theorem keep_execToutArm (seat : SeatNo) (k : Fin 16) (value : Word) (s t : State) (h : execToutArm seat k value s = .next t) :
    Keeps 0x80002201038800000440 s t := by
  unfold execToutArm at h
  cases h
  rw [show pTime + 0x400 + 32 * k.val = pTime + (0x400 + 32 * k.val) by omega]
  refine keeps_hostWrite_page (by unfold pTime; omega) (locate_time (by omega))
    (by show plainAt .time (0x400 + 32 * k.val) = true; revert k; decide) rfl (by decide) (by decide)
    (by show Nat.testBit _ 10 = true; decide) rfl (.inl rfl) (fun s was => ?_)
  unfold State.doAction
  dsimp only
  rw [if_neg (fun h => absurd h.2 (by omega))]
  unfold State.doTime
  rw [if_neg (by omega), if_neg (fun h => absurd h.2 (by omega)), if_neg (fun h => absurd h.1 (by omega)), if_pos (by omega)]
  exact (kept_doTout _ _ _ (by omega)).mono (by decide)

theorem keep_execToutDisarm (seat : SeatNo) (k : Fin 16) (s t : State) (h : execToutDisarm seat k s = .next t) :
    Keeps 0x80002201038800000440 s t := by
  unfold execToutDisarm at h
  cases h
  rw [show pTime + 0x400 + 32 * k.val = pTime + (0x400 + 32 * k.val) by omega]
  refine keeps_hostWrite_page (by unfold pTime; omega) (locate_time (by omega))
    (by show plainAt .time (0x400 + 32 * k.val) = true; revert k; decide) rfl (by decide) (by decide)
    (by show Nat.testBit _ 10 = true; decide) rfl (.inl rfl) (fun s was => ?_)
  unfold State.doAction
  dsimp only
  rw [if_neg (fun h => absurd h.2 (by omega))]
  unfold State.doTime
  rw [if_neg (by omega), if_neg (fun h => absurd h.2 (by omega)), if_neg (fun h => absurd h.1 (by omega)), if_pos (by omega)]
  exact (kept_doTout _ _ _ (by omega)).mono (by decide)

theorem keep_execLyrAlertClear (seat : SeatNo) (m : Fin 8) (value : Word) (s t : State)
    (h : execLyrAlertClear seat m value s = .next t) : Keeps 0x80002001038800010040 s t := by
  unfold execLyrAlertClear at h
  cases h
  rw [show pCmp + 0x140 + 4 * m.val = pCmp + (0x140 + 4 * m.val) by omega]
  refine keeps_hostWrite_page (by unfold pCmp; omega) (locate_cmp (by omega))
    (by show plainAt .cmp (0x140 + 4 * m.val) = true; revert m; decide) rfl (by decide) (by decide)
    (by show Nat.testBit _ 16 = true; decide) (by revert m; decide) (.inl (by revert m; decide)) (fun s was => ?_)
  unfold State.doAction
  dsimp only
  rw [if_neg (fun h => absurd h.2 (by omega))]
  unfold State.doCmp
  rw [if_neg (fun h => absurd h.1 (by omega))]
  exact Keeps.refl _

theorem keeps_servoWrite (s : State) (seat : Nat) (classA : Bool) (k : Fin 64) (v : Nat) :
    Keeps 0x80003001038800003040 s (s.servoWrite seat classA k v) := by
  unfold State.servoWrite
  split
  · split
    · have hj := Nat.mod_lt k.val (show 0 < 2 by decide)
      rw [Nat.add_assoc]
      generalize k.val % 2 = j at hj
      refine keeps_hostWrite_page (by unfold pSvl; omega) (locate_sva (by omega) (by omega))
        (by show plainAt .sva (0x13C + 0x700 * j) = true; revert j; decide) rfl (by decide) (by decide)
        (by show Nat.testBit _ 12 = true; decide) rfl (.inl rfl) (fun s was => ?_)
      unfold State.doAction
      dsimp only
      rw [if_neg (fun h => absurd h.2 (by omega))]
      unfold State.doSva
      rw [if_pos (by omega)]
      exact (kept_servoCmd ..).mono (by decide)
    · exact Keeps.refl _
  · have hj := Nat.mod_lt k.val (show 0 < 16 by decide)
    have hk := k.isLt
    rw [Nat.add_assoc]
    generalize k.val % 16 = j at hj
    refine keeps_hostWrite_page (by unfold pSvl; omega) (locate_svb (by omega) (by omega))
      (by show plainAt .svb (0x120 + 0xF0 * j) = true; revert j; decide) rfl (by decide) (by decide)
      (by show Nat.testBit _ 13 = true; decide) rfl (.inl rfl) (fun s was => ?_)
    unfold State.doAction
    dsimp only
    rw [if_neg (fun h => absurd h.2 (by omega))]
    unfold State.doSvb
    rw [if_pos (by omega)]
    exact (kept_servoCmd ..).mono (by decide)

theorem keep_execServoApply (seat : SeatNo) (classA : Bool) (slot : Fin 64) (s t : State)
    (h : execServoApply seat classA slot s = .next t) : Keeps 0x80003001038800003040 s t := by
  unfold execServoApply at h
  cases h
  exact keeps_servoWrite _ _ _ _ _
theorem keep_execServoReset (seat : SeatNo) (classA : Bool) (slot : Fin 64) (s t : State)
    (h : execServoReset seat classA slot s = .next t) : Keeps 0x80003001038800003040 s t := by
  unfold execServoReset at h
  cases h
  exact keeps_servoWrite _ _ _ _ _
theorem keep_execServoRelease (seat : SeatNo) (classA : Bool) (slot : Fin 64) (s t : State)
    (h : execServoRelease seat classA slot s = .next t) : Keeps 0x80003001038800003040 s t := by
  unfold execServoRelease at h
  cases h
  exact keeps_servoWrite _ _ _ _ _
theorem keep_execCrcDataWrite (seat : SeatNo) (unit : Fin 4) (be : BitVec 4) (value : Word) (s t : State)
    (h : execCrcDataWrite seat unit be value s = .next t) : Keeps 0x80002001038800000050 s t := by
  unfold execCrcDataWrite at h
  cases h
  have hl := locate_crc (k := unit.val) (o := 0x110) unit.isLt (by decide)
  by_cases hs : s.serves seat = true
  · rw [hostWrite_at hs (by unfold pCrc; omega) hl]
    refine Keeps.via (kept_settle _) (by decide) ?_
    unfold State.placeWrite
    dsimp only
    split
    · exact Keeps.refl _
    rw [if_neg (by decide), if_neg (by rw [regRows_at hl]; show blkRows .crc 0x110 ≠ []; decide)]
    split
    · refine keeps_foreign (i := 4) (by decide) (by decide) (by decide) ?_
      show pgIn 4 (pCrc unit + 0x110 - (pCrc unit + 0x110) % 0x1000) 0x1000
      exact page_span (in_pg (pg_4 _) (by decide)) (by decide)
    · rw [if_pos (by decide)]
      exact (kept_feedCrc ..).mono (by decide)
  · unfold State.hostWrite
    dsimp only
    rw [if_pos (Bool.eq_false_iff.mpr hs)]
    exact Keeps.refl _

theorem keep_execRingIndexWrite (seat : SeatNo) (ring : RingNo) (cons : Bool) (value : Word) (s t : State)
    (h : execRingIndexWrite seat ring cons value s = .next t) : Keeps 0x80002041038800400240 s t := by
  unfold execRingIndexWrite at h
  cases h
  have hk := ring.isLt
  have ho : (if cons then 12 else 8) % 4 = 0 ∧ (if cons then 12 else 8) < 32 := by cases cons <;> decide
  generalize (if cons then 12 else 8) = o at ho
  have hl := locate_rstate (n := ring.val) (o := o) hk ho.2
  by_cases hs : s.serves seat = true
  · rw [hostWrite_at hs (by omega) hl]
    refine Keeps.via (kept_settle _) (by decide) ?_
    unfold State.placeWrite
    dsimp only
    rw [if_neg (by rintro (⟨h, _⟩ | h); exact h rfl; exact Bool.noConfusion (show false = true from h)), if_pos rfl]
    unfold State.ringStateWrite
    dsimp only
    repeat' (first
      | with_reducible apply Keeps.via (kept_writeIndex ..) (by decide)
      | with_reducible apply keeps_when_on
      | with_reducible apply Keeps.via (kept_grantTile ..) (by decide)
      | with_reducible exact Keeps.refl _
      | with_reducible apply keeps_ite
      | (intro _)
      | exact keeps_foreign (i := 9) (by decide) (by decide) (by decide) (by unfold pgIn; decide))
  · unfold State.hostWrite
    dsimp only
    rw [if_pos (Bool.eq_false_iff.mpr hs)]
    exact Keeps.refl _

theorem keeps_pwrWrite (s : State) (seat op : Nat) (w : Bool) : Keeps 0xa0002001038800000042 s (s.pwrWrite seat op w) := by
  unfold State.pwrWrite
  split
  · exact Keeps.refl _
  split
  · exact Keeps.via (kept_settle _) (by decide) ((kept_pwrCmd ..).mono (by decide))
  · exact Keeps.via (kept_settle _) (by decide) (keeps_foreign (i := 1) (by decide) (by decide) (by decide) (by unfold pgIn; decide))

theorem keep_execStandbyRequest (seat : SeatNo) (s t : State) (h : execStandbyRequest seat s = .next t) : Keeps 0xa0002001038800000042 s t := by
  unfold execStandbyRequest at h
  cases h
  exact keeps_pwrWrite ..

theorem keep_execSleepRequest (seat : SeatNo) (w : Bool) (s t : State) (h : execSleepRequest seat w s = .next t) : Keeps 0xa0002001038800000042 s t := by
  unfold execSleepRequest at h
  cases h
  exact keeps_pwrWrite ..

theorem keep_execActiveRequest (seat : SeatNo) (s t : State) (h : execActiveRequest seat s = .next t) : Keeps 0xa0002001038800000042 s t := by
  unfold execActiveRequest at h
  cases h
  exact keeps_pwrWrite ..

end Sys2Proof.Machine
end

