-- ==== Sys2Proof/Laws/Resets.lean ====
section
/-!
SUPPORT. What a reset of the main domains leaves of the registers.
-/
namespace Sys2Proof.Machine

theorem retWord_reset (a : Nat) : retWord a (resetWord a) = resetWord a := by
  unfold retWord
  generalize resetWord a = r
  generalize BitVec.ofNat 32 (retMask a) = m
  ext i hi
  simp
  cases r[i] <;> cases m[i] <;> rfl

/-- The keys of a rising map lie above its first. -/
theorem rising_lt {α : Type} (k : Nat) (v : α) (m : Sparse α) (lo : Option Nat) (h : rising lo ((k, v) :: m) = true) :
    ∀ e ∈ m, k < e.1 := by
  induction m generalizing k v lo with
  | nil => intro e he; cases he
  | cons x xs ih =>
    intro e he
    unfold rising at h
    simp only [Bool.and_eq_true] at h
    have h2 := h.2
    have hx : k < x.1 := by
      unfold rising at h2
      simp only [Bool.and_eq_true] at h2
      simpa using h2.1
    rcases List.mem_cons.mp he with rfl | he
    · exact hx
    · have := ih x.1 x.2 (some k) h2 e he
      omega

theorem look_cons {α : Type} (d : α) (x : Nat × α) (m : Sparse α) (j : Nat) :
    look d (x :: m) j = if x.1 = j then x.2 else look d m j := rfl

theorem look_absent {α : Type} (d : α) (a : Nat) (l : Sparse α) (h : l.any (fun e => e.1 == a) = false) : look d l a = d := by
  induction l with
  | nil => rfl
  | cons x xs ih =>
    rw [List.any_cons, Bool.or_eq_false_iff] at h
    rw [look_cons, if_neg (by simpa using h.1), ih h.2]

theorem reg_fold (l : Sparse Word) : ∀ (m : Sparse Word) (lo : Option Nat), rising lo l = true → ∀ a,
    look (resetWord a) (l.foldl (fun m e => ins (resetWord e.1) e.1 (retWord e.1 e.2) m) m) a =
      if l.any (fun e => e.1 == a) then retWord a (look (resetWord a) l a) else look (resetWord a) m a := by
  induction l with
  | nil => intro m lo _ a; rfl
  | cons x xs ih =>
    intro m lo h a
    have hlt := rising_lt x.1 x.2 xs lo h
    have hxs : rising (some x.1) xs = true := by
      unfold rising at h
      simp only [Bool.and_eq_true] at h
      exact h.2
    rw [List.foldl_cons, ih _ _ hxs a, look_cons]
    by_cases hk : x.1 = a
    · have hno : xs.any (fun e => e.1 == a) = false := by
        rw [List.any_eq_false]
        intro e he
        have := hlt e he
        simp
        omega
      simp [hno, hk]
    · rw [if_neg hk, look_ins_ne _ _ _ _ (Ne.symm hk)]
      simp [hk]

/-- Each register keeps its fields of the Ember domain and takes its power-up value elsewhere. -/
theorem reg_retRegs (r : Sparse Word) (h : rising none r = true) (a : Nat) :
    look (resetWord a) (retRegs r) a = retWord a (look (resetWord a) r a) := by
  unfold retRegs
  rw [reg_fold r [] none h a]
  split
  · rfl
  · next hn =>
    rw [look_absent _ a r (Bool.eq_false_iff.mpr hn), retWord_reset]
    rfl

/-- A cut of the flash operation leaves everything but the flash, the flash operation and the count of open values. -/
theorem cutFlash_rest (s : State) : s.cutFlash = { s with flashMem := s.cutFlash.flashMem, flashOp := none, free := s.cutFlash.free } := by
  unfold State.cutFlash
  cases h : s.flashOp with
  | none => cases s; cases h; rfl
  | some o =>
    dsimp only
    cases o.steps with
    | nil => rfl
    | cons f fs => 
      dsimp only
      unfold State.cutStep
      split <;> rfl

end Sys2Proof.Machine
end

