-- ==== Sys2Proof/WellFormed.lean ====
section
/-!
DEFINITION. Which commands are well formed: what the operand types leave possible and no sender can send.
-/
namespace Sys2Proof

/-- An IP address of the family it is given with. -/
def ipOk (v6 : Bool) (ip : BitVec 128) : Bool := v6 || decide (ip.toNat < 2 ^ 32)

/-- Class A has 16 servo slots (R426). -/
def slotOk (classA : Bool) (slot : Fin 64) : Bool := !classA || decide (slot.val < 16)

/-- A lane's trim record has the nine words of R391. -/
def LaneTrim.wf (t : LaneTrim) : Bool := t.words.length == 9

/-- A trim field lies inside its word (R358). -/
def TrimStep.wf (t : TrimStep) : Bool := decide (t.lo.val + t.width.val ≤ 32 ∧ t.code < 2 ^ t.width.val)

/-- A channel's trim field lies inside its word (R460). -/
def MemStep.wf (t : MemStep) : Bool := decide (t.lo.val + t.width.val ≤ 32 ∧ t.code < 2 ^ t.width.val)

/-- Addresses of an Ethernet frame's packet are of its IP version; what only one version has stands in no other. -/
def EthFrame.wf (f : EthFrame) : Bool :=
  match f.body with
  | .ip h b => ipOk h.v6 h.src && ipOk h.v6 h.dst && (if h.v6 then !h.options && !h.fragment else !h.extension) &&
    (match b with
      | .neighbourSol _ => h.v6
      | .neighbourAdv _ => h.v6
      | .query _ group _ => ipOk h.v6 group
      | _ => true)
  | _ => true

/-- An output-enable cell of the boundary register stands directly before an output cell (R62). -/
def cellsOk : List TestCell → Bool
  | [] => true
  | [c] => c.kind != .enable
  | c :: d :: t => (c.kind != .enable || d.kind == .output) && cellsOk (d :: t)

/-- What a feed's lanes can bring: a codeword of 272 symbols, or a block of 32 bytes (R299, R302). -/
def LineIn.wf (x : LineIn) : Bool :=
  match x with
  | .codeword _ symbols => symbols.length == 272
  | .block _ bytes => bytes.length == 32

/-- Activity windows: no more clocks with data than clocks (R461). -/
def windowsOk (ws : List (Nat × Nat)) : Bool := ws.all (fun w => decide (w.1 ≤ w.2))

/-- A command that a sender can send. -/
def Instr.wf (i : Instr) : Bool :=
  match i with
  | .railValid .. => true
  | .railFail .. => true
  | .vddEmberFail .. => true
  | .porNLow .. => true
  | .powerUpStart .. => true
  | .slotChoice .. => true
  | .applyBootEntries .. => true
  | .gddr6TrainingDone _ _ trims => trims.length == 32
  | .storeLoadDone .. => true
  | .readyRise .. => true
  | .restart .. => true
  | .thermalResetRelease .. => true
  | .refFaultEnter .. => true
  | .refFaultLeave .. => true
  | .xtalStop .. => true
  | .lifeHourTick .. => true
  | .emberTick .. => true
  | .registerWrite .. => true
  | .pairReadLo .. => true
  | .pairWriteHi .. => true
  | .timeNowRead .. => true
  | .satCntRead .. => true
  | .heldMaxRead .. => true
  | .bar0Request _ addr dws => decide (0 < dws.length ∧ addr.toNat % 4 = 0 ∧ addr.toNat + 4 * dws.length ≤ 2 ^ 24)
  | .bar2Access isWrite addr bytes len =>
    decide (addr.toNat + bytes.length + len ≤ 2 ^ 36) && (if isWrite then !bytes.isEmpty && len == 0 else bytes.isEmpty && len != 0)
  | .controlDatagram _ v6 srcIp _ _ _ => ipOk v6 srcIp
  | .ringAllocate .. => true
  | .ringConfigure .. => true
  | .ringRelease .. => true
  | .ringResetIndices .. => true
  | .ringIndexWrite .. => true
  | .copy .. => true
  | .fill .. => true
  | .nop .. => true
  | .commandComplete .. => true
  | .tileMsgSend .. => true
  | .upstreamMsgRx _ _ _ _ _ payload => decide (payload.length < 2 ^ 15)
  | .ethFrameRx _ frame => frame.wf
  | .frameComplete .. => true
  | .pathLost .. => true
  | .currentStateReport .. => true
  | .stateChangeRepeat .. => true
  | .neighbourRetry .. => true
  | .neighbourFailure .. => true
  | .neighbourEntryExpire .. => true
  | .ethLinkUp _ trims => trims.all LaneTrim.wf
  | .ethLinkDown .. => true
  | .ethClear .. => true
  | .flowClear .. => true
  | .ingPush .. => true
  | .pushComplete .. => true
  | .commitGo .. => true
  | .commitCancel .. => true
  | .commitWindow .. => true
  | .cycleEdgeSchedule .. => true
  | .composeStart .. => true
  | .playoutCopyDone .. => true
  | .powerCapUpdate .. => true
  | .writebackComplete .. => true
  | .previewPacket .. => true
  | .lyrAlertClear .. => true
  | .responseLoad .. => true
  | .responseLoadDone .. => true
  | .mapProbe .. => true
  | .linkReportRx .. => true
  | .capabilityReportRx .. => true
  | .positionVanish .. => true
  | .creditRx .. => true
  | .pdreqRx .. => true
  | .detectDone .. => true
  | .trainingFrameRx .. => true
  | .trainDone _ trims _ _ => trims.all LaneTrim.wf
  | .lockDone .. => true
  | .capDone .. => true
  | .stageTimeout .. => true
  | .feedLoss .. => true
  | .backoffEnd .. => true
  | .faultRetry .. => true
  | .activityWindow _ blocks nonFill => decide (nonFill ≤ blocks)
  | .trimTrack _ steps _ _ _ => steps.all TrimStep.wf
  | .trimStepApply .. => true
  | .trimStepDrop .. => true
  | .trimRevert .. => true
  | .regatherStart .. => true
  | .regatherGatherEnd _ targets => targets.all TrimStep.wf
  | .regather .. => true
  | .retrain .. => true
  | .testEnable .. => true
  | .syncRx _ m _ => m.kind == .sync
  | .followUpRx _ m => m.kind == .followUp
  | .delayRespRx _ m => m.kind == .delayResp
  | .announceRx .. => true
  | .delayReqSend .. => true
  | .masterLost .. => true
  | .ppsTimeout .. => true
  | .stepAuthorise .. => true
  | .stepApplyValue .. => true
  | .stepWithdraw .. => true
  | .stepTakeEffect .. => true
  | .syncSrcChange .. => true
  | .toutArm .. => true
  | .toutDisarm .. => true
  | .toutEdge .. => true
  | .toutPulseEnd .. => true
  | .tcapEdge .. => true
  | .tcapPop .. => true
  | .ppsPulse .. => true
  | .ppsPulseEnd .. => true
  | .servoSample classA slot _ => slotOk classA slot
  | .servoApply _ classA slot => slotOk classA slot
  | .servoReset _ classA slot => slotOk classA slot
  | .servoRelease _ classA slot => slotOk classA slot
  | .followingErrorLost classA slot => slotOk classA slot
  | .refreshDue .. => true
  | .forcedRefresh .. => true
  | .edcMismatch .. => true
  | .memUnderrun .. => true
  | .memTrack _ steps windows => steps.all MemStep.wf && windowsOk windows
  | .memIdleWindow .. => true
  | .memTrimDrop .. => true
  | .memTrimRevert .. => true
  | .memRegatherStart .. => true
  | .memRetrainTimer .. => true
  | .memRetrain .. => true
  | .memRetrainDone _ trims => trims.length == 32
  | .rateChangeBegin .. => true
  | .rateChangeEnd _ _ trims => trims.length == 32
  | .glimRound railMv _ => railMv.length == 9
  | .stateRecordRx _ _ _ _ _ _ temps _ _ => temps.length == 4
  | .faultRecordRx _ _ _ _ _ _ entries => decide (0 < entries.length ∧ entries.length ≤ 16)
  | .dieSensorConversion .. => true
  | .shutdownReset .. => true
  | .throttleStep .. => true
  | .diagResultRx _ _ _ _ _ entries => decide (0 < entries.length ∧ entries.length ≤ 16)
  | .diagResultTimeout .. => true
  | .rescan .. => true
  | .lhScanEnd .. => true
  | .unblank .. => true
  | .lampStateRead .. => true
  | .lampStateWrite .. => true
  | .evtpEnter .. => true
  | .evtpExit .. => true
  | .notifyResend .. => true
  | .evtpAlive .. => true
  | .seatLost .. => true
  | .playoutLoadDone .. => true
  | .playoutStop .. => true
  | .standbyRequest .. => true
  | .sleepRequest .. => true
  | .activeRequest .. => true
  | .standbyEnter .. => true
  | .sleepEnter .. => true
  | .wakeNEvent .. => true
  | .alarmExpire .. => true
  | .standbyReturnDone _ _ _ trims => trims.length == 32
  | .sleepWakeReady .. => true
  | .stage .. => true
  | .apply .. => true
  | .full .. => true
  | .confirm .. => true
  | .reject .. => true
  | .flashStepDone .. => true
  | .flashStepTimeout .. => true
  | .driveLinkUp .. => true
  | .nvmeCompletion .. => true
  | .nvmeCmdTimeout .. => true
  | .nvmeResetTimeout .. => true
  | .read .. => true
  | .write .. => true
  | .delete .. => true
  | .format .. => true
  | .resync .. => true
  | .storeOpDone .. => true
  | .tileJobGo .. => true
  | .tileJobStop .. => true
  | .tileJobLoadDone .. => true
  | .tileImageRecordRx .. => true
  | .tileJobTimeout .. => true
  | .crcDataWrite .. => true
  | .configRequest .. => true
  | .bar4Access _ addr _ => addr.toNat % 4 == 0
  | .pcieEpLinkUp .. => true
  | .driveLinkDown .. => true
  | .uncorrectableCodeword _ what => what.wf
  | .downstreamPacketReturn .. => true
  | .bridgeCycle .. => true
  | .memRegatherGatherEnd _ targets windows => targets.all MemStep.wf && windowsOk windows
  | .holdEnd .. => true
  | .panicEntry _ level => decide (level ≤ 2 ^ 19)
  | .panicExit _ level => decide (level ≤ 2 ^ 19)
  | .pllLockLoss .. => true
  | .checkerSyncGain .. => true
  | .checkerSyncLoss .. => true
  | .xtalRunStart .. => true
  | .testPortClock _ _ _ cells => cellsOk cells

end Sys2Proof
end

