-- ==== Sys2Proof/Tests/Slice0.lean ====
section
/-!
SUPPORT. Own tests: what WellFormed refuses, values of the spec's worked examples, and for every statement states
and operands that meet its hypotheses.
-/
namespace Sys2Proof.Tests
open Sys2Proof Sys2Proof.Machine

set_option Elab.async false

/-! ### States -/

/-- The main domains run. -/
def up : State := { State.reset with pow := { State.reset.pow with up := true, rails := List.replicate 9 true } }
/-- READY, Active. -/
def rdy : State := up.setFld pSys F.SYS_STAT_READY 1
/-- A field of a state set. -/
def on (s : State) (p : Nat) (f : Fld) (v : Nat) (i : Nat := 0) : State := s.setFld p f v i
/-- A field of the configuration in force set. -/
def force (s : State) (p : Nat) (f : Fld) (v : Nat) (i : Nat := 0) : State :=
  { s with force := (({ s with regs := s.force } : State).setFld p f v i).regs }

/-- Shutdown has started. -/
def shut : State := { rdy with pow := { rdy.pow with shutting := true, shutAt := (23, 2000) } }
/-- Without the crystal. -/
def quiet (s : State) : State := { s with pow := { s.pow with xtal := false } }
/-- Held by the thermal trip until the die is cool. -/
def hot : State := { State.reset with pow := { State.reset.pow with thermHold := 2 } }
/-- A byte string. -/
def text (l : List Nat) : List Byte := l.map (BitVec.ofNat 8)

/-- MAP_CANVAS. -/
def aCanvas : BitVec 24 := 0x200100
/-- Its place. -/
def lCanvas : Loc := ⟨.map, 0, 0x100, 19⟩
/-- A word of the last tile table entry. -/
def aTile : BitVec 24 := 0x93FFC4
/-- Its place. -/
def lTile : Loc := ⟨.tile, 4095, 4, 0⟩
/-- NVME_ENT_LO and _HI. -/
def aEntLo : BitVec 24 := 0x781110
/-- Its place. -/
def lEntLo : Loc := ⟨.nvme, 0, 0x110, 27⟩
/-- NVME_ENT_HI. -/
def aEntHi : BitVec 24 := 0x781114
/-- Its place. -/
def lEntHi : Loc := ⟨.nvme, 0, 0x114, 27⟩
/-- HK_ROUND_LO. -/
def aRound : BitVec 24 := 0x3120
/-- Its place. -/
def lRound : Loc := ⟨.hk, 0, 0x120, 4⟩
/-- The command is answered with a next state. -/
def goesOn (o : Host.Outcome State Fault Refusal) : Bool :=
  match o with
  | .next _ => true
  | _ => false

/-- A ring in 16 slots of GDDR6 at 0x1000, enabled, with one slot produced. -/
def ringOf (n role : Nat) : Ring := { ringReset n with base := 0x1000, sizeLog2 := 4, role := role, enable := true, prod := 1 }
/-- The words of the slot at the front of that ring, and the ring. -/
def front (s : State) (n role : Nat) (ws : List Nat) (prod : Nat := 1) : State :=
  (s.poke 0x1000 (quadBytes ws)).setRing n { ringOf n role with prod := prod }
/-- A COPY of 8 bytes. -/
def copyWords : List Nat := [0x10 * 2 ^ 56, 0x3000, 0x2000, 8]
/-- A FILL of 8 bytes. -/
def fillWords : List Nat := [0x11 * 2 ^ 56, 0x55AA, 0x2000, 8]
/-- A message of one word. -/
def tileWords (kind : Nat) : List Nat := [kind * 2 ^ 56, 2 ^ 32, 7, 0]
/-- The command at the front of ring 8200 has been judged. -/
def judged (ws : List Nat) (status : Nat) : State := { front rdy 8200 3 ws with commands := [(8200, some status)] }
/-- Tile 0 is enabled on link 0, whose primary feed is active, with credit. -/
def tiled : State :=
  (force (force (force (on rdy (pWl 0) F.WL_STAT_PRI_ACTIVE 1) (pTile 0) F.TL_CFG_ENABLE 1) (pTile 0) F.TL_SIZE_TW 1)
    (pTile 0) F.TL_SIZE_TH 1).setCredit 0
    { (State.reset.credit 0) with limit0 := 514, limit1 := 514 }
/-- Its position 0 is present. -/
def seen : State := on tiled (pWl 0) F.POS_STAT_PRESENT 1
/-- Link 0 is down. -/
def dark : State := on seen (pWl 0) F.WL_STAT_PRI_ACTIVE 0
/-- Port 0's link is up. -/
def linked : State := on rdy (pEth 0) F.ETH_STAT_LINK_UP 1
/-- A frame to every station. -/
def frame (body : EthBody) : EthFrame := ⟨0xFFFFFFFFFFFF, 2, none, 64, true, false, body⟩
/-- An IPv4 packet from 10.0.0.9, and a UDP datagram in it. -/
def ipHead : IpRx := ⟨false, 0x0A000009, 0, false, false, true, false⟩
def udpHead : UdpRx := ⟨7, 0, .zero⟩
def udpFrame (bs : List Byte) : EthFrame := frame (.ip ipHead (.udp udpHead bs))
/-- Port 0 with an IPv4 address. -/
def homed : State := force linked (pEth 0) F.ETH_IP4_ADDR 0x0A000001
/-- Flow 0 with its path A enabled, 60 by 16 pixels of 4:2:2 at 10 bits. -/
def flowing : State :=
  force (force (force (force linked (pFlow 0) F.FLOW_CFG_ENABLE 1) (pFlow 0) F.PATH_CFG_ENABLE 1) (pFlow 0) F.FLOW_SIZE_WIDTH 60)
    (pFlow 0) F.FLOW_SIZE_HEIGHT 16
/-- An RTP packet of flow 0 with the given number and time, one SRD of one pixel group on row 0; one with no data. -/
def rtp (seq ts : Nat) : List Byte :=
  text [0x80, 96] ++ beBytes 2 (seq % 2 ^ 16) ++ beBytes 4 ts ++ beBytes 4 0 ++ beBytes 2 (seq / 2 ^ 16) ++ beBytes 2 5 ++ beBytes 2 0 ++ beBytes 2 0 ++
    List.replicate 5 0
def broken : List Byte := (rtp 101 50).take 19
/-- Flow 0 with number 100 the highest. -/
def merging : State := flowing.setFlow 0 { flowing.flow 0 with high := some 100, seen := [⟨100, true, 0⟩], lastTs := some 50 }
/-- Flow 0 with a frame that is complete but for FRAME_COMPLETE. -/
def filled : State := flowing.setFlow 0 { flowing.flow 0 with asm := some ⟨5, 1, 0, [], [], true⟩ }
/-- A neighbour of port 0 asked for n times, a frame waiting. -/
def asking (n : Nat) : State := linked.setPort 0 { linked.port 0 with misses := [(9, n, [.gratuitousArp 3])] }
/-- A feed at a stage. -/
def atStage (s : State) (k stage : Nat) : State := s.putFeed k { s.feed k with stage := stage, width := 4 }

/-- Ring arguments of seat 0 for an event ring of 16 slots. -/
def asked : State := on (on rdy (pRingOf 0) F.RING_ARG_CFG_SIZE_LOG2 4) (pRingOf 0) F.RING_ARG_CFG_ROLE 4
/-- The header of a datagram of seat 1 with no operation, SEQ 1. -/
def dgHead : List Byte := text [0x5A, 0x43, 0x11, 0, 0, 0, 0, 1]
/-- The datagram. -/
def dgText : List Byte := dgHead ++ text [0, 0, 0, 0] ++ beBytes 4 (crc32c (dgHead ++ text [0, 0, 0, 0]))
/-- Its source. -/
def hostIp : BitVec 128 := 0x0A000002
/-- Its UDP port. -/
def hostUdp : BitVec 16 := 5000
/-- Seat 1 may send datagrams by port 0. -/
def talking : State :=
  on (on (on linked (pSeat 1) F.SEAT_CFG_ENABLE 1) (pSeat 1) F.SEAT_CFG_HOST_UDP 5000) (pSeat 1) F.SEAT_HOST_ADDR_ADDR 0x0A000002
/-- Its datagram has been executed. -/
def talked : State := { on talking (pSeat 1) F.SEAT_SEQ_SEQ 1 with dgs := [(1, ⟨true, dgText⟩)] }
/-- The last byte of the address space, of 32 GiB, and the byte behind. -/
def lastOfAll : BitVec 36 := 0xFFFFFFFFF
def lastIn : BitVec 36 := 0x7FFFFFFFF
def firstOut : BitVec 36 := 0x800000000
def nought : BitVec 36 := 0
/-- MEM_OFFLINE. -/
def lame : State := on rdy pSys F.SYS_STAT_MEM_OFFLINE 1

/-- A frame with a bad check sequence, one too short, one to another station. -/
def brokenFrame : EthFrame := { frame .other with fcsOk := false }
/-- IP packets that nothing takes: by its header, by its contents, by its checksum, by its port. -/
def badIp : EthFrame := frame (.ip { ipHead with fragment := true } (.udp udpHead []))
def badSum : EthFrame := frame (.ip ipHead (.udp { udpHead with sum := .wrong } []))
def shortFrame : EthFrame := { frame .other with len := 63 }
def straying : EthFrame := { frame .other with dst := 6 }
/-- The tile at position 0 has serial number 9; no link report for 16 cycles. -/
def numbered : State := seen.setPos 0 0 { seen.posAt 0 0 with serial := some 9 }
def silent : State := seen.setPos 0 0 { seen.posAt 0 0 with quiet := 16 }
/-- Tile 0's upstream ring with its first slots produced. -/
def upRing (prod : Nat) : State := tiled.setRing 1 { ringOf 1 2 with prod := prod }
/-- A pushed frame of flow 0 waits. -/
def pushed : State := flowing.setFlow 0 { flowing.flow 0 with waiting := 1 }
/-- The frame in assembly of `filled`. -/
def fullAsm : Asm := ⟨5, 1, 0, [], [], true⟩
/-- An ARP request for port 0's address. -/
def arpFrame : EthFrame := frame (.arp 2 3 0x0A000001 true)
/-- A frame with no consumer. -/
def otherFrame : EthFrame := frame .other
/-- Addresses of the ARP request. -/
def sha : BitVec 48 := 2
def spa : BitVec 32 := 3
def tpa : BitVec 32 := 0x0A000001

/-- Words of a capability report: a tile of 64 KiB whose size is a tile's at reset. -/
def capWord1 : Quad := 0x0001000200000003
def capWord2 : Quad := 64 * 2 ^ 40 + 2 * 2 ^ 18
def capWord3 : Quad := 0
/-- A tile of another size. -/
def capOther : Quad := 64 * 2 ^ 40 + 5 * 2 ^ 30
/-- A directory entry of one TYPE, with no bytes. -/
def entry (typ : Nat) : List Byte := leBytes 8 (typ * 2 ^ 56) ++ List.replicate 56 0
/-- A tile job of tile 0. -/
def aJob : TileJob := ⟨entry 3, 0, 0, true⟩
/-- It runs, in one STATE. -/
def jobbing (st : Nat) : State := on { seen with job := some aJob } pUpd F.UPD_TJ_STAT_STATE st
/-- A READ for the given purpose. -/
def readOp (purpose : Nat) : StoreOp := ⟨1, 7, 0, purpose, entry 3, 0, false⟩
/-- That READ is the running operation. -/
def reading (s : State) (purpose : Nat) : State := { s with storeOp := some (readOp purpose) }
/-- The main domains run, at one BOOT_PHASE. -/
def boot (n : Nat) : State := on up pSys F.SYS_STAT_BOOT_PHASE n
/-- Four header words and the entries of a boot record. -/
def recordHead (es : List Nat) : List Byte :=
  let h := (leBytes 8 (0x5A5742520001 * 2 ^ 16)) ++ leBytes 8 ((40 + 8 * es.length) * 2 ^ 32 + es.length) ++ leBytes 8 0
  h ++ leBytes 8 (crc32c h) ++ (es.map (leBytes 8)).flatten
/-- The record with its check value. -/
def record (es : List Nat) : List Byte := recordHead es ++ leBytes 8 (crc32c (recordHead es))
/-- A state whose slot 0 holds a record, its flags set up to the given byte. -/
def slot0 (s : State) (es : List Nat) (flags : List Byte) : State :=
  { s with flashMem := programBytes (programBytes [] 0 (record es)) 0x600000 flags }
/-- A lock. -/
def lockEntry : Nat := 3 * 2 ^ 60
/-- A write of 5 to MAP_CANVAS. -/
def canvasEntry : Nat := 2 ^ 60 + 0x200100 * 2 ^ 32 + 5
/-- Trims of a channel. -/
def someTrim : ChanTrim := ⟨1, 2, 3⟩
/-- Slot 0 is booted. -/
def booted0 : State := on (boot 2) pUpd F.UPD_STAT_BOOTED 0
/-- None is. -/
def booted3 : State := on (boot 2) pUpd F.UPD_STAT_BOOTED 3
/-- Without the crystal and with an initial commit to target. -/
def boot5 : State := { boot 5 with pow := { (boot 5).pow with xtal := false, initCommit := true } }
/-- In training, with loads to run. -/
def training (l : List Nat) : State := { boot 4 with pow := { (boot 4).pow with loads := l } }
/-- The engine is READY with loads of the record to run, the first under way, and an initial commit. -/
def loading (l : List Nat) : State :=
  reading { rdy with pow := { rdy.pow with loads := l, initCommit := true } } 1
/-- In Sleep, woken, with an image. -/
def waking : State :=
  { on up pEmber F.EMBER_STAT_IMAGE_VALID 1 with
    image := some ⟨[], [], [], [], []⟩, pow := { up.pow with sleeping := true } }
/-- Without it. -/
def waking0 : State := { waking with image := none }

/-- Cycles run. -/
def cycling : State := { rdy with cyc := { rdy.cyc with run := true, next := 10, launch := 10 ^ 9, period := 16666667 } }
/-- A commit of seat 0 and its group, due. -/
def aCommit : Commit := ⟨0, 1, 0, 5, false, false, []⟩
/-- It names a cycle that has closed. -/
def lateCommit : Commit := { aCommit with badTarget := true }
/-- Pages of seat 0 by index. -/
def pageMap : BitVec 12 := 0x200
/-- The step and the object that refuse it. -/
def badNamed : Fail := ⟨3, 11, 0⟩
/-- With a commit waiting. -/
def waitingFor (cm : Commit) : State := { cycling with cyc := { cycling.cyc with pend := [cm] } }
/-- GO of MAP is set. -/
def going : State := on rdy pMap F.HDR_COMMIT_GO 1
/-- Seat 0 names the cycle whose window has just closed. -/
def naming : State := on (on { cycling with cyc := { cycling.cyc with closed := true } } pCmp F.CMP_CMT_CTL_NAMED 1) pCmp F.CMP_CMT_TARGET_CYCLE 10
/-- The window is closed. -/
def closed : State := { cycling with cyc := { cycling.cyc with closed := true } }
/-- A bridge of one cycle. -/
def bridging : State := { cycling with cyc := { cycling.cyc with bridge := [(9, 5)] } }
/-- With link 0's feed active. -/
def bridgingFeed : State := on bridging (pWl 0) F.WL_STAT_PRI_ACTIVE 1

/-- View 0 writes back, and sends a preview frame. -/
def aShot : Shot := ⟨5, 100, 1⟩
def shooting : State := rdy.setView 0 { rdy.view 0 with wb := [aShot] }
def sending : State :=
  let s := force (force (force linked (pView 0) F.VIEW_CFG_ENABLE 1) (pView 0) F.VIEW_PV_CFG_ENABLE 1) (pView 0)
    F.VIEW_PV_DST_ADDR 0xE0000001
  let s := force (force s (pView 0) F.VIEW_WB_SIZE_WIDTH 320) (pView 0) F.VIEW_WB_SIZE_HEIGHT 2
  s.setView 0 { s.view 0 with pv := some (aShot, 0) }
/-- A playout copy into flow 0. -/
def copying : State :=
  { rdy with play := { rdy.play with copying := [(0, 3)], tracks := [(0, 0, 0, 0)] } }
/-- A response load. -/
def respLoading : State := { rdy with respLoad := some (1, 0, 1, 0) }

/-- Link 0's primary feed and lane 0, which it runs on, at a stage. -/
def feed0 (stage : Nat) : State := atStage tiled 0 stage
/-- A training field with a good check value. -/
def goodField : Word := 0xC500009F
/-- The feed at stage 2, PRESET 2 held for two frames. -/
def asked2 : State := (feed0 2).setLane 0 { (feed0 2).lane 0 with reqs := [(5, 2), (0, 0), (0, 0)] }
/-- A control field that asks for preset 1. -/
def presetField : Word := 0xC55000CF
/-- Failures so far. -/
def failing (n : Nat) : State := rdy.putFeed 0 { rdy.feed 0 with stage := 3, width := 4, fails := n }
/-- VGA of a receiver, to code 3. -/
def aStep : TrimStep := ⟨1, 8, 5, 3⟩
/-- The lane's trims as they are. -/
def tuned (f : LaneRt → LaneRt) : State := (feed0 5).setLane 0 (f ((feed0 5).lane 0))
/-- A step waits. -/
def stepping : State := tuned (fun r => { r with pend := [aStep] })
/-- A step has been applied. -/
def stepped : State := tuned (fun r => { r with last := [aStep] })
/-- The lane gathers anew. -/
def gathering : State := tuned (fun r => { r with gathering := true })
/-- Its trims are provisional and its octet has been busy. -/
def busyOctet : State := on (on (feed0 5) (pSer 0) F.LN_META_PROVISIONAL 1) (pSer 0) F.SER_ACT_BUSY_RUN_MS 1000
/-- TEST_CTL: enable at rate 1. -/
def testWord : Word := 0x81000000
/-- Lane 0 in test mode. -/
def testing : State := on (on rdy (pSer 0) F.LN_STAT_ROLE 4) (pSer 0) F.LN_TEST_CHECK_EN 1
/-- Its checker has sync. -/
def synced : State := on testing (pSer 0) F.LN_TEST_STAT_SYNC 1

/-- PTP by port 0. -/
def ptpOn : State := on (on linked pTime F.TPORT_CFG_PTP_EN 1) pTime F.TIME_CFG_SYNC_SRC 1
/-- An announced master. -/
def aMaster : Master := ⟨0, ⟨.udp4, 0x0A000001, 0, 127, 1, 1, 1, 128, 6, 0x20, 0x4E5D, 128, 0, 37, true, false, false⟩, 0⟩
/-- A better one. -/
def betterAnn : Announce := { aMaster.ann with srcId := 2, gmId := 2, prio1 := 1 }
/-- The master is selected. -/
def slaved : State := { ptpOn with ptp := { ptpOn.ptp with masters := [aMaster], selected := some aMaster } }
/-- A delay has been measured. -/
def measured : State := { slaved with ptp := { slaved.ptp with dlys := [1000] } }
/-- A message of the master. -/
def msg (k : PtpKind) (two : Bool) : PtpMsg := ⟨.udp4, k, 127, 1, 1, 7, 0, 0, two, true⟩
/-- A two-step Sync waits. -/
def awaiting : State := { slaved with ptp := { slaved.ptp with pendSync := some (msg .sync true, 100) } }
/-- A Delay_Req is out. -/
def askedDelay : State := { slaved with ptp := { slaved.ptp with dreq := some (7, 0, some 500) } }
/-- ACQUIRING, LOCKED or STEP_WAIT. -/
def sync (s : State) (n : Nat) : State := on s pTime F.TIME_STAT_SYNC_STATE n
/-- A step is scheduled. -/
def stepSched : State := { cycling with cyc := { cycling.cyc with sched := some (5, false) } }
/-- TIME_CFG: PTP with a sound log interval; no source. -/
def ptpCfg : Word := 0x40000030
def freeCfg : Word := 0x00000030
/-- TOUT_CFG: periodic; a single edge. -/
def everyCfg : Word := 0x20000000
def onceCfg : Word := 0x10000000
/-- Output 0 with a period and a width. -/
def toutSet : State := on (on rdy pTime F.TOUT_PERIOD_PERIOD 100000) pTime F.TOUT_WIDTH_WIDTH 100
/-- Armed; driven. -/
def armed : State := toutSet.setTout 0 { toutSet.tout 0 with armed := true, cfg := everyCfg, period := 100000, width := 100 }
def pulsing : State := armed.setTout 0 { armed.tout 0 with pulse := true }
/-- Capture input 0 watches both edges. -/
def capturing : State := on (on rdy pTime F.TCAP_CFG_EN 1) pTime F.TCAP_CFG_EDGE 3
/-- Sixteen entries wait. -/
def capFull : State := capturing.setTcap 0 { capturing.tcap 0 with fifo := List.replicate 16 ⟨0, true, 0⟩ }
/-- PPS_OUT high; on. -/
def ppsOnState : State := on rdy pTime F.TIME_CFG_PPS_MODE 1
def ppsHighState : State := { rdy with ppsHigh := true }

/-- Class-A slot 1 runs. -/
def slotA : State := on (on rdy (pSa 1) F.SA_CFG_EN 1 1) (pSa 1) F.SA_ACT_UMAX_VALUE 1000 1
/-- A phase loop whose integrator would wind up beyond the limit. -/
def heldA : State := on slotA (pSa 1) F.SA_ACT_KI_K 16 1
/-- The clock servo runs. -/
def clockServo : State := on rdy pTime F.TIME_CFG_SYNC_SRC 1
/-- Class-B slot 0 runs with flow 0. -/
def slotB : State := force (force (on rdy (pSb 0) F.SB_CFG_EN 1) (pFlow 0) F.FLOW_CFG_ENABLE 1) (pFlow 0) F.FLOW_RATE_NUM 60
/-- They follow with an error; they are lost. -/
def errA : State := on slotA (pSa 1) F.SA_STAT_FE_RUN 1 1
def errB : State := on slotB (pSb 0) F.SB_STAT_FE_RUN 1
def lostA : State := on slotA (pSa 1) F.SA_STAT_LOST 1 1
def lostB : State := on slotB (pSb 0) F.SB_STAT_LOST 1
/-- Taper without a limit; UMIN above UMAX. -/
def taperB : State := on slotB (pSb 0) F.SB_CFG_TAPER_EN 1
def unsoundA : State := on slotA (pSa 1) F.SA_UMAX_VALUE 0xFFFFFFF0 1

/-- Channel 0 of running GDDR6, its own state changed. -/
def chan0 (f : ChanRt → ChanRt) : State := rdy.setChan 0 (f (rdy.chan 0))
/-- Nine refreshes of bank 3 are held. -/
def nine : State := chan0 (fun r => { r with due := [(3, 9)] })
/-- Group 2 is in panic. -/
def panicking : State := { rdy with panic := [2] }
/-- GDDR6 runs. -/
def memRuns : State := on rdy pMem F.MEM_STAT_STATE 2
/-- As one STATE. -/
def memAt (n : Nat) : State := on lame pMem F.MEM_STAT_STATE n
/-- A field of byte lane 0, to code 3. -/
def aMem : MemStep := ⟨0, 0, 7, 3⟩
/-- Windows of 50 percent. -/
def halfBusy : List (Nat × Nat) := [(50, 100)]
/-- Channel 0 of GDDR6 that runs. -/
def runChan (f : ChanRt → ChanRt) : State := memRuns.setChan 0 (f (memRuns.chan 0))
/-- A step waits; it has been applied; the channel gathers. -/
def memPend : State := runChan (fun r => { r with pend := [aMem] })
def memDue : State := runChan (fun r => { r with due := [(1, 1)] })
def memLast : State := runChan (fun r => { r with last := [aMem] })
def memGather : State := runChan (fun r => { r with gathering := true })
/-- Provisional trims, busy for a second. -/
def memBusy : State := on (on memRuns (pMc 0) F.MC_META_PROVISIONAL 1) (pMc 0) F.MC_ACT_BUSY_RUN_MS 1000
/-- A rate change waits. -/
def rateWaits : State := { memRuns with rateWait := true }
/-- GDDR6 pauses for it. -/
def pausing : State := on memRuns pMem F.MEM_STAT_STATE 4

/-- A sensor at 6.25 degrees, at 140. -/
def warm : BitVec 16 := 100
def tooHot : BitVec 16 := 2240
/-- Tile 0 holds its number. -/
def placed : State :=
  on (on (on tiled (pWl 0) F.POS_STAT_PRESENT 1) (pWl 0) F.POS_STAT_ASSIGNED 1) (pWl 0) F.POS_STAT_TILE 0
/-- Its POLL 5 is out; it has been answered. -/
def polled : State := placed.setTele 0 { placed.tele 0 with polled := true, pseq := 5 }
def replied : State := placed.setTele 0 { placed.tele 0 with answered := true }
/-- Four temperatures. -/
def temps : List (BitVec 16) := [640, 640, 640, 640]
/-- 9 rails. -/
def rails9 : List (BitVec 16) := List.replicate 9 750
/-- Rail 0 is out of range. -/
def rail0 : BitVec 9 := 1
/-- Zone 1 is in hold, zone 2 has just violated. -/
def violating : State := rdy.setHouse { rdy.house with holds := [1], zoneViol := [(2, 0)] }
/-- Lamp health is on. -/
def health : State := force placed pHk F.HK_CFG_LH_EN 1
/-- Lamp 0 of pixel 0 opens, is suspect, sticks; an entry beyond the tile. -/
def opens : FaultEntry := ⟨1, 0, 0⟩
def suspect : FaultEntry := ⟨4, 0, 0⟩
def sticks : FaultEntry := ⟨2, 0, 0⟩
def beyond : FaultEntry := ⟨1, 0, 7⟩
/-- A diagnostic message 3 asks about that lamp, which is unverified. -/
def anOut : DiagOut := ⟨0, 3, [(0, 0)], 5⟩
def diagnosing : State := (health.setHouse { health.house with outs := [anOut] }).poke health.lhBase [1]
/-- What it answers: nothing, good, open, stuck. -/
def answers (r : BitVec 2) : DiagEntry := ⟨r, 0, 0⟩
/-- Tile 0 named for a lamp command. -/
def scanning : State := on health pHk F.HK_STAT_LH_SCAN 1

/-- Level 3 of seat 0 is set. -/
def running3 : State := on rdy (pEvtp 0) F.EVTP_RUN_LEVELS 8
/-- Seat 0 is lost; a playout commit waits. -/
def lost0 : State :=
  let s := { rdy with evt := { rdy.evt with lost := [0] } }
  { s with play := { s.play with pending := true } }
/-- Seat 1's notification is out, its host known. -/
def noting : State :=
  let s := on (on talking (pEvtp 1) F.EVTP_NOTE_OUTSTANDING 1) (pEvtp 1) F.EVTP_CFG_RESEND_MS 5
  s.setPort 0 { s.port 0 with cache := [(0x0A000002, 2)] }
/-- The cached host. -/
def hostEntry : BitVec 128 × BitVec 48 := (0x0A000002, 2)
/-- Playout is enabled. -/
def playable : State := on rdy pEvt F.EVT_PLAYOUT_CFG_EN 1
/-- A playout runs; its loop loads. -/
def playing : State := { rdy with play := { rdy.play with running := true } }
def playLoading : State := reading { rdy with play := { rdy.play with loading := true } } 2
/-- A view is enabled. -/
def viewing : State := force rdy (pView 0) F.VIEW_CFG_ENABLE 1
/-- At one PSTATE. -/
def power (n : Nat) : State := on rdy pEmber F.EMBER_STAT_PSTATE n
/-- A power request has been taken. -/
def leaving (sleep : Bool) : State := { power 1 with powerReq := some sleep }
/-- WAKE_N and the alarm wake. -/
def waker (s : State) : State := on (on s pEmber F.EMBER_WAKE_CFG_WAKE_N_EN 1) pEmber F.EMBER_WAKE_CFG_ALARM_EN 1
/-- In Sleep with the main domains down. -/
def asleep : State := waker { State.reset with pow := { State.reset.pow with sleeping := true } }

/-- UPD_LEN of 48 bytes. -/
def writable (s : State) : State := on s pUpd F.UPD_LEN_LEN 48
/-- Slot 0 is booted, confirmed or not. -/
def boot0 (flags : List Byte) : State := writable (on (slot0 rdy [lockEntry] flags) pUpd F.UPD_STAT_BOOTED 0)
/-- None is. -/
def boot3 : State := writable (on rdy pUpd F.UPD_STAT_BOOTED 3)
/-- The patch that copies the record. -/
def patch : List Byte :=
  let b := leBytes 8 (0x5A5750540001 * 2 ^ 16) ++ leBytes 8 (48 * 2 ^ 32 + 48) ++ leBytes 8 (crc32c (recordHead [lockEntry])) ++
    leBytes 8 (2 ^ 60 + 6) ++ leBytes 8 (0xF * 2 ^ 60)
  b ++ leBytes 8 (crc32c b)
/-- It is staged. -/
def staged : State :=
  let s := boot0 (List.replicate 5 0)
  { s with flashMem := programBytes (programBytes s.flashMem 0x400000 patch) 0x602000 [0] }
/-- Another record's patch. -/
def foreign : State := { staged with flashMem := programBytes staged.flashMem 40 [0] }
/-- A flash operation with steps left. -/
def flashOf (l : List FlashStep) : FlashOp := ⟨1, l, 0x400000, 8⟩
/-- It runs. -/
def flashing (l : List FlashStep) : State := { rdy with flashOp := some (flashOf l) }
/-- Steps. -/
def erases : FlashStep := .erase 0x400000 0x10
def programs : FlashStep := .program 0x400000 [0x5A]

/-- READ that has failed, RESYNC that runs. -/
def failedOp : StoreOp := { readOp 0 with failed := true }
def resyncOp : StoreOp := { readOp 0 with op := 5 }
def writeOp : StoreOp := ⟨2, 7, 0, 0, leBytes 8 (2 ^ 56) ++ leBytes 8 (2 * 2 ^ 32) ++ leBytes 8 4 ++ List.replicate 40 0, 0, false⟩
/-- That operation runs. -/
def storing (o : StoreOp) : State := { on rdy pNvme F.NVME_STAT_D0_STATE 2 with storeOp := some o }
/-- Drive 0 at an initialisation step, or done. -/
def driving (phase : Nat) (once : Bool) : State :=
  on (rdy.setDrive 0 { rdy.drive 0 with linkUp := true, phase := phase, resetOnce := once }) pNvme F.NVME_STAT_D0_STATE 1
/-- A good reply; an unusable drive; a failure. -/
def okReply : NvmeReply := ⟨true, 2 ^ 21, 4096, true, []⟩
def badReply : NvmeReply := ⟨true, 0, 512, false, []⟩
def noReply : NvmeReply := ⟨false, 0, 0, false, []⟩
/-- A READ of 4 bytes that moves. -/
def moveOp : StoreOp := { writeOp with op := 1 }
def moving : State :=
  { on (driving 7 false) pNvme F.NVME_STAT_D0_STATE 2 with storeOp := some moveOp }

/-- A report of another serial number. -/
def capWord4 : Quad := 7
/-- Ring 8200, the first host ring. -/
def hostRing : RingNo := 8200
/-- Byte enables of a half-word. -/
def beHalf : BitVec 4 := 12
/-- Doublewords of a request. -/
def dFull : DWord := ⟨15, 0⟩
def dPart : DWord := ⟨1, 0⟩
def two : List DWord := [dPart]
def tooMany : List DWord := List.replicate 33 dFull
/-- A fragment header on a frame; received datagrams that hold a packet of flow 0, and one cut short. -/
def vFirst : List Byte := rtp 101 60
def vAgain : List Byte := rtp 100 60
def vOld : List Byte := rtp 10 60
def vPast : List Byte := rtp (100 + 2 ^ 32 - 32768) 60
def vStale : List Byte := rtp 101 40
def fFirst : EthFrame := udpFrame vFirst
def fAgain : EthFrame := udpFrame vAgain
def fOld : EthFrame := udpFrame vOld
def fPast : EthFrame := udpFrame vPast
def fStale : EthFrame := udpFrame vStale
def fBroken : EthFrame := udpFrame broken
/-- A change of pin rate goes on while a packet comes. -/
def merging4 : State := on merging pMem F.MEM_STAT_STATE 4
/-- The neighbour asked for. -/
def nine9 : BitVec 128 := 9
/-- The port has left a group and asks again; a query is to be answered. -/
def leftGroup : List GroupRec := [⟨0xE0000001, false, []⟩]
def changing : State := linked.setPort 0 { linked.port 0 with changes := [leftGroup] }
def queried : State := linked.setPort 0 { linked.port 0 with groups := [(0xE0000001, [])], reports := [0xE0000001] }
/-- Blocks of a feed. -/
def errorBlock : LineIn := .block true (0xEE :: List.replicate 31 0)
def fillBlock : LineIn := .block true (0xF1 :: List.replicate 31 0)
/-- Eight symbols that are no codeword's. -/
def badCells : List (BitVec 10) := List.replicate 264 0 ++ [1, 2, 3, 4, 5, 6, 7, 8]
def badWord : LineIn := .codeword 0 badCells
/-- A word on a lane that a narrow feed has not. -/
def noWord : LineIn := .codeword 3 (List.replicate 272 0)
/-- A feed of two lanes in stage 3. -/
def narrow : State := tiled.putFeed 0 { tiled.feed 0 with stage := 3, width := 2 }
/-- Both lanes' ALIGN blocks. -/
def aligns : List AlignRx := [⟨0, 2, 10⟩, ⟨1, 2, 20⟩]
/-- A feed of one lane whose training is over on both sides. -/
def trainedFeed : State :=
  let s := tiled.putFeed 0 { tiled.feed 0 with stage := 2, width := 1 }
  s.setLane 0 { s.lane 0 with train := { (s.lane 0).train with phase := .ready, partner := 16, seen := true } }
/-- A frame in the search: the receiver requests, measures. -/
def searching : State :=
  (feed0 2).setLane 0 { (feed0 2).lane 0 with frames := 10, train := { ((feed0 2).lane 0).train with phase := .measure } }
/-- The lane gathers anew, with a window of activity 75 %. -/
def gathered : State := tuned (fun r => { r with gathering := true, wins := [(4, 3)] })
def gatheredHost : State := tuned (fun r => { r with gathering := true, fromHost := true, wins := [(4, 1)] })
/-- Steps of a re-gather wait. -/
def movingLane : State := tuned (fun r => { r with moving := true, targets := [aStep] })
/-- PTP messages. -/
def syncTwo : PtpMsg := msg .sync true
def syncOne : PtpMsg := msg .sync false
def followUp : PtpMsg := msg .followUp false
def delayResp : PtpMsg := msg .delayResp false
def lateResp : PtpMsg := { msg .delayResp false with stamp := -10 ^ 9 }
def farSync : PtpMsg := { msg .sync false with stamp := -10 ^ 12 }
def delayReqMsg : PtpMsg := msg .delayReq false
/-- Steps of engine time wait at 1 ms; locked to the master. -/
def steppy : State := on (sync measured 2) pTime F.TIME_STEP_THR_THR_NS 1000
/-- The master asks for unicast. -/
def unicast : State := on slaved pTime F.TPORT_CFG_DREQ_UNICAST 1
def wired : State :=
  on (on { slaved with ptp := { slaved.ptp with selected := some { aMaster with ann := { aMaster.ann with via := .ethernet, addr := 2 } } } }
    pTime F.TPORT_CFG_DREQ_UNICAST 1) pTime F.TPORT_CFG_TRANSPORT 2
/-- Announce messages. -/
def firstAnn : Announce := aMaster.ann
/-- A lane in test mode that receives from its balls, with errors to find. -/
def checking : State := on testing (pSer 0) F.LN_STAT_STAGE 9
def looped : State := on checking (pSer 0) F.LN_TEST_LOOP 2
def mirrored : State := on checking (pSer 0) F.LN_TEST_LOOP 1
def synced9 : State := on checking (pSer 0) F.LN_TEST_STAT_SYNC 1
def someSymbols : List (Fin 4) := [0, 3, 0, 3, 3, 0, 1, 2]
/-- Zone 1 is in hold until later. -/
def holding : State :=
  violating.setHouse { violating.house with holdEnds := [(1, 10 ^ 9), (256, 10 ^ 9)], dieHold := true }
/-- A message from a tile for the host; for the engine. -/
def hostUp : Word := 0x40000007
def sysUp : Word := 0xC0000007
/-- Windows of 70 percent. -/
def mostBusy : List (Nat × Nat) := [(70, 100)]
/-- The trims as they are, with a window. -/
def windowed : State := tuned (fun r => { r with wins := [(4, 3)] })
/-- Port 5 of GDDR6 is in panic. -/
def panic5 : State := { rdy with panic := [5] }
/-- The holds of zone 1 and of the die are over. -/
def ended : State := violating.setHouse { violating.house with holdEnds := [(1, 0), (256, 0)], dieHold := true }
/-- Its answer is due. -/
def overdue : State := { diagnosing with cyc := { diagnosing.cyc with next := 10 } }
/-- Its window of the drives is paused. -/
def pausedDrive : State := on (driving 0 false) pMem F.MEM_STAT_STATE 4
/-- The master announced by Ethernet. -/
def wiredMaster : Master := { aMaster with ann := { aMaster.ann with via := .ethernet, addr := 2 } }
/-- What a packet of flow 0 does to its merge record. -/
def mergedBy (bs : List Byte) : FlowRt × Verdict := (merging.flow 0).merge (readRtp ipHead 7 bs).seq false merging.now
/-- Seat 0 may write the first 64 KiB of GDDR6. -/
def spacious : State := on rdy (pSeat 0) F.SEAT_MEM_LIMIT_LO_LIMIT 0x10000
/-- A drive that is usable, of 64 MiB. -/
def disk : Drive := { Drive.away with linkUp := true, phase := 7, units := 64 }
/-- Drive 0 holds these bytes, an operation runs. -/
def withDisk (s : State) (x : Drive) (o : Option StoreOp) : State :=
  { s with drives := [(0, x)], storeOp := o }
/-- The drive holds a directory of these entries. -/
def stored (s : State) (es : List Byte) (o : Option StoreOp) : State := withDisk s (disk.put 0 (makeDir 1 64 es)) o
/-- The other 255 entries. -/
def others : List Byte := List.replicate 16320 0
/-- One entry and 255 free ones. -/
def entries (typ : Nat) : List Byte := entry typ ++ others
/-- Drive 0 is READY while a tile job loads, the last load of the record runs, a playout loads. -/
def jobBase : State := on (jobbing 1) pNvme F.NVME_STAT_D0_STATE 2
def loadBase : State := on (loading [7]) pNvme F.NVME_STAT_D0_STATE 2
/-- A loop of one track and no entries, at address 0. -/
def loopBytes : List Byte :=
  leBytes 8 (0x5A574C500001 * 2 ^ 16 + 1) ++ leBytes 8 0 ++ leBytes 8 (2 ^ 48 + 1) ++ leBytes 8 64
def loopBase : State :=
  on ({ rdy with play := { rdy.play with loading := true } }.poke 0 loopBytes) pNvme F.NVME_STAT_D0_STATE 2
/-- The READ and the directory. -/
def jobRead : State := withDisk jobBase (disk.put 0 (makeDir 1 64 (entries 3))) (some (readOp 3))
def lastLoad : State := withDisk loadBase (disk.put 0 (makeDir 1 64 (entries 3))) (some (readOp 1))
def loopRead : State := withDisk loopBase (disk.put 0 (makeDir 1 64 (entries 2))) (some (readOp 2))
/-- Drive 0 READY, and drive 1 STALE. -/
def storeBase : State := on rdy pNvme F.NVME_STAT_D0_STATE 2
def staleBase : State := on storeBase pNvme F.NVME_STAT_D1_STATE 3
/-- A store whose extent 0 is in use; none is, in a store of 64 MiB, with the template of a WRITE at address 0; with a
drive to bring up to date. -/
def inUse : State := withDisk storeBase (disk.put 0 (makeDir 1 64 (entries 1))) none
def unused : State :=
  withDisk (on (storeBase.poke 0 writeOp.entry) pNvme F.NVME_CAPACITY_UNITS 64) (disk.put 0 (makeDir 1 64 (entries 0))) none
def behind : State := withDisk staleBase (disk.put 0 (makeDir 1 64 (entries 0))) none

/-! ### Witnesses: each statement's hypotheses hold at the states and operands named -/

theorem witness_IdleStepIsOneClock :
    (State.reset.pending = [] ∧ State.reset.pow.up = false) ∧
    (up.pending = [] ∧ up.pow.up = true) := by
  decide +kernel

theorem witness_RailsCrystalAndLifeHours :
    (rdy.pow.xtal = true ∧ rdy.ready = true) ∧
    (rdy.pow.xtal = true ∧ rdy.pow.up = true) ∧
    (State.reset.pow.xtal = true ∧ State.reset.pow.up = false) := by
  decide +kernel

theorem witness_MainDomainsReset :
    (rdy.Sound ∧ 1000 ≤ 1000) ∧
    (rdy.Sound ∧ 999 < 1000) ∧
    (shut.Sound ∧ shut.pow.shutting = true) ∧
    (rdy.Sound ∧ rdy.May (↑0) pSys) := by
  decide +kernel

theorem witness_PowerUpResumesEngineTime :
    (State.reset.pow.rails.all id = true ∧ State.reset.pow.coreFault = false ∧ State.reset.pow.thermHold = 0 ∧
      State.reset.pow.up = false ∧ State.reset.pow.sleeping = false ∧ State.reset.pow.xtal = true) ∧
    ((quiet State.reset).pow.rails.all id = true ∧ (quiet State.reset).pow.coreFault = false ∧
      (quiet State.reset).pow.thermHold = 0 ∧ (quiet State.reset).pow.up = false ∧
      (quiet State.reset).pow.sleeping = false ∧ (quiet State.reset).pow.xtal = false) ∧
    ((up.pow.rails.all id = false ∨
  up.pow.coreFault = true ∨ up.pow.thermHold ≠ 0 ∨ up.pow.up = true ∨ up.pow.sleeping = true)) ∧
    ((hot.pow.rails.all id = false ∨
  hot.pow.coreFault = true ∨ hot.pow.thermHold ≠ 0 ∨ hot.pow.up = true ∨ hot.pow.sleeping = true)) ∧
    (hot.pow.thermHold = 2) := by
  decide +kernel

theorem witness_ReferenceClockFaults :
    (RefClk.mem ≠ RefClk.core ∧ up.pow.up = true ∧ bit up.refStat (refBit RefClk.mem) = false) ∧
    (RefClk.ser 7 ≠ RefClk.core ∧ up.pow.up = true) ∧
    (RefClk.pcie ≠ RefClk.core ∧
      bit (on up pSys F.SYS_REFCLK_STAT_PCIE_FAULT 1).refStat (refBit RefClk.pcie) = true) := by
  decide +kernel

theorem witness_PlainWritesFollowTheAccessTypes :
    (rdy.serves ↑0 = true ∧ aCanvas.toNat % 4 = 0 ∧ locate aCanvas.toNat = some lCanvas ∧
      lCanvas.blk ∈ [Blk.therm, Blk.zone, Blk.map, Blk.view, Blk.pcie, Blk.servo, Blk.tile, Blk.zn] ∧
      (isWindow lCanvas.blk = true ∨ lCanvas.off ≠ 32) ∧ lCanvas.mute = false ∧ regRows aCanvas.toNat ≠ [] ∧
      bootOnly aCanvas.toNat = false ∧ lCanvas.heldLo = false ∧ lCanvas.heldHi = false ∧
      rdy.mayWrite (↑0) lCanvas aCanvas.toNat = true) ∧
    (rdy.serves ↑0 = true ∧ aTile.toNat % 4 = 0 ∧ locate aTile.toNat = some lTile ∧
      lTile.blk ∈ [Blk.therm, Blk.zone, Blk.map, Blk.view, Blk.pcie, Blk.servo, Blk.tile, Blk.zn] ∧
      (isWindow lTile.blk = true ∨ lTile.off ≠ 32) ∧ lTile.mute = false ∧ regRows aTile.toNat ≠ [] ∧
      bootOnly aTile.toNat = false ∧ lTile.heldLo = false ∧ lTile.heldHi = false ∧
      rdy.mayWrite (↑0) lTile aTile.toNat = true) := by
  decide +kernel

theorem witness_PairHalvesTakeEffectTogether :
    (rdy.serves ↑0 = true ∧ locate aEntLo.toNat = some lEntLo ∧
      lEntLo.blk ∈ [Blk.hk, Blk.upd, Blk.nvme, Blk.view, Blk.cor, Blk.ember, Blk.eth] ∧ aEntLo.toNat % 4 = 0 ∧
      lEntLo.heldLo = true ∧ bootOnly aEntLo.toNat = false ∧ rdy.mayWrite (↑0) lEntLo aEntLo.toNat = true) ∧
    (rdy.serves ↑0 = true ∧ locate aEntHi.toNat = some lEntHi ∧
      lEntHi.blk ∈ [Blk.hk, Blk.upd, Blk.nvme, Blk.view, Blk.cor, Blk.ember, Blk.eth] ∧ aEntHi.toNat % 4 = 0 ∧
      lEntHi.heldHi = true ∧ bootOnly aEntHi.toNat = false ∧ rdy.mayWrite (↑0) lEntHi aEntHi.toNat = true) := by
  decide +kernel

theorem witness_ReadsLatchAndClear :
    (rdy.serves ↑0 = true ∧ aRound.toNat % 4 = 0 ∧ locate aRound.toNat = some lRound ∧ lRound.isLo = true ∧
      lRound.foreignSeat ↑0 = false) ∧
    (rdy.serves ↑0 = true) ∧
    (rdy.serves ↑0 = true) ∧
    (rdy.serves ↑0 = true) := by
  decide +kernel

theorem witness_NarrowWritesAreDropped :
    (14 ≠ 15 ∧ (∀ (n : Nat), n < 4 → aCanvas.toNat - aCanvas.toNat % 4 ≠ pCrc n + 272)) ∧
    (rdy.May (↑0) (pCrc ↑3) ∧
      (12, 2) ∈ [(1#4, 1), (2#4, 1), (4#4, 1), (8#4, 1), (3#4, 2), (6#4, 2), (12#4, 2), (15#4, 4)]) := by
  decide +kernel

theorem witness_ForeignWritesAreCountedAndDropped :
    (on rdy (pSeat 1) F.SEAT_CFG_ENABLE 1).serves ↑1 = true ∧ aCanvas.toNat % 4 = 0 ∧
      locate aCanvas.toNat = some lCanvas ∧ isWindow lCanvas.blk = false ∧ lCanvas.mute = false ∧
      regRows aCanvas.toNat ≠ [] ∧
      (bootOnly aCanvas.toNat = true ∨
  (on rdy (pSeat 1) F.SEAT_CFG_ENABLE 1).mayWrite (↑1) lCanvas aCanvas.toNat = false) := by
  decide +kernel

theorem witness_NoAccessBeforeReady :
    (up.serves ↑0 = false) ∧
    (up.reachable = false) ∧
    (rdy.serves ↑15 = false) := by
  decide +kernel

theorem witness_Bar0RequestsAreSingleAccesses :
    (rdy.reachable = true ∧ aRound.toNat % 4 = 0 ∧ [{ be := 1, value := 0 : DWord }].length < 32 ∧
      aRound.toNat + 4 < 2 ^ 24 ∧ [{ be := 1, value := 0 : DWord }] ≠ [] ∧
      goesOn (exec (Instr.bar0Request true aRound [{ be := 15, value := 0 : DWord }]) rdy) = true) ∧
    (rdy.reachable = true ∧ aRound.toNat % 4 = 0) ∧
    (rdy.reachable = true ∧ aRound.toNat % 4 = 0 ∧ { be := 15, value := 0 : DWord }.be = 15) ∧
    (rdy.reachable = true ∧ 32 < (List.replicate 33 { be := 15, value := 0 : DWord }).length) := by
  decide +kernel

theorem witness_Bar2ReadsAndWritesGddr :
    (spacious.reachable = true ∧ spacious.rateChanging = false ∧ spacious.memOff = false ∧
      spacious.inWindow 0 nought.toNat (text [1]).length = true ∧
      spacious.inGddr nought.toNat (text [1]).length = true) ∧
    (rdy.reachable = true ∧ rdy.rateChanging = false ∧
      (rdy.memOff = true ∨
  rdy.inWindow 0 lastOfAll.toNat (text [1]).length = false ∨
    rdy.inGddr lastOfAll.toNat (text [1]).length = false)) ∧
    (lame.reachable = true ∧ lame.rateChanging = false ∧
      (lame.memOff = true ∨
  lame.inWindow 0 nought.toNat (text []).length = false ∨ lame.inGddr nought.toNat (text []).length = false)) ∧
    (rdy.reachable = true ∧ rdy.rateChanging = false ∧ rdy.memOff = false ∧ rdy.inGddr lastIn.toNat 1 = true) ∧
    (rdy.reachable = true ∧ rdy.rateChanging = false ∧ rdy.memOff = false ∧ rdy.inGddr firstOut.toNat 1 = false) ∧
    (lame.reachable = true ∧ lame.rateChanging = false ∧ lame.memOff = true) ∧
    (pausing.reachable = true ∧ pausing.rateChanging = true) := by
  decide +kernel

theorem witness_ConfigurationBar4AndLinkUp :
    (up.pow.up = true ∧ up.ready = false) ∧
    (rdy.pow.up = true ∧ rdy.ready = true) ∧
    (rdy.reachable = true ∧ BitVec.toNat (252 : BitVec (16 : Nat)) % (4 : Nat) = (0 : Nat) ∧
      BitVec.toNat (252 : BitVec (16 : Nat)) < (256 : Nat)) ∧
    (up.pow.up = true) := by
  decide +kernel

theorem witness_ControlDatagramsRunOnce :
    (talking.reachable = true ∧ talking.portUp ↑0 = true ∧ 8 ≤ dgText.length ∧
      talking.dgError (↑0) false hostIp.toNat hostUdp.toNat dgText = 0 ∧
      ¬((look { seen := false, reply := [] : DgRt } talking.dgs
          (dgHeader ((quadsOf dgText).getD 0 0)).seat).seen =
      true ∧
    talking.fld (pSeat (dgHeader ((quadsOf dgText).getD 0 0)).seat) F.SEAT_SEQ_SEQ =
      (dgHeader ((quadsOf dgText).getD 0 0)).seq) ∧
      (talking.dgAll (dgHeader ((quadsOf dgText).getD 0 0)).seat ((dgParse dgText).getD [])).fst.reachable = true) ∧
    (talked.reachable = true ∧ talked.portUp ↑0 = true ∧ 8 ≤ dgText.length ∧
      talked.dgError (↑0) false hostIp.toNat hostUdp.toNat dgText = 0 ∧
      (look { seen := false, reply := [] : DgRt } talked.dgs (dgHeader ((quadsOf dgText).getD 0 0)).seat).seen =
  true ∧
      talked.fld (pSeat (dgHeader ((quadsOf dgText).getD 0 0)).seat) F.SEAT_SEQ_SEQ =
  (dgHeader ((quadsOf dgText).getD 0 0)).seq) ∧
    (linked.reachable = true ∧ linked.portUp ↑0 = true ∧ 8 ≤ dgText.length ∧
      linked.dgError (↑0) false hostIp.toNat hostUdp.toNat dgText ≠ 0) := by
  decide +kernel

theorem witness_CheckValueUnitsFeedBytes :
    (rdy.May (↑0) (pCrc ↑3) ∧ 0 < 4 ∧ 0 + 4 ≤ 4) ∧
    (rdy.May (↑0) (pCrc ↑0) ∧ 0 < 1 ∧ 3 + 1 ≤ 4) ∧
    (rdy.May (↑0) (pCrc ↑0) ∧ 5 ∈ [5#4, 9#4, 10#4, 11#4, 13#4]) ∧
    (rdy.serves ↑0 = true) := by
  decide +kernel

theorem witness_IndexWritesMoveForwardOrCount :
    ((front rdy 8200 3 copyWords).serves ↑0 = true ∧ (front rdy 8200 3 copyWords).ringWriter ↑0 ↑8200 = true ∧
      ((front rdy 8200 3 copyWords).ring ↑8200).hostProduces = true ∧
      ¬(front rdy 8200 3 copyWords).eventRing ↑8200 ∧
      (2 + 2 ^ 32 - ((front rdy 8200 3 copyWords).ring 8200).prod) % 2 ^ 32 = 1 ∧
  ((front rdy 8200 3 copyWords).ring 8200).occ + 1 ≤ ((front rdy 8200 3 copyWords).ring 8200).size) ∧
    ((front rdy 8200 3 copyWords).serves ↑0 = true ∧ (front rdy 8200 3 copyWords).ringWriter ↑0 ↑8200 = true ∧
      ((front rdy 8200 3 copyWords).ring ↑8200).hostProduces = true ∧
      ¬(front rdy 8200 3 copyWords).eventRing ↑8200) ∧
    ((front rdy 8200 3 copyWords).serves ↑0 = true ∧ (front rdy 8200 3 copyWords).ringWriter ↑0 ↑8200 = true ∧
      ((front rdy 8200 3 copyWords).ring ↑8200).hostProduces = true ∧
      ¬(front rdy 8200 3 copyWords).eventRing ↑8200 ∧ ((front rdy 8200 3 copyWords).ring 8200).size < 1 + 16) ∧
    ((front rdy 8200 4 copyWords).serves ↑0 = true ∧ (front rdy 8200 4 copyWords).ringWriter ↑0 ↑8200 = true ∧
      ((front rdy 8200 4 copyWords).ring ↑8200).hostConsumes = true) ∧
    ((front rdy 8200 4 copyWords).serves ↑0 = true ∧ (front rdy 8200 4 copyWords).ringWriter ↑0 ↑8200 = true ∧
      ((front rdy 8200 4 copyWords).ring ↑8200).hostConsumes = true ∧
      ((front rdy 8200 4 copyWords).ring 8200).occ < 2) := by
  decide +kernel

theorem witness_RingOperationsActOrGiveAReason :
    (asked.serves ↑0 = true ∧ asked.allocReason (↑0) (asked.ringArg ↑0) = 0) ∧
    (rdy.serves ↑0 = true ∧ rdy.allocReason (↑0) (rdy.ringArg ↑0) ≠ 0) ∧
    ((front rdy 8200 3 copyWords).serves ↑0 = true ∧ (front rdy 8200 3 copyWords).configReason ↑0 ↑hostRing = 0 ∧
      ¬(front rdy 8200 3 copyWords).eventRing 8200) ∧
    (rdy.serves ↑0 = true ∧ rdy.configReason ↑0 ↑hostRing ≠ 0) ∧
    ((front rdy 8200 3 copyWords).serves ↑0 = true ∧
      (front rdy 8200 3 copyWords).targetReason (↑0) (↑hostRing) true = 0) ∧
    (rdy.serves ↑0 = true ∧ rdy.targetReason (↑0) (↑hostRing) true ≠ 0) ∧
    ((front rdy 8200 3 copyWords).serves ↑0 = true ∧
      (front rdy 8200 3 copyWords).targetReason (↑0) (↑hostRing) false = 0) ∧
    (rdy.serves ↑0 = true ∧ rdy.targetReason (↑0) (↑0) false ≠ 0) := by
  decide +kernel

theorem witness_HostCommandsAreJudgedInOrder :
    ((Instr.copy 8200, 16) ∈ [(Instr.copy 8200, 16), (Instr.fill 8200, 17), (Instr.nop 8200, 18)] ∧
      (front rdy 8200 3 copyWords).frontCommand ↑8200 = some copyWords ∧
      look none (front rdy 8200 3 copyWords).commands ↑8200 = none ∧ bitsOf (wordAt copyWords 0) 56 8 = 16) ∧
    ((Instr.fill 8200, 17) ∈ [(Instr.copy 8200, 16), (Instr.fill 8200, 17), (Instr.nop 8200, 18)] ∧
      (front rdy 8200 3 fillWords).frontCommand ↑8200 = some fillWords ∧
      look none (front rdy 8200 3 fillWords).commands ↑8200 = none ∧ bitsOf (wordAt fillWords 0) 56 8 = 17) ∧
    ((Instr.nop 8200, 18) ∈ [(Instr.copy 8200, 16), (Instr.fill 8200, 17), (Instr.nop 8200, 18)] ∧
      (front rdy 8200 3 [18 * 2 ^ 56, 0, 0, 0]).frontCommand ↑8200 = some [18 * 2 ^ 56, 0, 0, 0] ∧
      look none (front rdy 8200 3 [18 * 2 ^ 56, 0, 0, 0]).commands ↑8200 = none ∧
      bitsOf (wordAt [18 * 2 ^ 56, 0, 0, 0] 0) 56 8 = 18) ∧
    ((judged copyWords 1).frontCommand ↑8200 = some copyWords ∧
      look none (judged copyWords 1).commands ↑8200 = some 1) := by
  decide +kernel

theorem witness_FillAndCopyMoveTheirBytes :
    ((judged fillWords 0).frontCommand ↑8200 = some fillWords ∧
      look none (judged fillWords 0).commands ↑8200 = some 0 ∧ bitsOf (wordAt fillWords 3) 56 2 = 0 ∧
      bitsOf (wordAt fillWords 3) 0 32 % 4 = 0 ∧
      (bitsOf (wordAt fillWords 0) 56 8 = 17 ∨
  bitsOf (wordAt fillWords 0) 56 8 = 16 ∧ bitsOf (wordAt fillWords 3) 58 2 = 0)) ∧
    ((judged copyWords 0).frontCommand ↑8200 = some copyWords ∧
      look none (judged copyWords 0).commands ↑8200 = some 0 ∧ bitsOf (wordAt copyWords 3) 56 2 = 0 ∧
      bitsOf (wordAt copyWords 3) 0 32 % 4 = 0 ∧
      (bitsOf (wordAt copyWords 0) 56 8 = 17 ∨
  bitsOf (wordAt copyWords 0) 56 8 = 16 ∧ bitsOf (wordAt copyWords 3) 58 2 = 0)) := by
  decide +kernel

theorem witness_TileMessagesMoveWhole :
    ((front seen 0 1 (tileWords 1) 2).tileFeed ↑0 = some (0, false) ∧
      ((front seen 0 1 (tileWords 1) 2).ring (2 * ↑0)).enable = true ∧
      (front seen 0 1 (tileWords 1) 2).zeroRing ((front seen 0 1 (tileWords 1) 2).ring (2 * ↑0)) = false ∧
      ((front seen 0 1 (tileWords 1) 2).ring (2 * ↑0)).occ ≠ 0 ∧
      bitsOf
    (wordAt
      ((front seen 0 1 (tileWords 1) 2).slotWords ((front seen 0 1 (tileWords 1) 2).ring (2 * ↑0))
        ((front seen 0 1 (tileWords 1) 2).ring (2 * ↑0)).cons)
      0)
    56 8 =
  1 ∧
      bitsOf
    (wordAt
      ((front seen 0 1 (tileWords 1) 2).slotWords ((front seen 0 1 (tileWords 1) 2).ring (2 * ↑0))
        ((front seen 0 1 (tileWords 1) 2).ring (2 * ↑0)).cons)
      1)
    32 15 ≤
  256 ∧
      msgSlots
    (bitsOf
      (wordAt
        ((front seen 0 1 (tileWords 1) 2).slotWords ((front seen 0 1 (tileWords 1) 2).ring (2 * ↑0))
          ((front seen 0 1 (tileWords 1) 2).ring (2 * ↑0)).cons)
        1)
      32 15) ≤
  ((front seen 0 1 (tileWords 1) 2).ring (2 * ↑0)).occ ∧
      (front seen 0 1 (tileWords 1) 2).feedActive 0 false = true ∧
      enough ((front seen 0 1 (tileWords 1) 2).credit ↑0).limit0
    ((front seen 0 1 (tileWords 1) 2).credit ↑0).used0
    (bitsOf
      (wordAt
        ((front seen 0 1 (tileWords 1) 2).slotWords ((front seen 0 1 (tileWords 1) 2).ring (2 * ↑0))
          ((front seen 0 1 (tileWords 1) 2).ring (2 * ↑0)).cons)
        1)
      32 15) =
  true) ∧
    ((front seen 0 1 (tileWords 2)).tileFeed ↑0 = some (0, false) ∧
      ((front seen 0 1 (tileWords 2)).ring (2 * ↑0)).enable = true ∧
      (front seen 0 1 (tileWords 2)).zeroRing ((front seen 0 1 (tileWords 2)).ring (2 * ↑0)) = false ∧
      ((front seen 0 1 (tileWords 2)).ring (2 * ↑0)).occ ≠ 0 ∧
      (bitsOf
      (wordAt
        ((front seen 0 1 (tileWords 2)).slotWords ((front seen 0 1 (tileWords 2)).ring (2 * ↑0))
          ((front seen 0 1 (tileWords 2)).ring (2 * ↑0)).cons)
        0)
      56 8 ≠
    1 ∨
  256 <
    bitsOf
      (wordAt
        ((front seen 0 1 (tileWords 2)).slotWords ((front seen 0 1 (tileWords 2)).ring (2 * ↑0))
          ((front seen 0 1 (tileWords 2)).ring (2 * ↑0)).cons)
        1)
      32 15)) ∧
    ((front dark 0 1 (tileWords 1)).tileFeed ↑0 = some (0, false) ∧
      ((front dark 0 1 (tileWords 1)).ring (2 * ↑0)).enable = true ∧
      (front dark 0 1 (tileWords 1)).zeroRing ((front dark 0 1 (tileWords 1)).ring (2 * ↑0)) = false ∧
      ((front dark 0 1 (tileWords 1)).ring (2 * ↑0)).occ ≠ 0 ∧
      bitsOf
    (wordAt
      ((front dark 0 1 (tileWords 1)).slotWords ((front dark 0 1 (tileWords 1)).ring (2 * ↑0))
        ((front dark 0 1 (tileWords 1)).ring (2 * ↑0)).cons)
      0)
    56 8 =
  1 ∧
      bitsOf
    (wordAt
      ((front dark 0 1 (tileWords 1)).slotWords ((front dark 0 1 (tileWords 1)).ring (2 * ↑0))
        ((front dark 0 1 (tileWords 1)).ring (2 * ↑0)).cons)
      1)
    32 15 ≤
  256 ∧
      (((front dark 0 1 (tileWords 1)).ring (2 * ↑0)).occ <
    msgSlots
      (bitsOf
        (wordAt
          ((front dark 0 1 (tileWords 1)).slotWords ((front dark 0 1 (tileWords 1)).ring (2 * ↑0))
            ((front dark 0 1 (tileWords 1)).ring (2 * ↑0)).cons)
          1)
        32 15) ∨
  (front dark 0 1 (tileWords 1)).feedActive 0 false = false ∨
    enough ((front dark 0 1 (tileWords 1)).credit ↑0).limit0
        ((front dark 0 1 (tileWords 1)).credit ↑0).used0
        (bitsOf
          (wordAt
            ((front dark 0 1 (tileWords 1)).slotWords ((front dark 0 1 (tileWords 1)).ring (2 * ↑0))
              ((front dark 0 1 (tileWords 1)).ring (2 * ↑0)).cons)
            1)
          32 15) =
      false)) ∧
    ((upRing 0).feedActive (↑0) false = true ∧ bit (BitVec.toNat hostUp) 30 = true ∧
      bit (BitVec.toNat hostUp) 31 = false ∧ (upRing 0).tileLink ↑0 = some ↑0 ∧ ((upRing 0).credit ↑0).held = [] ∧
      [1].length ≤ 256 ∧ (upRing 0).zeroRing ((upRing 0).ring (2 * ↑0 + 1)) = false ∧
      (upRing 0).hostGone ((upRing 0).ring (2 * ↑0 + 1)) = false ∧ ¬(upRing 0).eventRing (2 * ↑0 + 1) ∧
      ((upRing 0).ring 1).occ + msgSlots 1 ≤ ((upRing 0).ring 1).size) ∧
    ((upRing 16).feedActive (↑0) false = true ∧ bit (BitVec.toNat hostUp) 30 = true ∧
      bit (BitVec.toNat hostUp) 31 = false ∧ (upRing 16).tileLink ↑0 = some ↑0 ∧
      ((upRing 16).credit ↑0).held = [] ∧ [1].length ≤ 256 ∧
      (upRing 16).zeroRing ((upRing 16).ring (2 * ↑0 + 1)) = false ∧
      (upRing 16).hostGone ((upRing 16).ring (2 * ↑0 + 1)) = false ∧ ¬(upRing 16).eventRing (2 * ↑0 + 1) ∧
      ((upRing 16).ring 1).size < ((upRing 16).ring 1).occ + msgSlots 1) ∧
    (tiled.feedActive (↑0) false = true ∧ bit (BitVec.toNat (7 : Word)) (30 : Nat) = false) ∧
    (tiled.feedActive (↑0) false = true ∧ bit (BitVec.toNat sysUp) 30 = true ∧
      bit (BitVec.toNat sysUp) 31 = true) := by
  decide +kernel

theorem witness_EthernetFramesAreCounted :
    (linked.pow.up = true ∧ linked.portUp ↑0 = true ∧ brokenFrame.fcsOk = false) ∧
    (linked.pow.up = true ∧ linked.portUp ↑0 = true ∧ shortFrame.fcsOk = true ∧
      (shortFrame.pause = true ∨ linked.takesFrame (↑0) shortFrame = false)) ∧
    (linked.pow.up = true ∧ linked.portUp ↑0 = true ∧ straying.fcsOk = true ∧ straying.pause = false ∧
      linked.takesFrame (↑0) straying = true ∧ linked.takesMac (↑0) straying.dst.toNat = false) ∧
    (linked.pow.up = true ∧ linked.portUp ↑0 = true ∧ otherFrame.fcsOk = true ∧ otherFrame.pause = false ∧
      linked.takesFrame (↑0) otherFrame = true ∧ linked.takesMac (↑0) otherFrame.dst.toNat = true ∧
      otherFrame.body = EthBody.other) ∧
    (linked.pow.up = true ∧ linked.portUp ↑0 = true ∧ badIp.fcsOk = true ∧ badIp.pause = false ∧
      linked.takesFrame (↑0) badIp = true ∧ linked.takesMac (↑0) badIp.dst.toNat = true ∧
      badIp.body =
  EthBody.ip
    { v6 := ipHead.v6, src := ipHead.src, dst := ipHead.dst, options := ipHead.options, fragment := true,
      sumOk := ipHead.sumOk, extension := ipHead.extension : IpRx }
    (IpBody.udp udpHead []) ∧
      ipBad
    { v6 := ipHead.v6, src := ipHead.src, dst := ipHead.dst, options := ipHead.options, fragment := true,
      sumOk := ipHead.sumOk, extension := ipHead.extension : IpRx } =
  true) ∧
    (linked.pow.up = true ∧ linked.portUp ↑0 = true ∧ badSum.fcsOk = true ∧ badSum.pause = false ∧
      linked.takesFrame (↑0) badSum = true ∧ linked.takesMac (↑0) badSum.dst.toNat = true ∧
      badSum.body =
  EthBody.ip ipHead
    (IpBody.udp { srcPort := udpHead.srcPort, dstPort := udpHead.dstPort, sum := UdpSum.wrong : UdpRx } []) ∧
      sumTaken ipHead UdpSum.wrong = false) ∧
    (homed.pow.up = true ∧ homed.portUp ↑0 = true ∧ arpFrame.fcsOk = true ∧ arpFrame.pause = false ∧
      homed.takesFrame (↑0) arpFrame = true ∧ homed.takesMac (↑0) arpFrame.dst.toNat = true ∧
      arpFrame.body = EthBody.arp sha spa tpa true ∧ homed.ip4 ↑0 ≠ 0 ∧ tpa.toNat = homed.ip4 ↑0) := by
  decide +kernel

theorem witness_VideoPacketsCountOnce :
    (merging4.pow.up = true ∧ merging4.portUp ↑0 = true ∧ fFirst.fcsOk = true ∧ fFirst.pause = false ∧
      merging4.takesFrame (↑0) fFirst = true ∧ merging4.takesMac (↑0) fFirst.dst.toNat = true ∧
      fFirst.body = EthBody.ip ipHead (IpBody.udp udpHead vFirst) ∧ ipBad ipHead = false ∧
      sumTaken ipHead udpHead.sum = true ∧ udpHead.dstPort.toNat ≠ 319 ∧ udpHead.dstPort.toNat ≠ 320 ∧
      ¬(udpHead.dstPort.toNat = 23127 ∧ merging4.ownAddress (↑0) ipHead.v6 ipHead.dst.toNat = true) ∧
      merging4.matchPath (↑0) (readRtp ipHead udpHead.dstPort.toNat vFirst) = some (0, false) ∧
      merging4.rateChanging = true) ∧
    (merging.pow.up = true ∧ merging.portUp ↑0 = true ∧ fBroken.fcsOk = true ∧ fBroken.pause = false ∧
      merging.takesFrame (↑0) fBroken = true ∧ merging.takesMac (↑0) fBroken.dst.toNat = true ∧
      fBroken.body = EthBody.ip ipHead (IpBody.udp udpHead broken) ∧ ipBad ipHead = false ∧
      sumTaken ipHead udpHead.sum = true ∧ udpHead.dstPort.toNat ≠ 319 ∧ udpHead.dstPort.toNat ≠ 320 ∧
      ¬(udpHead.dstPort.toNat = 23127 ∧ merging.ownAddress (↑0) ipHead.v6 ipHead.dst.toNat = true) ∧
      merging.matchPath (↑0) (readRtp ipHead udpHead.dstPort.toNat broken) = some (0, false) ∧
      merging.rateChanging = false ∧ merging.malformed 0 (readRtp ipHead 7 broken) = true) ∧
    (merging.pow.up = true ∧ merging.portUp ↑0 = true ∧ fPast.fcsOk = true ∧ fPast.pause = false ∧
      merging.takesFrame (↑0) fPast = true ∧ merging.takesMac (↑0) fPast.dst.toNat = true ∧
      fPast.body = EthBody.ip ipHead (IpBody.udp udpHead vPast) ∧ ipBad ipHead = false ∧
      sumTaken ipHead udpHead.sum = true ∧ udpHead.dstPort.toNat ≠ 319 ∧ udpHead.dstPort.toNat ≠ 320 ∧
      ¬(udpHead.dstPort.toNat = 23127 ∧ merging.ownAddress (↑0) ipHead.v6 ipHead.dst.toNat = true) ∧
      merging.matchPath (↑0) (readRtp ipHead udpHead.dstPort.toNat vPast) = some (0, false) ∧
      merging.rateChanging = false ∧ merging.malformed 0 (readRtp ipHead 7 vPast) = false ∧
      (mergedBy vPast).snd = Verdict.late) := by
  decide +kernel

theorem witness_VideoPacketsCountOnce_also :
    (merging.pow.up = true ∧ merging.portUp ↑0 = true ∧ fAgain.fcsOk = true ∧ fAgain.pause = false ∧
      merging.takesFrame (↑0) fAgain = true ∧ merging.takesMac (↑0) fAgain.dst.toNat = true ∧
      fAgain.body = EthBody.ip ipHead (IpBody.udp udpHead vAgain) ∧ ipBad ipHead = false ∧
      sumTaken ipHead udpHead.sum = true ∧ udpHead.dstPort.toNat ≠ 319 ∧ udpHead.dstPort.toNat ≠ 320 ∧
      ¬(udpHead.dstPort.toNat = 23127 ∧ merging.ownAddress (↑0) ipHead.v6 ipHead.dst.toNat = true) ∧
      merging.matchPath (↑0) (readRtp ipHead udpHead.dstPort.toNat vAgain) = some (0, false) ∧
      merging.rateChanging = false ∧ merging.malformed 0 (readRtp ipHead 7 vAgain) = false ∧
      (mergedBy vAgain).snd = Verdict.duplicate) ∧
    (merging.pow.up = true ∧ merging.portUp ↑0 = true ∧ fStale.fcsOk = true ∧ fStale.pause = false ∧
      merging.takesFrame (↑0) fStale = true ∧ merging.takesMac (↑0) fStale.dst.toNat = true ∧
      fStale.body = EthBody.ip ipHead (IpBody.udp udpHead vStale) ∧ ipBad ipHead = false ∧
      sumTaken ipHead udpHead.sum = true ∧ udpHead.dstPort.toNat ≠ 319 ∧ udpHead.dstPort.toNat ≠ 320 ∧
      ¬(udpHead.dstPort.toNat = 23127 ∧ merging.ownAddress (↑0) ipHead.v6 ipHead.dst.toNat = true) ∧
      merging.matchPath (↑0) (readRtp ipHead udpHead.dstPort.toNat vStale) = some (0, false) ∧
      merging.rateChanging = false ∧ merging.malformed 0 (readRtp ipHead 7 vStale) = false ∧
      (mergedBy vStale).snd = Verdict.accepted ∧ (mergedBy vStale).fst.late (readRtp ipHead 7 vStale).ts = true) := by
  decide +kernel

theorem witness_VideoPacketsCountOnce_too :
    (merging.pow.up = true ∧ merging.portUp ↑0 = true ∧ fFirst.fcsOk = true ∧ fFirst.pause = false ∧
      merging.takesFrame (↑0) fFirst = true ∧ merging.takesMac (↑0) fFirst.dst.toNat = true ∧
      fFirst.body = EthBody.ip ipHead (IpBody.udp udpHead vFirst) ∧ ipBad ipHead = false ∧
      sumTaken ipHead udpHead.sum = true ∧ udpHead.dstPort.toNat ≠ 319 ∧ udpHead.dstPort.toNat ≠ 320 ∧
      ¬(udpHead.dstPort.toNat = 23127 ∧ merging.ownAddress (↑0) ipHead.v6 ipHead.dst.toNat = true) ∧
      merging.matchPath (↑0) (readRtp ipHead udpHead.dstPort.toNat vFirst) = some (0, false) ∧
      merging.rateChanging = false ∧ merging.malformed 0 (readRtp ipHead 7 vFirst) = false ∧
      (mergedBy vFirst).snd = Verdict.accepted ∧ (mergedBy vFirst).fst.late (readRtp ipHead 7 vFirst).ts = false) := by
  decide +kernel

theorem witness_FramesCompleteAndPathsAreLost :
    ((filled.flow ↑0).asm = some fullAsm ∧ fullAsm.full = true ∧ filled.memOff = false) ∧
    ((force flowing (pFlow 0) F.FLOW_CFG_SOURCE 1).May (↑0) pIng) ∧
    (rdy.May (↑0) pIng ∧ rdy.ff (pFlow 0) F.FLOW_CFG_ENABLE = 0) ∧
    (0 < (pushed.flow ↑0).waiting ∧ pushed.memOff = false ∧ pushed.bar2Held = []) ∧
    ((pathOf (on flowing (pFlow 0) (upFld false) 1).force (↑0) (if false = true then 1 else 0)).on = true ∧
      (on flowing (pFlow 0) (upFld false) 1).fld (pFlow ↑0) (upFld false) = 1) ∧
    (rdy.May (↑0) pIng) ∧
    (rdy.May (↑0) (pEth ↑7)) := by
  decide +kernel

theorem witness_NeighboursAndGroupReports :
    (changing.portUp ↑0 = true ∧ (changing.port ↑0).changes = [leftGroup]) ∧
    ((linked.port ↑0).changes = []) ∧
    (queried.portUp ↑0 = true) ∧
    (List.find? (fun e => e.fst == nine9) ((asking 2).port ↑0).misses = some (nine9, 2, [Tx.gratuitousArp 3]) ∧
      2 < 3) ∧
    (List.find? (fun e => e.fst == nine9) ((asking 3).port ↑0).misses = some (nine9, 3, [Tx.gratuitousArp 3]) ∧
      3 ≤ 3) := by
  decide +kernel

theorem witness_EthernetLinksRiseAndFall :
    (((atStage rdy 1024 3).feed (1024 + ↑0)).stage = 3) ∧
    (((atStage rdy 1024 5).feed (1024 + ↑0)).stage = 5) ∧
    ((feed0 3).pow.up = true ∧ 3 ≤ ((feed0 3).feed (feedKey (FeedId.wl 0 false))).stage ∧
      ((feed0 3).feed (feedKey (FeedId.wl 0 false))).stage ≤ 5 ∧
      errorBlock = LineIn.block true (238 :: List.replicate 31 0)) ∧
    ((feed0 3).pow.up = true ∧ 3 ≤ ((feed0 3).feed (feedKey (FeedId.wl 0 false))).stage ∧
      ((feed0 3).feed (feedKey (FeedId.wl 0 false))).stage ≤ 5 ∧ badWord = LineIn.codeword 0 badCells) ∧
    ((feed0 5).pow.up = true ∧ 3 ≤ ((feed0 5).feed (feedKey (FeedId.wl 0 false))).stage ∧
      ((feed0 5).feed (feedKey (FeedId.wl 0 false))).stage ≤ 5 ∧
      fillBlock = LineIn.block true (241 :: List.replicate 31 0)) ∧
    (narrow.pow.up = true ∧ 3 ≤ (narrow.feed (feedKey (FeedId.wl 0 false))).stage ∧
      (narrow.feed (feedKey (FeedId.wl 0 false))).stage ≤ 5 ∧ noWord = LineIn.codeword 3 (List.replicate 272 0) ∧
      (narrow.feed 0).width ≤ 3) ∧
    ((atStage rdy 1024 4).pow.up = true ∧ 3 ≤ ((atStage rdy 1024 4).feed (feedKey (FeedId.eth 0))).stage ∧
      ((atStage rdy 1024 4).feed (feedKey (FeedId.eth 0))).stage ≤ 5) := by
  decide +kernel

theorem witness_WicklineReportsReachTheirRegisters :
    (tiled.feedActive (↑0) false = true) ∧
    (rdy.feedActive (↑0) false = false) ∧
    (tiled.feedActive (↑0) false = true ∧ tiled.job = none ∧ tiled.fld (pWl ↑0) F.POS_STAT_PRESENT ↑0 = 0 ∧
      tileAt tiled.force 0 0 = some 0 ∧
  bitsOf (BitVec.toNat capWord2) 30 10 + 1 = (tileOf tiled.force 0).tw ∧
    bitsOf (BitVec.toNat capWord2) 20 10 + 1 = (tileOf tiled.force 0).th ∧
      bitsOf (BitVec.toNat capWord2) 18 2 + 1 = (tileOf tiled.force 0).lamps) ∧
    (tiled.feedActive (↑0) false = true ∧ tiled.job = none ∧ tiled.fld (pWl ↑0) F.POS_STAT_PRESENT ↑0 = 0 ∧
      bitsOf (BitVec.toNat capOther) 30 10 + 1 ≠ (tileOf tiled.force 0).tw) ∧
    (numbered.feedActive (↑0) false = true ∧ numbered.job = none ∧
      numbered.fld (pWl ↑0) F.POS_STAT_PRESENT ↑0 = 1 ∧ (numbered.posAt ↑0 ↑0).serial = some 9 ∧
      9 ≠ BitVec.toNat capWord4) ∧
    (16 ≤ (silent.posAt ↑0 ↑0).quiet ∧ silent.fld (pWl ↑0) F.POS_STAT_PRESENT ↑0 = 1) ∧
    ((seen.posAt ↑0 ↑0).quiet < 16) ∧
    (tiled.feedActive (↑0) false = true) := by
  decide +kernel

theorem witness_CreditLimitsAndDelayRequests :
    (tiled.feedActive (↑0) false = true ∧ tiled.tileLink ↑0 = some ↑0 ∧ tiled.aborts = [] ∧ tiled.job = none) ∧
    (tiled.feedActive (↑0) false = true) ∧
    (tiled.feedActive (↑0) false = true) := by
  decide +kernel

theorem witness_TileJobsStartAndStop :
    (rdy.May (↑0) pUpd ∧ rdy.job = none ∧ rdy.storeOp = none) ∧
    ((reading rdy 3).May (↑0) pUpd ∧ (reading rdy 3).job = none ∧ (reading rdy 3).storeOp.isSome = true) ∧
    ((jobbing 2).May (↑0) pUpd ∧ (jobbing 2).job = some aJob) ∧
    ((jobbing 2).May (↑0) pUpd ∧ (jobbing 2).job = some aJob ∧
      2 ≤ (jobbing 2).jobState ∧
  (jobbing 2).tileFeed (jobbing 2).jobTile = some (0, false) ∧
    (jobbing 2).canSys (jobbing 2).jobTile 0 = true) := by
  decide +kernel

theorem witness_TileJobsLoadAndVisit :
    ((reading (jobbing 1) 3).storeOp = some (readOp 3) ∧ (readOp 3).op = 1 ∧ (readOp 3).purpose = 3 ∧
      (reading (jobbing 1) 3).job = some aJob ∧ (reading (jobbing 1) 3).jobState = 1 ∧ false = false) ∧
    ((reading (jobbing 1) 3).storeOp = some (readOp 3) ∧ (readOp 3).op = 1 ∧ (readOp 3).purpose = 3 ∧
      (reading (jobbing 1) 3).job = some aJob ∧ (reading (jobbing 1) 3).jobState = 1 ∧ true = true ∧
      (reading (jobbing 1) 3).directory = none) ∧
    ((jobbing 2).job = some aJob ∧
      ((jobbing 2).jobState = 2 ∨ (jobbing 2).jobState = 4 ∨ (jobbing 2).jobState = 5)) ∧
    ((jobbing 5).job = some aJob ∧
      ((jobbing 5).jobState = 2 ∨ (jobbing 5).jobState = 4 ∨ (jobbing 5).jobState = 5)) ∧
    ((jobbing 4).feedActive (↑0) false = true ∧ (jobbing 4).job = some aJob ∧ aJob.sent = true ∧
      BitVec.toNat (0 : Byte) = (jobbing (4 : Nat)).fld pUpd F.UPD_TJ_STAT_SEQ ∧
      (jobbing 4).tileLink (jobbing 4).jobTile = some ↑0 ∧
      (jobbing 4).ff (pTile (jobbing 4).jobTile) F.TL_LINK_POS = ↑0 ∧
      (1 : Nat) ≤ BitVec.toNat (2 : BitVec (4 : Nat)) ∧ BitVec.toNat (2 : BitVec (4 : Nat)) ≤ (5 : Nat) ∧
      ((jobbing 4).jobState = 2 ∨ (jobbing 4).jobState = 4)) ∧
    ((jobbing 2).feedActive (↑0) false = true ∧ (jobbing 2).job = some aJob ∧ aJob.sent = true ∧
      BitVec.toNat (0 : Byte) = (jobbing (2 : Nat)).fld pUpd F.UPD_TJ_STAT_SEQ ∧
      (jobbing 2).tileLink (jobbing 2).jobTile = some ↑0 ∧
      (jobbing 2).ff (pTile (jobbing 2).jobTile) F.TL_LINK_POS = ↑0 ∧
      (1 : Nat) ≤ BitVec.toNat (1 : BitVec (4 : Nat)) ∧ BitVec.toNat (1 : BitVec (4 : Nat)) ≤ (5 : Nat) ∧
      ((jobbing 2).jobState = 2 ∨ (jobbing 2).jobState = 4) ∧
      BitVec.toNat (1 : BitVec (4 : Nat)) = (jobbing (2 : Nat)).jobState / (2 : Nat)) ∧
    ((jobbing 2).feedActive (↑0) false = true ∧ (jobbing 2).job = some aJob ∧ aJob.sent = true ∧
      BitVec.toNat (0 : Byte) = (jobbing (2 : Nat)).fld pUpd F.UPD_TJ_STAT_SEQ ∧
      (jobbing 2).tileLink (jobbing 2).jobTile = some ↑0 ∧
      (jobbing 2).ff (pTile (jobbing 2).jobTile) F.TL_LINK_POS = ↑0 ∧
      (1 : Nat) ≤ BitVec.toNat (2 : BitVec (4 : Nat)) ∧ BitVec.toNat (2 : BitVec (4 : Nat)) ≤ (5 : Nat) ∧
      ((jobbing 2).jobState = 2 ∨ (jobbing 2).jobState = 4) ∧
      BitVec.toNat (2 : BitVec (4 : Nat)) ≠ (jobbing (2 : Nat)).jobState / (2 : Nat)) := by
  decide +kernel

theorem witness_BootSlotsAreChosenAndMarked :
    ((boot 1).pow.up = true ∧ (boot 1).pow.sleeping = false ∧ (boot 1).phase = 1 ∧ (boot 1).candidates = []) ∧
    ((slot0 (boot 1) [lockEntry] (List.replicate 5 0)).pow.up = true ∧
      (slot0 (boot 1) [lockEntry] (List.replicate 5 0)).pow.sleeping = false ∧
      (slot0 (boot 1) [lockEntry] (List.replicate 5 0)).phase = 1 ∧
      (slot0 (boot 1) [lockEntry] (List.replicate 5 0)).candidates = [0] ∧
      (slot0 (boot 1) [lockEntry] (List.replicate 5 0)).recError 0 = 0 ∧
      ((slot0 (boot 1) [lockEntry] (List.replicate 5 0)).flag 0 4 = true ∨
  (slot0 (boot 1) [lockEntry] (List.replicate 5 0)).flag 0 3 = false) ∧
      (slot0 (boot 1) [lockEntry] (List.replicate 5 0)).flag 0 4 = true) ∧
    ((slot0 (boot 1) [lockEntry] [0]).pow.up = true ∧ (slot0 (boot 1) [lockEntry] [0]).pow.sleeping = false ∧
      (slot0 (boot 1) [lockEntry] [0]).phase = 1 ∧ (slot0 (boot 1) [lockEntry] [0]).candidates = [0] ∧
      (slot0 (boot 1) [lockEntry] [0]).recError 0 = 0 ∧
      ((slot0 (boot 1) [lockEntry] [0]).flag 0 4 = true ∨ (slot0 (boot 1) [lockEntry] [0]).flag 0 3 = false) ∧
      (slot0 (boot 1) [lockEntry] [0]).flag 0 4 = false) ∧
    ((slot0 (boot 1) [lockEntry] (List.replicate 4 0)).pow.up = true ∧
      (slot0 (boot 1) [lockEntry] (List.replicate 4 0)).pow.sleeping = false ∧
      (slot0 (boot 1) [lockEntry] (List.replicate 4 0)).phase = 1 ∧
      (slot0 (boot 1) [lockEntry] (List.replicate 4 0)).candidates = [0] ∧
      (slot0 (boot 1) [lockEntry] (List.replicate 4 0)).flag 0 4 = false ∧
      (slot0 (boot 1) [lockEntry] (List.replicate 4 0)).flag 0 3 = true) := by
  decide +kernel

theorem witness_BootRecordsAreApplied :
    ((slot0 booted0 [canvasEntry] [0]).pow.up = true ∧ (slot0 booted0 [canvasEntry] [0]).pow.sleeping = false ∧
      (slot0 booted0 [canvasEntry] [0]).phase = 2 ∧ (slot0 booted0 [canvasEntry] [0]).booted < 2 ∧
      (slot0 booted0 [canvasEntry] [0]).recEntries 0 = [canvasEntry] ∧
  bitsOf canvasEntry 60 4 = 1 ∧
    locate (bitsOf canvasEntry 32 24) = some lCanvas ∧
      lCanvas.mute = false ∧
        regRows (bitsOf canvasEntry 32 24) ≠ [] ∧
          lCanvas.heldLo = false ∧
            lCanvas.heldHi = false ∧ bitsOf canvasEntry 32 24 % 4 = 0 ∧ lCanvas.off ≠ 32) ∧
    (booted3.pow.up = true ∧ booted3.pow.sleeping = false ∧ booted3.phase = 2 ∧ 2 ≤ booted3.booted) := by
  decide +kernel

theorem witness_TrainingEndsAndStoreLoadsRun :
    ((training []).pow.up = true ∧ (training []).pow.sleeping = false ∧ (training []).phase = 4) ∧
    ((training [7]).pow.up = true ∧ (training [7]).pow.sleeping = false ∧ (training [7]).phase = 4 ∧
      (training [7]).pow.loads = [7] ∧ (training [7]).storeOp = none ∧ (training [7]).memOff = false) ∧
    ((loading [7]).storeOp = some (readOp 1) ∧ (readOp 1).purpose = 1 ∧ List.drop 1 (loading [7]).pow.loads = []) := by
  decide +kernel

theorem witness_ReadyRisesAndSleepEnds :
    ((boot 5).pow.up = true ∧ (boot 5).pow.sleeping = false ∧ (boot 5).phase = 5) ∧
    (boot5.pow.up = true ∧ boot5.pow.sleeping = false ∧ boot5.phase = 5) ∧
    (waking.pow.sleeping = true ∧ waking.pow.up = true ∧
      waking.image = some { regs := [], force := [], rings := [], resp := [], stale := [] : Image } ∧
      waking.fld pEmber F.EMBER_STAT_IMAGE_VALID = 1) ∧
    (waking0.pow.sleeping = true ∧ waking0.pow.up = true ∧
      (true = false ∨ true = false ∨ waking0.fld pEmber F.EMBER_STAT_IMAGE_VALID = 0 ∨ waking0.image = none)) := by
  decide +kernel

theorem witness_CommitsWaitAndCancel :
    (pageMap.toNat * 4096 ∈ allPages ∧ rdy.May (↑0) (pageMap.toNat * 4096) ∧
      rdy.fld (pageMap.toNat * 4096) F.HDR_COMMIT_GO = 0) ∧
    (pageMap.toNat * 4096 ∈ allPages ∧ naming.May (↑0) (pageMap.toNat * 4096) ∧
      naming.fld (pageMap.toNat * 4096) F.HDR_COMMIT_GO = 0 ∧
      (naming.asked 0).snd = false ∧ naming.cyc.open' (naming.asked 0).fst ≠ (naming.asked 0).fst) ∧
    (pageMap.toNat * 4096 ∈ allPages ∧ going.May (↑0) (pageMap.toNat * 4096) ∧
      going.fld (pageMap.toNat * 4096) F.HDR_COMMIT_GO = 1) ∧
    ((waitingFor aCommit).serves ↑0 = true ∧
      aCommit.origin = 0 ∧
  aCommit.group = 1 ∧
    aCommit.seat = 0 ∧
      ¬(aCommit.target = (waitingFor aCommit).cyc.next ∧ (waitingFor aCommit).cyc.closed = true)) ∧
    (rdy.serves ↑0 = true ∧ rdy.cyc.pend = []) := by
  decide +kernel

theorem witness_WindowsAdmitAndCyclesStart :
    (cycling.cyc.run = true ∧ cycling.cyc.closed = false ∧ cycling.cyc.req = none ∧ cycling.cyc.sched = none ∧
      (∀ (x : Commit), x ∈ cycling.cyc.pend → cycling.cyc.next < x.target) ∧ cycling.cyc.pend = []) ∧
    ((waitingFor lateCommit).cyc.run = true ∧ (waitingFor lateCommit).cyc.closed = false ∧
      (waitingFor lateCommit).cyc.req = none ∧ (waitingFor lateCommit).cyc.sched = none ∧
      (waitingFor lateCommit).cyc.pend = [lateCommit] ∧ lateCommit.target ≤ (waitingFor lateCommit).cyc.next ∧
      lateCommit.origin = 0 ∧
      ((waitingFor lateCommit).setCyc
        { run := (waitingFor lateCommit).cyc.run, next := (waitingFor lateCommit).cyc.next,
          prevLaunch := (waitingFor lateCommit).cyc.prevLaunch,
          prevPeriod := (waitingFor lateCommit).cyc.prevPeriod,
          recent := (waitingFor lateCommit).cyc.recent, launch := (waitingFor lateCommit).cyc.launch,
          period := (waitingFor lateCommit).cyc.period, closed := true,
          edged := (waitingFor lateCommit).cyc.edged, bridge := (waitingFor lateCommit).cyc.bridge,
          bridgeFrom := (waitingFor lateCommit).cyc.bridgeFrom, pend := [],
          acc := (waitingFor lateCommit).cyc.acc, gen := (waitingFor lateCommit).cyc.gen,
          genAge := (waitingFor lateCommit).cyc.genAge, req := (waitingFor lateCommit).cyc.req,
          sched := (waitingFor lateCommit).cyc.sched, newGuard := (waitingFor lateCommit).cyc.newGuard,
          newD := (waitingFor lateCommit).cyc.newD, resume := (waitingFor lateCommit).cyc.resume :
          Cycles }).verdict
    (waitingFor lateCommit).nextForce lateCommit =
  some badNamed) ∧
    ((waitingFor aCommit).cyc.run = true ∧ (waitingFor aCommit).cyc.closed = false ∧
      (waitingFor aCommit).cyc.req = none ∧ (waitingFor aCommit).cyc.sched = none ∧
      (waitingFor aCommit).cyc.pend = [aCommit] ∧ aCommit.target ≤ (waitingFor aCommit).cyc.next ∧
      aCommit.origin = 0 ∧
      ((waitingFor aCommit).setCyc
        { run := (waitingFor aCommit).cyc.run, next := (waitingFor aCommit).cyc.next,
          prevLaunch := (waitingFor aCommit).cyc.prevLaunch,
          prevPeriod := (waitingFor aCommit).cyc.prevPeriod, recent := (waitingFor aCommit).cyc.recent,
          launch := (waitingFor aCommit).cyc.launch, period := (waitingFor aCommit).cyc.period,
          closed := true, edged := (waitingFor aCommit).cyc.edged,
          bridge := (waitingFor aCommit).cyc.bridge, bridgeFrom := (waitingFor aCommit).cyc.bridgeFrom,
          pend := [], acc := (waitingFor aCommit).cyc.acc, gen := (waitingFor aCommit).cyc.gen,
          genAge := (waitingFor aCommit).cyc.genAge, req := (waitingFor aCommit).cyc.req,
          sched := (waitingFor aCommit).cyc.sched, newGuard := (waitingFor aCommit).cyc.newGuard,
          newD := (waitingFor aCommit).cyc.newD, resume := (waitingFor aCommit).cyc.resume :
          Cycles }).verdict
    (waitingFor aCommit).nextForce aCommit =
  none) ∧
    (closed.cyc.run = true ∧ closed.cyc.closed = true ∧ closed.cyc.bridge = [] ∧ closed.cyc.sched = none) := by
  decide +kernel

theorem witness_BridgesEdgesAndThePowerCap :
    (bridging.cyc.bridge = [(9, 5)]) ∧
    (bridgingFeed.cyc.bridge = [(9, 5)] ∧ bridgingFeed.pstate = 0 ∧ bridgingFeed.feedActive 0 false = true) ∧
    (cycling.cyc.run = true ∧ cycling.cyc.closed = false ∧ cycling.cyc.bridge = []) ∧
    (closed.cyc.run = true ∧ closed.cyc.closed = true ∧ closed.cyc.bridge = []) ∧
    (cycling.cyc.run = true ∧ 0 < cycling.cyc.next ∧ cycling.memOff = false ∧ cycling.pstate = 0 ∧
      (cycling.cap.all fun e => e.fst != cycling.cyc.next + 1) = true) := by
  decide +kernel

theorem witness_WritebackPreviewAndPlayoutFrames :
    ((sending.view ↑0).pv = some (aShot, 0) ∧ sending.ff (pView ↑0) F.VIEW_CFG_ENABLE = 1 ∧
      sending.ff (pView ↑0) F.VIEW_PV_CFG_ENABLE = 1 ∧ 0 < (pvPackets sending.force ↑0).snd ∧
      sending.portUp (sending.ff (pView 0) F.VIEW_PV_CFG_PORT) = true ∧
  isMulticast
      (addr4 (sending.ff (pView 0) F.VIEW_PV_CFG_IPV6 == 1) fun j =>
        sending.ff (pView 0) F.VIEW_PV_DST_ADDR j) =
    true) ∧
    (List.find? (fun e => e.fst == ↑0) copying.play.copying = some (0, 3) ∧
      copying.play.tracks[↑0]? = some (0, 0, 0, 0) ∧ copying.memOff = false) := by
  decide +kernel

theorem witness_HostWritesOfCompositionAndCorrection :
    (rdy.May (↑0) pCmp) ∧
    (rdy.May (↑0) pCor ∧
      rdy.respLoad = none ∧
  rdy.inGddr (rdy.pair pCor F.COR_RESP_SRC_LO_SRC F.COR_RESP_SRC_HI_SRC) 16400 = true ∧ rdy.memOff = false) ∧
    (respLoading.May (↑0) pCor ∧ respLoading.respLoad ≠ none) ∧
    (respLoading.respLoad = some (1, 0, 1, 0)) ∧
    (rdy.May (↑0) pMap) := by
  decide +kernel

theorem witness_FeedsTrainAndBecomeActive :
    (((feed0 1).feed (feedKey (FeedId.wl 0 false))).stage = 1 ∧
      ((feed0 1).feed (feedKey (FeedId.wl 0 false))).lane + ((feed0 1).feed (feedKey (FeedId.wl 0 false))).width ≤
  512) ∧
    (((atStage rdy 1024 1).feed (feedKey (FeedId.eth 0))).stage = 1 ∧
      ((atStage rdy 1024 1).feed (feedKey (FeedId.eth 0))).lane +
    ((atStage rdy 1024 1).feed (feedKey (FeedId.eth 0))).width ≤
  512) ∧
    ((trainedFeed.feed (feedKey (FeedId.wl 0 false))).stage = 2 ∧
      (∀ (l : Nat),
  l ∈ (trainedFeed.feed (feedKey (FeedId.wl 0 false))).lanes →
    (trainedFeed.lane l).train.phase = TrainPhase.ready ∧
      ((trainedFeed.lane l).train.partner = 16 ∨ false = true ∧ (trainedFeed.lane l).train.seen = true))) ∧
    ((narrow.feed (feedKey (FeedId.wl 0 false))).stage = 3 ∧
      aligns.length = (narrow.feed (feedKey (FeedId.wl 0 false))).width ∧
      (∀ (i : Nat), i < (narrow.feed (feedKey (FeedId.wl 0 false))).width → ∃ a, a ∈ aligns ∧ ↑a.index = i) ∧
      (∀ (a : AlignRx),
  a ∈ aligns →
    a.width = (narrow.feed (feedKey (FeedId.wl 0 false))).width ∧
      ∀ (b : AlignRx), b ∈ aligns → a.at' ≤ b.at' + 500)) ∧
    (((feed0 4).feed (feedKey (FeedId.wl 0 false))).stage = 4 ∧
      Nat.testBit 255 ((feed0 4).feed 0).width.log2 = true) ∧
    (((feed0 4).feed (feedKey (FeedId.wl 0 false))).stage = 4 ∧
      Nat.testBit 0 ((feed0 4).feed 0).width.log2 = false) ∧
    ((feed0 2).laneFeed ↑0 = some (0, (feed0 2).feed 0) ∧ ((feed0 2).feed 0).stage = 2 ∧ isEth 0 = false ∧
      trainOk (BitVec.toNat goodField) = true) ∧
    (asked2.laneFeed ↑0 = some (0, asked2.feed 0) ∧ (asked2.feed 0).stage = 2 ∧ isEth 0 = false ∧
      trainOk (BitVec.toNat presetField) = true ∧
  bit (BitVec.toNat presetField) 22 = true ∧
    (asked2.lane 0).reqs.getD 0 (0, 0) = (bitsOf (BitVec.toNat presetField) 20 3, 2)) := by
  decide +kernel

theorem witness_FeedsFailAndStartAgain :
    (2 ≤ ((failing 0).feed (feedKey (FeedId.wl 0 false))).stage ∧
      ((failing 0).feed (feedKey (FeedId.wl 0 false))).stage ≤ 4) ∧
    (2 ≤ ((failing 3).feed (feedKey (FeedId.wl 0 false))).stage ∧
      ((failing 3).feed (feedKey (FeedId.wl 0 false))).stage ≤ 4) ∧
    (((feed0 5).feed (feedKey (FeedId.wl 0 false))).stage = 5 ∧ (feed0 5).feedActive 0 false = true) ∧
    (((feed0 7).feed (feedKey (FeedId.wl 0 false))).stage = 7) ∧
    (((feed0 8).feed (feedKey (FeedId.wl 0 false))).stage = 8) ∧
    ((feed0 5).May (↑0) (pSer (↑0 / 8)) ∧
      (feed0 5).laneFeed 0 = some (0, (feed0 5).feed 0) ∧
  ((feed0 5).feed 0).stage ≠ 0 ∧ ((feed0 5).feed 0).stage ≠ 10) ∧
    (rdy.May (↑0) (pSer (↑0 / 8)) ∧ rdy.laneFeed 0 = none) := by
  decide +kernel

theorem witness_TrimsFollowTheirTargets :
    (rdy.octetProv 0 = false) ∧
    (windowed.inService ↑0 = true ∧ windowed.inTest ↑0 = false ∧
      (windowed.lane 0).gathering = false ∧
  (windowed.lane 0).moving = false ∧
    List.filter (fun w => decide (w.fst ≤ 4 * w.snd ∧ 0 < w.fst)) (windowed.lane 0).wins ≠ []) ∧
    (gathering.inService ↑0 = true ∧ gathering.inTest ↑0 = false ∧ (gathering.lane 0).gathering = true) ∧
    (stepping.inService ↑0 = true ∧ (stepping.lane ↑0).moving = false ∧ (stepping.lane ↑0).pend = [aStep] ∧
      stepping.thawed ↑0 [aStep] = [aStep] ∧ stepping.trimThere (↑0) aStep = false) ∧
    ((feed0 5).inService ↑0 = true ∧ ((feed0 5).lane ↑0).moving = false ∧ ((feed0 5).lane ↑0).pend = []) ∧
    (stepped.inService ↑0 = true ∧ (stepped.lane ↑0).last = [aStep] ∧ trimValid aStep = true ∧ 2 * 10 < 100 ∧
      10 + 64 ≤ 100) ∧
    (stepped.inService ↑0 = true ∧ (20 ≤ 2 * 10 ∨ 20 < 10 + 64)) := by
  decide +kernel

theorem witness_RegathersTestsAndPlls :
    (busyOctet.inService ↑0 = true ∧ (busyOctet.lane ↑0).gathering = false ∧ (busyOctet.lane ↑0).moving = false ∧
      busyOctet.ln (↑0) F.LN_META_PROVISIONAL = 1 ∧ 1000 ≤ busyOctet.fld (pSer (↑0 / 8)) F.SER_ACT_BUSY_RUN_MS) ∧
    ((feed0 5).inService ↑0 = true ∧ ((feed0 5).lane ↑0).gathering = false ∧ ((feed0 5).lane ↑0).moving = false ∧
      (feed0 5).May (↑0) (pSer (↑0 / 8))) ∧
    (gathering.inService ↑0 = true ∧ (gathering.lane ↑0).gathering = true ∧
      (if (gathering.lane ↑0).fromHost = true then (gathering.lane ↑0).wins
  else List.filter (fun w => decide (3 * w.fst ≤ 5 * w.snd ∧ 0 < w.fst)) (gathering.lane ↑0).wins) =
  []) ∧
    (gathered.inService ↑0 = true ∧ (gathered.lane ↑0).gathering = true ∧
      (if (gathered.lane ↑0).fromHost = true then (gathered.lane ↑0).wins
  else List.filter (fun w => decide (3 * w.fst ≤ 5 * w.snd ∧ 0 < w.fst)) (gathered.lane ↑0).wins) ≠
  [] ∧
      (List.filter trimValid []).all (gathered.trimThere 0) = true) ∧
    (gatheredHost.inService ↑0 = true ∧ (gatheredHost.lane ↑0).gathering = true ∧
      (if (gatheredHost.lane ↑0).fromHost = true then (gatheredHost.lane ↑0).wins
  else List.filter (fun w => decide (3 * w.fst ≤ 5 * w.snd ∧ 0 < w.fst)) (gatheredHost.lane ↑0).wins) ≠
  [] ∧
      (List.filter trimValid [aStep]).all (gatheredHost.trimThere 0) = false) ∧
    (rdy.May (↑0) (pSer (↑0 / 8)) ∧ bit (BitVec.toNat testWord) 31 = true ∧ rdy.ln (↑0) F.LN_TEST_EN = 0 ∧
      1 ≤ bitsOf (BitVec.toNat testWord) 24 3 ∧ bitsOf (BitVec.toNat testWord) 24 3 ≤ 5 ∧
      bitsOf (BitVec.toNat testWord) 27 3 ≤ 3 ∧ bitsOf (BitVec.toNat testWord) 20 4 ≤ 9 ∧
      rdy.ln (↑0) F.LN_STAT_ROLE = 0 ∧
      fillPll
    (keepPll (rdy.roleFreqs (↑0 / 8) ++ List.map rdy.laneFreq (rdy.testLanes (↑0 / 8))) (rdy.plls (↑0 / 8)))
    (rateFreq (bitsOf (BitVec.toNat testWord) 24 3)) =
  some (1, 0)) ∧
    ((on rdy (pSer 0) F.LN_STAT_ROLE 1).May (↑0) (pSer (↑0 / 8)) ∧ bit (BitVec.toNat testWord) 31 = true ∧
      (on rdy (pSer 0) F.LN_STAT_ROLE 1).ln (↑0) F.LN_TEST_EN = 0 ∧ 1 ≤ bitsOf (BitVec.toNat testWord) 24 3 ∧
      bitsOf (BitVec.toNat testWord) 24 3 ≤ 5 ∧ bitsOf (BitVec.toNat testWord) 27 3 ≤ 3 ∧
      bitsOf (BitVec.toNat testWord) 20 4 ≤ 9 ∧
      ((on rdy (pSer 0) F.LN_STAT_ROLE 1).ln (↑0) F.LN_STAT_ROLE = 1 ∨
  (on rdy (pSer 0) F.LN_STAT_ROLE 1).ln (↑0) F.LN_STAT_ROLE = 2 ∨
    (on rdy (pSer 0) F.LN_STAT_ROLE 1).ln (↑0) F.LN_STAT_ROLE = 3)) ∧
    (checking.inTest ↑0 = true ∧ checking.ln (↑0) F.LN_STAT_STAGE = 9 ∧ checking.ln (↑0) F.LN_TEST_CHECK_EN = 1 ∧
      Instr.checkerSyncGain 0 someSymbols ∈
  [Instr.checkerSyncGain 0 someSymbols, Instr.checkerSyncLoss 0 someSymbols] ∧
      (checking.ln (↑0) F.LN_TEST_LOOP = 0 ∨ checking.ln (↑0) F.LN_TEST_LOOP = 2)) := by
  decide +kernel

theorem witness_RegathersTestsAndPlls_also :
    (looped.inTest ↑0 = true ∧ looped.ln (↑0) F.LN_STAT_STAGE = 9 ∧ looped.ln (↑0) F.LN_TEST_CHECK_EN = 1 ∧
      Instr.checkerSyncLoss 0 someSymbols ∈
  [Instr.checkerSyncGain 0 someSymbols, Instr.checkerSyncLoss 0 someSymbols] ∧
      (looped.ln (↑0) F.LN_TEST_LOOP = 0 ∨ looped.ln (↑0) F.LN_TEST_LOOP = 2)) ∧
    (mirrored.inTest ↑0 = true ∧ mirrored.ln (↑0) F.LN_STAT_STAGE = 9 ∧ mirrored.ln (↑0) F.LN_TEST_CHECK_EN = 1 ∧
      Instr.checkerSyncLoss 0 someSymbols ∈
  [Instr.checkerSyncGain 0 someSymbols, Instr.checkerSyncLoss 0 someSymbols] ∧
      (mirrored.ln (↑0) F.LN_TEST_LOOP = 1 ∨ mirrored.ln (↑0) F.LN_TEST_LOOP = 3)) ∧
    ((on rdy (pSer 0) F.SER_STAT_PLL_A_LOCK 1).fld (pSer ↑0)
    (if false = true then F.SER_STAT_PLL_B_LOCK else F.SER_STAT_PLL_A_LOCK) =
  1) ∧
    ((on rdy (pSer 0) F.SER_STAT_PLL_B_LOCK 1).fld (pSer ↑0)
    (if true = true then F.SER_STAT_PLL_B_LOCK else F.SER_STAT_PLL_A_LOCK) =
  1) := by
  decide +kernel

theorem witness_PtpSamplesAndMasters :
    ((msg PtpKind.sync true).kind = PtpKind.sync ∧ slaved.fromMaster (↑0) (msg PtpKind.sync true) = true ∧
      (msg PtpKind.sync true).twoStep = true) ∧
    ((msg PtpKind.sync false).kind = PtpKind.sync ∧ slaved.fromMaster (↑0) (msg PtpKind.sync false) = true ∧
      (msg PtpKind.sync false).twoStep = false ∧ slaved.ptp.dlys = []) ∧
    ((msg PtpKind.sync false).kind = PtpKind.sync ∧ measured.fromMaster (↑0) (msg PtpKind.sync false) = true ∧
      (msg PtpKind.sync false).twoStep = false ∧
      measured.ptp.dlys ≠ [] ∧ measured.fld pTime F.TIME_CFG_SYNC_SRC = 1) ∧
    (awaiting.ptp.pendSync = some (msg PtpKind.sync true, 100) ∧
      (msg PtpKind.followUp false).kind = PtpKind.followUp ∧
      awaiting.fromMaster (↑0) (msg PtpKind.followUp false) = true ∧
      (msg PtpKind.followUp false).seq = (msg PtpKind.sync true).seq) ∧
    (farSync.kind = PtpKind.sync ∧ steppy.fromMaster (↑0) farSync = true ∧ farSync.twoStep = false ∧
      steppy.fld pTime F.TIME_STEP_THR_THR_NS * 2 ^ 16 <
    (steppy.rxStamp 0 5 - farSync.stamp - farSync.corr - median steppy.ptp.dlys).natAbs ∧
  steppy.syncState ≠ 0) ∧
    (slaved.ptp.selected = some aMaster ∧ slaved.ptpPort aMaster.port = true ∧ slaved.portUp aMaster.port = true) ∧
    (wired.ptp.selected = some wiredMaster ∧ wired.ptpPort wiredMaster.port = true ∧
      wired.portUp wiredMaster.port = true ∧
      wired.fld pTime F.TPORT_CFG_DREQ_UNICAST = 1 ∧ wired.ptpVia 0 = PtpVia.ethernet) ∧
    (askedDelay.ptp.dreq = some (7, 0, some 500) ∧ (msg PtpKind.delayResp false).kind = PtpKind.delayResp ∧
      askedDelay.fromMaster (↑0) (msg PtpKind.delayResp false) = true ∧
      (msg PtpKind.delayResp false).forUs = true ∧ (msg PtpKind.delayResp false).seq.toNat = 7 ∧
      0 ≤ (500 + ((msg PtpKind.delayResp false).stamp - 0 - (msg PtpKind.delayResp false).corr)) / 2) ∧
    (askedDelay.ptp.dreq = some (7, 0, some 500) ∧ lateResp.kind = PtpKind.delayResp ∧
      askedDelay.fromMaster (↑0) lateResp = true ∧ lateResp.forUs = true ∧ lateResp.seq.toNat = 7 ∧
      (500 + (lateResp.stamp - 0 - lateResp.corr)) / 2 < 0) ∧
    (ptpOn.ptpOver (↑0) aMaster.ann.via = true ∧ aMaster.ann.domain.toNat = ptpOn.fld pTime F.TIME_CFG_DOMAIN ∧
      ptpOn.ptp.masters = [] ∧ ptpOn.ptp.selected = none) := by
  decide +kernel

theorem witness_PtpSamplesAndMasters_also :
    (slaved.ptpOver (↑0) betterAnn.via = true ∧ betterAnn.domain.toNat = slaved.fld pTime F.TIME_CFG_DOMAIN ∧
      slaved.ptp.masters = [aMaster] ∧ slaved.ptp.selected = some aMaster ∧ slaved.hears aMaster = true ∧
      aMaster.same { port := ↑0, ann := betterAnn, heard := slaved.clk.free : Master } = false ∧
      { port := 0, ann := betterAnn, heard := slaved.clk.free : Master }.better aMaster = true) ∧
    ((sync slaved 2).ptp.selected = some aMaster ∧ (sync slaved 2).fld pTime F.TIME_CFG_SYNC_SRC = 1 ∧
      ((sync slaved 2).syncState = 1 ∨ (sync slaved 2).syncState = 2 ∨ (sync slaved 2).syncState = 4)) ∧
    ((on (sync rdy 4) pTime F.TIME_CFG_SYNC_SRC 2).fld pTime F.TIME_CFG_SYNC_SRC = 2 ∧
      ((on (sync rdy 4) pTime F.TIME_CFG_SYNC_SRC 2).syncState = 1 ∨
  (on (sync rdy 4) pTime F.TIME_CFG_SYNC_SRC 2).syncState = 2 ∨
    (on (sync rdy 4) pTime F.TIME_CFG_SYNC_SRC 2).syncState = 4)) := by
  decide +kernel

theorem witness_StepsOutputsAndCaptures :
    ((sync rdy 4).May (↑0) pTime) ∧
    (stepSched.cyc.sched = some (5, false)) ∧
    (rdy.May (↑0) pTime ∧ reservedTime 256 (BitVec.toNat ptpCfg) = false ∧
      bitsOf (BitVec.toNat ptpCfg) 30 2 ≠ rdy.fld pTime F.TIME_CFG_SYNC_SRC) ∧
    (rdy.May (↑0) pTime ∧ reservedTime 256 (BitVec.toNat freeCfg) = false ∧
      bitsOf (BitVec.toNat freeCfg) 30 2 = rdy.fld pTime F.TIME_CFG_SYNC_SRC) ∧
    (rdy.May (↑0) pTime ∧
      armRefused
    (storedWord (pTime + 1024) (rdy.reg (pTime + 1024))
      (BitVec.ofNat 32 (2 ^ 31 + BitVec.toNat everyCfg % 2 ^ 30)))
    (rdy.fld pTime F.TOUT_PERIOD_PERIOD) (rdy.fld pTime F.TOUT_WIDTH_WIDTH) =
  true) ∧
    (toutSet.May (↑0) pTime ∧
      armRefused
    (storedWord (pTime + 1024) (toutSet.reg (pTime + 1024))
      (BitVec.ofNat 32 (2 ^ 31 + BitVec.toNat everyCfg % 2 ^ 30)))
    (toutSet.fld pTime F.TOUT_PERIOD_PERIOD) (toutSet.fld pTime F.TOUT_WIDTH_WIDTH) =
  false) ∧
    (toutSet.May (↑0) pTime ∧ late1us (toutSet.pair pTime F.TOUT_T0_LO_T0 F.TOUT_T0_HI_T0) toutSet.now = false) ∧
    (armed.May (↑0) pTime ∧ (armed.tout 0).pulse = false) ∧
    (pulsing.May (↑0) pTime ∧ (pulsing.tout 0).pulse = true) ∧
    (armed.pow.up = true ∧ armed.outputsOn = true ∧ (armed.tout ↑0).nextEdge ≠ none) ∧
    ((pulsing.tout ↑0).pulse = true) := by
  decide +kernel

theorem witness_StepsOutputsAndCaptures_also :
    (capturing.pow.up = true ∧ capturing.pow.sleeping = false ∧ capturing.fld pTime F.TIME_CFG_SYNC_SRC ≠ 2 ∧
      capturing.fld pTime F.TCAP_CFG_EN ↑0 = 1 ∧
      bit (capturing.fld pTime F.TCAP_CFG_EDGE ↑0) (if true = true then 0 else 1) = true ∧
      (∀ (l : Nat), (capturing.tcap ↑0).last = some l → 10 ≤ (capturing.now + 2 ^ 64 - l) % 2 ^ 64) ∧
      (capturing.tcap 0).last = none ∧ (capturing.tcap 0).fifo.length < 16) ∧
    (capFull.pow.up = true ∧ capFull.pow.sleeping = false ∧ capFull.fld pTime F.TIME_CFG_SYNC_SRC ≠ 2 ∧
      capFull.fld pTime F.TCAP_CFG_EN ↑0 = 1 ∧
      bit (capFull.fld pTime F.TCAP_CFG_EDGE ↑0) (if false = true then 0 else 1) = true ∧
      (∀ (l : Nat), (capFull.tcap ↑0).last = some l → 10 ≤ (capFull.now + 2 ^ 64 - l) % 2 ^ 64) ∧
      (capFull.tcap 0).last = none ∧ 16 ≤ (capFull.tcap 0).fifo.length) ∧
    (capFull.serves ↑0 = true) ∧
    (ppsOnState.ppsOn = true) ∧
    (ppsHighState.ppsHigh = true) := by
  decide +kernel

theorem witness_ServoSlotsSampleAndObey :
    (0 < ↑1 ∧ ↑1 < 16 ∧ slotA.saActive ↑1 = true ∧ slotA.sa (↑1) F.SA_STAT_LOST = 0 ∧
      slotA.sa (↑1) F.SA_CMD_APPLY = 0 ∧ (slotA.servo ↑1).releasing = false ∧ slotA.sa (↑1) F.SA_CFG_TAPER_EN = 0 ∧
      ¬slotA.saS 1 F.SA_ACT_UMAX_VALUE < 0) ∧
    (0 < ↑1 ∧ ↑1 < 16 ∧ heldA.saActive ↑1 = true ∧ heldA.sa (↑1) F.SA_STAT_LOST = 0 ∧
      heldA.sa (↑1) F.SA_CMD_APPLY = 0 ∧ (heldA.servo ↑1).releasing = false ∧ heldA.sa (↑1) F.SA_CFG_TAPER_EN = 0 ∧
      heldA.saS 1 F.SA_ACT_UMAX_VALUE <
  satS
    (heldA.saS 1 F.SA_I_I +
      rshr (heldA.saS 1 F.SA_ACT_KI_K * satS (heldA.saS 1 F.SA_TARGET_R - satS (-1000) 32) 32)
        (heldA.sa 1 F.SA_ACT_SHIFT_SI))
    32) ∧
    (clockServo.saTakes 0 = true) ∧
    (slotB.sbActive ↑0 = true ∧ slotB.sb (↑0) F.SB_STAT_SEEDED = 0 ∧ slotB.sb (↑0) F.SB_CMD_APPLY = 0 ∧
      (slotB.servo (16 + ↑0)).releasing = false) ∧
    (↑1 < 16 ∧ errA.sa (↑1) F.SA_STAT_FE_RUN = 1) ∧
    (errB.sb (↑0) F.SB_STAT_FE_RUN = 1) ∧
    (↑1 < 16 ∧ slotA.May (↑0) (pSa ↑1) ∧
      slotA.saS 1 F.SA_UMIN_VALUE ≤ slotA.saS 1 F.SA_UMAX_VALUE ∧ slotA.sa 1 F.SA_CFG_TAPER_EN = 0) ∧
    (↑1 < 16 ∧ unsoundA.May (↑0) (pSa ↑1) ∧ unsoundA.saS 1 F.SA_UMAX_VALUE < unsoundA.saS 1 F.SA_UMIN_VALUE) ∧
    (↑1 < 16 ∧ lostA.May (↑0) (pSa ↑1) ∧ lostA.sa 1 F.SA_STAT_LOST = 1) ∧
    (slotB.May (↑0) (pSb ↑0) ∧ slotB.sb 0 F.SB_CFG_TAPER_EN = 0) ∧
    (taperB.May (↑0) (pSb ↑0) ∧ taperB.sb 0 F.SB_CFG_TAPER_EN = 1 ∧ taperB.sb 0 F.SB_AMAX_LIMIT = 0) := by
  decide +kernel

theorem witness_ServoSlotsSampleAndObey_also :
    (lostB.May (↑0) (pSb ↑0) ∧ lostB.sb 0 F.SB_STAT_LOST = 1) := by
  decide +kernel

theorem witness_RefreshEdcAndPanicAreCounted :
    (memRuns.memState = 2) ∧
    (memRuns.memState = 2) ∧
    (look 0 (nine.chan ↑0).due ↑3 = 9) ∧
    (rdy.panic.contains ↑5 = false ∧ rdy.fld pMem F.MEM_PANIC_ON (portGroup ↑5) * portBytes ↑5 ≤ 16 * 1000000) ∧
    (16 * 0 ≤ panic5.fld pMem F.MEM_PANIC_OFF (portGroup ↑5) * portBytes ↑5) := by
  decide +kernel

theorem witness_ChannelTrimsAndPinRateChange :
    (memRuns.memState = 2 ∧ memValid aMem = true ∧ (memRuns.chan ↑0).frozen = [] ∧
      memRuns.memThere (↑0) aMem = false ∧ (memRuns.chan ↑0).gathering = false ∧ (memRuns.chan ↑0).moving = false ∧
      (memRuns.fld (pMc ↑0) F.MC_META_PROVISIONAL = 1 ∧ halfBusy ≠ [] ∨
  (halfBusy.any fun w => decide (25 * w.snd ≤ 100 * w.fst)) = true)) ∧
    (memDue.memState = 2 ∧ (memDue.chan ↑0).due ≠ []) ∧
    (memPend.memState = 2 ∧ (memPend.chan ↑0).due = [] ∧ (memPend.chan ↑0).moving = false ∧
      (memPend.chan ↑0).pend = [aMem] ∧ (memPend.chan ↑0).frozen = [] ∧ memPend.memRecent ↑0 = false ∧
      memValid aMem = true ∧ memPend.memThere (↑0) aMem = false) ∧
    (memBusy.memState = 2 ∧ memBusy.rateWait = false ∧ (memBusy.chan ↑0).gathering = false ∧
      (memBusy.chan ↑0).moving = false ∧ memBusy.fld (pMc ↑0) F.MC_META_PROVISIONAL = 1 ∧
      1000 ≤ memBusy.fld (pMc ↑0) F.MC_ACT_BUSY_RUN_MS) ∧
    ((memLast.chan ↑0).last = [aMem] ∧ memValid aMem = true ∧ 2 * 10 < 100 ∧ 10 + 16 ≤ 100) ∧
    ((memGather.chan ↑0).gathering = true) ∧
    ((memGather.chan ↑0).gathering = true ∧
      List.filter (fun w => decide (60 * w.snd ≤ 100 * w.fst)) mostBusy ≠ []) ∧
    ((memGather.chan ↑0).gathering = true ∧ memValid aMem = true ∧ memGather.memThere 0 aMem = false) ∧
    (rateWaits.rateWait = true ∧ rateWaits.anyGathering = false ∧ rateWaits.rateChanging = false) ∧
    (pausing.memState = 4) ∧
    ((memAt 3).memOff = true ∧ (memAt 3).memState = 3 ∧ (memAt 3).May (↑0) pMem) := by
  decide +kernel

theorem witness_ChannelTrimsAndPinRateChange_also :
    ((memAt 1).memOff = true ∧ (memAt 1).memState = 1) := by
  decide +kernel

theorem witness_SensorsRoundsAndLevels :
    (rdy.pow.up = true ∧ rdy.dieOk ↑3 = true ∧ -960 ≤ warm.toInt ∧ warm.toInt ≤ 2400 ∧
      rdy.deviates (↑3) warm.toInt = false) ∧
    (rdy.pow.up = true ∧ rdy.dieOk ↑3 = true ∧ rdy.pow.shutting = false) ∧
    (rdy.pow.up = true ∧ rdy.pow.sleeping = false ∧
      rdy.active = true ∧ rail0.getLsbD 0 = true ∧ rdy.fld pTherm F.THERM_RAIL_OUT = 0) ∧
    (replied.pow.up = true ∧ replied.pow.sleeping = false ∧
      replied.active = true ∧
  replied.pollable = [0] ∧ (replied.tele 0).answered = true ∧ replied.canSys 0 0 = true) ∧
    ((power 2).pow.up = true ∧ (power 2).pow.sleeping = false ∧ (power 2).active = false) ∧
    (tiled.feedActive (↑0) false = true ∧
      (tiled.holdsNumber ↑(0 : LinkNo) ↑(0 : PosNo) ↑(0 : TileNo) = false ∨
  (tiled.tele ↑(0 : TileNo)).polled = false ∨ (tiled.tele ↑(0 : TileNo)).pseq ≠ BitVec.toNat (5 : Byte))) ∧
    (polled.feedActive (↑0) false = true ∧ polled.holdsNumber ↑0 ↑0 ↑0 = true ∧ (polled.tele ↑0).polled = true ∧
      (polled.tele ↑(0 : TileNo)).pseq = BitVec.toNat (5 : Byte)) ∧
    (violating.pow.up = true) ∧
    (ended.holdOver ↑1 = true) ∧
    (ended.holdOver 256 = true) ∧
    (holding.holdOver ↑1 = false) := by
  decide +kernel

theorem witness_SensorsRoundsAndLevels_also :
    (holding.holdOver 256 = false) := by
  decide +kernel

theorem witness_LampStatesMove :
    (tiled.feedActive (↑0) false = true ∧
      (tiled.holdsNumber ↑(0 : LinkNo) ↑(0 : PosNo) ↑(0 : TileNo) = false ∨
  (tiled.tele ↑(0 : TileNo)).fseq = some (BitVec.toNat (5 : Byte)))) ∧
    (health.feedActive (↑0) false = true ∧ health.holdsNumber ↑0 ↑0 ↑0 = true ∧
      (health.tele ↑(0 : TileNo)).fseq ≠ some (BitVec.toNat (5 : Byte)) ∧ health.lhOn = true ∧
      health.lampIn 0 0 0 = true ∧ opens.kind = 1 ∧ health.lampState 0 0 0 ≤ 1) ∧
    (health.feedActive (↑0) false = true ∧ health.holdsNumber ↑0 ↑0 ↑0 = true ∧
      (health.tele ↑(0 : TileNo)).fseq ≠ some (BitVec.toNat (5 : Byte)) ∧ health.lhOn = true ∧
      sticks.kind = 2 ∧ health.house.offList.length < 32768) ∧
    (health.feedActive (↑0) false = true ∧ health.holdsNumber ↑0 ↑0 ↑0 = true ∧
      (health.tele ↑(0 : TileNo)).fseq ≠ some (BitVec.toNat (5 : Byte)) ∧ health.lhOn = true ∧
      suspect.kind = 4 ∧ health.lampState 0 0 0 = 0 ∧ health.house.queue.length < 4096) ∧
    (health.feedActive (↑0) false = true ∧ health.holdsNumber ↑0 ↑0 ↑0 = true ∧
      (health.tele ↑(0 : TileNo)).fseq ≠ some (BitVec.toNat (5 : Byte)) ∧ health.lhOn = true ∧
      health.lampIn 0 7 0 = false) ∧
    (tiled.diagOut (↑(0 : TileNo)) (BitVec.toNat (3 : Byte)) = none ∧ tiled.feedActive (↑0) false = true) ∧
    (rdy.diagOut (↑(0 : TileNo)) (BitVec.toNat (3 : Byte)) = none) ∧
    (diagnosing.diagOut (↑(0 : TileNo)) (BitVec.toNat (3 : Byte)) = some anOut ∧
      anOut.lamps = [((answers 1).pixel.toNat, (answers 1).lamp.toNat)] ∧ diagnosing.feedActive (↑0) false = true ∧
      diagnosing.tileLink ↑0 = some ↑0 ∧
      diagnosing.lampIn (↑0) (answers 1).pixel.toNat (answers 1).lamp.toNat = true ∧ diagnosing.lhOn = true ∧
      diagnosing.lampState (↑0) (answers 1).pixel.toNat (answers 1).lamp.toNat = 1) ∧
    (diagnosing.diagOut (↑(0 : TileNo)) (BitVec.toNat (3 : Byte)) = some anOut ∧
      anOut.lamps = [((answers 3).pixel.toNat, (answers 3).lamp.toNat)] ∧ diagnosing.cyc.next < anOut.cycle + 5) ∧
    (overdue.diagOut (↑(0 : TileNo)) (BitVec.toNat (3 : Byte)) = some anOut ∧
      anOut.lamps = [((answers 3).pixel.toNat, (answers 3).lamp.toNat)] ∧ anOut.cycle + 5 ≤ overdue.cyc.next ∧
      diagnosing.house.queue.length < 4096) ∧
    (health.May (↑0) pHk) := by
  decide +kernel

theorem witness_LampStatesMove_also :
    (health.May (↑0) pHk ∧ (tilesOn health.force).contains (health.fld pHk F.HK_LAMP_TILE_TILE) = true ∧
      health.lampIn (health.fld pHk F.HK_LAMP_TILE_TILE) (BitVec.toNat (0 : BitVec (16 : Nat)))
    (health.fld pHk F.HK_LAMP_TILE_LAMP) =
  true ∧
      health.ff pHk F.HK_CFG_LH_EN = 1) ∧
    (rdy.May (↑0) pHk ∧
      (rdy.lampIn (rdy.fld pHk F.HK_LAMP_TILE_TILE) (BitVec.toNat (0 : BitVec (16 : Nat)))
      (rdy.fld pHk F.HK_LAMP_TILE_LAMP) =
    false ∨
  rdy.ff pHk F.HK_CFG_LH_EN = (0 : Nat) ∨
    (tilesOn rdy.force).contains (rdy.fld pHk F.HK_LAMP_TILE_TILE) = false)) ∧
    (scanning.fld pHk F.HK_STAT_LH_SCAN = 1) := by
  decide +kernel

theorem witness_SeatLevelsLossAndReturn :
    (rdy.May (↑0) (pEvtp ↑0) ∧ rdy.runLevel ↑0 ≤ ↑3) ∧
    (running3.May (↑0) (pEvtp ↑0) ∧ ↑2 < running3.runLevel ↑0) ∧
    (running3.May (↑0) (pEvtp ↑0) ∧ running3.runLevel ↑0 = 3 + 1) ∧
    (rdy.May (↑0) (pEvtp ↑0) ∧ rdy.runLevel ↑0 = 0) ∧
    (lost0.May (↑0) (pEvtp ↑0) ∧ lost0.evt.lost.contains ↑0 = true ∧ lost0.play.pending = true) ∧
    (rdy.May (↑0) (pEvtp ↑0) ∧ rdy.evt.lost.contains ↑0 = false) ∧
    ((1 = 0 ∨ rdy.fld (pEvtp ↑1) F.EVTP_NOTE_OUTSTANDING = 0 ∨ rdy.fld (pEvtp ↑1) F.EVTP_CFG_RESEND_MS = 0)) ∧
    (1 ≠ 0 ∧ noting.fld (pEvtp ↑1) F.EVTP_NOTE_OUTSTANDING = 1 ∧ noting.fld (pEvtp ↑1) F.EVTP_CFG_RESEND_MS ≠ 0 ∧
      noting.portUp (noting.fld (pSeat ↑1) F.SEAT_CFG_ETH_PORT) = true ∧ isMulticast (noting.hostAddr ↑1) = false ∧
      noting.nextHop (noting.fld (pSeat ↑1) F.SEAT_CFG_ETH_PORT) (noting.hostAddr ↑1) = some 167772162 ∧
      List.find? (fun x => x.fst == 167772162#128)
    (noting.port (noting.fld (pSeat ↑1) F.SEAT_CFG_ETH_PORT)).cache =
  some hostEntry) ∧
    ((on playable pEvt F.EVT_ALIVE_ALIVE_MS 10).present ↑0 = true ∧
      (false = false ∧
    (on playable pEvt F.EVT_ALIVE_ALIVE_MS 10).active = true ∧
      (on playable pEvt F.EVT_ALIVE_ALIVE_MS 10).fld pEvt F.EVT_ALIVE_ALIVE_MS ↑0 ≠ 0 ∨
  false = true ∧ 0 = 0 ∧ (on playable pEvt F.EVT_ALIVE_ALIVE_MS 10).ready = true)) ∧
    (playable.present ↑0 = true ∧
      (true = false ∧ playable.active = true ∧ playable.fld pEvt F.EVT_ALIVE_ALIVE_MS ↑0 ≠ 0 ∨
  true = true ∧ 0 = 0 ∧ playable.ready = true)) := by
  decide +kernel

theorem witness_PlayoutAndPowerStates :
    (playLoading.storeOp = some (readOp 2) ∧ (readOp 2).purpose = 2 ∧ playLoading.play.withdrawn = false) ∧
    (playing.May (↑0) pEvt) ∧
    (rdy.May (↑0) pEmber ∧ rdy.refuse 1 false = 0) ∧
    (rdy.May (↑0) pEmber ∧ rdy.refuse 2 false = 0) ∧
    (viewing.May (↑0) pEmber ∧ viewsOn viewing.force ≠ []) ∧
    ((power 1).May (↑0) pEmber ∧ (power 1).pstate ≠ 0) ∧
    ((power 2).May (↑0) pEmber ∧ (power 2).pstate = 2) ∧
    (rdy.May (↑0) pEmber ∧ rdy.pstate ≠ 2) ∧
    ((leaving false).powerReq = some false ∧ (leaving false).rateChanging = false ∧
      (leaving false).memOff = false) ∧
    (pausing.rateChanging = true) ∧
    ((leaving true).powerReq = some true ∧ (leaving true).rateChanging = false) := by
  decide +kernel

theorem witness_PlayoutAndPowerStates_also :
    (999 < 1000) ∧
    (1000 ≤ 1000 ∧ (waker (power 2)).fld pEmber F.EMBER_WAKE_CFG_WAKE_N_EN = 1 ∧
      (waker (power 2)).pow.sleeping = false ∧ (waker (power 2)).pstate = 2) ∧
    (1000 ≤ 1000 ∧ asleep.fld pEmber F.EMBER_WAKE_CFG_WAKE_N_EN = 1 ∧ asleep.pow.sleeping = true ∧
      asleep.pow.up = false) ∧
    ((waker (power 2)).fld pEmber F.EMBER_WAKE_CFG_ALARM_EN = 1 ∧ (waker (power 2)).pow.sleeping = false ∧
      (waker (power 2)).pstate = 2) ∧
    (asleep.fld pEmber F.EMBER_WAKE_CFG_ALARM_EN = 1 ∧ asleep.pow.sleeping = true ∧ asleep.pow.up = false) ∧
    ((power 3).pstate = 3 ∧ (power 3).memOff = false) ∧
    ((power 3).pstate = 3) := by
  decide +kernel

theorem witness_FlashCommandsAndSteps :
    ((flashing [erases]).May (↑0) pUpd ∧ (flashing [erases]).flashOp ≠ none) ∧
    (rdy.May (↑0) pUpd ∧ rdy.flashOp = none ∧ rdy.updBad = true) ∧
    ((boot0 (List.replicate 5 0)).May (↑0) pUpd ∧ (boot0 (List.replicate 5 0)).flashOp = none ∧
      (boot0 (List.replicate 5 0)).booted < 2 ∧ (boot0 (List.replicate 5 0)).confirmed = true ∧
      (boot0 (List.replicate 5 0)).patchSound = false ∧ (boot0 (List.replicate 5 0)).updBad = false) ∧
    (foreign.May (↑0) pUpd ∧ foreign.flashOp = none ∧ foreign.booted < 2 ∧ foreign.confirmed = true ∧
      foreign.patchSound = true ∧ foreign.patchBase 0 = false) ∧
    ((boot0 [0]).May (↑0) pUpd ∧ (boot0 [0]).flashOp = none ∧ (boot0 [0]).booted < 2 ∧
      (boot0 [0]).confirmed = false) ∧
    (boot3.May (↑0) pUpd ∧ boot3.flashOp = none ∧ 2 ≤ boot3.booted) ∧
    (boot3.May (↑0) pUpd ∧ boot3.flashOp = none ∧ boot3.pow.shutting = false ∧ boot3.updBad = false) ∧
    (staged.May (↑0) pUpd ∧ staged.flashOp = none ∧ staged.pow.shutting = false ∧ staged.updBad = false ∧
      staged.booted < 2 ∧ staged.confirmed = true) ∧
    (staged.May (↑0) pUpd ∧ staged.flashOp = none ∧ staged.pow.shutting = false ∧ staged.booted < 2 ∧
      staged.confirmed = true ∧ staged.patchSound = true ∧ staged.patchBase staged.booted = true ∧
      staged.patchResult staged.booted = some (record [lockEntry])) ∧
    ((boot0 [0]).May (↑0) pUpd ∧ (boot0 [0]).flashOp = none ∧ (boot0 [0]).pow.shutting = false ∧
      (boot0 [0]).booted < 2 ∧ (boot0 [0]).confirmed = false) := by
  decide +kernel

theorem witness_FlashCommandsAndSteps_also :
    ((flashing [erases, programs]).flashOp = some (flashOf [erases, programs]) ∧
      (flashOf [erases, programs]).steps = [erases, programs] ∧
      (flashing [erases, programs]).pow.shutting = false) ∧
    ((flashing [programs]).flashOp = some (flashOf [programs]) ∧ (flashOf [programs]).steps = [programs]) := by
  decide +kernel

theorem witness_StoreCommandsRunOrAreRefused :
    ((storing resyncOp).May (↑0) pNvme ∧ (storing resyncOp).storeOp ≠ none) ∧
    (rdy.May (↑0) pNvme ∧ rdy.storeOp = none ∧
      rdy.nvmeReason ↑(0 : SeatNo) (1 : Nat) (BitVec.toNat (7 : Byte))
    (if false = true then entDest ((rdy.extent (BitVec.toNat (7 : Byte))).getD []) else rdy.nvmeBuf) ≠
  (0 : Nat)) ∧
    (rdy.May (↑0) pNvme ∧ rdy.storeOp = none ∧
      rdy.nvmeReason ↑(0 : SeatNo) (2 : Nat) (BitVec.toNat (7 : Byte)) rdy.nvmeBuf ≠ (0 : Nat)) ∧
    (rdy.May (↑0) pNvme ∧ rdy.storeOp = none ∧
      rdy.nvmeReason ↑(0 : SeatNo) (3 : Nat) (BitVec.toNat (7 : Byte)) rdy.nvmeBuf ≠ (0 : Nat)) ∧
    (rdy.May (↑0) pNvme ∧ rdy.storeOp = none ∧ rdy.nvmeReason (↑0) 4 0 rdy.nvmeBuf ≠ 0) ∧
    (rdy.May (↑0) pNvme ∧ rdy.storeOp = none ∧ rdy.nvmeReason (↑0) 5 0 rdy.nvmeBuf ≠ 0) ∧
    ((on rdy pNvme F.NVME_STAT_D0_STATE 2).May (↑0) pNvme ∧ (on rdy pNvme F.NVME_STAT_D0_STATE 2).storeOp = none ∧
      (on rdy pNvme F.NVME_STAT_D0_STATE 2).nvmeReason (↑0) 4 0 (on rdy pNvme F.NVME_STAT_D0_STATE 2).nvmeBuf = 0) ∧
    ((storing failedOp).storeOp = some failedOp ∧ failedOp.purpose = 0 ∧ (storing failedOp).storeWait = [] ∧
      (storing failedOp).rateChanging = false ∧ failedOp.failed = true ∧ (storing failedOp).pow.shutting = false) ∧
    ((storing (readOp 0)).storeOp = some (readOp 0) ∧ (readOp 0).purpose = 0 ∧
      (storing (readOp 0)).storeWait = [] ∧ (storing (readOp 0)).rateChanging = false ∧ (readOp 0).failed = false ∧
      (readOp 0).op = 1 ∧ (readOp 0).moved = 0 ∧ (storing (readOp 0)).readers = [0]) ∧
    ((storing resyncOp).storeOp = some resyncOp ∧ resyncOp.purpose = 0 ∧ (storing resyncOp).storeWait = [] ∧
      (storing resyncOp).rateChanging = false ∧ resyncOp.failed = false ∧ (storing resyncOp).pow.shutting = false ∧
      (resyncOp.op = 2 ∨ resyncOp.op = 3 ∨ resyncOp.op = 4 ∨ resyncOp.op = 5)) := by
  decide +kernel

theorem witness_StoreCommandsRunOrAreRefused_also :
    ((storing writeOp).storeOp = some writeOp ∧ writeOp.purpose = 0 ∧ (storing writeOp).storeWait = [] ∧
      (storing writeOp).rateChanging = false ∧ writeOp.failed = false ∧ (storing writeOp).pow.shutting = false ∧
      writeOp.op = 2 ∧ writeOp.moved = 0 ∧ writeOp.entry.length = 64 ∧ 2 ≤ entStart writeOp.entry) := by
  decide +kernel

theorem witness_DrivesComeAnswerAndGo :
    (rdy.pow.up = true ∧ rdy.pow.sleeping = false ∧ rdy.pstate ≠ 2 ∧ (rdy.drive ↑0).linkUp = false) ∧
    (((driving 0 false).drive ↑0).linkUp = true) ∧
    (((driving 0 false).drive ↑0).linkUp = true ∧ (driving 0 false).driveState ↑0 ≠ 4 ∧
      ((driving 0 false).drive ↑0).phase < 7 ∧ (driving 0 false).rateChanging = false ∧ okReply.ok = true ∧
      ((driving 0 false).drive ↑0).phase = 0 ∧ okReply.usable = true) ∧
    (((driving 1 false).drive ↑0).linkUp = true ∧ (driving 1 false).driveState ↑0 ≠ 4 ∧
      ((driving 1 false).drive ↑0).phase < 7 ∧ (driving 1 false).rateChanging = false ∧ okReply.ok = true ∧
      ((driving 1 false).drive ↑0).phase = 1 ∧ okReply.usable = true ∧
      (okReply.lbaBytes = 512 ∨ okReply.lbaBytes = 4096)) ∧
    (((driving 1 false).drive ↑0).linkUp = true ∧ (driving 1 false).driveState ↑0 ≠ 4 ∧
      ((driving 1 false).drive ↑0).phase < 7 ∧ (driving 1 false).rateChanging = false ∧ badReply.ok = true ∧
      ((driving 1 false).drive ↑0).phase ≤ 1 ∧ badReply.usable = false) ∧
    (((driving 6 false).drive ↑0).linkUp = true ∧ (driving 6 false).driveState ↑0 ≠ 4 ∧
      ((driving 6 false).drive ↑0).phase < 7 ∧ (driving 6 false).rateChanging = false ∧ okReply.ok = true ∧
      ((driving 6 false).drive ↑0).phase = 6 ∧ (driving 6 false).driveState (1 - ↑0) ≠ 2) ∧
    (((driving 2 false).drive ↑0).linkUp = true ∧ (driving 2 false).driveState ↑0 ≠ 4 ∧
      ((driving 2 false).drive ↑0).phase < 7 ∧ ((driving 2 false).drive ↑0).resetOnce = false ∧
      (driving 2 false).rateChanging = false ∧ noReply.ok = false) ∧
    (((driving 2 true).drive ↑0).linkUp = true ∧ (driving 2 true).driveState ↑0 ≠ 4 ∧
      ((driving 2 true).drive ↑0).phase < 7 ∧ ((driving 2 true).drive ↑0).resetOnce = true) := by
  decide +kernel

theorem witness_DrivesComeAnswerAndGo_also :
    ((moving.drive ↑0).linkUp = true ∧ (moving.drive ↑0).phase = 7 ∧ moving.storeOp = some moveOp ∧
      moveOp.op = 1 ∧ moveOp.moved < moveOp.total ∧ moving.readers = [↑0] ∧ okReply.ok = true ∧
      moving.rateChanging = false) ∧
    (pausedDrive.rateChanging = true) := by
  decide +kernel

/-! ### Witnesses that need more than evaluation -/

theorem witness_StepRunsTheFrontCommand : ∃ t, step { up with pending := [.xtalRunStart, .porNLow 5] } = .next t :=
  ⟨_, rfl⟩

theorem witness_EveryStepKeepsCanonicalForm : State.reset.Sound ∧ ∃ t, step State.reset = .next t :=
  ⟨⟨rfl, rfl⟩, _, rfl⟩

theorem witness_CommandsTouchOnlyTheirParts :
    (∃ t, exec .xtalRunStart up = .next t) ∧ Piece.coef ∉ touches .xtalRunStart := ⟨⟨_, rfl⟩, by decide +kernel⟩

/-- Above the rings of GDDR6 every ring number is a host's that is not enabled. -/
theorem witness_RingOperationsActOrGiveAReason_event :
    ∀ n, 8200 ≤ n → (asked.ring n).role = 0 → ¬ asked.eventRing n := by
  intro n _ _ e
  obtain ⟨k, hk, h1, _⟩ := e
  have none : ∀ k, k < 16 → asked.fld (pSeat k) F.SEAT_EVT_RING_VALID ≠ 1 := by decide +kernel
  exact none k hk h1

theorem drive_withDisk (s : State) (x : Drive) (o : Option StoreOp) : (withDisk s x o).drive 0 = x := rfl

theorem disk_cells : disk.cells = [] := rfl
theorem entries_dirBytes : 64 + 16384 = dirBytes := by decide

theorem inForce_disk (es : List Byte) (hn : es.length = 16384) :
    (disk.put 0 (makeDir 1 64 es)).inForce = some 0 ∧ (disk.put 0 (makeDir 1 64 es)).copy 0 = makeDir 1 64 es :=
  inForce_put disk (makeDir 1 64 es) disk_cells (dirValid_makeDir 1 64 es) (by rw [length_makeDir, hn, entries_dirBytes])

theorem directory_stored (s : State) (es : List Byte) (o : Option StoreOp) (hn : es.length = 16384)
    (hr : (withDisk s (disk.put 0 (makeDir 1 64 es)) o).readers = [0]) :
    (withDisk s (disk.put 0 (makeDir 1 64 es)) o).directory = some (0, makeDir 1 64 es) :=
  directory_eq _ 0 [] _ 0 _ hr (drive_withDisk s _ o) (inForce_disk es hn).1 (inForce_disk es hn).2

theorem extent_stored (s : State) (es : List Byte) (o : Option StoreOp) (e : Nat) (hn : es.length = 16384)
    (hr : (withDisk s (disk.put 0 (makeDir 1 64 es)) o).readers = [0]) :
    (withDisk s (disk.put 0 (makeDir 1 64 es)) o).extent e =
      if entType ((es.drop (64 * e)).take 64) = 0 then none else some ((es.drop (64 * e)).take 64) := by
  rw [extent_of _ 0 e _ (directory_stored s es o hn hr), dirEntry_makeDir]

theorem fld_withDisk (s : State) (x : Drive) (o : Option StoreOp) (p i : Nat) (f : Fld) :
    (withDisk s x o).fld p f i = s.fld p f i := rfl
theorem readers_withDisk (s : State) (x : Drive) (o : Option StoreOp) : (withDisk s x o).readers = s.readers := by
  unfold State.readers State.driveState
  simp only [fld_withDisk]
theorem memOff_withDisk (s : State) (x : Drive) (o : Option StoreOp) : (withDisk s x o).memOff = s.memOff := by
  unfold State.memOff
  rw [fld_withDisk]
theorem inGddr_withDisk (s : State) (x : Drive) (o : Option StoreOp) (a n : Nat) :
    (withDisk s x o).inGddr a n = s.inGddr a n := by
  unfold State.inGddr State.capacity
  rw [fld_withDisk]
theorem poke_nil (s : State) (a : Nat) : (s.poke a []).mem = s.mem := rfl
theorem loopOk_mem (s t : State) (h : s.mem = t.mem) (a : Nat) : s.loopOk a = t.loopOk a := by
  unfold State.loopOk State.loopTracks State.loopWord State.peek
  rw [h]
theorem extentBytes_none (x : Drive) (a : Nat) : x.bytes a 0 = [] := rfl

theorem length_entries (typ : Nat) : (entries typ).length = 16384 := by
  unfold entries entry others
  rw [List.length_append, List.length_append, length_leBytes, List.length_replicate, List.length_replicate]
theorem first_entries (typ : Nat) : (List.drop (64 * 0) (entries typ)).take 64 = entry typ := by
  unfold entries
  rw [Nat.mul_zero, List.drop_zero]
  exact List.take_left' (by unfold entry; rw [List.length_append, length_leBytes, List.length_replicate])

theorem jobRead_readers : jobRead.readers = [0] := (readers_withDisk _ _ _).trans (by decide +kernel)
theorem lastLoad_readers : lastLoad.readers = [0] := (readers_withDisk _ _ _).trans (by decide +kernel)
theorem loopRead_readers : loopRead.readers = [0] := (readers_withDisk _ _ _).trans (by decide +kernel)
theorem jobRead_directory : jobRead.directory = some (0, makeDir 1 64 (entries 3)) :=
  directory_stored _ _ _ (length_entries 3) jobRead_readers
theorem lastLoad_directory : lastLoad.directory = some (0, makeDir 1 64 (entries 3)) :=
  directory_stored _ _ _ (length_entries 3) lastLoad_readers
theorem loopRead_directory : loopRead.directory = some (0, makeDir 1 64 (entries 2)) :=
  directory_stored _ _ _ (length_entries 2) loopRead_readers

theorem entry_crc (s : State) (d : Nat) (typ a : Nat) (h : entLen (entry typ) = 0) (hc : entCrc (entry typ) = 0) :
    crc32c ((s.drive d).bytes a (entLen (entry typ))) = entCrc (entry typ) := by
  rw [h, hc, extentBytes_none]
  decide +kernel

theorem witness_TileJobsLoadAndVisit_read :
    (jobRead.storeOp = some (readOp 3) ∧ (readOp 3).op = 1 ∧ (readOp 3).purpose = 3 ∧ jobRead.job = some aJob) ∧
    jobRead.jobState = 1 ∧ jobRead.directory.isSome = true ∧ (readOp 3).entry ≠ [] ∧ jobRead.memOff = false ∧
    jobRead.inGddr (entDest (entry 3)) (entLen (entry 3)) = true ∧ jobRead.readers = [0] ∧
    crc32c ((jobRead.drive 0).bytes (entStart (entry 3) * 2 ^ 20) (entLen (entry 3))) = entCrc (entry 3) ∧
    entType (entry 3) = 3 := by
  refine ⟨⟨rfl, rfl, rfl, rfl⟩, ?_, ?_, ?_, ?_, ?_, jobRead_readers, ?_, ?_⟩
  · exact (fld_withDisk jobBase _ _ _ _ _).trans (by decide +kernel)
  · rw [jobRead_directory]
    rfl
  · decide +kernel
  · exact (memOff_withDisk jobBase _ _).trans (by decide +kernel)
  · exact (inGddr_withDisk jobBase _ _ _ _).trans (by decide +kernel)
  · exact entry_crc _ 0 3 _ (by decide +kernel) (by decide +kernel)
  · decide +kernel

theorem witness_TrainingEndsAndStoreLoadsRun_last :
    (lastLoad.storeOp = some (readOp 1) ∧ (readOp 1).op = 1 ∧ (readOp 1).purpose = 1 ∧ (readOp 1).entry ≠ []) ∧
    lastLoad.directory.isSome = true ∧ lastLoad.memOff = false ∧
    lastLoad.inGddr (entDest (entry 3)) (entLen (entry 3)) = true ∧ lastLoad.readers = [0] ∧
    crc32c ((lastLoad.drive 0).bytes (entStart (entry 3) * 2 ^ 20) (entLen (entry 3))) = entCrc (entry 3) ∧
    lastLoad.pow.loads.length = 1 ∧ lastLoad.pow.initCommit = true ∧ lastLoad.pow.loadFailed = false ∧ lastLoad.ready = true := by
  refine ⟨⟨rfl, rfl, rfl, by decide +kernel⟩, ?_, ?_, ?_, lastLoad_readers, ?_, rfl, rfl, rfl, ?_⟩
  · rw [lastLoad_directory]
    rfl
  · exact (memOff_withDisk loadBase _ _).trans (by decide +kernel)
  · exact (inGddr_withDisk loadBase _ _ _ _).trans (by decide +kernel)
  · exact entry_crc _ 0 3 _ (by decide +kernel) (by decide +kernel)
  · unfold State.ready
    exact (congrArg (· == 1) (fld_withDisk loadBase _ _ _ _ _)).trans (by decide +kernel)

theorem loopRead_mem : (loopRead.poke (entDest (entry 3)) []).mem = loopBase.mem := poke_nil loopRead _

theorem witness_PlayoutAndPowerStates_load :
    (loopRead.storeOp = some (readOp 2) ∧ (readOp 2).purpose = 2 ∧ loopRead.play.withdrawn = false ∧ loopRead.storeWait = [] ∧
      (readOp 2).moved = 0 ∧ (readOp 2).op = 1 ∧ (readOp 2).entry ≠ []) ∧
    loopRead.directory.isSome = true ∧ loopRead.memOff = false ∧
    loopRead.inGddr (entDest (entry 3)) (entLen (entry 3)) = true ∧ loopRead.readers = [0] ∧
    (loopRead.drive 0).bytes (entStart (entry 3) * 2 ^ 20) (entLen (entry 3)) = [] ∧ crc32c [] = entCrc (entry 3) ∧
    (loopRead.poke (entDest (entry 3)) []).loopOk (entDest (entry 3)) = true ∧
    bitsOf ((loopRead.poke (entDest (entry 3)) []).loopWord (entDest (entry 3)) 1) 32 32 = 0 := by
  refine ⟨⟨rfl, rfl, rfl, rfl, rfl, rfl, by decide +kernel⟩, ?_, ?_, ?_, loopRead_readers, ?_, ?_, ?_, ?_⟩
  · rw [loopRead_directory]
    rfl
  · exact (memOff_withDisk loopBase _ _).trans (by decide +kernel)
  · exact (inGddr_withDisk loopBase _ _ _ _).trans (by decide +kernel)
  · rw [show entLen (entry 3) = 0 from by decide +kernel, extentBytes_none]
  · decide +kernel
  · exact (loopOk_mem _ loopBase loopRead_mem _).trans (by decide +kernel)
  · unfold State.loopWord State.peek
    rw [loopRead_mem]
    decide +kernel

theorem gfMul_zero (x : Nat) : gfMul 0 x = 0 := by
  unfold gfMul
  generalize List.range 10 = l
  have h : gfX 0 = 0 := by decide
  induction l with
  | nil => rfl
  | cons i l ih =>
    rw [List.foldr_cons, ih, h]
    exact ite_self 0

theorem gfEval_zeros (n : Nat) (t : List Nat) (x : Nat) : gfEval (List.replicate n 0 ++ t) x = gfEval t x := by
  unfold gfEval
  rw [List.foldl_append]
  congr 1
  induction n with
  | zero => rfl
  | succ n ih => rw [List.replicate_succ, List.foldl_cons, gfMul_zero]; exact ih

/-- The witness's codeword cannot be corrected. -/
theorem witness_EthernetLinksRiseAndFall_codeword : rsDecode (badCells.map (·.toNat)) = none := by
  have e : badCells.map (·.toNat) = List.replicate 264 0 ++ [1, 2, 3, 4, 5, 6, 7, 8] := by
    unfold badCells
    rw [List.map_append, List.map_replicate]
    rfl
  have s : rsSyndromes (List.replicate 264 0 ++ [1, 2, 3, 4, 5, 6, 7, 8]) = rsSyndromes [1, 2, 3, 4, 5, 6, 7, 8] := by
    unfold rsSyndromes
    simp only [gfEval_zeros]
  rw [e]
  unfold rsDecode
  rw [s, if_neg (by rw [List.length_append, List.length_replicate]; decide)]
  simp only []
  rw [if_neg (by decide +kernel), if_pos (Or.inl (by decide +kernel))]

theorem inUse_readers : inUse.readers = [0] := (readers_withDisk _ _ _).trans (by decide +kernel)
theorem unused_readers : unused.readers = [0] := (readers_withDisk _ _ _).trans (by decide +kernel)
theorem behind_readers : behind.readers = [0] := (readers_withDisk _ _ _).trans (by decide +kernel)
theorem inUse_directory : inUse.directory = some (0, makeDir 1 64 (entries 1)) :=
  directory_stored _ _ _ (length_entries 1) inUse_readers
theorem unused_directory : unused.directory = some (0, makeDir 1 64 (entries 0)) :=
  directory_stored _ _ _ (length_entries 0) unused_readers
theorem behind_directory : behind.directory = some (0, makeDir 1 64 (entries 0)) :=
  directory_stored _ _ _ (length_entries 0) behind_readers
theorem behind_writers : behind.writers = [0, 1] := by
  have h : staleBase.writers = [0, 1] := by decide +kernel
  rw [← h]
  unfold State.writers State.driveState behind
  simp only [fld_withDisk]
theorem inUse_extent : inUse.extent 0 = some (entry 1) := by
  have h := extent_stored storeBase (entries 1) none 0 (length_entries 1) inUse_readers
  rw [first_entries, if_neg (by decide +kernel)] at h
  exact h
theorem zero_block (m n : Nat) : ((List.replicate n (0 : Byte)).drop m).take 64 = List.replicate (min 64 (n - m)) 0 := by
  rw [List.drop_replicate, List.take_replicate]
theorem entries_zero : entries 0 = List.replicate 16384 0 := by
  have h : entry 0 = List.replicate 64 0 := by decide +kernel
  unfold entries others
  rw [h, List.replicate_append_replicate]
theorem entType_zeros (n : Nat) : entType (List.replicate n 0) = 0 := by
  unfold entType entryWord
  have h : leNat ((List.replicate n (0 : Byte)).drop (8 * 0) |>.take 8) = 0 := by
    rw [Nat.mul_zero, List.drop_zero, List.take_replicate]
    generalize min 8 n = k
    induction k with
    | zero => rfl
    | succ k ih => rw [List.replicate_succ]; show (0 : Byte).toNat + 256 * leNat _ = 0; rw [ih]; rfl
  rw [h]
  rfl
theorem unused_extent (e : Nat) : unused.extent e = none := by
  have h := extent_stored (on (storeBase.poke 0 writeOp.entry) pNvme F.NVME_CAPACITY_UNITS 64) (entries 0) none e
    (length_entries 0) unused_readers
  rw [entries_zero, zero_block, if_pos (entType_zeros _), ← entries_zero] at h
  exact h
theorem memOff_inUse : inUse.memOff = false := (memOff_withDisk _ _ _).trans (by decide +kernel)
theorem memOff_unused : unused.memOff = false := (memOff_withDisk _ _ _).trans (by decide +kernel)
theorem template_unused : unused.template = writeOp.entry :=
  (show unused.template = (on (storeBase.poke 0 writeOp.entry) pNvme F.NVME_CAPACITY_UNITS 64).template from (rfl)).trans
    (by decide +kernel)

theorem witness_StoreCommandsRunOrAreRefused_runs :
    (inUse.storeOp = none ∧ inUse.nvmeReason 0 1 0 0 = 0 ∧ inUse.nvmeReason 0 3 0 0 = 0) ∧
    (unused.storeOp = none ∧ unused.nvmeReason 0 2 7 0 = 0) ∧
    (behind.storeOp = none ∧ behind.nvmeReason 0 5 0 0 = 0) := by
  have hw : inUse.inWindow 0 0 (entLen (entry 1)) = true :=
    (show inUse.inWindow 0 0 (entLen (entry 1)) = storeBase.inWindow 0 0 (entLen (entry 1)) from (rfl)).trans (by decide +kernel)
  have hg : inUse.inGddr 0 (entLen (entry 1)) = true := (inGddr_withDisk storeBase _ _ _ _).trans (by decide +kernel)
  have hu (a n : Nat) : unused.inGddr a n =
      (on (storeBase.poke 0 writeOp.entry) pNvme F.NVME_CAPACITY_UNITS 64).inGddr a n := inGddr_withDisk _ _ _ _ _
  refine ⟨⟨rfl, ?_, ?_⟩, ⟨rfl, ?_⟩, ⟨rfl, ?_⟩⟩
  · unfold State.nvmeReason
    rw [inUse_readers, inUse_directory, inUse_extent]
    simp [memOff_inUse, hw, hg]
  · unfold State.nvmeReason
    rw [inUse_readers, inUse_directory, inUse_extent]
    simp
  · unfold State.nvmeReason
    rw [unused_readers, unused_directory, template_unused, memOff_unused]
    have h1 : entType writeOp.entry ≠ 0 := by decide +kernel
    have h2 : unused.badExtent writeOp.entry = false := by
      unfold State.badExtent
      simp only [unused_extent]
      decide +kernel
    have h3 : unused.inGddr unused.nvmeEnt 64 = true := (hu _ _).trans (by decide +kernel)
    have h4 : unused.inGddr unused.nvmeBuf (entLen writeOp.entry) = true := (hu _ _).trans (by decide +kernel)
    simp [h1, h2, h3, h4]
  · unfold State.nvmeReason
    rw [behind_readers, behind_directory, behind_writers]
    simp

/-! ### Well-formed commands: an ill-formed term for each check, refused -/

theorem test_wf_addresses :
    Instr.wf (.bar0Request false 0 []) = false ∧ Instr.wf (.bar0Request false 0xFFFFFC [⟨15, 0⟩, ⟨15, 0⟩]) = false ∧
    Instr.wf (.bar0Request false 2 [⟨15, 0⟩]) = false ∧ Instr.wf (.bar0Request false 0xFFFFFC [⟨15, 0⟩]) = true ∧
    Instr.wf (.bar2Access true 0 [] 4) = false ∧ Instr.wf (.bar2Access false 0 (text [1]) 4) = false ∧
    Instr.wf (.bar2Access false 0xFFFFFFFFF [] 2) = false ∧ Instr.wf (.bar4Access true 2 0) = false ∧
    Instr.wf (.testPortClock true false false [⟨.enable, false, true⟩, ⟨.input, false, true⟩]) = false := by decide

theorem test_wf_messages :
    Instr.wf (.controlDatagram 0 false (2 ^ 32) 1 2 []) = false ∧ Instr.wf (.controlDatagram 0 true (2 ^ 32) 1 2 []) = true ∧
    Instr.wf (.ethFrameRx 0 (frame (.ip { ipHead with src := 2 ^ 32 } .other))) = false ∧
    Instr.wf (.ethFrameRx 0 (frame (.ip { ipHead with extension := true } .other))) = false ∧
    Instr.wf (.syncRx 0 (msg .followUp false) 0) = false ∧ Instr.wf (.followUpRx 0 (msg .sync false)) = false ∧
    Instr.wf (.delayRespRx 0 (msg .sync false)) = false ∧ Instr.wf (.stateRecordRx 0 false true 0 0 0 [] 0 0) = false ∧
    Instr.wf (.faultRecordRx 0 false true 0 0 0 []) = false ∧ Instr.wf (.diagResultRx 0 false true 0 0 []) = false ∧
    Instr.wf (.diagResultRx 0 false true 0 0 (List.replicate 17 (answers 1))) = false := by decide

theorem test_wf_lines :
    Instr.wf (.uncorrectableCodeword (.wl 0 false) (.codeword 0 [])) = false ∧
    Instr.wf (.uncorrectableCodeword (.wl 0 false) (.block true [])) = false ∧
    Instr.wf (.uncorrectableCodeword (.wl 0 false) errorBlock) = true ∧
    Instr.wf (.panicEntry 0 (2 ^ 19 + 1)) = false ∧ Instr.wf (.panicExit 0 (2 ^ 19 + 1)) = false := by decide

theorem test_wf_trims :
    Instr.wf (.gddr6TrainingDone 0 0 [someTrim]) = false ∧ Instr.wf (.memRetrainDone 0 []) = false ∧
    Instr.wf (.rateChangeEnd 0 0 []) = false ∧ Instr.wf (.standbyReturnDone 0 true 0 []) = false ∧
    Instr.wf (.ethLinkUp 0 [⟨[1]⟩]) = false ∧ Instr.wf (.trainDone (.eth 0) [⟨[1]⟩] [] false) = false ∧
    Instr.wf (.trimTrack 0 [⟨1, 28, 5, 3⟩] 0 0 0) = false ∧ Instr.wf (.regatherGatherEnd 0 [⟨1, 8, 5, 32⟩]) = false ∧
    Instr.wf (.memTrack 0 [⟨0, 28, 7, 3⟩] []) = false ∧ Instr.wf (.memTrack 0 [aMem] [(2, 1)]) = false ∧
    Instr.wf (.memRegatherGatherEnd 0 [⟨0, 28, 7, 3⟩] []) = false ∧
    Instr.wf (.memRegatherGatherEnd 0 [] [(2, 1)]) = false ∧ Instr.wf (.glimRound [] 0) = false ∧
    Instr.wf (.activityWindow 0 5 6) = false := by decide

theorem test_wf_slots :
    Instr.wf (.servoSample true 16 0) = false ∧ Instr.wf (.servoSample false 16 0) = true ∧
    Instr.wf (.servoApply 0 true 16) = false ∧ Instr.wf (.servoReset 0 true 16) = false ∧
    Instr.wf (.servoRelease 0 true 16) = false ∧ Instr.wf (.followingErrorLost true 16) = false := by decide

/-! ### The spec's worked examples -/

/-- spec/00_scope.md, serial comparison: 0x00_0000_0100 is later than 0xFF_FFFF_FF00, not the other way round. -/
theorem test_later : later 40 0x100 0xFFFFFFFF00 = true ∧ later 40 0xFFFFFFFF00 0x100 = false := by decide

/-- spec/00_scope.md, one tile's resources: link 300, layer slot 200. -/
theorem test_pages : pWl 300 = 0x52C000 ∧ pLyr 200 = 0x1C8000 := by decide

/-- spec/02 R82: the check value of the ASCII string 123456789. -/
theorem test_crc32c : crc32c (text [0x31, 0x32, 0x33, 0x34, 0x35, 0x36, 0x37, 0x38, 0x39]) = 0xE3069283 := by decide +kernel

/-- The state that a command answers. -/
def after (c : Instr) (s : State) : State :=
  match exec c s with
  | .next t => t
  | _ => s

/-- spec/15: the same string fed as two words and a byte. -/
theorem test_crc_unit :
    let s := after (.crcDataWrite 0 1 15 0x38373635) (after (.crcDataWrite 0 1 15 0x34333231) rdy)
    let t := after (.crcDataWrite 0 1 1 0x39) s
    t.fld (pCrc 1) F.CRC_VALUE_V = 0x1CF96D7C ∧ (t.hostRead 0 (pCrc 1 + 0x114)).2 = 0xE3069283 := by decide +kernel

/-- spec/04, a grey pixel of Brannock Arena's feed, and the size of its buffers. -/
theorem test_grey_pixel :
    (PixFmt.mk 0 10 0 0 0 0x1000).convert (502, 512, 512) = (198668, 198668, 198668) ∧
    packFlow (198668, 198668, 198668) = 0xCC2308C2 ∧ (Store.mk 0x40000000 1920 1080 7680 0).bufBytes = 0x7E9000 := by
  decide +kernel

/-- spec/05, Orrel Hall: the scaler's step and position, the logo's colour and blend. -/
theorem test_scaler_and_blend :
    stepOf 1920 2880 = 699051 ∧ stepOf 1080 1620 = 699051 ∧ scalePos 100 699051 = (66, 32) ∧
    blend1 false 1048575 514 0 250000 = 650847 ∧ blend1 false 1048575 514 0 180000 = 615984 ∧
    blend1 false 1048575 514 0 120000 = 586101 := by decide

/-- spec/06, the record of that pixel: coefficients of 13 bits from bit 0 on. -/
def orrelRecord : Nat :=
  ([1984, 82, 8192 - 18, 8192 - 41, 1902, 8192 - 19, 10, 8192 - 62, 2132].zipIdx.map (fun e => e.1 * 2 ^ (13 * e.2))).sum

/-- spec/06: the matrix sums and the place on tile 356, which hangs inverted. -/
theorem test_matrix :
    matrixOut orrelRecord 3 ⟨650847, 615984, 586101, 0⟩ = ([650020, 553604, 594670], 0) ∧
    (Tile.mk 356 2 false false 3 3 8 36 6912 1728 192 216 14764032).localOf 7100 1900 = (3, 43) := by decide +kernel

/-- spec/08, the row at Saltmere: t_m of a link of two lanes, and the header of tile 203's packet. -/
theorem test_wickline :
    tM 2 = 157 ∧ header 2 203 960 (0x60E0 * 2 ^ 16 + 0xFFCC) = 0x206583C060E0FFCC ∧ guardUs 4089 = 25 := by decide

/-- spec/11, Pellow Dene: samples 1, 7, 11, 12, 16, 17 and 20 of the Taper. -/
theorem test_taper :
    taper true 50000 10000 2000000 3000000 0 = (2990000, -10000) ∧
    taper true 50000 10000 2900000 2800000 (-50000) = (2760000, -40000) ∧
    taper true 50000 10000 2900000 2700000 (-10000) = (2700000, 0) ∧
    taper true 50000 10000 2900000 2700000 0 = (2710000, 10000) ∧
    taper true 50000 10000 2900000 2800000 40000 = (2840000, 40000) ∧
    taper true 50000 10000 2900000 2840000 40000 = (2870000, 30000) ∧
    taper true 50000 10000 2900000 2900000 10000 = (2900000, 0) := by decide

/-- The gains of spec/11's saturated servo in a phase loop. -/
def saturated (r : Nat) : State :=
  [(F.SA_ACT_KP_K, 4096), (F.SA_ACT_SHIFT_SP, 4), (F.SA_ACT_KI_K, 512), (F.SA_ACT_SHIFT_SI, 4),
   (F.SA_ACT_UMIN_VALUE, 2 ^ 32 - 45000000), (F.SA_ACT_UMAX_VALUE, 45000000), (F.SA_I_I, 44590400), (F.SA_TARGET_R, r)].foldl
    (fun s e => on s (pSa 1) e.1 e.2 1) (on rdy (pSa 1) F.SA_CFG_EN 1 1)

/-- spec/11, Tamsin Quay: the output at errors 1,700 and 1,560; the integrator stays. -/
theorem test_servo :
    let s := after (.servoSample true 1 0) (saturated 1700)
    let t := after (.servoSample true 1 0) (saturated 1560)
    s.saS 1 F.SA_U_U = 45000000 ∧ s.saS 1 F.SA_I_I = 44590400 ∧ t.saS 1 F.SA_U_U = 44989760 ∧ t.saS 1 F.SA_I_I = 44590400 := by
  decide +kernel

end Sys2Proof.Tests
end

section
/-!
SUPPORT. Writes under byte enables (R26): a narrow write is dropped, except at CRC_DATA, whose unit is fed.
-/
namespace Sys2Proof.Machine

/-- REGISTER_WRITE is the seat's write at the address under the byte enables (R25, R26). -/
theorem exec_registerWrite (seat : SeatNo) (addr : BitVec 24) (be : BitVec 4) (v : Word) (s : State) :
    exec (.registerWrite seat addr be v) s = .next (s.hostWrite seat addr.toNat be.toNat v.toNat) := rfl

/-! ### Writes that are dropped -/

/-- The registers at offset 0x110 of CRC pages are the four units' CRC_DATA. -/
theorem crcData_of_locate {a : Nat} {l : Loc} (h : locate a = some l) (hb : l.blk = .crc) (ho : l.off = 0x110) :
    ∃ n < 4, a = pCrc n + 0x110 := by
  obtain ⟨-, hlo, hhi⟩ : inSpan 4 a := by
    have hs := locate_span h (by rw [hb]; decide)
    rwa [hb] at hs
  change 0x4000 ≤ a at hlo
  change a < 0x8000 at hhi
  have hk : (a - 0x4000) / 0x1000 < 4 := by omega
  have ha : pCrc ((a - 0x4000) / 0x1000) + a % 0x1000 = a := by unfold pCrc; omega
  have hl := locate_crc (o := a % 0x1000) hk (by omega)
  rw [ha, h] at hl
  cases hl
  exact ⟨_, hk, by rw [← ho, ha]⟩

/-- R26: a place other than CRC_DATA ignores a write that leaves out a byte. -/
theorem placeWrite_narrow {s : State} {seat a be v : Nat} {l : Loc} (hbe : be ≠ 15)
    (hd : (l.blk == .crc && l.off == 0x110) = false) : s.placeWrite seat l a be v = s := by
  unfold State.placeWrite
  exact if_pos (.inl ⟨hbe, hd⟩)

/-- A write that leaves out a byte, elsewhere than at CRC_DATA, does nothing beside event delivery. -/
theorem hostWrite_narrow {s : State} {seat addr be v : Nat} (hbe : be ≠ 15)
    (hd : ∀ n < 4, addr - addr % 4 ≠ pCrc n + 0x110) :
    s.hostWrite seat addr be v = s ∨ s.hostWrite seat addr be v = s.settle := by
  unfold State.hostWrite
  dsimp only
  split
  · exact .inl rfl
  split
  · exact .inl rfl
  · next l hl =>
    refine .inr (congrArg State.settle (placeWrite_narrow hbe (Bool.eq_false_iff.mpr fun hc => ?_)))
    obtain ⟨hb, ho⟩ := by simpa using hc
    obtain ⟨n, hn, ha⟩ := crcData_of_locate hl hb ho
    exact hd n hn ha

/-! ### CRC_DATA -/

/-- A write at CRC_DATA by a seat that owns the page feeds the unit, whatever its byte enables. -/
theorem hostWrite_crcData {s : State} {seat k be v : Nat} (hk : k < 4) (hm : s.May seat (pCrc k)) :
    s.hostWrite seat (pCrc k + 0x110) be v = (s.feedCrc k be v).settle := by
  obtain ⟨hs, ho⟩ := hm
  have hl := locate_crc (o := 0x110) hk (by decide)
  have hrows : regRows (pCrc k + 0x110) ≠ [] := by
    rw [regRows_at hl]
    show blkRows .crc 0x110 ≠ []
    decide
  have hboot : bootOnly (pCrc k + 0x110) = false := by
    unfold bootOnly accMask
    rw [maskWhere_at hl, maskWhere_at hl]
    show (rowsMask (fun r => r.acc = .rwb) (blkRows .crc 0x110) != 0 && _) = false
    rfl
  have hpage : pCrc k + 0x110 - (pCrc k + 0x110) % 0x1000 = pCrc k := by unfold pCrc; omega
  have hw : s.mayWrite seat ⟨.crc, k, 0x110, 5⟩ (pCrc k + 0x110) = true := by
    refine mayWrite_owner ?_
    show s.owns seat (pCrc k + 0x110 - (pCrc k + 0x110) % 0x1000) = true
    rwa [hpage]
  rw [hostWrite_at hs (by unfold pCrc; omega) hl]
  unfold State.placeWrite
  dsimp only
  rw [if_neg (by rintro (⟨-, h⟩ | h) <;> cases h), if_neg (by decide), if_neg hrows, hboot, hw, if_neg (by decide),
    if_pos (by decide)]

/-- Feeding a unit counts the enabled bytes. -/
theorem byteCnt_feedCrc (s : State) (n be v : Nat) :
    (s.feedCrc n be v).fld (pCrc n) F.CRC_BYTE_CNT_BYTE_CNT =
      countUp 32 (s.fld (pCrc n) F.CRC_BYTE_CNT_BYTE_CNT) (lanesOf be).length := by
  unfold State.feedCrc
  dsimp only
  rw [fld_inc_same _ _ _ _ _ (by decide)]
  exact congrArg (countUp 32 · _) (fld_setFld_ne _ _ (by simp [faddr, F.CRC_BYTE_CNT_BYTE_CNT, F.CRC_VALUE_V]))

/-- After the write of a seat that owns the page, CRC_BYTE_CNT has counted the enabled bytes. -/
theorem byteCnt_hostWrite_crcData {s : State} {seat k be v : Nat} (hk : k < 4) (hm : s.May seat (pCrc k)) :
    (s.hostWrite seat (pCrc k + 0x110) be v).fld (pCrc k) F.CRC_BYTE_CNT_BYTE_CNT =
      countUp 32 (s.fld (pCrc k) F.CRC_BYTE_CNT_BYTE_CNT) (lanesOf be).length := by
  have hlow : faddr (pCrc k) F.CRC_BYTE_CNT_BYTE_CNT < 0x20000 := by
    simp only [faddr, pCrc, F.CRC_BYTE_CNT_BYTE_CNT]
    omega
  rw [hostWrite_crcData hk hm, fld_settle _ (deliveryReg_low hlow), byteCnt_feedCrc]

/-- The enables of a byte, half-word or word choose that many lanes. -/
theorem lanesOf_length : ∀ e ∈ [(1#4, 1), (2#4, 1), (4#4, 1), (8#4, 1), (3#4, 2), (6#4, 2), (12#4, 2), (15#4, 4)],
    (lanesOf e.1.toNat).length = e.2 := by decide

/-! ### The statement -/

/-- Settles O14: a narrow write elsewhere leaves the state to event delivery alone, and one at CRC_DATA feeds as many
bytes as it has lanes enabled. -/
theorem narrowWritesAreDropped : Obligations.NarrowWritesAreDropped := by
  refine ⟨fun s seat addr be v hbe hd => ⟨_, exec_registerWrite .., ?_⟩,
    fun s seat unit be n v hm he => ⟨_, exec_registerWrite .., ?_⟩⟩
  · have hbe' : be.toNat ≠ 15 := fun h => hbe (BitVec.eq_of_toNat_eq h)
    have hw := hostWrite_narrow (s := s) (seat := seat) (v := v.toNat) hbe' hd
    refine ⟨?_, hw⟩
    rcases hw with hw | hw <;> rw [hw]
    · exact OnlyRegs.refl s
    · exact (OnlyRegs.refl s).settle
  · have haddr : (BitVec.ofNat 24 (pCrc unit + 0x110)).toNat = pCrc unit + 0x110 :=
      Nat.mod_eq_of_lt (by unfold pCrc; omega)
    rw [haddr]
    exact (byteCnt_hostWrite_crcData unit.isLt hm).trans (by rw [lanesOf_length (be, n) he])

end Sys2Proof.Machine
end

section
/-!
SUPPORT. What the reset of the main domains leaves outside the registers (R70), and a failure of VDD_EMBER (R71).
-/
namespace Sys2Proof.Machine

/-! ### The reset of the main domains, part by part -/

/-- Everything but what stands outside the main domains is as at first power-up. -/
theorem mainReset_held (s : State) : s.mainReset = s.held s.mainReset s.pow.down := by
  unfold State.mainReset
  rw [cutFlash_rest]
  rfl

/-- The reset itself leaves GDDR6 alone. -/
theorem mainReset_mem (s : State) : s.mainReset.mem = s.mem := by
  unfold State.mainReset
  rw [cutFlash_rest]

/-- Main domains that were running drive their pins to the reset levels. -/
theorem mainReset_out (s : State) : s.mainReset.out = s.out ++ if s.pow.up then resetPins else [] := by
  unfold State.mainReset
  rw [cutFlash_rest]

theorem mainReset_pow (s : State) : s.mainReset.pow = s.pow.down := congrArg State.pow (mainReset_held s)

/-! ### The failure of VDD_EMBER -/

/-- `m` without what the Ember domain holds: registers and clock as at first power-up, VDD_EMBER not valid, and GDDR6
open (log 32). -/
def State.loseEmber (m : State) : State :=
  { m.loseGddr with regs := [], clk := State.reset.clk, pow := { m.pow with rails := m.pow.rails.set 8 false } }

/-- VDD_EMBER_FAIL resets the main domains and then loses the Ember domain too (R71, R396). -/
theorem exec_vddEmberFail (s : State) : exec .vddEmberFail s = .next s.releaseTrip.mainReset.loseEmber := rfl

/-- With no word listed, each register reads its value of the register tables. -/
theorem loseEmber_reg (m : State) (a : Nat) : m.loseEmber.reg a = resetWord a := rfl

/-- After a reset of the other domains the Ember domain's loss changes, of what that reset fixes, only the clock and
the supplies: `State.held` says nothing of the registers, GDDR6 and the count of open values. -/
theorem loseEmber_held {s m : State} {p : Power} (h : m = s.held m p) :
    m.loseEmber = { s.held m.loseEmber m.loseEmber.pow with clk := State.reset.clk } :=
  calc m.loseEmber
    _ = (s.held m p).loseEmber := congrArg State.loseEmber h
    _ = { s.held m.loseEmber (s.held m p).loseEmber.pow with clk := State.reset.clk } := rfl
    _ = { s.held m.loseEmber m.loseEmber.pow with clk := State.reset.clk } := by rw [← h]

/-! ### The statement -/

/-- Settles O8: no register word is listed any more, and every other part but the clock is as the main domains' reset
leaves it (`mainReset_held`). The thermal hold that ends first (`State.releaseTrip`) is a part of the supplies, and none
of the parts stated here depends on it. -/
theorem emberSupplyFailureResetsAll : Obligations.EmberSupplyFailureResetsAll := by
  intro s
  let m := s.releaseTrip.mainReset
  have hup : m.loseEmber.pow.up = false := congrArg Power.up (mainReset_pow s.releaseTrip)
  have hpins : m.loseEmber.out = s.out ++ (if s.pow.up then resetPins else []) := mainReset_out s.releaseTrip
  have hmem : m.loseEmber.mem = s.mem.lose 0 (2 ^ 36) m.free :=
    congrArg (Mem.lose · 0 (2 ^ 36) m.free) (mainReset_mem s.releaseTrip)
  exact ⟨m.loseEmber, exec_vddEmberFail s, loseEmber_reg m, rfl, hup, hpins, ⟨_, hmem⟩,
    _, loseEmber_held (mainReset_held s.releaseTrip)⟩

end Sys2Proof.Machine
end

section
/-!
SUPPORT. Index writes of hosts (R122): what the write does to the ring, and what the credits (R340) and the event
delivery that follow it leave of the ring.
-/
namespace Sys2Proof.Machine

/-! ### The write of an index -/

theorem ring_setRing_same (s : State) (n : Nat) (r : Ring) : (s.setRing n r).ring n = r := look_ins_same ..

theorem ring_setRing_ne (s : State) {n m : Nat} (r : Ring) (h : m ≠ n) : (s.setRing n r).ring m = s.ring m :=
  look_ins_ne _ _ _ _ h

/-- By R121 and R472 a zero-size ring has no room for a step forward, and another has room up to its size. -/
theorem ringSize_lt (s : State) (n d : Nat) (h : 0 < d) :
    s.ringSize n < (s.ring n).occ + d ↔ s.zeroRing (s.ring n) = true ∨ (s.ring n).size < (s.ring n).occ + d := by
  unfold State.ringSize
  split
  · next hz => exact ⟨fun _ => .inl hz, fun _ => by omega⟩
  · next hz => exact ⟨.inr, fun h => h.resolve_left hz⟩

/-- R122 for PROD, `d` the step forward under R16: one backward or past the size is counted and leaves PROD. -/
theorem ring_writeIndex_prod {s : State} {n v d : Nat} (hd : (v + 2 ^ 32 - (s.ring n).prod) % 2 ^ 32 = d) :
    (s.writeIndex n false v).ring n =
      if 2 ^ 31 ≤ d ∨ (0 < d ∧ (s.zeroRing (s.ring n) = true ∨ (s.ring n).size < (s.ring n).occ + d)) then
        { s.ring n with err := countUp 32 (s.ring n).err 1 }
      else { s.ring n with prod := v % 2 ^ 32 } := by
  have hroom := and_congr_right (ringSize_lt s n d)
  simp [State.writeIndex, apply_ite (State.ring · n), ring_setRing_same, hd, hroom, -Nat.reducePow]

/-- R122 for CONS, `d` the step forward under R16: one backward or past PROD is counted and leaves CONS. -/
theorem ring_writeIndex_cons {s : State} {n v d : Nat} (hd : (v + 2 ^ 32 - (s.ring n).cons) % 2 ^ 32 = d) :
    (s.writeIndex n true v).ring n =
      if 2 ^ 31 ≤ d ∨ (s.ring n).occ < d then { s.ring n with err := countUp 32 (s.ring n).err 1 }
      else { s.ring n with cons := v % 2 ^ 32 } := by
  simp [State.writeIndex, apply_ite (State.ring · n), ring_setRing_same, hd, -Nat.reducePow]

theorem reg_writeIndex (s : State) (n : Nat) (cons : Bool) (v a : Nat) : (s.writeIndex n cons v).reg a = s.reg a := by
  simp [State.writeIndex, apply_ite (State.reg · a)]

/-- The registers say which rings are the seats' event rings, and an index is none of them. -/
theorem eventRing_writeIndex (s : State) (n : Nat) (cons : Bool) (v m : Nat) :
    (s.writeIndex n cons v).eventRing m ↔ s.eventRing m := by
  simp only [State.eventRing, State.fld, reg_writeIndex]

/-! ### What the engine's own entries leave of a ring -/

/-- Of every ring, at most PROD and DROP differ: where the engine puts entries into rings, or drops them, this holds
(the same is said of event delivery by `Delivers.shape`). -/
structure EntriesOnly (s t : State) : Prop where
  shape : ∀ n, ∃ p d, t.ring n = { s.ring n with prod := p, drop := d }

theorem EntriesOnly.of_rings {s t : State} (h : t.rings = s.rings) : EntriesOnly s t where
  shape n := ⟨(s.ring n).prod, (s.ring n).drop, congrArg (look (ringReset n) · n) h⟩

theorem EntriesOnly.trans {s t u : State} (h : EntriesOnly s t) (k : EntriesOnly t u) : EntriesOnly s u where
  shape n := by
    obtain ⟨_, _, ht⟩ := h.shape n
    obtain ⟨p, d, hu⟩ := k.shape n
    exact ⟨p, d, by rw [hu, ht]⟩

theorem EntriesOnly.cons_eq {s t : State} (h : EntriesOnly s t) (n : Nat) : (t.ring n).cons = (s.ring n).cons := by
  obtain ⟨_, _, ht⟩ := h.shape n
  rw [ht]

theorem EntriesOnly.err_eq {s t : State} (h : EntriesOnly s t) (n : Nat) : (t.ring n).err = (s.ring n).err := by
  obtain ⟨_, _, ht⟩ := h.shape n
  rw [ht]

theorem entriesOnly_setRing (s : State) (n p d : Nat) :
    EntriesOnly s (s.setRing n { s.ring n with prod := p, drop := d }) where
  shape m := by
    by_cases h : m = n
    · subst h
      exact ⟨p, d, ring_setRing_same ..⟩
    · exact ⟨(s.ring m).prod, (s.ring m).drop, ring_setRing_ne s _ h⟩

/-- The slots go to a space; only then does PROD move. -/
theorem entriesOnly_ringWrite (s : State) (n : Nat) (slots : List (List Byte)) : EntriesOnly s (s.ringWrite n slots) := by
  let r := s.ring n
  let u := slots.zipIdx.foldl (fun s b => s.spaceWrite r.space (r.slot (r.prod + b.2)) b.1) s
  have hu : u.rings = s.rings :=
    (keeps_foldl_on (fun _ _ => kept_spaceWrite ..) (Keeps.refl s)).rings (by decide)
  have hr : u.ring n = r := congrArg (look (ringReset n) · n) hu
  refine (EntriesOnly.of_rings hu).trans ?_
  have h := entriesOnly_setRing u n ((r.prod + slots.length) % 2 ^ 32) r.drop
  rwa [hr] at h

/-- R123, R126: each held message is written whole, or dropped and counted. -/
theorem entriesOnly_drainHeld (t : Nat) (l : List (Nat × Nat × List Nat)) (s : State) :
    EntriesOnly s (State.drainHeld t l s) := by
  have freed : ∀ (u : State) (rest : List (Nat × Nat × List Nat)) (k : Nat), EntriesOnly u (u.freeHeld t rest k) :=
    fun u rest k => .of_rings ((kept_freeHeld u t rest k).rings (by decide))
  induction l generalizing s with
  | nil => exact .of_rings rfl
  | cons x rest ih =>
    unfold State.drainHeld
    dsimp only
    split
    · exact ((entriesOnly_setRing ..).trans (freed ..)).trans (ih _)
    · split
      · exact .of_rings rfl
      · exact ((entriesOnly_ringWrite ..).trans (freed ..)).trans (ih _)

/-- R340: beside the held messages, a grant is a count and a packet. -/
theorem entriesOnly_grantTile (s : State) (t atLeast : Nat) : EntriesOnly s (s.grantTile t atLeast) := by
  have hd := entriesOnly_drainHeld t (s.credit t).held s
  unfold State.grantTile
  dsimp only
  generalize State.drainHeld t (s.credit t).held s = u at hd ⊢
  split
  · split
    · refine hd.trans (.of_rings ?_)
      exact ((kept_sendOn ..).rings (by decide)).trans ((kept_setCredit ..).rings (by decide))
    · exact hd
  · exact hd

theorem entriesOnly_settle (s : State) : EntriesOnly s s.settle := ⟨(delivers_settle s).shape⟩

/-! ### The command -/

/-- A whole word that a seat writes in the ring-state window (R120). -/
theorem hostWrite_ringState {s : State} {seat n o v : Nat} (hs : s.serves seat = true) (hn : n < 16384) (ho : o < 32)
    (ha : o % 4 = 0) :
    s.hostWrite seat (0x800000 + 32 * n + o) 15 v =
      (s.ringStateWrite seat ⟨.rstate, n, o, 0⟩ (0x800000 + 32 * n + o) v).settle := by
  rw [hostWrite_at hs (by omega) (locate_rstate hn ho)]
  unfold State.placeWrite
  dsimp only
  rw [if_neg (fun h => h.elim (fun hne => hne.1 rfl) (fun hmute => nomatch hmute)), if_pos rfl]

theorem ringStateWrite_prod {s : State} {seat n a v : Nat} (hw : s.ringWriter seat n = true)
    (hp : (s.ring n).hostProduces = true) : s.ringStateWrite seat ⟨.rstate, n, 8, 0⟩ a v = s.writeIndex n false v := by
  unfold State.ringStateWrite
  exact if_pos ⟨rfl, hp, hw⟩

theorem ringStateWrite_cons {s : State} {seat n a v : Nat} (hw : s.ringWriter seat n = true)
    (hc : (s.ring n).hostConsumes = true) :
    s.ringStateWrite seat ⟨.rstate, n, 12, 0⟩ a v =
      (s.writeIndex n true v).when (decide (n < 8192)) (·.grantTile (n / 2) 64) := by
  unfold State.ringStateWrite
  exact (if_neg fun h => nomatch h.1).trans (if_pos ⟨rfl, hc, hw⟩)

/-- RING_INDEX_WRITE is the seat's write of PROD or CONS in the ring-state window (R120, R122). -/
theorem exec_ringIndexWrite (seat : SeatNo) (n : RingNo) (cons : Bool) (v : Word) (s : State) :
    exec (.ringIndexWrite seat n cons v) s =
      .next (s.hostWrite seat (0x800000 + 32 * n + if cons then 12 else 8) 15 v.toNat) := rfl

/-- A writing seat of a ring that the host produces on moves PROD. -/
theorem exec_prodWrite {s : State} {seat : SeatNo} {n : RingNo} (v : Word) (hs : s.serves seat = true)
    (hw : s.ringWriter seat n = true) (hp : (s.ring n).hostProduces = true) :
    exec (.ringIndexWrite seat n false v) s = .next (s.writeIndex n false v.toNat).settle := by
  rw [exec_ringIndexWrite, hostWrite_ringState hs n.isLt (by decide) (by decide)]
  exact congrArg (Host.Outcome.next ·.settle) (ringStateWrite_prod hw hp)

/-- A writing seat of a ring that the host consumes from moves CONS; a tile's ring then has room for what is held. -/
theorem exec_consWrite {s : State} {seat : SeatNo} {n : RingNo} (v : Word) (hs : s.serves seat = true)
    (hw : s.ringWriter seat n = true) (hc : (s.ring n).hostConsumes = true) :
    exec (.ringIndexWrite seat n true v) s =
      .next ((s.writeIndex n true v.toNat).when (decide (n.val < 8192)) (·.grantTile (n / 2) 64)).settle := by
  rw [exec_ringIndexWrite, hostWrite_ringState hs n.isLt (by decide) (by decide)]
  exact congrArg (Host.Outcome.next ·.settle) (ringStateWrite_cons hw hc)

/-- What follows a write of CONS, credits and delivery, leaves every ring but for entries. -/
theorem entriesOnly_afterCons (s : State) (b : Bool) (t : Nat) : EntriesOnly s (s.when b (·.grantTile t 64)).settle := by
  refine EntriesOnly.trans ?_ (entriesOnly_settle _)
  cases b
  · exact .of_rings rfl
  · exact entriesOnly_grantTile ..

/-! ### The statement -/

/-- Settles O22: `State.writeIndex` judges the step as the statement does. After a write of PROD only event delivery
follows, which leaves a ring that is no event ring; after a write of CONS entries may follow, which move neither CONS
nor ERR_CNT. -/
theorem indexWritesMoveForwardOrCount : Obligations.IndexWritesMoveForwardOrCount := by
  refine ⟨fun s seat n v hs hw hp hn => ⟨_, exec_prodWrite v hs hw hp, ?_⟩,
    fun s seat n v hs hw hc => ⟨_, exec_consWrite v hs hw hc, ?_⟩⟩
  · have hring := (delivers_settle (s.writeIndex n false v.toNat)).rings n (by rwa [eventRing_writeIndex])
    dsimp only
    rw [hring, ring_writeIndex_prod rfl, Nat.mod_eq_of_lt v.isLt]
    refine ⟨fun hd hfit => if_neg ?_, fun hbad => if_pos hbad⟩
    rintro (hback | ⟨hpos, hpast⟩)
    · exact absurd hd (Nat.not_lt.mpr hback)
    · obtain hzero | ⟨hsize, hroom⟩ := hfit
      · exact absurd hzero (Nat.pos_iff_ne_zero.mp hpos)
      · exact hpast.elim (Bool.eq_false_iff.mp hsize) (Nat.not_lt.mpr hroom)
  · have hkeep := entriesOnly_afterCons (s.writeIndex n true v.toNat) (decide (n.val < 8192)) (n / 2)
    dsimp only
    rw [hkeep.cons_eq, hkeep.err_eq, ring_writeIndex_cons rfl, Nat.mod_eq_of_lt v.isLt]
    refine ⟨fun hd hroom => ?_, fun hbad => ?_⟩
    · rw [if_neg (not_or.mpr ⟨Nat.not_le.mpr hd, Nat.not_lt.mpr hroom⟩)]
      exact ⟨rfl, rfl⟩
    · rw [if_pos hbad]
      exact ⟨rfl, rfl⟩

end Sys2Proof.Machine
end

section
/-!
SUPPORT. The check-value units (R560): the model's shift of a byte against the pseudocode of the rule, the bytes that a
write of CRC_DATA feeds, and the word that CRC_RESULT reads.
-/
namespace Sys2Proof.Machine

/-! ### The pseudocode of R560 -/

/-- One repetition with REFIN set, `polyR` being POLY in reverse bit order. -/
def shiftDown (polyR v : Nat) : Nat := Nat.xor (v / 2) (if v % 2 = 1 then polyR else 0)

/-- One repetition with REFIN clear. -/
def shiftUp (poly v : Nat) : Nat := Nat.xor (v * 2 % 2 ^ 32) (if 2 ^ 31 ≤ v then poly else 0)

/-- One byte `b` fed to the running value `v`. -/
def ruleByte (refin : Bool) (poly v b : Nat) : Nat :=
  if refin then iter (shiftDown (rev32 poly)) 8 (Nat.xor v b) else iter (shiftUp poly) 8 (Nat.xor v (b * 2 ^ 24))

/-- A bit times its weight is at most the weight. -/
theorem one_mul_le (b : Bool) (w : Nat) : one b * w ≤ w := by
  cases b
  · exact Nat.le_trans (Nat.le_of_eq (Nat.zero_mul w)) (Nat.zero_le w)
  · exact Nat.le_of_eq (Nat.one_mul w)

/-- Weighted bits sum to at most the sum of the weights. -/
theorem sum_weightedBits_le (p : Nat → Bool) (w : Nat → Nat) (l : List Nat) :
    (l.map (fun i => one (p i) * w i)).sum ≤ (l.map w).sum := by
  induction l with
  | nil => exact Nat.le_refl _
  | cons i l ih =>
    rw [List.map_cons, List.map_cons, List.sum_cons, List.sum_cons]
    exact Nat.add_le_add (one_mul_le (p i) (w i)) ih

/-- Reversing the bit order stays within 32 bits. -/
theorem rev32_lt (x : Nat) : rev32 x < 2 ^ 32 :=
  calc rev32 x
    _ ≤ ((List.range 32).map (fun i => 2 ^ (31 - i))).sum := sum_weightedBits_le (bit x) (fun i => 2 ^ (31 - i)) _
    _ < 2 ^ 32 := by decide

theorem shiftDown_lt {polyR v : Nat} (hp : polyR < 2 ^ 32) (hv : v < 2 ^ 32) : shiftDown polyR v < 2 ^ 32 :=
  Nat.xor_lt_two_pow (by omega) (by split <;> omega)

theorem shiftUp_lt {poly : Nat} (hp : poly < 2 ^ 32) (v : Nat) : shiftUp poly v < 2 ^ 32 :=
  Nat.xor_lt_two_pow (Nat.mod_lt _ (by decide)) (by split <;> omega)

/-- What one application keeps, repetition keeps. -/
theorem iter_keeps {α : Type} {P : α → Prop} {f : α → α} (hf : ∀ x, P x → P (f x)) (n : Nat) {x : α} (hx : P x) :
    P (iter f n x) := by
  induction n generalizing x with
  | zero => exact hx
  | succ n ih => exact ih (hf x hx)

/-- Functions that agree where the second stays agree when repeated. -/
theorem iter_congr_on {α : Type} {P : α → Prop} {f g : α → α} (hg : ∀ x, P x → P (g x)) (hfg : ∀ x, P x → f x = g x)
    (n : Nat) {x : α} (hx : P x) : iter f n x = iter g n x := by
  induction n generalizing x with
  | zero => rfl
  | succ n ih =>
    show iter f n (f x) = iter g n (g x)
    rw [hfg x hx]
    exact ih (hg x hx)

/-- Running values have 32 bits. -/
theorem ruleByte_lt (refin : Bool) {poly v b : Nat} (hp : poly < 2 ^ 32) (hv : v < 2 ^ 32) (hb : b < 2 ^ 8) :
    ruleByte refin poly v b < 2 ^ 32 := by
  cases refin
  · exact iter_keeps (P := (· < 2 ^ 32)) (fun v _ => shiftUp_lt hp v) 8 (Nat.xor_lt_two_pow hv (by omega))
  · exact iter_keeps (P := (· < 2 ^ 32)) (fun _ => shiftDown_lt (rev32_lt poly)) 8 (Nat.xor_lt_two_pow hv (by omega))

/-! ### The model's shift is the rule's -/

theorem crcBit_eq_shiftDown (polyR v : Nat) : crcBit polyR v = shiftDown polyR v := by
  unfold crcBit shiftDown
  split
  · rfl
  · exact (Nat.xor_zero _).symm

/-- Bit 31 of a 32-bit value says whether it reaches 2^31. -/
theorem bit31_iff {v : Nat} (hv : v < 2 ^ 32) : bit v 31 = true ↔ 2 ^ 31 ≤ v := by
  unfold bit
  rw [Nat.testBit_eq_decide_div_mod_eq, decide_eq_true_eq]
  omega

theorem feedByte_eq_ruleByte (refin : Bool) {poly v b : Nat} (hp : poly < 2 ^ 32) (hv : v < 2 ^ 32) (hb : b < 2 ^ 8) :
    feedByte refin poly v b = ruleByte refin poly v b := by
  cases refin
  · have hstep : ∀ v, v < 2 ^ 32 → Nat.xor (v * 2 % 2 ^ 32) (if bit v 31 then poly else 0) = shiftUp poly v := by
      intro v hv
      simp only [shiftUp, bit31_iff hv]
    have hstart : Nat.xor v (b * 2 ^ 24) < 2 ^ 32 := Nat.xor_lt_two_pow hv (by omega)
    exact iter_congr_on (fun v _ => shiftUp_lt hp v) hstep 8 hstart
  · exact congrArg (iter · 8 (Nat.xor v b)) (funext (crcBit_eq_shiftDown (rev32 poly)))

/-- Bytes fed one after the other: the model's value is the rule's, and has 32 bits. -/
theorem foldl_feedByte (refin : Bool) {poly v : Nat} {bs : List Nat} (hp : poly < 2 ^ 32) (hv : v < 2 ^ 32)
    (hbs : ∀ b ∈ bs, b < 2 ^ 8) :
    bs.foldl (feedByte refin poly) v = bs.foldl (ruleByte refin poly) v ∧
      bs.foldl (ruleByte refin poly) v < 2 ^ 32 := by
  induction bs generalizing v with
  | nil => exact ⟨rfl, hv⟩
  | cons b bs ih =>
    obtain ⟨hb, hbs⟩ := List.forall_mem_cons.mp hbs
    rw [List.foldl_cons, List.foldl_cons, feedByte_eq_ruleByte refin hp hv hb]
    exact ih (ruleByte_lt refin hp hv hb) hbs

/-! ### The bytes of a write -/

/-- Bytes of a word at byte lanes. -/
def laneBytes (v : Nat) (lanes : List Nat) : List Nat := lanes.map fun i => bitsOf v (8 * i) 8

theorem laneBytes_lt (v : Nat) (lanes : List Nat) : ∀ b ∈ laneBytes v lanes, b < 2 ^ 8 :=
  List.forall_mem_map.mpr fun _ _ => bitsOf_lt _ _ _

/-- `n` enables from the lane `first` on choose these lanes. -/
theorem lanesOf_contiguous {first n : Nat} (h : first + n ≤ 4) :
    lanesOf (BitVec.ofNat 4 ((2 ^ n - 1) * 2 ^ first)).toNat = (List.range n).map (first + ·) := by
  have hall : ∀ n < 5, ∀ first < 5, first + n ≤ 4 →
      lanesOf (BitVec.ofNat 4 ((2 ^ n - 1) * 2 ^ first)).toNat = (List.range n).map (first + ·) := by decide
  exact hall n (by omega) first (by omega) h

/-- Enables with a gap choose none. -/
theorem lanesOf_gap : ∀ be ∈ [5#4, 9#4, 10#4, 11#4, 13#4], lanesOf be.toNat = [] := by decide

/-- The running value after a write of CRC_DATA, by the rule. -/
theorem value_feedCrc (s : State) (n be v : Nat) :
    (s.feedCrc n be v).fld (pCrc n) F.CRC_VALUE_V =
      (laneBytes v (lanesOf be)).foldl
        (ruleByte (s.fld (pCrc n) F.CRC_CFG_REFIN == 1) (s.fld (pCrc n) F.CRC_POLY_POLY)) (s.fld (pCrc n) F.CRC_VALUE_V) := by
  have hne : faddr (pCrc n) F.CRC_VALUE_V ≠ faddr (pCrc n) F.CRC_BYTE_CNT_BYTE_CNT := by
    simp [faddr, F.CRC_BYTE_CNT_BYTE_CNT, F.CRC_VALUE_V]
  obtain ⟨hrule, hlt⟩ := foldl_feedByte (s.fld (pCrc n) F.CRC_CFG_REFIN == 1)
    (fld_lt s (pCrc n) F.CRC_POLY_POLY 0) (fld_lt s (pCrc n) F.CRC_VALUE_V 0) (laneBytes_lt v (lanesOf be))
  unfold State.feedCrc
  dsimp only
  rw [fld_inc_ne _ hne, fld_setFld_same _ _ _ _ _ (by decide), ← List.foldl_map (f := fun i => bitsOf v (8 * i) 8)]
  exact (congrArg (· % 2 ^ 32) hrule).trans (Nat.mod_eq_of_lt hlt)

/-- Feeding a unit changes CRC_VALUE and CRC_BYTE_CNT. -/
theorem onlyRegs_feedCrc (s : State) (n be v : Nat) :
    OnlyRegs [pCrc n + F.CRC_VALUE_V.off, pCrc n + F.CRC_BYTE_CNT_BYTE_CNT.off] s (s.feedCrc n be v) :=
  ((OnlyRegs.refl s).setFld (by simp [faddr])).inc (by simp [faddr])

/-- CRC_DATA_WRITE by a seat that owns the page feeds the unit (R560). -/
theorem exec_crcDataWrite {s : State} {seat : SeatNo} {unit : Fin 4} (be : BitVec 4) (v : Word) (hm : s.May seat (pCrc unit)) :
    exec (.crcDataWrite seat unit be v) s = .next (s.feedCrc unit be.toNat v.toNat).settle :=
  congrArg Host.Outcome.next (hostWrite_crcData unit.isLt hm)

/-- Event delivery leaves CRC_VALUE. -/
theorem value_settle (s : State) (k : Nat) : s.settle.fld (pCrc k) F.CRC_VALUE_V = s.fld (pCrc k) F.CRC_VALUE_V :=
  fld_settle s (deliveryReg_low (by simp only [faddr, pCrc, F.CRC_VALUE_V]; omega))

/-! ### The result -/

/-- All 32 bits of CRC_RESULT are read. -/
theorem readMask_crcResult {k : Nat} (hk : k < 4) : readMask (pCrc k + F.CRC_RESULT_RESULT.off) = 2 ^ 32 - 1 :=
  (maskWhere_at (locate_crc hk (by decide))).trans
    (show rowsMask (fun r => r.acc ≠ .wo) (blkRows .crc F.CRC_RESULT_RESULT.off) = 2 ^ 32 - 1 by decide)

/-- The word of CRC_RESULT that a seat reads, within 32 bits. -/
theorem readValue_crcResult (s : State) (seat : Nat) {k : Nat} (hk : k < 4) :
    s.readValue seat ⟨.crc, k, F.CRC_RESULT_RESULT.off, 5⟩ (pCrc k + F.CRC_RESULT_RESULT.off) = s.crcResult k % 2 ^ 32 := by
  show s.crcResult k &&& readMask (pCrc k + F.CRC_RESULT_RESULT.off) = _
  rw [readMask_crcResult hk, Nat.and_two_pow_sub_one_eq_mod]

/-- A seat's read of CRC_RESULT answers the unit's result. -/
theorem hostRead_crcResult {s : State} {seat k : Nat} (hk : k < 4) (hs : s.serves seat = true) :
    (s.hostRead seat (pCrc k + F.CRC_RESULT_RESULT.off)).2 = BitVec.ofNat 32 (s.crcResult k) := by
  have haligned : (pCrc k + F.CRC_RESULT_RESULT.off) % 4 = 0 := by simp only [pCrc, F.CRC_RESULT_RESULT]; omega
  rw [hostRead_at hs haligned (locate_crc hk (by decide)), readValue_crcResult s seat hk]
  exact BitVec.eq_of_toNat_eq (by simp)

/-! ### The statement -/

/-- Settles O21: a write of CRC_DATA folds the rule's shift (`ruleByte`) over the bytes of the enabled lanes, which are
those of the run of enables, or none where the enables have a gap; event delivery moves no register of the unit. -/
theorem checkValueUnitsFeedBytes : Obligations.CheckValueUnitsFeedBytes := by
  refine ⟨fun s seat unit v first n hm _ hfit => ⟨_, exec_crcDataWrite _ v hm, ?_, OnlyRegs.settle (onlyRegs_feedCrc _ _ _ _)⟩,
    fun s seat unit v be hm hbe => ⟨_, exec_crcDataWrite be v hm, ?_⟩,
    fun s seat unit hs => hostRead_crcResult unit.isLt hs⟩
  · rw [value_settle, value_feedCrc, lanesOf_contiguous hfit, laneBytes, List.map_map, List.foldl_map]
    rfl
  · dsimp only
    rw [value_settle, value_feedCrc, lanesOf_gap be hbe]
    rfl

end Sys2Proof.Machine
end
